-- ==== Sys2Proof/Word.lean ====
section
/-! DEFINITION. The word types of the block and their plainest arithmetic: bytes, 16-, 32- and 64-bit words, hank addresses, and the sparse tables (sorted association lists) that hold indexed state. -/

namespace Sys2Proof

abbrev Byte := BitVec 8
abbrev W16 := BitVec 16
abbrev W32 := BitVec 32
abbrev W64 := BitVec 64
/-- A hank address, 48 bits (R29). -/
abbrev Hank := BitVec 48
/-- A 32-bit ordered key (R306). -/
abbrev Key := BitVec 32

/-- Bits [hi:lo] of `w`, as a number. -/
def bits {n : Nat} (w : BitVec n) (hi lo : Nat) : Nat := (w.toNat / 2 ^ lo) % 2 ^ (hi + 1 - lo)

/-- Bit `i` of `w`. -/
def bit {n : Nat} (w : BitVec n) (i : Nat) : Bool := w.getLsbD i

/-- Ceiling of `a / b`. -/
def ceilDiv (a b : Nat) : Nat := (a + b - 1) / b

/-- One for true, zero for false. -/
def b2n (b : Bool) : Nat := if b then 1 else 0

/-- A sparse table: keys and values, keys strictly rising. -/
abbrev Tab (α : Type) := List (Nat × α)

/-- The value a table holds at a key. -/
def Tab.get {α : Type} : Tab α → Nat → Option α
  | [], _ => none
  | (k', v) :: t, k => if k' = k then some v else Tab.get t k

/-- The value at a key, or a default. -/
def Tab.getD {α : Type} (t : Tab α) (k : Nat) (d : α) : α := (Tab.get t k).getD d

/-- Write a key, keeping the keys in rising order. -/
def Tab.set {α : Type} : Tab α → Nat → α → Tab α
  | [], k, v => [(k, v)]
  | (k', v') :: t, k, v =>
    if k' = k then (k, v) :: t
    else if k < k' then (k, v) :: (k', v') :: t
    else (k', v') :: Tab.set t k v

/-- Remove a key. -/
def Tab.del {α : Type} : Tab α → Nat → Tab α
  | [], _ => []
  | (k', v) :: t, k => if k' = k then t else (k', v) :: Tab.del t k

/-- Keys strictly rising. -/
def Tab.wf {α : Type} : Tab α → Bool
  | [] => true
  | [_] => true
  | (k, _) :: (k', v') :: t => decide (k < k') && Tab.wf ((k', v') :: t)

/-- Apply a function at every entry. -/
def Tab.mapV {α β : Type} (f : Nat → α → β) (t : Tab α) : Tab β := t.map fun e => (e.1, f e.1 e.2)

/-- The least key from 0 below `n` that the table does not hold. -/
def Tab.lowestFree {α : Type} (t : Tab α) (n : Nat) : Option Nat :=
  (List.range n).find? fun k => (Tab.get t k).isNone

/-- The list with element `i` replaced (unchanged when out of range). -/
def listSet {α : Type} : List α → Nat → α → List α
  | [], _, _ => []
  | _ :: t, 0, v => v :: t
  | a :: t, n + 1, v => a :: listSet t n v

/-- Sum of a list of numbers. -/
def sumN (l : List Nat) : Nat := l.foldl (· + ·) 0

/-- A count that saturates at `m`. -/
def satAdd (m a b : Nat) : Nat := if a + b > m then m else a + b

/-- The bytes of a word, lowest first. -/
def toBytes (n w : Nat) : List Byte := (List.range n).map fun i => BitVec.ofNat 8 (w / 2 ^ (8 * i))

/-- A number from bytes, lowest first. -/
def ofBytes : List Byte → Nat
  | [] => 0
  | b :: t => b.toNat + 256 * ofBytes t

/-- The 64-bit word at index `i` of a byte string laid out as R16 (absent bytes read 0). -/
def wordAt (bs : List Byte) (i : Nat) : W64 := BitVec.ofNat 64 (ofBytes ((bs.drop (8 * i)).take 8))

/-- The 32-bit word at index `i` of a byte string. -/
def w32At (bs : List Byte) (i : Nat) : W32 := BitVec.ofNat 32 (ofBytes ((bs.drop (4 * i)).take 4))

/-- Bytes of a list of 64-bit words, little-endian (R16). -/
def wordsBytes (ws : List W64) : List Byte := ws.foldr (fun w acc => toBytes 8 w.toNat ++ acc) []

/-- A byte string as whole 64-bit words, the last padded with zero. Fuel is the byte count. -/
def bytesWordsF : Nat → List Byte → List W64
  | 0, _ => []
  | _, [] => []
  | n + 1, b :: t => BitVec.ofNat 64 (ofBytes ((b :: t).take 8)) :: bytesWordsF n ((b :: t).drop 8)

def bytesWords (bs : List Byte) : List W64 := bytesWordsF bs.length bs

/-- Zero-pad to a multiple of `m` bytes. -/
def padTo (m : Nat) (bs : List Byte) : List Byte :=
  bs ++ List.replicate ((m - bs.length % m) % m) 0

/-- A field of a packed word: value placed at a bit position, cut to its width. -/
def fld (w lo v : Nat) : Nat := (v % 2 ^ w) * 2 ^ lo

/-- Signed reading of the low `n` bits of a number. -/
def sext (n v : Nat) : Int := if v % 2 ^ n ≥ 2 ^ (n - 1) then (v % 2 ^ n : Int) - 2 ^ n else (v % 2 ^ n : Int)

/-- Clamp an integer. -/
def clampI (lo hi v : Int) : Int := if v < lo then lo else if v > hi then hi else v

end Sys2Proof
end

