-- ==== Sys2Proof/Types.lean ====
section
/-! DEFINITION. The data that commands and events carry: who makes a register access, where a command comes from, the descriptor of R196, what a DMA transfer gave, and a Strand frame (R570). -/

namespace Sys2Proof

/-- The two ports of the block that carry register accesses (R3, R175). -/
inductive PortId where | host | mgmt
  deriving DecidableEq, Repr

/-- One register access as it reaches the block: its port, the process identifier the interconnect carries with it on a Leaf (R179), the alias (R167) and whether all byte enables are set (R165). -/
structure Acc where
  port : PortId
  pasid : Option (BitVec 20)
  bitAlias : BitVec 2
  full : Bool
  deriving DecidableEq, Repr

/-- Where a command was sent: in the ring of slice `n` (R190), or over the management port (R207). -/
inductive Src where
  | slice (n : Nat)
  | mgmt
  deriving DecidableEq, Repr

/-- The fields of a descriptor beside its opcode (R196). `rsv` holds its reserved bits [15:10], [31:28] and [63:48], joined. -/
structure Desc where
  irq : Bool
  fence : Bool
  rsv : BitVec 26
  session : BitVec 12
  count : BitVec 16
  addr : W64
  len : W32
  arg0 : W32
  arg1 : W64
  deriving DecidableEq, Repr

/-- How the DMA read of an operand ended (R198, checks 7 and 8). -/
inductive ReadEnd where | good | fault | poison
  deriving DecidableEq, Repr

/-- What the surroundings gave a command's DMA: the operand bytes read, how the read ended, and after how many bytes a write of the result failed (R199). -/
structure Bus where
  data : List Byte
  rd : ReadEnd
  wfail : Option Nat
  deriving DecidableEq, Repr

/-- What the fetch of a descriptor gave (R190, R194): an opcode with its descriptor and operand, or a failed read. -/
inductive FetchRes where
  | got (opcode : BitVec 8) (d : Desc) (b : Bus)
  | failed
  deriving DecidableEq, Repr

/-- A Strand frame without its TYPE, which the command's row gives (R570). -/
structure Frame where
  tc : BitVec 3
  first : Bool
  last : Bool
  replay : Bool
  poison : Bool
  locked : Bool
  ct : BitVec 40
  seq : W32
  lack : W32
  cack : W32
  rcred : W16
  bcred : W16
  dest : Hank
  payload : List W64
  crc : W32
  deriving DecidableEq, Repr

end Sys2Proof
end

