-- ==== Sys2Proof/Syntax.lean ====
section
/-! DEFINITION. The commands and events of the block: one constructor for each row of spec/opcode_table.json, with the operands the rule of its row gives it. -/

namespace Sys2Proof

/-- A command, a frame received or an event: the row of the table that the docstring of its constructor names. -/
inductive Instr where
  /-- SESS_OPEN (R300). -/
  | sessOpen (src : Src) (d : Desc) (b : Bus)
  /-- SESS_CLOSE (R298). -/
  | sessClose (src : Src) (d : Desc) (b : Bus)
  /-- SESS_ADMIT (R138). -/
  | sessAdmit (src : Src) (d : Desc) (b : Bus)
  /-- SESS_RELEASE (R322). -/
  | sessRelease (src : Src) (d : Desc) (b : Bus)
  /-- SESS_START (R304). -/
  | sessStart (src : Src) (d : Desc) (b : Bus)
  /-- SESS_STOP (R297). -/
  | sessStop (src : Src) (d : Desc) (b : Bus)
  /-- SESS_QUERY (R324). -/
  | sessQuery (src : Src) (d : Desc) (b : Bus)
  /-- MODEL_LOAD (R368). -/
  | modelLoad (src : Src) (d : Desc) (b : Bus)
  /-- MODEL_EVICT (R376). -/
  | modelEvict (src : Src) (d : Desc) (b : Bus)
  /-- MODEL_DISCARD (R376). -/
  | modelDiscard (src : Src) (d : Desc) (b : Bus)
  /-- MODEL_BIND (R373). -/
  | modelBind (src : Src) (d : Desc) (b : Bus)
  /-- MODEL_QUERY (R395). -/
  | modelQuery (src : Src) (d : Desc) (b : Bus)
  /-- RED_BIND (R397). -/
  | redBind (src : Src) (d : Desc) (b : Bus)
  /-- RED_UNBIND (R400). -/
  | redUnbind (src : Src) (d : Desc) (b : Bus)
  /-- SNAP_ARM (R425). -/
  | snapArm (src : Src) (d : Desc) (b : Bus)
  /-- SNAP_READ (R430). -/
  | snapRead (src : Src) (d : Desc) (b : Bus)
  /-- SAT_RECORD_READ (R433). -/
  | satRecordRead (src : Src) (d : Desc) (b : Bus)
  /-- SNAP_CANCEL (R429). -/
  | snapCancel (src : Src) (d : Desc) (b : Bus)
  /-- SNAP_AUTH (R424). -/
  | snapAuth (src : Src) (d : Desc) (b : Bus)
  /-- JOB_DECLARE (R464). -/
  | jobDeclare (src : Src) (d : Desc) (b : Bus)
  /-- JOB_START (R599). -/
  | jobStart (src : Src) (d : Desc) (b : Bus)
  /-- VOTE_POLICY (R467). -/
  | votePolicy (src : Src) (d : Desc) (b : Bus)
  /-- EXPEL_OVERRIDE_RESTORE (R492). -/
  | expelOverrideRestore (src : Src) (d : Desc) (b : Bus)
  /-- EXPEL_OVERRIDE_EXPEL (R492). -/
  | expelOverrideExpel (src : Src) (d : Desc) (b : Bus)
  /-- EXPEL_OVERRIDE_HOLD (R492). -/
  | expelOverrideHold (src : Src) (d : Desc) (b : Bus)
  /-- EXPEL_OVERRIDE_GRANT (R492). -/
  | expelOverrideGrant (src : Src) (d : Desc) (b : Bus)
  /-- EXPEL_OVERRIDE_CLEAR_STORM (R492). -/
  | expelOverrideClearStorm (src : Src) (d : Desc) (b : Bus)
  /-- EXPEL_OVERRIDE_ATTRIBUTE (R492). -/
  | expelOverrideAttribute (src : Src) (d : Desc) (b : Bus)
  /-- JOB_END (R468). -/
  | jobEnd (src : Src) (d : Desc) (b : Bus)
  /-- TRC_CONFIG (R284). -/
  | trcConfig (src : Src) (d : Desc) (b : Bus)
  /-- TRC_ARM (R273). -/
  | trcArm (src : Src) (d : Desc) (b : Bus)
  /-- TRC_DRAIN (R287). -/
  | trcDrain (src : Src) (d : Desc) (b : Bus)
  /-- TRC_DRAIN_ARCHIVE (R293). -/
  | trcDrainArchive (src : Src) (d : Desc) (b : Bus)
  /-- TRC_RELEASE (R286). -/
  | trcRelease (src : Src) (d : Desc) (b : Bus)
  /-- CTR_SELECT (R226). -/
  | ctrSelect (src : Src) (d : Desc) (b : Bus)
  /-- CTR_DUMP (R249). -/
  | ctrDump (src : Src) (d : Desc) (b : Bus)
  /-- CTR_DUMP_TAGS (R249). -/
  | ctrDumpTags (src : Src) (d : Desc) (b : Bus)
  /-- CTR_PERIODIC (R250). -/
  | ctrPeriodic (src : Src) (d : Desc) (b : Bus)
  /-- TIME_READ (R205). -/
  | timeRead (src : Src) (d : Desc) (b : Bus)
  /-- LEAP_LOAD (R115). -/
  | leapLoad (src : Src) (d : Desc) (b : Bus)
  /-- SITE_LOAD (R697). -/
  | siteLoad (src : Src) (d : Desc) (b : Bus)
  /-- STP_LOAD (R545). -/
  | stpLoad (src : Src) (d : Desc) (b : Bus)
  /-- STP_LOAD_REMOVE (R546). -/
  | stpLoadRemove (src : Src) (d : Desc) (b : Bus)
  /-- SAFE_POINT (R548). -/
  | safePoint (src : Src) (d : Desc) (b : Bus)
  /-- STP_RESULTS (R556). -/
  | stpResults (src : Src) (d : Desc) (b : Bus)
  /-- STP_HEALTH_READ (R561). -/
  | stpHealthRead (src : Src) (d : Desc) (b : Bus)
  /-- LOG_READ (R661). -/
  | logRead (src : Src) (d : Desc) (b : Bus)
  /-- LOG_CLEAR (R664). -/
  | logClear (src : Src) (d : Desc) (b : Bus)
  /-- DUMP_CAPTURE (R672). -/
  | dumpCapture (src : Src) (d : Desc) (b : Bus)
  /-- DUMP_READ (R672). -/
  | dumpRead (src : Src) (d : Desc) (b : Bus)
  /-- DUMP_RELEASE (R672). -/
  | dumpRelease (src : Src) (d : Desc) (b : Bus)
  /-- IMG_LOAD (R691). -/
  | imgLoad (src : Src) (d : Desc) (b : Bus)
  /-- SLC_BIND (R180). -/
  | slcBind (src : Src) (d : Desc) (b : Bus)
  /-- SLC_RESIZE (R182). -/
  | slcResize (src : Src) (d : Desc) (b : Bus)
  /-- SLC_UNBIND (R183). -/
  | slcUnbind (src : Src) (d : Desc) (b : Bus)
  /-- SLC_QUERY (R206). -/
  | slcQuery (src : Src) (d : Desc) (b : Bus)
  /-- STAGE_WRITE (R694). -/
  | stageWrite (off : Nat) (data : List Byte)
  /-- STAGE_READ (R694). -/
  | stageRead (off len : Nat)
  /-- REGISTER_WRITE (R167). -/
  | registerWrite (a : Acc) (addr : BitVec 24) (v : W32)
  /-- SLC_ENABLE (R185). -/
  | slcEnable (a : Acc) (v : W32)
  /-- SLC_DISABLE (R181). -/
  | slcDisable (a : Acc) (v : W32)
  /-- DB_CMDTAIL (R187). -/
  | dbCmdtail (pasid : Option (BitVec 20)) (slice : Nat) (v : W32)
  /-- DB_CPLHEAD (R188). -/
  | dbCplhead (pasid : Option (BitVec 20)) (slice : Nat) (v : W32)
  /-- DB_VRDHEAD (R209). -/
  | dbVrdhead (pasid : Option (BitVec 20)) (slice : Nat) (v : W32)
  /-- SLC_VWSTAT_READ (R210). -/
  | slcVwstatRead (a : Acc)
  /-- VERDICT_STALL_EXPIRY (R210). -/
  | verdictStallExpiry (slice : Nat)
  /-- WHL_ADJ_WRITE (R93). -/
  | whlAdjWrite (a : Acc) (v : W32)
  /-- WHL_STEP (R93). -/
  | whlStep (a : Acc) (v : W32)
  /-- WHL_ASYM_WRITE (R87). -/
  | whlAsymWrite (a : Acc) (k : Nat) (v : W32)
  /-- GEN_ARM (R107). -/
  | genArm (a : Acc) (n : Nat) (v : W32)
  /-- HIF_FNMODE_WRITE (R214). -/
  | hifFnmodeWrite (a : Acc) (v : W32)
  /-- SNG_UNACK_WRITE (R501). -/
  | sngUnackWrite (a : Acc) (v : W32)
  /-- SNG_FPOP (R505). -/
  | sngFpop (a : Acc) (v : W32)
  /-- SNG_FENCE (R510). -/
  | sngFence (a : Acc) (v : W32)
  /-- SNG_CLAIM (R530). -/
  | sngClaim (a : Acc) (v : W32)
  /-- SNG_DCMD_RESTORE (R532). -/
  | sngDcmdRestore (a : Acc)
  /-- UNIT_RESET (R686). -/
  | unitReset (a : Acc) (unit : BitVec 11)
  /-- PARTITION_RESET (R685). -/
  | partitionReset (a : Acc) (part : BitVec 4)
  /-- UNIT_RESET_END (R687). -/
  | unitResetEnd (unit : Nat)
  /-- PARTITION_RESET_END (R514). -/
  | partitionResetEnd (part : Nat)
  /-- TRC_FREEZE (R279). -/
  | trcFreeze (a : Acc)
  /-- TRC_TRIG (R275). -/
  | trcTrig (a : Acc)
  /-- TWS_RKCTRL_EN (R445). -/
  | twsRkctrlEn (a : Acc) (v : W32)
  /-- TWS_PUBCTRL_SEND (R443). -/
  | twsPubctrlSend (a : Acc)
  /-- DRF_BCTRL_COMMIT (R626). -/
  | drfBctrlCommit (a : Acc)
  /-- CVU_INIT (R637). -/
  | cvuInit (a : Acc) (v : W32)
  /-- CVU_POLY_WRITE (R638). -/
  | cvuPolyWrite (a : Acc) (v : W32)
  /-- CVU_DATA (R637). -/
  | cvuData (a : Acc) (v : W32) (bad : Bool)
  /-- CVU_TAIL (R637). -/
  | cvuTail (a : Acc) (v : W32) (bad : Bool)
  /-- CVU_RUN_WRITE (R637). -/
  | cvuRunWrite (a : Acc) (v : W32)
  /-- CVU_LEN_WRITE (R637). -/
  | cvuLenWrite (a : Acc) (v : W32)
  /-- STP_RUN (R564). -/
  | stpRun (a : Acc) (v : W32)
  /-- STP_UCMD_RESTORE (R563). -/
  | stpUcmdRestore (a : Acc)
  /-- BOB_QGUAR_WRITE (R612). -/
  | bobQguarWrite (a : Acc) (v : W32)
  /-- BOB_QLIM_WRITE (R614). -/
  | bobQlimWrite (a : Acc) (v : W32)
  /-- BOB_QLEVEL_WRITE (R620). -/
  | bobQlevelWrite (a : Acc) (v : W32)
  /-- STR_PCTRL_EN (R606). -/
  | strPctrlEn (a : Acc) (p : Nat) (v : W32)
  /-- STR_PCTRL_RETRAIN (R606). -/
  | strPctrlRetrain (a : Acc) (p : Nat)
  /-- TZ_DUMPCTL_CAPTURE (R673). -/
  | tzDumpctlCapture (mask : W16)
  /-- TZ_DUMPCTL_RELEASE (R673). -/
  | tzDumpctlRelease
  /-- TZ_DUMPCTL_REWIND (R673). -/
  | tzDumpctlRewind
  /-- TZ_DUMPDATA (R673). -/
  | tzDumpdata
  /-- IDCODE (R701). -/
  | idcode
  /-- EXTEST (R701). -/
  | extest
  /-- SAMPLE_PRELOAD (R701). -/
  | samplePreload
  /-- CLAMP (R701). -/
  | clamp
  /-- HIGHZ (R701). -/
  | highz
  /-- BYPASS (R701). -/
  | bypass (code : Byte)
  /-- HEARTBEAT (R588). -/
  | heartbeat (p : Nat) (f : Frame)
  /-- CTRL (R581). -/
  | ctrl (p : Nat) (f : Frame)
  /-- NAK (R583). -/
  | nak (p : Nat) (f : Frame)
  /-- SYNC (R89). -/
  | sync (p : Nat) (f : Frame) (stamp : Nat)
  /-- PDELAY_REQ (R83). -/
  | pdelayReq (p : Nat) (f : Frame) (stamp : Nat)
  /-- PDELAY_RESP (R84). -/
  | pdelayResp (p : Nat) (f : Frame) (stamp : Nat)
  /-- ANNOUNCE (R104). -/
  | announce (p : Nat) (f : Frame)
  /-- INIT (R577). -/
  | init (p : Nat) (f : Frame)
  /-- ATTACH (R593). -/
  | attach (p : Nat) (f : Frame)
  /-- ATTACHED (R593). -/
  | attached (p : Nat) (f : Frame)
  /-- DETACH (R597). -/
  | detach (p : Nat) (f : Frame)
  /-- ADOPT (R38). -/
  | adopt (p : Nat) (f : Frame)
  /-- RELEASE (R40). -/
  | release (p : Nat) (f : Frame)
  /-- FENCE (R55). -/
  | fence (p : Nat) (f : Frame)
  /-- ADMIT (R714). -/
  | admitFrame (p : Nat) (f : Frame)
  /-- ADMITTED (R714). -/
  | admitted (p : Nat) (f : Frame)
  /-- ADMIT_RELEASE (R714). -/
  | admitRelease (p : Nat) (f : Frame)
  /-- HANDOVER (R595). -/
  | handover (p : Nat) (f : Frame)
  /-- VECTOR (R318). -/
  | vector (p : Nat) (f : Frame)
  /-- CONTRIB (R407). -/
  | contrib (p : Nat) (f : Frame)
  /-- PUBLISH (R447). -/
  | publish (p : Nat) (f : Frame)
  /-- VERDICT (R574). -/
  | verdict (p : Nat) (f : Frame)
  /-- DIGEST (R475). -/
  | digest (p : Nat) (f : Frame)
  /-- OUTCOME (R490). -/
  | outcome (p : Nat) (f : Frame)
  /-- ATTRIB_REQ (R481). -/
  | attribReq (p : Nat) (f : Frame)
  /-- ATTRIB_ANS (R482). -/
  | attribAns (p : Nat) (f : Frame)
  /-- FAULT (R506). -/
  | fault (p : Nat) (f : Frame)
  /-- PEER_SEEN (R527). -/
  | peerSeen (p : Nat) (f : Frame)
  /-- CLAIM (R530). -/
  | claim (p : Nat) (f : Frame)
  /-- DIESTATE (R537). -/
  | diestate (p : Nat) (f : Frame)
  /-- CUT (R426). -/
  | cut (p : Nat) (f : Frame)
  /-- CUTREP (R428). -/
  | cutrep (p : Nat) (f : Frame)
  /-- TRIGGER (R275). -/
  | trigger (p : Nat) (f : Frame)
  /-- START_PREP (R600). -/
  | startPrep (p : Nat) (f : Frame)
  /-- START_ACK (R601). -/
  | startAck (p : Nat) (f : Frame)
  /-- START_COMMIT (R602). -/
  | startCommit (p : Nat) (f : Frame)
  /-- START_ABORT (R602). -/
  | startAbort (p : Nat) (f : Frame)
  /-- ARCHIVE (R291). -/
  | archive (p : Nat) (f : Frame)
  /-- MIRROR (R27). -/
  | mirror (p : Nat) (f : Frame)
  /-- UNUSED_MSG_FRAME (R575). -/
  | unusedMsgFrame (p : Nat) (typ : Byte) (f : Frame)
  /-- LINK_SIGNAL_DETECT (R577). -/
  | linkSignalDetect (p : Nat)
  /-- LINK_TRAINED (R577). -/
  | linkTrained (p txlat rxlat : Nat)
  /-- LINK_DOWN (R569). -/
  | linkDown (p cause : Nat)
  /-- PARENT_LOSS (R592). -/
  | parentLoss
  /-- ATTACH_RETRY (R593). -/
  | attachRetry
  /-- HANDOVER_TIMEOUT (R595). -/
  | handoverTimeout (p : Nat)
  /-- AUTORETURN (R597). -/
  | autoreturn
  /-- RETURN_REPLAY (R597). -/
  | returnReplay
  /-- NO_PARENT_EXPIRY (R155). -/
  | noParentExpiry
  /-- RETRY_TIMEOUT (R583). -/
  | retryTimeout (p : Nat)
  /-- NAK_REPEAT (R582). -/
  | nakRepeat (p : Nat)
  /-- CTRL_SEND (R581). -/
  | ctrlSend (p : Nat)
  /-- HEARTBEAT_SEND (R588). -/
  | heartbeatSend
  /-- SYNC_SEND (R79). -/
  | syncSend
  /-- PDELAY_REQ_SEND (R95). -/
  | pdelayReqSend (k : Nat)
  /-- ANNOUNCE_SEND (R79). -/
  | announceSend
  /-- FRAME_DEPART (R622). -/
  | frameDepart (p stamp : Nat) (bad : Bool)
  /-- BUCKET_REFILL (R624). -/
  | bucketRefill
  /-- PPS_EDGE (R100). -/
  | ppsEdge (stamp : Nat)
  /-- TOD_LINE (R102). -/
  | todLine (bytes : List Byte)
  /-- HOLDOVER_ENTRY (R88). -/
  | holdoverEntry
  /-- HOLDOVER_LIMIT (R97). -/
  | holdoverLimit
  /-- FT_MAX (R71). -/
  | ftMax
  /-- GEN_APPLY (R107). -/
  | genApply (n : Nat)
  /-- SAMPLE_TRIGGER (R108). -/
  | sampleTrigger (g : Nat)
  /-- SAMPLE_WINDOW_OPEN (R229). -/
  | sampleWindowOpen (g : Nat)
  /-- SLOT_PULSE (R109). -/
  | slotPulse (g : Nat)
  /-- QUIET_WINDOW_OPEN (R253). -/
  | quietWindowOpen (g : Nat)
  /-- QUIET_WINDOW_CLOSE (R253). -/
  | quietWindowClose (g : Nat)
  /-- PPS_OUT_EDGE (R112). -/
  | ppsOutEdge
  /-- CUT_TIMER (R423). -/
  | cutTimer
  /-- START_PREP_TIMER (R602). -/
  | startPrepTimer
  /-- START_TIMER (R602). -/
  | startTimer
  /-- START_DEADLINE (R601). -/
  | startDeadline (job : Nat)
  /-- SAFE_POINT_START (R550). -/
  | safePointStart
  /-- SAFE_POINT_END (R557). -/
  | safePointEnd
  /-- TRC_TRIGFT_REACHED (R275). -/
  | trcTrigftReached
  /-- REEL_READOUT_DONE (R230). -/
  | reelReadoutDone (vals : List (Nat × Nat × W64))
  /-- TAG_RETURN (R243). -/
  | tagReturn (src : Nat) (lat : Nat) (addr : W64) (info : Nat)
  /-- TAG_TIMEOUT (R244). -/
  | tagTimeout (src : Nat)
  /-- TAG_CORE_POWER_DOWN (R244). -/
  | tagCorePowerDown (src : Nat)
  /-- TAG_CORE_WAKE (R244). -/
  | tagCoreWake (src : Nat)
  /-- TRACE_ITEM (R261). -/
  | traceItem (src : Nat) (words : List W64)
  /-- TRACE_POWER_DOWN (R282). -/
  | tracePowerDown (src : Nat)
  /-- TRACE_SOURCE_WAKE (R283). -/
  | traceSourceWake (src : Nat) (words : List W64)
  /-- FLYER_MOVE (R264). -/
  | flyerMove
  /-- SEGMENT_CLOSE (R289). -/
  | segmentClose
  /-- BATCH_COLLECT_EXPIRY (R319). -/
  | batchCollectExpiry (session : Nat)
  /-- DOMAIN_BOUNDARY (R388). -/
  | domainBoundary (dom : Nat)
  /-- PASS_DONE (R349). -/
  | passDone (spindle : Nat) (err : Nat)
  /-- SCORE_STAGE_DONE (R339). -/
  | scoreStageDone (spindle : Nat)
  /-- MODEL_STORE_LOAD_DONE (R390). -/
  | modelStoreLoadDone (slot : Nat) (err : Nat)
  /-- EVICTION_DONE (R376). -/
  | evictionDone (slot : Nat)
  /-- GRACE_EXPIRY (R383). -/
  | graceExpiry (session : Nat)
  /-- MERGE_CLOSE (R410). -/
  | mergeClose (ft : Nat)
  /-- AMENDMENT_END (R416). -/
  | amendmentEnd (ft : Nat)
  /-- SAT_INTERVAL_END (R432). -/
  | satIntervalEnd (p : Nat)
  /-- CUT_REPORT_TIMEOUT (R429). -/
  | cutReportTimeout
  /-- TAP_RECORD (R472). -/
  | tapRecord (src : Nat) (words : List W64)
  /-- ROUND_DEADLINE (R475). -/
  | roundDeadline (job : Nat)
  /-- ATTRIBUTION_TIMEOUT (R482). -/
  | attributionTimeout (job : Nat)
  /-- RECHECK_ANSWER (R470). -/
  | recheckAnswer (tag : Nat) (cv : W32) (memerr : Bool)
  /-- SELFTEST_ANSWER (R470). -/
  | selftestAnswer (tag : Nat) (cvs : List W32)
  /-- SECOND_POLYNOMIAL_DONE (R481). -/
  | secondPolynomialDone (entry : Nat) (c2 : W64) (status : Nat)
  /-- BUDGET_REFILL (R487). -/
  | budgetRefill (part : Nat)
  /-- STORM_QUIET_EXPIRY (R488). -/
  | stormQuietExpiry (part : Nat)
  /-- ALIVE_TOGGLE (R516). -/
  | aliveToggle
  /-- WATCHDOG_PROBE (R518). -/
  | watchdogProbe
  /-- WATCHDOG_EXPIRY (R518). -/
  | watchdogExpiry (unit : Nat)
  /-- THERMAL_CROSSING (R519). -/
  | thermalCrossing (temp : Int)
  /-- DROOP_CROSSING (R141). -/
  | droopCrossing (sensor : Nat) (margin : Int)
  /-- DROOP_RELAX (R142). -/
  | droopRelax (sensor : Nat)
  /-- DIE_STATE_TICK (R528). -/
  | dieStateTick
  /-- ALIVE_IN_EDGE (R521). -/
  | aliveInEdge (p : Nat)
  /-- PEER_RX_PULSE (R523). -/
  | peerRxPulse (n : Nat)
  /-- PEER_SEEN_SEND (R523). -/
  | peerSeenSend
  /-- STEP_PULSE (R524). -/
  | stepPulse
  /-- F3_LANE_IDLE (R515). -/
  | f3LaneIdle
  /-- PARTITION_FENCE_IDLE (R54). -/
  | partitionFenceIdle (part : Nat)
  /-- REPLAN (R144). -/
  | replan (twc : Nat)
  /-- TEST_PROGRAM_END (R553). -/
  | testProgramEnd
  /-- TEST_DUR_EXPIRY (R551). -/
  | testDurExpiry
  /-- RESTORE_PROGRAM_END (R553). -/
  | restoreProgramEnd
  /-- RESTORE_DUR_EXPIRY (R551). -/
  | restoreDurExpiry
  /-- OVERDUE_LIMIT (R558). -/
  | overdueLimit (slot test : Nat)
  /-- HEALTH_HALVING (R559). -/
  | healthHalving
  /-- SCRUB_DONE (R617). -/
  | scrubDone (broken : List (Nat × Nat))
  /-- DESCRIPTOR_FETCH (R190). -/
  | descriptorFetch (slice : Nat) (r : FetchRes)
  /-- COMPLETION_WRITE (R191). -/
  | completionWrite (slice : Nat) (ok : Bool)
  /-- VERDICT_RECORD_WRITE (R191). -/
  | verdictRecordWrite (slice : Nat) (ok mirrorOk bad : Bool)
  /-- METER_TRANSFER (R253). -/
  | meterTransfer
  /-- ADMIT_TIMEOUT (R138). -/
  | admitTimeout (session : Nat)
  /-- LOG_FREEZE_LIMIT (R662). -/
  | logFreezeLimit
  /-- DUMP_UNIT_TIMEOUT (R670). -/
  | dumpUnitTimeout (unit : Nat)
  /-- DUMP_CAPTURE_DONE (R667). -/
  | dumpCaptureDone
  /-- POWER_ON (R678). -/
  | powerOn
  /-- SUPPLY_DROP (R678). -/
  | supplyDrop
  /-- RESET_PIN (R685). -/
  | resetPin
  /-- PCIE_RESET (R683). -/
  | pcieReset
  /-- HBM_READY (R684). -/
  | hbmReady
  /-- ISLAND_CLOCK_LOCK (R680). -/
  | islandClockLock
  /-- IMAGE_VERIFY_DONE (R693). -/
  | imageVerifyDone
  /-- IMAGE_APPLY_DONE (R698). -/
  | imageApplyDone
  /-- BRINGUP_TIMEOUT (R699). -/
  | bringupTimeout
  /-- STOP_FT_REACHED (R297). -/
  | stopFtReached (session : Nat)
  /-- DROOP_INTERVAL_END (R141). -/
  | droopIntervalEnd (sensor : Nat)
  /-- THERMAL_FALL (R519). -/
  | thermalFall (temp : Int)
  /-- REF10M_CHANGE (R100). -/
  | ref10mChange (present : Bool)
  /-- PPS_PRESENT_EXPIRY (R125). -/
  | ppsPresentExpiry
  /-- ISLAND_CLOCK_STOP (R516). -/
  | islandClockStop
  /-- HOST_TRANSFER_DONE (R256). -/
  | hostTransferDone (ok : Bool) (v : W32)
  /-- TEST_WAIT_EXPIRY (R544). -/
  | testWaitExpiry
  deriving DecidableEq, Repr

end Sys2Proof
end

