-- ==== Sys2Proof/WellFormed.lean ====
section
/-! DEFINITION. Well-formed commands: numbers that name something the larger build can have, and frames of at most 27 payload words. A command that is not well formed still has a meaning: it names nothing and changes nothing. -/

namespace Sys2Proof

/-- A slice of the larger build (R176). -/
def Src.wf : Src → Bool
  | .slice n => decide (n < 64)
  | .mgmt => true

/-- A frame's payload is at most 27 words (R568). -/
def Frame.wf (f : Frame) : Bool := decide (f.payload.length ≤ 27)

/-- The numbers a command carries are within the limits of the larger build. -/
def Instr.wf : Instr → Bool
  | .sessOpen src _ _ => src.wf
  | .sessClose src _ _ => src.wf
  | .sessAdmit src _ _ => src.wf
  | .sessRelease src _ _ => src.wf
  | .sessStart src _ _ => src.wf
  | .sessStop src _ _ => src.wf
  | .sessQuery src _ _ => src.wf
  | .modelLoad src _ _ => src.wf
  | .modelEvict src _ _ => src.wf
  | .modelDiscard src _ _ => src.wf
  | .modelBind src _ _ => src.wf
  | .modelQuery src _ _ => src.wf
  | .redBind src _ _ => src.wf
  | .redUnbind src _ _ => src.wf
  | .snapArm src _ _ => src.wf
  | .snapRead src _ _ => src.wf
  | .satRecordRead src _ _ => src.wf
  | .snapCancel src _ _ => src.wf
  | .snapAuth src _ _ => src.wf
  | .jobDeclare src _ _ => src.wf
  | .jobStart src _ _ => src.wf
  | .votePolicy src _ _ => src.wf
  | .expelOverrideRestore src _ _ => src.wf
  | .expelOverrideExpel src _ _ => src.wf
  | .expelOverrideHold src _ _ => src.wf
  | .expelOverrideGrant src _ _ => src.wf
  | .expelOverrideClearStorm src _ _ => src.wf
  | .expelOverrideAttribute src _ _ => src.wf
  | .jobEnd src _ _ => src.wf
  | .trcConfig src _ _ => src.wf
  | .trcArm src _ _ => src.wf
  | .trcDrain src _ _ => src.wf
  | .trcDrainArchive src _ _ => src.wf
  | .trcRelease src _ _ => src.wf
  | .ctrSelect src _ _ => src.wf
  | .ctrDump src _ _ => src.wf
  | .ctrDumpTags src _ _ => src.wf
  | .ctrPeriodic src _ _ => src.wf
  | .timeRead src _ _ => src.wf
  | .leapLoad src _ _ => src.wf
  | .siteLoad src _ _ => src.wf
  | .stpLoad src _ _ => src.wf
  | .stpLoadRemove src _ _ => src.wf
  | .safePoint src _ _ => src.wf
  | .stpResults src _ _ => src.wf
  | .stpHealthRead src _ _ => src.wf
  | .logRead src _ _ => src.wf
  | .logClear src _ _ => src.wf
  | .dumpCapture src _ _ => src.wf
  | .dumpRead src _ _ => src.wf
  | .dumpRelease src _ _ => src.wf
  | .imgLoad src _ _ => src.wf
  | .slcBind src _ _ => src.wf
  | .slcResize src _ _ => src.wf
  | .slcUnbind src _ _ => src.wf
  | .slcQuery src _ _ => src.wf
  | .stageWrite off data => decide (off + data.length ≤ 2097152)
  | .stageRead off len => decide (off + len ≤ 2097152)
  | .registerWrite _ _ _ => true
  | .slcEnable _ _ => true
  | .slcDisable _ _ => true
  | .dbCmdtail _ slice _ => decide (slice < 64)
  | .dbCplhead _ slice _ => decide (slice < 64)
  | .dbVrdhead _ slice _ => decide (slice < 64)
  | .slcVwstatRead _ => true
  | .verdictStallExpiry slice => decide (slice < 64)
  | .whlAdjWrite _ _ => true
  | .whlStep _ _ => true
  | .whlAsymWrite _ k _ => decide (k < 4)
  | .genArm _ n _ => decide (n < 64)
  | .hifFnmodeWrite _ _ => true
  | .sngUnackWrite _ _ => true
  | .sngFpop _ _ => true
  | .sngFence _ _ => true
  | .sngClaim _ _ => true
  | .sngDcmdRestore _ => true
  | .unitReset _ _ => true
  | .partitionReset _ _ => true
  | .unitResetEnd unit => decide (unit < 2048)
  | .partitionResetEnd part => decide (part < 16)
  | .trcFreeze _ => true
  | .trcTrig _ => true
  | .twsRkctrlEn _ _ => true
  | .twsPubctrlSend _ => true
  | .drfBctrlCommit _ => true
  | .cvuInit _ _ => true
  | .cvuPolyWrite _ _ => true
  | .cvuData _ _ _ => true
  | .cvuTail _ _ _ => true
  | .cvuRunWrite _ _ => true
  | .cvuLenWrite _ _ => true
  | .stpRun _ _ => true
  | .stpUcmdRestore _ => true
  | .bobQguarWrite _ _ => true
  | .bobQlimWrite _ _ => true
  | .bobQlevelWrite _ _ => true
  | .strPctrlEn _ p _ => decide (p < 36)
  | .strPctrlRetrain _ p => decide (p < 36)
  | .tzDumpctlCapture _ => true
  | .tzDumpctlRelease => true
  | .tzDumpctlRewind => true
  | .tzDumpdata => true
  | .idcode => true
  | .extest => true
  | .samplePreload => true
  | .clamp => true
  | .highz => true
  | .bypass code => decide (code.toNat ∉ [0x00, 0x01, 0x02, 0x03, 0x04, 0x30, 0x31])
  | .heartbeat p f => decide (p < 36) && f.wf
  | .ctrl p f => decide (p < 36) && f.wf
  | .nak p f => decide (p < 36) && f.wf
  | .sync p f _ => decide (p < 36) && f.wf
  | .pdelayReq p f _ => decide (p < 36) && f.wf
  | .pdelayResp p f _ => decide (p < 36) && f.wf
  | .announce p f => decide (p < 36) && f.wf
  | .init p f => decide (p < 36) && f.wf
  | .attach p f => decide (p < 36) && f.wf
  | .attached p f => decide (p < 36) && f.wf
  | .detach p f => decide (p < 36) && f.wf
  | .adopt p f => decide (p < 36) && f.wf
  | .release p f => decide (p < 36) && f.wf
  | .fence p f => decide (p < 36) && f.wf
  | .admitFrame p f => decide (p < 36) && f.wf
  | .admitted p f => decide (p < 36) && f.wf
  | .admitRelease p f => decide (p < 36) && f.wf
  | .handover p f => decide (p < 36) && f.wf
  | .vector p f => decide (p < 36) && f.wf
  | .contrib p f => decide (p < 36) && f.wf
  | .publish p f => decide (p < 36) && f.wf
  | .verdict p f => decide (p < 36) && f.wf
  | .digest p f => decide (p < 36) && f.wf
  | .outcome p f => decide (p < 36) && f.wf
  | .attribReq p f => decide (p < 36) && f.wf
  | .attribAns p f => decide (p < 36) && f.wf
  | .fault p f => decide (p < 36) && f.wf
  | .peerSeen p f => decide (p < 36) && f.wf
  | .claim p f => decide (p < 36) && f.wf
  | .diestate p f => decide (p < 36) && f.wf
  | .cut p f => decide (p < 36) && f.wf
  | .cutrep p f => decide (p < 36) && f.wf
  | .trigger p f => decide (p < 36) && f.wf
  | .startPrep p f => decide (p < 36) && f.wf
  | .startAck p f => decide (p < 36) && f.wf
  | .startCommit p f => decide (p < 36) && f.wf
  | .startAbort p f => decide (p < 36) && f.wf
  | .archive p f => decide (p < 36) && f.wf
  | .mirror p f => decide (p < 36) && f.wf
  | .unusedMsgFrame p _ f => decide (p < 36) && f.wf
  | .linkSignalDetect p => decide (p < 36)
  | .linkTrained p _ _ => decide (p < 36)
  | .linkDown p _ => decide (p < 36)
  | .parentLoss => true
  | .attachRetry => true
  | .handoverTimeout p => decide (p < 36)
  | .autoreturn => true
  | .returnReplay => true
  | .noParentExpiry => true
  | .retryTimeout p => decide (p < 36)
  | .nakRepeat p => decide (p < 36)
  | .ctrlSend p => decide (p < 36)
  | .heartbeatSend => true
  | .syncSend => true
  | .pdelayReqSend k => decide (k < 4)
  | .announceSend => true
  | .frameDepart p _ _ => decide (p < 36)
  | .bucketRefill => true
  | .ppsEdge _ => true
  | .todLine _ => true
  | .holdoverEntry => true
  | .holdoverLimit => true
  | .ftMax => true
  | .genApply n => decide (n < 64)
  | .sampleTrigger g => decide (g < 12)
  | .sampleWindowOpen g => decide (g < 12)
  | .slotPulse g => decide (g < 12)
  | .quietWindowOpen g => decide (g < 12)
  | .quietWindowClose g => decide (g < 12)
  | .ppsOutEdge => true
  | .cutTimer => true
  | .startPrepTimer => true
  | .startTimer => true
  | .startDeadline job => decide (job < 256)
  | .safePointStart => true
  | .safePointEnd => true
  | .trcTrigftReached => true
  | .reelReadoutDone _ => true
  | .tagReturn src _ _ _ => decide (src < 64)
  | .tagTimeout src => decide (src < 64)
  | .tagCorePowerDown src => decide (src < 64)
  | .tagCoreWake src => decide (src < 64)
  | .traceItem src _ => decide (src < 64)
  | .tracePowerDown src => decide (src < 64)
  | .traceSourceWake src _ => decide (src < 64)
  | .flyerMove => true
  | .segmentClose => true
  | .batchCollectExpiry session => decide (session < 4096)
  | .domainBoundary dom => decide (dom < 64)
  | .passDone spindle _ => decide (spindle < 64)
  | .scoreStageDone spindle => decide (spindle < 64)
  | .modelStoreLoadDone slot _ => decide (slot < 1024)
  | .evictionDone slot => decide (slot < 1024)
  | .graceExpiry session => decide (session < 4096)
  | .mergeClose _ => true
  | .amendmentEnd _ => true
  | .satIntervalEnd p => decide (p < 36)
  | .cutReportTimeout => true
  | .tapRecord src _ => decide (src < 64)
  | .roundDeadline job => decide (job < 256)
  | .attributionTimeout job => decide (job < 256)
  | .recheckAnswer _ _ _ => true
  | .selftestAnswer _ _ => true
  | .secondPolynomialDone entry _ _ => decide (entry < 64)
  | .budgetRefill part => decide (part < 16)
  | .stormQuietExpiry part => decide (part < 16)
  | .aliveToggle => true
  | .watchdogProbe => true
  | .watchdogExpiry unit => decide (unit < 2048)
  | .thermalCrossing _ => true
  | .droopCrossing sensor _ => decide (sensor < 16)
  | .droopRelax sensor => decide (sensor < 16)
  | .dieStateTick => true
  | .aliveInEdge p => decide (p < 36)
  | .peerRxPulse n => decide (n < 64)
  | .peerSeenSend => true
  | .stepPulse => true
  | .f3LaneIdle => true
  | .partitionFenceIdle part => decide (part < 16)
  | .replan _ => true
  | .testProgramEnd => true
  | .testDurExpiry => true
  | .restoreProgramEnd => true
  | .restoreDurExpiry => true
  | .overdueLimit slot test => decide (slot < 1024) && decide (test < 256)
  | .healthHalving => true
  | .scrubDone broken => broken.all fun e => decide (e.1 < 8192)
  | .descriptorFetch slice _ => decide (slice < 64)
  | .completionWrite slice _ => decide (slice < 64)
  | .verdictRecordWrite slice _ _ _ => decide (slice < 64)
  | .meterTransfer => true
  | .admitTimeout session => decide (session < 4096)
  | .logFreezeLimit => true
  | .dumpUnitTimeout unit => decide (unit < 2048)
  | .dumpCaptureDone => true
  | .powerOn => true
  | .supplyDrop => true
  | .resetPin => true
  | .pcieReset => true
  | .hbmReady => true
  | .islandClockLock => true
  | .imageVerifyDone => true
  | .imageApplyDone => true
  | .bringupTimeout => true
  | .stopFtReached session => decide (session < 4096)
  | .droopIntervalEnd sensor => decide (sensor < 16)
  | .thermalFall _ => true
  | .ref10mChange _ => true
  | .ppsPresentExpiry => true
  | .islandClockStop => true
  | .hostTransferDone _ _ => true
  | .testWaitExpiry => true

end Sys2Proof
end

