-- ==== Sys2Proof/Decode.lean ====
section
/-! DEFINITION. The command that a word spells. The table of this block gives no row any bits (spec/opcode_table.json: every "fields" is empty), so no word spells a command. -/

namespace Sys2Proof

/-- The command read from `nbits` bits of value `w`: none, since the table gives its rows no bits. -/
def decodeTableWord (_nbits _w : Nat) : Option Instr := none

end Sys2Proof
end

