-- ==== Sys2Proof/Config.lean ====
section
/-! DEFINITION. What an implementation fixes and the spec leaves open: the free values. Each is opaque (no body), so no statement can rest on one of its values (notes/assumptions 1 to 3). -/

namespace Sys2Proof.Config

/-- A free bit: which way a value that falls between two codes is rounded, where the spec states no rounding (assumption 1). Applied to the counter State.fresh. -/
opaque freeBit : Nat → Bool

/-- A free 64-bit value, where the spec states no value (assumption 1). Applied to State.fresh. -/
opaque freeWord : Nat → BitVec 64

/-- The bytes a compressor codes for one segment: R643 defines them only up to expansion (assumption 2). Arguments: the TABLES and BLOCK fields of DFL_CTRL and the raw bytes. -/
opaque deflateBytes : Nat → Nat → List (BitVec 8) → List (BitVec 8)

/-- The next value of the tag LFSR: R243 gives its width and not its polynomial (assumption 3). -/
opaque tagLfsrStep : BitVec 32 → BitVec 32

/-- The host sub-unit of a tag source (R245): which core each slot source is, the integrator decides (assumption 1). -/
opaque tagUnit : Nat → BitVec 11

/-- The public keys in the block's mask ROM, each with its KEYID: the point's coordinates (R689, assumption 1). -/
opaque romKeys : Tab (Nat × Nat)

end Sys2Proof.Config
end

