-- ==== Sys2Proof/Machine/Flags.lean ====
section
/-! DEFINITION. The computed check fields and status flags that records and frames carry: the CRC-32 and CRC-32C check values (R570, R630, R657), saturation and wrap of counter fields, and modulo comparisons of sequence numbers (R570). -/

namespace Sys2Proof.Machine

/-- The reflected polynomial of CRC-32 (IEEE 802.3) and of CRC-32C (R630). -/
def polyIeee : Nat := 0xEDB88320
def polyC : Nat := 0x82F63B78

/-- One bit of a reflected CRC. -/
def crcBit (poly c : Nat) : Nat := if c % 2 = 1 then (c / 2) ^^^ poly else c / 2

/-- One byte into a running CRC value. -/
def crcByte (poly run : Nat) (b : Byte) : Nat :=
  let c := run ^^^ b.toNat
  crcBit poly (crcBit poly (crcBit poly (crcBit poly (crcBit poly (crcBit poly (crcBit poly (crcBit poly c)))))))

/-- A byte string into a running CRC value. -/
def crcBytes (poly run : Nat) (bs : List Byte) : Nat := bs.foldl (crcByte poly) run

/-- The check value of a byte string: initial value all ones, final XOR all ones (R631). -/
def crcOf (poly : Nat) (bs : List Byte) : Nat := crcBytes poly 0xFFFFFFFF bs ^^^ 0xFFFFFFFF

/-- `a` comes before `b` in a sequence that wraps modulo 2^32 (R570). -/
def seqLt (a b : Nat) : Bool := decide (a % 2 ^ 32 ≠ b % 2 ^ 32) && decide ((b + 2 ^ 32 - a % 2 ^ 32) % 2 ^ 32 < 2 ^ 31)

/-- The sum of a field of `w` bits that wraps. -/
def wrapAdd (w a b : Nat) : Nat := (a + b) % 2 ^ w

end Sys2Proof.Machine
end

