-- ==== Sys2Proof/Machine/RegTable.lean ====
section
/-! DEFINITION. The register map of the block, from the register tables of spec/: for each page the words it holds (offset, instance stride, access, bits each build has, reset values), and a name for every field. -/

namespace Sys2Proof.Machine

/-- The access code of a register word (R10); a word of plain status, or one whose writes only act, is `ro`. -/
inductive RegKind where | ro | rw | mw
  deriving DecidableEq, Repr

/-- One 32-bit register word of a page, with its instances. -/
structure RegRow where
  off : Nat
  stride : Nat
  count : Nat
  kind : RegKind
  /-- bits a write sets (RW or MW) -/
  wmask : Nat
  /-- bits that writing 1 clears (W1C) -/
  w1c : Nat
  /-- bits a Leaf, and a Hub, have and read -/
  hasLeaf : Nat
  hasHub : Nat
  /-- reset values -/
  rstLeaf : Nat
  rstHub : Nat
  deriving DecidableEq, Repr

/-- A named register field: the register's word address (page x 4096 + offset), its place, and the distance between instances. -/
structure RF where
  addr : Nat
  lo : Nat
  w : Nat
  stride : Nat
  deriving DecidableEq, Repr

/-- Instance `n` of a field. -/
def RF.at (f : RF) (n : Nat) : RF := { f with addr := f.addr + n * f.stride }

/-- Page 0x00: R711. -/
def page00 : List RegRow := [
  ⟨0x0, 0, 1, .ro, 0x0, 0x0, 0x3FFFF, 0x3FFFF, 0x100, 0x10100⟩,
  ⟨0x4, 0, 1, .ro, 0x0, 0x0, 0xFFFFFFFF, 0xFFFFFFFF, 0xA5101F3A, 0xA6401F3A⟩,
  ⟨0x8, 0, 1, .ro, 0x0, 0x0, 0xFFFFFFFF, 0xFFFFFFFF, 0x1A5102B7, 0x1A6402B7⟩,
  ⟨0xC, 0, 1, .ro, 0x0, 0x0, 0x3, 0x3, 0x0, 0x0⟩,
  ⟨0x10, 0, 1, .ro, 0x0, 0x0, 0xFFFFFFFF, 0xFFFFFFFF, 0x0, 0x0⟩,
  ⟨0x14, 0, 1, .ro, 0x0, 0x0, 0xFFFFFFFF, 0xFFFFFFFF, 0x0, 0x0⟩,
  ⟨0x18, 0, 1, .ro, 0x0, 0x0, 0xFFFFFFFF, 0xFFFFFFFF, 0x0, 0x0⟩,
  ⟨0x1C, 0, 1, .ro, 0x0, 0x0, 0xFFFF, 0xFFFF, 0x0, 0x0⟩,
  ⟨0x20, 0, 1, .ro, 0x0, 0x0, 0xFFFFFFFF, 0xFFFFFFFF, 0x0, 0x0⟩,
  ⟨0x24, 0, 1, .ro, 0x0, 0x0, 0xFFFF, 0xFFFF, 0x0, 0x0⟩,
  ⟨0x28, 0, 1, .rw, 0xFF, 0x0, 0xFF, 0x0, 0xE, 0x0⟩,
  ⟨0x2C, 0, 1, .rw, 0xFFFFFFFF, 0x0, 0xFFFFFFFF, 0xFFFFFFFF, 0x0, 0x0⟩]

/-- Page 0x01: R119, R120, R121, R122, R123, R124, R125. -/
def page01 : List RegRow := [
  ⟨0x0, 0, 1, .mw, 0x37, 0x0, 0x37, 0x37, 0x23, 0x23⟩,
  ⟨0x4, 0, 1, .ro, 0x0, 0x0, 0xFFFF00FF, 0xFFFF00FF, 0x0, 0x0⟩,
  ⟨0x8, 0, 1, .ro, 0x0, 0x0, 0xFFFFFFFF, 0xFFFFFFFF, 0x0, 0x0⟩,
  ⟨0xC, 0, 1, .ro, 0x0, 0x0, 0xFFFFFFFF, 0xFFFFFFFF, 0x0, 0x0⟩,
  ⟨0x10, 0, 1, .ro, 0x0, 0x0, 0xFFFFFFFF, 0xFFFFFFFF, 0x0, 0x0⟩,
  ⟨0x14, 0, 1, .ro, 0x0, 0x0, 0xFFFF, 0xFFFF, 0x400, 0x400⟩,
  ⟨0x20, 0, 1, .mw, 0xFFFF, 0x0, 0xFFFF, 0xFFFF, 0x3A73, 0x3A73⟩,
  ⟨0x24, 0, 1, .mw, 0xFFFF, 0x0, 0xFFFF, 0xFFFF, 0xA64, 0xA64⟩,
  ⟨0x28, 0, 1, .rw, 0xFFFFFFFF, 0x0, 0xFFFFFFFF, 0xFFFFFFFF, 0x0, 0x0⟩,
  ⟨0x2C, 0, 1, .ro, 0x0, 0x0, 0x0, 0x0, 0x0, 0x0⟩,
  ⟨0x30, 0, 1, .ro, 0x0, 0x0, 0xFFFF, 0xFFFF, 0x0, 0x0⟩,
  ⟨0x34, 0, 1, .mw, 0xFFF, 0x0, 0xFFF, 0xFFF, 0x47, 0x47⟩,
  ⟨0x38, 0, 1, .ro, 0x0, 0x0, 0xFFFFFFFF, 0xFFFFFFFF, 0x0, 0x0⟩,
  ⟨0x40, 0, 1, .ro, 0x0, 0x0, 0x7FFFFFF, 0x7FFFFFF, 0x0, 0x0⟩,
  ⟨0x44, 0, 1, .ro, 0x0, 0x0, 0xFFFFFFFF, 0xFFFFFFFF, 0x0, 0x0⟩,
  ⟨0x100, 4, 36, .ro, 0x0, 0x0, 0xFFFFFFFF, 0xFFFFFFFF, 0x0, 0x0⟩,
  ⟨0x1C0, 4, 4, .rw, 0xFFFFFFFF, 0x0, 0xFFFFFFFF, 0xFFFFFFFF, 0x0, 0x0⟩,
  ⟨0x1D0, 4, 4, .ro, 0x0, 0x0, 0xFFFFFFFF, 0xFFFFFFFF, 0x0, 0x0⟩,
  ⟨0x1E0, 4, 4, .ro, 0x0, 0x0, 0xFFFFFFFF, 0xFFFFFFFF, 0x0, 0x0⟩,
  ⟨0x200, 32, 12, .mw, 0x3, 0x0, 0x1B, 0x1B, 0x0, 0x0⟩,
  ⟨0x204, 32, 12, .rw, 0xFFFFFFFF, 0x0, 0xFFFFFFFF, 0xFFFFFFFF, 0x0, 0x0⟩,
  ⟨0x208, 32, 12, .rw, 0xFFFFFFFF, 0x0, 0xFFFFFFFF, 0xFFFFFFFF, 0x0, 0x0⟩,
  ⟨0x20C, 32, 12, .rw, 0xFFFFFFFF, 0x0, 0xFFFFFFFF, 0xFFFFFFFF, 0x0, 0x0⟩,
  ⟨0x210, 32, 12, .rw, 0xFFFFFFFF, 0x0, 0xFFFFFFFF, 0xFFFFFFFF, 0x0, 0x0⟩,
  ⟨0x214, 32, 12, .rw, 0xFFFFFFFF, 0x0, 0xFFFFFFFF, 0xFFFFFFFF, 0x0, 0x0⟩,
  ⟨0x218, 32, 12, .ro, 0x0, 0x0, 0xFFFF, 0xFFFF, 0x0, 0x0⟩,
  ⟨0x3C0, 0, 1, .mw, 0x3, 0x0, 0x0, 0x3, 0x0, 0x0⟩,
  ⟨0x3C4, 0, 1, .rw, 0xFFFFFFFF, 0x0, 0x0, 0xFFFFFFFF, 0x0, 0x0⟩,
  ⟨0x3C8, 0, 1, .mw, 0xF, 0x0, 0x0, 0xF, 0x0, 0x4⟩,
  ⟨0x3CC, 0, 1, .ro, 0x0, 0x0, 0x0, 0xFF07, 0x0, 0x0⟩]

/-- Page 0x02: R539, R702. -/
def page02 : List RegRow := [
  ⟨0x0, 0, 1, .mw, 0x7F, 0x0, 0x7F, 0x7F, 0x1, 0x1⟩,
  ⟨0x4, 0, 1, .ro, 0x0, 0x0, 0xFFFF000F, 0xFFFF000F, 0x0, 0x0⟩,
  ⟨0x8, 0, 1, .ro, 0x0, 0xFFFF, 0xFFFF, 0xFFFF, 0x0, 0x0⟩,
  ⟨0xC, 0, 1, .ro, 0x0, 0x0, 0xFFFFFFFF, 0xFFFFFFFF, 0x0, 0x0⟩,
  ⟨0x10, 0, 1, .ro, 0x0, 0x0, 0xFFFF01FF, 0xFFFF01FF, 0x0, 0x0⟩,
  ⟨0x14, 0, 1, .ro, 0x0, 0x0, 0x0, 0x0, 0x0, 0x0⟩,
  ⟨0x18, 0, 1, .ro, 0x0, 0x0, 0x0, 0x0, 0x0, 0x0⟩,
  ⟨0x1C, 0, 1, .ro, 0x0, 0x0, 0xFFFFFFFF, 0xFFFFFFFF, 0x0, 0x0⟩,
  ⟨0x20, 0, 1, .ro, 0x0, 0x0, 0xFFFFFFFF, 0xFFFFFFFF, 0x0, 0x0⟩,
  ⟨0x24, 0, 1, .ro, 0x0, 0x0, 0xFFFFFFFF, 0xFFFFFFFF, 0x0, 0x0⟩,
  ⟨0x28, 0, 1, .mw, 0xFFFF, 0x0, 0xFFFF, 0xFFFF, 0x3E8, 0x3E8⟩,
  ⟨0x2C, 0, 1, .mw, 0xFFFF, 0x0, 0xFFFF, 0xFFFF, 0x7869, 0x7869⟩,
  ⟨0x30, 0, 1, .mw, 0xFFFF, 0x0, 0xFFFF, 0xFFFF, 0xFFFF, 0xFFFF⟩,
  ⟨0x34, 0, 1, .ro, 0x0, 0x0, 0xFFFFFFFF, 0xFFFFFFFF, 0x0, 0x0⟩,
  ⟨0x40, 4, 8, .ro, 0x0, 0x0, 0xFFFFFFFF, 0xFFFFFFFF, 0x0, 0x0⟩,
  ⟨0x60, 0, 1, .rw, 0x1F, 0x0, 0x0, 0x1F, 0x0, 0x0⟩,
  ⟨0x64, 0, 1, .ro, 0x0, 0x0, 0xFFFF007F, 0xFFFF007F, 0x0, 0x0⟩,
  ⟨0x68, 0, 1, .ro, 0x0, 0x0, 0xFFFFFFFF, 0xFFFFFFFF, 0x0, 0x0⟩,
  ⟨0x6C, 0, 1, .ro, 0x0, 0x0, 0xFFFFFFFF, 0xFFFFFFFF, 0x0, 0x0⟩,
  ⟨0x70, 0, 1, .ro, 0x0, 0x0, 0xFFFFFFFF, 0xFFFFFFFF, 0x0, 0x0⟩,
  ⟨0x74, 0, 1, .ro, 0x0, 0x0, 0x0, 0x0, 0x0, 0x0⟩,
  ⟨0x78, 0, 1, .mw, 0xFFFF, 0x0, 0xFFFF, 0xFFFF, 0x3E8, 0x3E8⟩,
  ⟨0x7C, 0, 1, .mw, 0xFFFF, 0x0, 0xFFFF, 0xFFFF, 0x64, 0x64⟩,
  ⟨0x80, 0, 1, .mw, 0xFFFF, 0x0, 0xFFFF, 0x0, 0x64, 0x0⟩,
  ⟨0x84, 0, 1, .rw, 0xFFFFFFFF, 0x0, 0xFFFFFFFF, 0xFFFFFFFF, 0x186A0, 0x186A0⟩,
  ⟨0x88, 0, 1, .mw, 0xFF, 0x0, 0xFF, 0x0, 0x0, 0x0⟩,
  ⟨0x90, 0, 1, .rw, 0xFFFFFFFF, 0x0, 0xFFFFFFFF, 0xFFFFFFFF, 0x0, 0x0⟩,
  ⟨0x94, 0, 1, .rw, 0xFFFF, 0x0, 0xFFFF, 0xFFFF, 0x0, 0x0⟩,
  ⟨0x98, 0, 1, .ro, 0x0, 0x0, 0xFFFFFFFF, 0xFFFFFFFF, 0x0, 0x0⟩,
  ⟨0x9C, 0, 1, .ro, 0x0, 0x0, 0x0, 0xFFFF07FF, 0x0, 0x0⟩,
  ⟨0xA0, 0, 1, .ro, 0x0, 0x0, 0x0, 0xFFFFFFFF, 0x0, 0x0⟩,
  ⟨0xA4, 0, 1, .ro, 0x0, 0x0, 0x7F, 0x0, 0x0, 0x0⟩,
  ⟨0xB0, 0, 1, .ro, 0x0, 0x0, 0x0, 0x0, 0x0, 0x0⟩,
  ⟨0xB4, 0, 1, .ro, 0x0, 0x0, 0xFFFF0001, 0xFFFF0001, 0x0, 0x0⟩,
  ⟨0xB8, 0, 1, .ro, 0x0, 0x0, 0xFFFF07FF, 0xFFFF07FF, 0x0, 0x0⟩,
  ⟨0x100, 4, 64, .ro, 0x0, 0x0, 0x800007FF, 0x80000000, 0x0, 0x0⟩,
  ⟨0x200, 8, 32, .ro, 0x0, 0x0, 0xFFFFFFFF, 0x0, 0x0, 0x0⟩,
  ⟨0x204, 8, 32, .ro, 0x0, 0x0, 0x8000FFFF, 0x80000000, 0x0, 0x0⟩]

/-- Page 0x03: R676. -/
def page03 : List RegRow := [
  ⟨0x0, 0, 1, .mw, 0x3, 0x0, 0x3, 0x3, 0x2, 0x2⟩,
  ⟨0x4, 0, 1, .ro, 0x0, 0x0, 0xFFFFFFFF, 0xFFFFFFFF, 0x0, 0x0⟩,
  ⟨0x8, 0, 1, .ro, 0x0, 0x0, 0xFFFFFFFF, 0xFFFFFFFF, 0xFFFFFFFF, 0xFFFFFFFF⟩,
  ⟨0xC, 0, 1, .ro, 0x0, 0x0, 0xFFFFFFFF, 0xFFFFFFFF, 0x0, 0x0⟩,
  ⟨0x10, 0, 1, .ro, 0x0, 0x0, 0xFFFFFFFF, 0xFFFFFFFF, 0x0, 0x0⟩,
  ⟨0x14, 0, 1, .mw, 0xFFFF, 0x0, 0xFFFF, 0xFFFF, 0x3E8, 0x3E8⟩,
  ⟨0x18, 0, 1, .ro, 0x0, 0x0, 0x0, 0xFFFFFFFF, 0x0, 0x0⟩,
  ⟨0x20, 0, 1, .ro, 0x0, 0x0, 0x0, 0xFFFFFFFF, 0x0, 0x0⟩,
  ⟨0x24, 0, 1, .ro, 0x0, 0x0, 0x0, 0xFFFFFFFF, 0x0, 0x0⟩,
  ⟨0x28, 0, 1, .ro, 0x0, 0x0, 0x0, 0xFFFFFFFF, 0x0, 0x0⟩,
  ⟨0x2C, 0, 1, .ro, 0x0, 0x0, 0x0, 0xFFFFFFFF, 0x0, 0x0⟩,
  ⟨0x30, 0, 1, .ro, 0x0, 0x0, 0x0, 0xFFFFFFFF, 0x0, 0x0⟩,
  ⟨0x34, 0, 1, .ro, 0x0, 0x0, 0x0, 0xFFFFFFFF, 0x0, 0x0⟩,
  ⟨0x38, 0, 1, .ro, 0x0, 0x0, 0x0, 0xFFFFFFFF, 0x0, 0x0⟩,
  ⟨0x3C, 0, 1, .ro, 0x0, 0x0, 0x0, 0xFFFFFFFF, 0x0, 0x0⟩,
  ⟨0x40, 0, 1, .ro, 0x0, 0x0, 0xFFFFFFFF, 0xFFFFFFFF, 0x0, 0x0⟩,
  ⟨0x44, 0, 1, .ro, 0x0, 0x0, 0xFFFF03FF, 0xFFFF03FF, 0x0, 0x0⟩,
  ⟨0x48, 0, 1, .ro, 0x0, 0x0, 0xFFFFFFFF, 0xFFFFFFFF, 0x0, 0x0⟩]

/-- Page 0x04: R216. -/
def page04 : List RegRow := [
  ⟨0x0, 0, 1, .mw, 0x3, 0x0, 0x3, 0x3, 0x0, 0x0⟩,
  ⟨0x4, 0, 1, .mw, 0xFF, 0x0, 0xFF, 0xFF, 0x0, 0x0⟩,
  ⟨0x8, 0, 1, .ro, 0x0, 0x0, 0xFF00FF, 0xFF00FF, 0x0, 0x0⟩,
  ⟨0xC, 0, 1, .ro, 0x0, 0x0, 0xFFFFFFFF, 0xFFFFFFFF, 0x0, 0x0⟩,
  ⟨0x10, 0, 1, .ro, 0x0, 0x0, 0x1FFF007F, 0x1FFF007F, 0x1000010, 0x10000040⟩]

/-- Page 0x05: R217. -/
def page05 : List RegRow := [
  ⟨0x0, 0, 1, .rw, 0x3F, 0x0, 0x3F, 0x3F, 0x0, 0x0⟩,
  ⟨0x4, 0, 1, .ro, 0x0, 0x0, 0x1FFF, 0x1FFF, 0x100, 0x1000⟩,
  ⟨0x10, 0, 1, .mw, 0x7FF, 0x0, 0x7FF, 0x7FF, 0x80, 0x80⟩,
  ⟨0x14, 0, 1, .ro, 0x0, 0x8, 0xFFFF00FF, 0xFFFF00FF, 0x2, 0x2⟩,
  ⟨0x18, 0, 1, .ro, 0x0, 0x0, 0x1FFFFF, 0x1FFFFF, 0x0, 0x0⟩,
  ⟨0x1C, 0, 1, .ro, 0x0, 0x0, 0x1FFF1FFF, 0x1FFF1FFF, 0x0, 0x0⟩,
  ⟨0x20, 0, 1, .rw, 0xFFFFFFFF, 0x0, 0xFFFFFFFF, 0xFFFFFFFF, 0x0, 0x0⟩,
  ⟨0x24, 0, 1, .rw, 0xFFFFFFFF, 0x0, 0xFFFFFFFF, 0xFFFFFFFF, 0x0, 0x0⟩,
  ⟨0x28, 0, 1, .rw, 0xFFFFFFFF, 0x0, 0xFFFFFFFF, 0xFFFFFFFF, 0x0, 0x0⟩,
  ⟨0x2C, 0, 1, .rw, 0xFFFFFFFF, 0x0, 0xFFFFFFFF, 0xFFFFFFFF, 0x0, 0x0⟩,
  ⟨0x30, 0, 1, .rw, 0xFFFFFFFF, 0x0, 0xFFFFFFFF, 0xFFFFFFFF, 0x0, 0x0⟩,
  ⟨0x34, 0, 1, .rw, 0xFFFFFFFF, 0x0, 0xFFFFFFFF, 0xFFFFFFFF, 0x0, 0x0⟩,
  ⟨0x38, 0, 1, .rw, 0xFFFFFFFF, 0x0, 0xFFFFFFFF, 0xFFFFFFFF, 0x0, 0x0⟩,
  ⟨0x3C, 0, 1, .rw, 0xFFFFFFFF, 0x0, 0xFFFFFFFF, 0xFFFFFFFF, 0x0, 0x0⟩,
  ⟨0x40, 0, 1, .rw, 0x1F1F1F, 0x0, 0x1F1F1F, 0x1F1F1F, 0x60606, 0x60606⟩,
  ⟨0x44, 0, 1, .ro, 0x0, 0x0, 0xFFFFFFFF, 0xFFFFFFFF, 0x0, 0x0⟩,
  ⟨0x48, 0, 1, .ro, 0x0, 0x0, 0xFFFFFFFF, 0xFFFFFFFF, 0x0, 0x0⟩,
  ⟨0x4C, 0, 1, .ro, 0x0, 0x0, 0xFFFFFFFF, 0xFFFFFFFF, 0x0, 0x0⟩,
  ⟨0x50, 0, 1, .ro, 0x0, 0x0, 0xFFFFFFFF, 0xFFFFFFFF, 0x0, 0x0⟩,
  ⟨0x54, 0, 1, .ro, 0x0, 0x0, 0xFFFFFFFF, 0xFFFFFFFF, 0x0, 0x0⟩,
  ⟨0x58, 0, 1, .ro, 0x0, 0x0, 0xFFFFFFFF, 0xFFFFFFFF, 0x0, 0x0⟩,
  ⟨0x5C, 0, 1, .ro, 0x0, 0x0, 0xFFFFFFFF, 0xFFFFFFFF, 0x0, 0x0⟩,
  ⟨0x60, 0, 1, .ro, 0x0, 0x0, 0x7FFFF, 0x7FFFF, 0xFFFF, 0xFFFF⟩,
  ⟨0x80, 4, 8, .ro, 0x0, 0x0, 0xFFFFFFFF, 0xFFFFFFFF, 0x0, 0x0⟩]

/-- Page 0x06: R258. -/
def page06 : List RegRow := [
  ⟨0x0, 0, 1, .mw, 0x3, 0x0, 0x3, 0x0, 0x0, 0x0⟩,
  ⟨0x4, 0, 1, .ro, 0x0, 0x0, 0xFFFF0001, 0x0, 0x0, 0x0⟩,
  ⟨0x8, 0, 1, .ro, 0x0, 0x0, 0x3F7F3FFF, 0x0, 0x0, 0x0⟩,
  ⟨0x10, 0, 1, .ro, 0x0, 0x0, 0xFFFF, 0x0, 0x0, 0x0⟩,
  ⟨0x14, 0, 1, .mw, 0xFFF, 0x0, 0xFFF, 0x0, 0xF00, 0x0⟩,
  ⟨0x18, 0, 1, .ro, 0x0, 0x0, 0xFFFF, 0x0, 0x0, 0x0⟩,
  ⟨0x20, 0, 1, .mw, 0x1FFF, 0x0, 0x1FFF, 0x0, 0x10, 0x0⟩,
  ⟨0x24, 0, 1, .rw, 0xFFFFFFFF, 0x0, 0xFFFFFFFF, 0x0, 0x1, 0x0⟩,
  ⟨0x28, 0, 1, .ro, 0x0, 0x0, 0xFFFFFFFF, 0x0, 0x0, 0x0⟩,
  ⟨0x2C, 0, 1, .ro, 0x0, 0x0, 0xFFFFFFFF, 0x0, 0x0, 0x0⟩,
  ⟨0x30, 0, 1, .rw, 0xFFFFFFFF, 0x0, 0xFFFFFFFF, 0x0, 0x0, 0x0⟩,
  ⟨0x34, 0, 1, .rw, 0xFFFFFFFF, 0x0, 0xFFFFFFFF, 0x0, 0x0, 0x0⟩,
  ⟨0x38, 0, 1, .ro, 0x0, 0x0, 0xFFFFFFFF, 0x0, 0x0, 0x0⟩,
  ⟨0x3C, 0, 1, .ro, 0x0, 0x0, 0xFFFFFFFF, 0x0, 0x0, 0x0⟩,
  ⟨0x40, 4, 16, .mw, 0x3F, 0x0, 0x3F, 0x0, 0x0, 0x0⟩,
  ⟨0x80, 4, 16, .ro, 0x0, 0x0, 0xFFFFFFFF, 0x0, 0x0, 0x0⟩]

/-- Page 0x07: R294. -/
def page07 : List RegRow := [
  ⟨0x0, 0, 1, .mw, 0x3C, 0x0, 0x3C, 0x3C, 0x10, 0x10⟩,
  ⟨0x4, 0, 1, .ro, 0x0, 0x0, 0xFFFF0FFF, 0xFFFF0FFF, 0x0, 0x0⟩,
  ⟨0x8, 0, 1, .mw, 0xFF, 0x0, 0xFF, 0xFF, 0x40, 0x40⟩,
  ⟨0xC, 0, 1, .mw, 0xFFFF, 0x0, 0xFFFF, 0xFFFF, 0x0, 0x0⟩,
  ⟨0x10, 0, 1, .rw, 0xFFFFFFFF, 0x0, 0xFFFFFFFF, 0xFFFFFFFF, 0x0, 0x0⟩,
  ⟨0x14, 0, 1, .rw, 0xFFFFFFFF, 0x0, 0xFFFFFFFF, 0xFFFFFFFF, 0x0, 0x0⟩,
  ⟨0x18, 0, 1, .ro, 0x0, 0x0, 0xFFFFFFFF, 0xFFFFFFFF, 0x0, 0x0⟩,
  ⟨0x1C, 0, 1, .ro, 0x0, 0x0, 0xFFFFFFFF, 0xFFFFFFFF, 0x0, 0x0⟩,
  ⟨0x20, 0, 1, .ro, 0x0, 0x0, 0xFFFFFFFF, 0xFFFFFFFF, 0x0, 0x0⟩,
  ⟨0x24, 0, 1, .ro, 0x0, 0x0, 0xFFFFFFFF, 0xFFFFFFFF, 0x0, 0x0⟩,
  ⟨0x28, 0, 1, .ro, 0x0, 0x0, 0xFFFFFFFF, 0xFFFFFFFF, 0x0, 0x0⟩,
  ⟨0x2C, 0, 1, .ro, 0x0, 0x0, 0xFFFFFFFF, 0xFFFFFFFF, 0x0, 0x0⟩,
  ⟨0x30, 0, 1, .ro, 0x0, 0x0, 0xFFFFFFFF, 0xFFFFFFFF, 0x0, 0x0⟩,
  ⟨0x34, 0, 1, .ro, 0x0, 0x0, 0xFFFFFFFF, 0xFFFFFFFF, 0x0, 0x0⟩,
  ⟨0x38, 0, 1, .ro, 0x0, 0x0, 0x3F, 0x3F, 0x0, 0x0⟩,
  ⟨0x40, 0, 1, .ro, 0x0, 0x0, 0x0, 0xFFFFFFFF, 0x0, 0x0⟩,
  ⟨0x44, 0, 1, .ro, 0x0, 0x0, 0x0, 0xFFFFFFFF, 0x0, 0x0⟩,
  ⟨0x48, 0, 1, .ro, 0x0, 0x0, 0x0, 0xFFFFFFFF, 0x0, 0x0⟩,
  ⟨0x4C, 0, 1, .ro, 0x0, 0x0, 0x0, 0xFFFFFFFF, 0x0, 0x0⟩,
  ⟨0x50, 0, 1, .mw, 0x1, 0x0, 0x0, 0x1, 0x0, 0x1⟩,
  ⟨0x54, 0, 1, .ro, 0x0, 0x0, 0x0, 0xFFFFFFFF, 0x0, 0x0⟩,
  ⟨0x58, 0, 1, .ro, 0x0, 0x0, 0x0, 0xFFFFFFFF, 0x0, 0x0⟩,
  ⟨0x100, 4, 32, .mw, 0x7, 0x0, 0x7, 0x7, 0x0, 0x0⟩,
  ⟨0x180, 4, 32, .ro, 0x0, 0x0, 0xFFFFFFFF, 0xFFFFFFFF, 0x0, 0x0⟩,
  ⟨0x200, 16, 16, .mw, 0x7FF, 0x0, 0x7FF, 0x7FF, 0x0, 0x0⟩,
  ⟨0x204, 16, 1, .rw, 0xFFFFFFFF, 0x0, 0xFFFFFFFF, 0xFFFFFFFF, 0x0, 0x0⟩,
  ⟨0x208, 16, 1, .rw, 0xFFFFFFFF, 0x0, 0xFFFFFFFF, 0xFFFFFFFF, 0x0, 0x0⟩,
  ⟨0x20C, 16, 1, .rw, 0xFFFFFFFF, 0x0, 0xFFFFFFFF, 0xFFFFFFFF, 0x0, 0x0⟩]

/-- Page 0x08: R323. -/
def page08 : List RegRow := [
  ⟨0x0, 0, 1, .ro, 0x0, 0x0, 0x1FFF1FFF, 0x1FFF1FFF, 0x0, 0x0⟩,
  ⟨0x4, 0, 1, .ro, 0x0, 0x0, 0x71FFFFF, 0x71FFFFF, 0x1004000, 0x4100000⟩,
  ⟨0x8, 0, 1, .ro, 0x0, 0x0, 0x1FFFFF, 0x1FFFFF, 0x0, 0x0⟩,
  ⟨0xC, 0, 1, .rw, 0xFFF, 0x0, 0xFFF, 0xFFF, 0x0, 0x0⟩,
  ⟨0x10, 0, 1, .ro, 0x0, 0x0, 0x7FF3F7F, 0x7FF3F7F, 0x0, 0x0⟩,
  ⟨0x14, 0, 1, .ro, 0x0, 0x0, 0xFFFFFFFF, 0xFFFFFFFF, 0x0, 0x0⟩,
  ⟨0x18, 0, 1, .ro, 0x0, 0x0, 0xFFFFFFFF, 0xFFFFFFFF, 0x0, 0x0⟩,
  ⟨0x1C, 0, 1, .ro, 0x0, 0x0, 0xFFFFFFFF, 0xFFFFFFFF, 0x0, 0x0⟩,
  ⟨0x20, 0, 1, .ro, 0x0, 0x0, 0xFFFFFFFF, 0xFFFFFFFF, 0x0, 0x0⟩,
  ⟨0x24, 0, 1, .ro, 0x0, 0x0, 0xFFFF, 0xFFFF, 0x0, 0x0⟩]

/-- Page 0x09: R358. -/
def page09 : List RegRow := [
  ⟨0x0, 0, 1, .ro, 0x0, 0x0, 0xFFFF7F, 0xFFFF7F, 0x604002, 0x808040⟩,
  ⟨0x4, 0, 1, .mw, 0x1, 0x0, 0x0, 0x1, 0x0, 0x1⟩,
  ⟨0x8, 0, 1, .ro, 0x0, 0x0, 0x7FFFFF, 0x7FFFFF, 0x20000, 0x200000⟩,
  ⟨0xC, 0, 1, .ro, 0x0, 0x0, 0x7FFFFF, 0x7FFFFF, 0x0, 0x0⟩,
  ⟨0x10, 0, 1, .ro, 0x0, 0x0, 0xFFFFFFFF, 0xFFFFFFFF, 0x0, 0x0⟩,
  ⟨0x14, 0, 1, .ro, 0x0, 0x0, 0xFFFFFFFF, 0xFFFFFFFF, 0x0, 0x0⟩,
  ⟨0x18, 0, 1, .ro, 0x0, 0x0, 0x0, 0xFFFFFFFF, 0x0, 0x0⟩,
  ⟨0x1C, 0, 1, .ro, 0x0, 0x0, 0x0, 0xFFFFFFFF, 0x0, 0x0⟩,
  ⟨0x20, 0, 1, .ro, 0x0, 0x0, 0x0, 0xFFFFFFFF, 0x0, 0x0⟩,
  ⟨0x24, 0, 1, .ro, 0x0, 0x0, 0x0, 0xFFFFFFFF, 0x0, 0x0⟩,
  ⟨0x28, 0, 1, .ro, 0x0, 0x0, 0x0, 0xFFFFFFFF, 0x0, 0x0⟩,
  ⟨0x2C, 0, 1, .ro, 0x0, 0x0, 0x0, 0xFFFF, 0x0, 0x0⟩]

/-- Page 0x0A: R394. -/
def page0A : List RegRow := [
  ⟨0x0, 0, 1, .mw, 0x7FF, 0x0, 0x7FF, 0x7FF, 0x73, 0x73⟩,
  ⟨0x4, 0, 1, .mw, 0xFFFF, 0x0, 0xFFFF, 0xFFFF, 0x32, 0x32⟩,
  ⟨0x8, 0, 1, .mw, 0xFFFF, 0x0, 0xFFFF, 0xFFFF, 0x1000, 0x1000⟩,
  ⟨0xC, 0, 1, .ro, 0x0, 0x0, 0x7FF0003, 0x7FF0003, 0x0, 0x0⟩,
  ⟨0x10, 0, 1, .ro, 0x0, 0x0, 0xFFF07FF, 0xFFF07FF, 0x4000040, 0x8000400⟩,
  ⟨0x14, 0, 1, .ro, 0x0, 0x0, 0xFFFFFFFF, 0xFFFFFFFF, 0x0, 0x0⟩,
  ⟨0x18, 0, 1, .ro, 0x0, 0x0, 0xFFFFFFFF, 0xFFFFFFFF, 0x0, 0x0⟩,
  ⟨0x1C, 0, 1, .ro, 0x0, 0x0, 0xFFFFFFFF, 0xFFFFFFFF, 0x0, 0x0⟩,
  ⟨0x20, 0, 1, .ro, 0x0, 0x0, 0x0, 0xFFFFFFFF, 0x0, 0x0⟩,
  ⟨0x24, 0, 1, .ro, 0x0, 0x0, 0x0, 0xFFFFFFFF, 0x0, 0x0⟩,
  ⟨0x28, 0, 1, .ro, 0x0, 0x0, 0x0, 0xFFFFFFFF, 0x0, 0x0⟩,
  ⟨0x2C, 0, 1, .ro, 0x0, 0x0, 0x0, 0xFFFFFFFF, 0x0, 0x0⟩,
  ⟨0x30, 0, 1, .ro, 0x0, 0x0, 0x0, 0xFFFFFFFF, 0x0, 0x0⟩,
  ⟨0x34, 0, 1, .ro, 0x0, 0x0, 0x0, 0xFFFFFFFF, 0x0, 0x0⟩,
  ⟨0x40, 0, 1, .rw, 0x3FF, 0x0, 0x3FF, 0x3FF, 0x0, 0x0⟩,
  ⟨0x44, 0, 1, .ro, 0x0, 0x0, 0x1FFF07FF, 0x1FFF07FF, 0x0, 0x0⟩,
  ⟨0x48, 0, 1, .ro, 0x0, 0x0, 0x3FFFFFFF, 0x3FFFFFFF, 0x0, 0x0⟩,
  ⟨0x4C, 0, 1, .ro, 0x0, 0x0, 0xFFFFFFFF, 0xFFFFFFFF, 0x0, 0x0⟩,
  ⟨0x50, 0, 1, .ro, 0x0, 0x0, 0xFFFFFFFF, 0xFFFFFFFF, 0x0, 0x0⟩,
  ⟨0x54, 0, 1, .ro, 0x0, 0x0, 0xFFFFFFFF, 0xFFFFFFFF, 0x0, 0x0⟩,
  ⟨0x58, 0, 1, .ro, 0x0, 0x0, 0x3FFFF, 0x3FFFF, 0x0, 0x0⟩,
  ⟨0x80, 0, 1, .rw, 0xFFF, 0x0, 0xFFF, 0xFFF, 0x0, 0x0⟩,
  ⟨0x84, 0, 1, .ro, 0x0, 0x0, 0xFFFF00FF, 0xFFFF00FF, 0x0, 0x0⟩,
  ⟨0x88, 0, 1, .ro, 0x0, 0x0, 0xFF, 0xFF, 0x0, 0x0⟩,
  ⟨0x8C, 0, 1, .ro, 0x0, 0x0, 0xFFFFFFFF, 0xFFFFFFFF, 0x0, 0x0⟩]

/-- Page 0x0B: R434, R462. -/
def page0B : List RegRow := [
  ⟨0x0, 0, 1, .mw, 0x1, 0x0, 0x1, 0x1, 0x1, 0x1⟩,
  ⟨0x4, 0, 1, .mw, 0xFFFF, 0x0, 0xFFFF, 0xFFFF, 0x4B0, 0x4B0⟩,
  ⟨0x8, 0, 1, .mw, 0xFFFF, 0x0, 0xFFFF, 0xFFFF, 0x320, 0x320⟩,
  ⟨0xC, 0, 1, .mw, 0xFFFF, 0x0, 0xFFFF, 0xFFFF, 0x30, 0x30⟩,
  ⟨0x10, 0, 1, .ro, 0x0, 0x0, 0x7FF1FFF, 0x7FF1FFF, 0x0, 0x4001000⟩,
  ⟨0x14, 0, 1, .ro, 0x0, 0x0, 0x1FF01FF, 0x1FF01FF, 0x0, 0x100⟩,
  ⟨0x18, 0, 1, .ro, 0x0, 0x0, 0x7FF1FFF, 0x7FF1FFF, 0x0, 0x0⟩,
  ⟨0x1C, 0, 1, .ro, 0x0, 0x0, 0xFFFFFFFF, 0xFFFFFFFF, 0x0, 0x0⟩,
  ⟨0x20, 0, 1, .ro, 0x0, 0x0, 0xFFFFFFFF, 0xFFFFFFFF, 0x0, 0x0⟩,
  ⟨0x24, 0, 1, .ro, 0x0, 0x0, 0xFFFFFFFF, 0xFFFFFFFF, 0x0, 0x0⟩,
  ⟨0x28, 0, 1, .ro, 0x0, 0x0, 0x1FFFFFFF, 0x1FFFFFFF, 0x0, 0x0⟩,
  ⟨0x2C, 0, 1, .ro, 0x0, 0x0, 0x7F, 0x7F, 0x0, 0x0⟩,
  ⟨0x30, 0, 1, .mw, 0xF, 0x0, 0xF, 0xF, 0xA, 0xA⟩,
  ⟨0x34, 0, 1, .ro, 0x0, 0x0, 0xFFFF007F, 0xFFFF007F, 0x0, 0x0⟩,
  ⟨0x40, 0, 1, .rw, 0x3F, 0x0, 0x3F, 0x3F, 0x0, 0x0⟩,
  ⟨0x44, 0, 1, .ro, 0x0, 0x0, 0x7F, 0x7F, 0x10, 0x40⟩,
  ⟨0x50, 0, 1, .mw, 0x1F, 0x0, 0x3F, 0x3F, 0x0, 0x0⟩,
  ⟨0x54, 0, 1, .rw, 0xFFFFFFF, 0x0, 0xFFFFFFF, 0xFFFFFFF, 0x0, 0x0⟩,
  ⟨0x58, 0, 1, .rw, 0x1FFFF, 0x0, 0x1FFFF, 0x1FFFF, 0xFFC0, 0xFFC0⟩,
  ⟨0x5C, 0, 1, .rw, 0xFFFFFFFF, 0x0, 0xFFFFFFFF, 0xFFFFFFFF, 0x80000, 0x80000⟩,
  ⟨0x60, 0, 1, .mw, 0x3F, 0x0, 0x3F, 0x3F, 0x4, 0x4⟩,
  ⟨0x64, 0, 1, .mw, 0xFFFF, 0x0, 0xFFFF, 0xFFFF, 0x2000, 0x2000⟩,
  ⟨0x68, 0, 1, .rw, 0xFFFFFFFF, 0x0, 0xFFFFFFFF, 0xFFFFFFFF, 0x80000, 0x80000⟩,
  ⟨0x6C, 0, 1, .mw, 0xFF, 0x0, 0xFF, 0xFF, 0xA2, 0xA2⟩,
  ⟨0x70, 0, 1, .rw, 0xFFFFFFFF, 0x0, 0xFFFFFFFF, 0xFFFFFFFF, 0x40000, 0x40000⟩,
  ⟨0x74, 0, 1, .ro, 0x0, 0x0, 0xFFFF00FF, 0xFFFF00FF, 0x0, 0x0⟩,
  ⟨0x78, 0, 1, .ro, 0x0, 0x0, 0x3FFFF, 0x3FFFF, 0x0, 0x0⟩,
  ⟨0x7C, 0, 1, .ro, 0x0, 0x0, 0xFFFFFFFF, 0xFFFFFFFF, 0x0, 0x0⟩,
  ⟨0x80, 0, 1, .ro, 0x0, 0x0, 0xFFFFFFFF, 0xFFFFFFFF, 0x0, 0x0⟩,
  ⟨0x84, 0, 1, .ro, 0x0, 0x0, 0xFFFFFFFF, 0xFFFFFFFF, 0x0, 0x0⟩,
  ⟨0x88, 0, 1, .ro, 0x0, 0x0, 0xFFFFFFFF, 0xFFFFFFFF, 0x0, 0x0⟩,
  ⟨0x8C, 0, 1, .ro, 0x0, 0x0, 0xFFFFFFFF, 0xFFFFFFFF, 0x0, 0x0⟩,
  ⟨0x90, 0, 1, .ro, 0x0, 0x0, 0x0, 0x2, 0x0, 0x0⟩,
  ⟨0x94, 0, 1, .ro, 0x0, 0x0, 0xFFFF0000, 0xFFFF, 0x0, 0x0⟩,
  ⟨0x100, 4, 64, .rw, 0xFFFFFFFF, 0x0, 0x0, 0xFFFFFFFF, 0x0, 0x0⟩]

/-- Page 0x0C: R497. -/
def page0C : List RegRow := [
  ⟨0x0, 0, 1, .mw, 0x1, 0x0, 0x1, 0x1, 0x1, 0x1⟩,
  ⟨0x4, 0, 1, .ro, 0x0, 0x0, 0x7F01FF, 0x7F01FF, 0x400010, 0x100⟩,
  ⟨0x8, 0, 1, .ro, 0x0, 0x0, 0xFFFFFFFF, 0xFFFFFFFF, 0x0, 0x0⟩,
  ⟨0xC, 0, 1, .ro, 0x0, 0x0, 0xFFFFFFFF, 0xFFFFFFFF, 0x0, 0x0⟩,
  ⟨0x10, 0, 1, .ro, 0x0, 0x0, 0xFFFFFFFF, 0xFFFFFFFF, 0x0, 0x0⟩,
  ⟨0x14, 0, 1, .ro, 0x0, 0x0, 0xFFFFFFFF, 0xFFFFFFFF, 0x0, 0x0⟩,
  ⟨0x18, 0, 1, .ro, 0x0, 0x0, 0xFFFFFFFF, 0xFFFFFFFF, 0x0, 0x0⟩,
  ⟨0x40, 4, 16, .ro, 0x0, 0x0, 0xFFFF001F, 0xFFFF001F, 0x0, 0x0⟩,
  ⟨0x80, 0, 1, .rw, 0xFF, 0x0, 0xFF, 0xFF, 0x0, 0x0⟩,
  ⟨0x84, 0, 1, .ro, 0x0, 0x0, 0xFF3F3F01, 0xFF3F3F01, 0x0, 0x0⟩,
  ⟨0x88, 0, 1, .ro, 0x0, 0x0, 0xFFFFFFFF, 0xFFFFFFFF, 0x0, 0x0⟩,
  ⟨0x8C, 0, 1, .ro, 0x0, 0x0, 0xFFFFFFFF, 0xFFFFFFFF, 0x0, 0x0⟩,
  ⟨0x90, 0, 1, .ro, 0x0, 0x0, 0xFFFFFFFF, 0xFFFFFFFF, 0x0, 0x0⟩,
  ⟨0x94, 0, 1, .ro, 0x0, 0x0, 0xFF07, 0xFF07, 0x0, 0x0⟩,
  ⟨0x98, 0, 1, .ro, 0x0, 0x0, 0xFFFFFFFF, 0xFFFFFFFF, 0x640008, 0x640008⟩]

/-- Page 0x0D: R63, R64, R65, R66, R67, R605. -/
def page0D : List RegRow := [
  ⟨0x0, 0, 1, .ro, 0x0, 0x0, 0x7, 0xFFFF0017, 0x0, 0x0⟩,
  ⟨0x4, 0, 1, .ro, 0x0, 0x0, 0xFF031F, 0xFF031F, 0x300, 0x300⟩,
  ⟨0x8, 0, 1, .mw, 0x7F, 0x0, 0x40, 0x7F, 0x40, 0x40⟩,
  ⟨0xC, 0, 1, .mw, 0xFFFF, 0x0, 0xFFFF, 0xFFFF, 0x3E8, 0x3E8⟩,
  ⟨0x10, 0, 1, .ro, 0x0, 0x0, 0x0, 0xFFFF07FF, 0x0, 0x0⟩,
  ⟨0x14, 0, 1, .ro, 0x0, 0x0, 0xFFFF000F, 0xFFFF000F, 0x0, 0x0⟩,
  ⟨0x18, 0, 1, .ro, 0x0, 0x0, 0x0, 0xFFFFFFFF, 0x0, 0x0⟩,
  ⟨0x1C, 0, 1, .rw, 0xFFFFFFFF, 0x0, 0xFFFFFFFF, 0xFFFFFFFF, 0x3C00C8, 0x3C00C8⟩,
  ⟨0x20, 0, 1, .ro, 0x0, 0x0, 0xFFFFFF0F, 0xFF00000F, 0x0, 0x0⟩,
  ⟨0x24, 0, 1, .ro, 0x0, 0x0, 0xFFFFFFFF, 0xFFFFFFFF, 0x0, 0x0⟩,
  ⟨0x28, 0, 1, .ro, 0x0, 0x0, 0x0, 0xFFFFFFFF, 0x0, 0x0⟩,
  ⟨0x2C, 0, 1, .ro, 0x0, 0x0, 0x0, 0xFFFFFFFF, 0x0, 0x0⟩,
  ⟨0x30, 0, 1, .ro, 0x0, 0x0, 0x0, 0xFFFFFFFF, 0x0, 0x0⟩,
  ⟨0x34, 0, 1, .ro, 0x0, 0x0, 0x0, 0xFFFFFFFF, 0x0, 0x0⟩,
  ⟨0x40, 4, 16, .ro, 0x0, 0x0, 0x87FF07FF, 0xFFFFFFFF, 0x0, 0x0⟩,
  ⟨0x80, 0, 1, .ro, 0x0, 0x0, 0xFFFFFFFF, 0x0, 0x0, 0x0⟩,
  ⟨0x84, 0, 1, .ro, 0x0, 0x0, 0xFFFFFFFF, 0x0, 0x0, 0x0⟩,
  ⟨0x100, 8, 32, .ro, 0x0, 0x0, 0x0, 0xFFFFFFFF, 0x0, 0x0⟩,
  ⟨0x104, 8, 32, .ro, 0x0, 0x0, 0x0, 0xE01F, 0x0, 0x0⟩]

/-- Page 0x0E: R629. -/
def page0E : List RegRow := [
  ⟨0x0, 0, 1, .ro, 0x0, 0x0, 0x7FFFF, 0x7FFFF, 0x4000, 0x40000⟩,
  ⟨0x4, 0, 1, .ro, 0x0, 0x0, 0x7FFFF, 0x7FFFF, 0x0, 0x0⟩,
  ⟨0x8, 0, 1, .ro, 0x0, 0x0, 0x7FFFF, 0x7FFFF, 0x0, 0x0⟩,
  ⟨0xC, 0, 1, .ro, 0x0, 0x0, 0x7FFFF, 0x7FFFF, 0x0, 0x0⟩,
  ⟨0x10, 0, 1, .ro, 0x0, 0x0, 0x3FFF, 0x3FFF, 0x200, 0x2000⟩,
  ⟨0x14, 0, 1, .ro, 0x0, 0x0, 0xFFFFFFFF, 0xFFFFFFFF, 0x0, 0x0⟩,
  ⟨0x18, 0, 1, .ro, 0x0, 0x0, 0xFFFF, 0xFFFFFFFF, 0x0, 0x0⟩,
  ⟨0x20, 0, 1, .rw, 0x1FFF, 0x0, 0x1FFF, 0x1FFF, 0x0, 0x0⟩,
  ⟨0x24, 0, 1, .rw, 0x7FFFF, 0x0, 0x7FFFF, 0x7FFFF, 0x0, 0x0⟩,
  ⟨0x28, 0, 1, .mw, 0xFFFF, 0x0, 0x8000FFFF, 0x8000FFFF, 0x0, 0x0⟩,
  ⟨0x2C, 0, 1, .mw, 0xFFFF, 0x0, 0xFFFF, 0xFFFF, 0x0, 0x0⟩,
  ⟨0x30, 0, 1, .ro, 0x0, 0x0, 0x1FFFFF, 0x3FFFFF, 0x100000, 0x100000⟩,
  ⟨0x34, 0, 1, .ro, 0x0, 0x0, 0x7FFFF, 0x7FFFF, 0x0, 0x0⟩,
  ⟨0x100, 0, 1, .rw, 0x1FF, 0x0, 0x1FF, 0x1FF, 0x0, 0x0⟩,
  ⟨0x104, 0, 1, .mw, 0xFFFF, 0x0, 0xFFFF, 0xFFFF, 0x0, 0x0⟩,
  ⟨0x108, 0, 1, .mw, 0xFFFF, 0x0, 0xFFFF, 0xFFFF, 0x0, 0x0⟩,
  ⟨0x10C, 0, 1, .mw, 0xFF, 0x0, 0xFF, 0xFF, 0x0, 0x0⟩,
  ⟨0x110, 0, 1, .mw, 0x1, 0x0, 0x3, 0x3, 0x0, 0x0⟩,
  ⟨0x114, 0, 1, .ro, 0x0, 0x0, 0xFFFFFF, 0xFFFFFF, 0x0, 0x0⟩,
  ⟨0x118, 0, 1, .ro, 0x0, 0x0, 0xFFFFFFFF, 0xFFFFFFFF, 0x0, 0x0⟩,
  ⟨0x11C, 0, 1, .ro, 0x0, 0x0, 0xFFFFFFFF, 0xFFFFFFFF, 0x0, 0x0⟩]

/-- Page 0x0F: R159. -/
def page0F : List RegRow := [
  ⟨0x0, 0, 1, .mw, 0x3FF, 0x0, 0x3FF, 0x3FF, 0x16B, 0x16B⟩,
  ⟨0x4, 0, 1, .ro, 0x0, 0x0, 0xFFFF000F, 0xFFFF000F, 0x0, 0x0⟩,
  ⟨0x8, 0, 1, .ro, 0x0, 0x0, 0xFFFFFFFF, 0xFFFFFFFF, 0x2BC02BC, 0x2BC02BC⟩,
  ⟨0xC, 0, 1, .ro, 0x0, 0x0, 0xFFFF, 0xFFFF, 0x1000, 0x1000⟩,
  ⟨0x10, 0, 1, .mw, 0xFFFF, 0x0, 0xFFFF, 0xFFFF, 0xF1E, 0xF1E⟩,
  ⟨0x14, 0, 1, .ro, 0x0, 0x0, 0xFFFFFFFF, 0xFFFFFFFF, 0x0, 0x0⟩,
  ⟨0x18, 0, 1, .ro, 0x0, 0x0, 0xFFFFFFFF, 0xFFFFFFFF, 0x0, 0x0⟩,
  ⟨0x1C, 0, 1, .ro, 0x0, 0x0, 0xFFFF, 0xFFFF, 0x0, 0x0⟩,
  ⟨0x20, 0, 1, .ro, 0x0, 0x0, 0xFFFFFFFF, 0xFFFFFFFF, 0x0, 0x0⟩,
  ⟨0x40, 4, 8, .ro, 0x0, 0x0, 0xFFFFFF, 0xFFFFFF, 0x0, 0x0⟩,
  ⟨0x60, 4, 8, .rw, 0xFFFFFF, 0x0, 0x1FFFFFF, 0x1FFFFFF, 0x0, 0x0⟩,
  ⟨0x84, 4, 3, .ro, 0x0, 0x0, 0x1FFF, 0x1FFF, 0x1000, 0x1000⟩,
  ⟨0x90, 4, 3, .ro, 0x0, 0x0, 0xFFFF, 0xFFFF, 0x0, 0x0⟩]

/-- Page 0x10: R651, R652. -/
def page10 : List RegRow := [
  ⟨0x0, 0, 1, .mw, 0x1, 0x0, 0x1, 0x1, 0x0, 0x0⟩,
  ⟨0x4, 0, 1, .ro, 0x0, 0x0, 0x1F003F, 0x1F003F, 0x8, 0x10⟩,
  ⟨0x8, 0, 1, .rw, 0xFFFFFFFF, 0x0, 0xFFFFFFFF, 0xFFFFFFFF, 0xFFFFFFFF, 0xFFFFFFFF⟩,
  ⟨0xC, 0, 1, .rw, 0xFFFFFFFF, 0x0, 0xFFFFFFFF, 0xFFFFFFFF, 0x0, 0x0⟩,
  ⟨0x10, 0, 1, .ro, 0x0, 0x0, 0x0, 0x0, 0x0, 0x0⟩,
  ⟨0x14, 0, 1, .ro, 0x0, 0x0, 0x0, 0x0, 0x0, 0x0⟩,
  ⟨0x18, 0, 1, .ro, 0x0, 0x0, 0xFFFFFFFF, 0xFFFFFFFF, 0x0, 0x0⟩,
  ⟨0x1C, 0, 1, .ro, 0x0, 0x0, 0xFFFFFFFF, 0xFFFFFFFF, 0x0, 0x0⟩,
  ⟨0x100, 0, 1, .mw, 0xF, 0x0, 0xF, 0x0, 0xA, 0x0⟩,
  ⟨0x104, 0, 1, .ro, 0x0, 0x0, 0xFFFFFFFF, 0x0, 0x0, 0x0⟩,
  ⟨0x108, 0, 1, .ro, 0x0, 0x0, 0xFFFFFFFF, 0xFFFFFFFF, 0x0, 0x0⟩,
  ⟨0x10C, 0, 1, .ro, 0x0, 0x0, 0xFFFFFFFF, 0xFFFFFFFF, 0x0, 0x0⟩,
  ⟨0x110, 0, 1, .ro, 0x0, 0x0, 0xFFFFFFFF, 0xFFFFFFFF, 0x0, 0x0⟩,
  ⟨0x114, 0, 1, .ro, 0x0, 0x0, 0xFFFFFFFF, 0xFFFFFFFF, 0x0, 0x0⟩,
  ⟨0x118, 0, 1, .ro, 0x0, 0x0, 0x0, 0xFFFFFFFF, 0x0, 0x0⟩,
  ⟨0x11C, 0, 1, .ro, 0x0, 0x0, 0x0, 0xFFFFFF, 0x0, 0x0⟩,
  ⟨0x124, 4, 12, .ro, 0x0, 0x0, 0x0, 0xFFFF, 0x0, 0x0⟩]

/-- Page 0x11: R565. -/
def page11 : List RegRow := [
  ⟨0x0, 0, 1, .mw, 0x3FF, 0x0, 0x3FF, 0x0, 0x1, 0x0⟩,
  ⟨0x4, 0, 1, .ro, 0x0, 0x0, 0x7FF003F, 0x0, 0x0, 0x0⟩,
  ⟨0x8, 0, 1, .mw, 0xFFFF, 0x0, 0xFFFF, 0x0, 0x18, 0x0⟩,
  ⟨0xC, 0, 1, .mw, 0xFFFF, 0x0, 0xFFFF, 0x0, 0xA8, 0x0⟩,
  ⟨0x10, 0, 1, .rw, 0xFFFFFFFF, 0x0, 0xFFFFFFFF, 0x0, 0x8102040, 0x0⟩,
  ⟨0x14, 0, 1, .mw, 0xFF, 0x0, 0xFF, 0x0, 0x40, 0x0⟩,
  ⟨0x18, 0, 1, .ro, 0x0, 0x0, 0xFFFF00FF, 0x0, 0xFF, 0x0⟩,
  ⟨0x1C, 0, 1, .ro, 0x0, 0x0, 0xFFFF, 0x0, 0x0, 0x0⟩,
  ⟨0x20, 0, 1, .ro, 0x0, 0x0, 0xFFFFFFFF, 0x0, 0x0, 0x0⟩,
  ⟨0x24, 0, 1, .ro, 0x0, 0x0, 0xFFFF000F, 0x0, 0x0, 0x0⟩,
  ⟨0x28, 0, 1, .ro, 0x0, 0x0, 0xFFFF01FF, 0x0, 0x0, 0x0⟩,
  ⟨0x2C, 0, 1, .mw, 0x3FF, 0x0, 0x3FF, 0x0, 0x0, 0x0⟩,
  ⟨0x30, 0, 1, .rw, 0x7FF, 0x0, 0x7FF, 0x0, 0x0, 0x0⟩,
  ⟨0x34, 0, 1, .ro, 0x0, 0x0, 0xFFFF07FF, 0x0, 0xFF, 0x0⟩,
  ⟨0x38, 0, 1, .ro, 0x0, 0x0, 0xFFFFFFFF, 0x0, 0x0, 0x0⟩,
  ⟨0x3C, 0, 1, .ro, 0x0, 0x0, 0xFFFFFFFF, 0x0, 0x0, 0x0⟩,
  ⟨0x40, 0, 1, .ro, 0x0, 0x0, 0x0, 0x0, 0x0, 0x0⟩,
  ⟨0x60, 8, 8, .ro, 0x0, 0x0, 0xFFFFF03F, 0x0, 0x0, 0x0⟩,
  ⟨0x64, 8, 8, .ro, 0x0, 0x0, 0xFFFFFFFF, 0x0, 0x0, 0x0⟩,
  ⟨0xA0, 16, 4, .ro, 0x0, 0x0, 0xFFFFFFFF, 0x0, 0x0, 0x0⟩,
  ⟨0xA4, 16, 4, .ro, 0x0, 0x0, 0xFFFFFFFF, 0x0, 0x0, 0x0⟩,
  ⟨0xA8, 16, 4, .ro, 0x0, 0x0, 0x3FF, 0x0, 0x0, 0x0⟩,
  ⟨0xAC, 16, 4, .ro, 0x0, 0x0, 0x0, 0x0, 0x0, 0x0⟩]

/-- Page 0x12: R161. -/
def page12 : List RegRow := [
  ⟨0x0, 0, 1, .mw, 0x1, 0x0, 0x1, 0x1, 0x1, 0x1⟩,
  ⟨0x4, 0, 1, .ro, 0x0, 0x0, 0xFFFF0007, 0xFFFF0007, 0x0, 0x0⟩,
  ⟨0x8, 0, 1, .ro, 0x0, 0x0, 0xFFFF, 0xFFFF, 0x0, 0x0⟩,
  ⟨0xC, 0, 1, .rw, 0x1FFFF, 0x0, 0x1FFFF, 0x1FFFF, 0x0, 0x0⟩,
  ⟨0x10, 0, 1, .ro, 0x0, 0x0, 0xFFFF8FFF, 0xFFFF8FFF, 0x0, 0x0⟩,
  ⟨0x14, 0, 1, .ro, 0x0, 0x0, 0xFFFFFFFF, 0xFFFFFFFF, 0x0, 0x0⟩,
  ⟨0x18, 0, 1, .ro, 0x0, 0x0, 0xFFFFFFFF, 0xFFFFFFFF, 0x0, 0x0⟩,
  ⟨0x1C, 0, 1, .ro, 0x0, 0x0, 0xFFFFFFFF, 0xFFFFFFFF, 0x0, 0x0⟩,
  ⟨0x20, 0, 1, .ro, 0x0, 0x0, 0xFFFFFFFF, 0xFFFFFFFF, 0x0, 0x0⟩,
  ⟨0x24, 0, 1, .ro, 0x0, 0x0, 0xFFFFFFFF, 0xFFFFFFFF, 0x0, 0x0⟩,
  ⟨0x100, 0, 1, .ro, 0x0, 0x0, 0xFFFFFFFF, 0xFFFFFFFF, 0x0, 0x0⟩,
  ⟨0x104, 0, 1, .ro, 0x0, 0x0, 0xFFFFFFFF, 0xFFFFFFFF, 0x0, 0x0⟩,
  ⟨0x108, 0, 1, .ro, 0x0, 0x0, 0xFFFFFFFF, 0xFFFFFFFF, 0x0, 0x0⟩,
  ⟨0x10C, 0, 1, .ro, 0x0, 0x0, 0xFFFFFFFF, 0xFFFFFFFF, 0x0, 0x0⟩,
  ⟨0x110, 0, 1, .ro, 0x0, 0x0, 0xFFFFFFFF, 0xFFFFFFFF, 0x0, 0x0⟩,
  ⟨0x114, 0, 1, .ro, 0x0, 0x0, 0xFFFFFFFF, 0xFFFFFFFF, 0x0, 0x0⟩,
  ⟨0x118, 0, 1, .ro, 0x0, 0x0, 0xFFFFFFFF, 0xFFFFFFFF, 0x0, 0x0⟩,
  ⟨0x11C, 0, 1, .ro, 0x0, 0x0, 0xFFFFFFFF, 0xFFFFFFFF, 0x0, 0x0⟩,
  ⟨0x120, 8, 4, .ro, 0x0, 0x0, 0xFFFFFFFF, 0xFFFFFFFF, 0x0, 0x0⟩,
  ⟨0x124, 8, 4, .ro, 0x0, 0x0, 0xFFFFFFFF, 0xFFFFFFFF, 0x0, 0x0⟩,
  ⟨0x140, 0, 1, .ro, 0x0, 0x0, 0xFFFFFFFF, 0xFFFFFFFF, 0x0, 0x0⟩,
  ⟨0x144, 0, 1, .ro, 0x0, 0x0, 0xFFFFFFFF, 0xFFFFFFFF, 0x0, 0x0⟩]

/-- Page 0x40: R359. -/
def page40 : List RegRow := [
  ⟨0x0, 4096, 64, .ro, 0x0, 0x0, 0x3, 0x7, 0x0, 0x0⟩,
  ⟨0x4, 4096, 64, .ro, 0x0, 0x0, 0x3FFFF, 0x3FFFF, 0x0, 0x0⟩,
  ⟨0x8, 4096, 64, .ro, 0x0, 0x0, 0x3FFF, 0x3FFF, 0x0, 0x0⟩,
  ⟨0x10, 4096, 64, .ro, 0x0, 0x0, 0xFFFFFFFF, 0xFFFFFFFF, 0x0, 0x0⟩,
  ⟨0x14, 4096, 64, .ro, 0x0, 0x0, 0xFFFF, 0xFFFF, 0x0, 0x0⟩,
  ⟨0x18, 4096, 64, .ro, 0x0, 0x0, 0xFFFFFFFF, 0xFFFFFFFF, 0x0, 0x0⟩,
  ⟨0x1C, 4096, 64, .ro, 0x0, 0x0, 0xFFFF, 0xFFFF, 0x0, 0x0⟩,
  ⟨0x20, 4096, 64, .ro, 0x0, 0x0, 0xFFFFFFFF, 0xFFFFFFFF, 0x0, 0x0⟩,
  ⟨0x24, 4096, 64, .ro, 0x0, 0x0, 0xFFFF, 0xFFFF, 0x0, 0x0⟩,
  ⟨0x28, 4096, 64, .ro, 0x0, 0x0, 0xFFFFFFFF, 0xFFFFFFFF, 0x0, 0x0⟩,
  ⟨0x2C, 4096, 64, .ro, 0x0, 0x0, 0xFFFFFFFF, 0xFFFFFFFF, 0x0, 0x0⟩]

/-- Page 0x80: R606. -/
def page80 : List RegRow := [
  ⟨0x0, 4096, 36, .mw, 0x3D, 0x0, 0x3D, 0x3D, 0x21, 0x21⟩,
  ⟨0x4, 4096, 36, .ro, 0x0, 0x0, 0xF, 0xF, 0x0, 0x0⟩,
  ⟨0x8, 4096, 36, .ro, 0x0, 0x0, 0xFFFF003F, 0xFFFF003F, 0x0, 0x0⟩,
  ⟨0xC, 4096, 36, .ro, 0x0, 0x0, 0xFFFFFFFF, 0xFFFFFFFF, 0x0, 0x0⟩,
  ⟨0x10, 4096, 36, .ro, 0x0, 0x0, 0xFFFFFFFF, 0xFFFFFFFF, 0x0, 0x0⟩,
  ⟨0x14, 4096, 36, .ro, 0x0, 0x0, 0xFFFFFFFF, 0xFFFFFFFF, 0x0, 0x0⟩,
  ⟨0x18, 4096, 36, .ro, 0x0, 0x0, 0xFFFFFFFF, 0xFFFFFFFF, 0x0, 0x0⟩,
  ⟨0x1C, 4096, 36, .ro, 0x0, 0x0, 0xFFFF, 0xFFFF, 0x0, 0x0⟩,
  ⟨0x20, 4096, 36, .ro, 0x0, 0x0, 0xFFFFFFFF, 0xFFFFFFFF, 0x0, 0x0⟩,
  ⟨0x24, 4096, 36, .ro, 0x0, 0x0, 0xFFFF, 0xFFFF, 0x0, 0x0⟩,
  ⟨0x28, 4096, 36, .ro, 0x0, 0x0, 0xFFFFFFFF, 0xFFFFFFFF, 0x0, 0x0⟩,
  ⟨0x2C, 4096, 36, .ro, 0x0, 0x0, 0xFFFFFFFF, 0xFFFFFFFF, 0x0, 0x0⟩]

/-- The rows of a page; Spindle and Strand port pages hold one instance per page (R704). -/
def pageRows (page : Nat) : List RegRow :=
  match page with
  | 0x0 => page00
  | 0x1 => page01
  | 0x2 => page02
  | 0x3 => page03
  | 0x4 => page04
  | 0x5 => page05
  | 0x6 => page06
  | 0x7 => page07
  | 0x8 => page08
  | 0x9 => page09
  | 0xA => page0A
  | 0xB => page0B
  | 0xC => page0C
  | 0xD => page0D
  | 0xE => page0E
  | 0xF => page0F
  | 0x10 => page10
  | 0x11 => page11
  | 0x12 => page12
  | n => if 0x40 ≤ n ∧ n < 0x80 then page40 else if 0x80 ≤ n ∧ n < 0xA4 then page80 else []

/-- Whether a row covers an offset. -/
def RegRow.covers (r : RegRow) (page off : Nat) : Bool :=
  if r.stride = 0 ∨ page ≥ 0x40 then off == r.off
  else decide (r.off ≤ off) && (off - r.off) % r.stride == 0 && decide ((off - r.off) / r.stride < r.count)

/-- The row of a word address (instance banks above bit 20 are ignored). -/
def rowOf (addr : Nat) : Option RegRow :=
  let page := addr / 4096 % 256
  (pageRows page).find? fun r => r.covers page (addr % 4096)

namespace Reg

/-- R63. -/ def STR_TIER_TIER : RF := ⟨0xD000, 0, 3, 0x0⟩
/-- R63. -/ def STR_TIER_ROOT_ACTIVE : RF := ⟨0xD000, 4, 1, 0x0⟩
/-- R63. -/ def STR_TIER_ROLE_EPOCH : RF := ⟨0xD000, 16, 16, 0x0⟩
/-- R64. -/ def STR_HOMING_PRIMARY_UP : RF := ⟨0xD004, 0, 2, 0x0⟩
/-- R64. -/ def STR_HOMING_ALT_UP : RF := ⟨0xD004, 2, 2, 0x0⟩
/-- R64. -/ def STR_HOMING_DUAL : RF := ⟨0xD004, 4, 1, 0x0⟩
/-- R64. -/ def STR_HOMING_CUR_PARENT : RF := ⟨0xD004, 8, 2, 0x0⟩
/-- R64. -/ def STR_HOMING_FAILOVERS : RF := ⟨0xD004, 16, 8, 0x0⟩
/-- R65. -/ def STR_ADOPT_STAT_USED : RF := ⟨0xD010, 0, 11, 0x0⟩
/-- R65. -/ def STR_ADOPT_STAT_REFUSED : RF := ⟨0xD010, 16, 16, 0x0⟩
/-- R66. -/ def STR_PART_PORTS : RF := ⟨0xD040, 0, 32, 0x4⟩
/-- R66. -/ def STR_PART_FIRST : RF := ⟨0xD040, 0, 11, 0x4⟩
/-- R66. -/ def STR_PART_LAST : RF := ⟨0xD040, 16, 11, 0x4⟩
/-- R66. -/ def STR_PART_VALID : RF := ⟨0xD040, 31, 1, 0x4⟩
/-- R67. -/ def STR_ROUTE_PREFIX : RF := ⟨0xD100, 0, 34, 0x8⟩
/-- R67. -/ def STR_ROUTE_DEPTH : RF := ⟨0xD100, 34, 3, 0x8⟩
/-- R67. -/ def STR_ROUTE_ALT : RF := ⟨0xD100, 45, 1, 0x8⟩
/-- R67. -/ def STR_ROUTE_ACTIVE : RF := ⟨0xD100, 46, 1, 0x8⟩
/-- R67. -/ def STR_ROUTE_VALID : RF := ⟨0xD100, 47, 1, 0x8⟩
/-- R119. -/ def WHL_CTRL_SYNC_IVL : RF := ⟨0x1000, 0, 3, 0x0⟩
/-- R119. -/ def WHL_CTRL_FORCE_HOLD : RF := ⟨0x1000, 4, 1, 0x0⟩
/-- R119. -/ def WHL_CTRL_FWD_STEP : RF := ⟨0x1000, 5, 1, 0x0⟩
/-- R120. -/ def WHL_STATUS_STATE : RF := ⟨0x1004, 0, 3, 0x0⟩
/-- R120. -/ def WHL_STATUS_SOURCE : RF := ⟨0x1004, 3, 2, 0x0⟩
/-- R120. -/ def WHL_STATUS_TIME_PORT : RF := ⟨0x1004, 5, 2, 0x0⟩
/-- R120. -/ def WHL_STATUS_DEGRADED : RF := ⟨0x1004, 7, 1, 0x0⟩
/-- R120. -/ def WHL_STATUS_STEPS : RF := ⟨0x1004, 16, 16, 0x0⟩
/-- R122. -/ def WHL_SERVO_KP_SHIFT : RF := ⟨0x1020, 0, 4, 0x0⟩
/-- R122. -/ def WHL_SERVO_KI_SHIFT : RF := ⟨0x1020, 4, 4, 0x0⟩
/-- R122. -/ def WHL_SERVO_STEP_THR : RF := ⟨0x1020, 8, 4, 0x0⟩
/-- R122. -/ def WHL_SERVO_LOCK_THR : RF := ⟨0x1020, 12, 4, 0x0⟩
/-- R122. -/ def WHL_HOLD_LIMIT : RF := ⟨0x1024, 0, 8, 0x0⟩
/-- R122. -/ def WHL_HOLD_STAB : RF := ⟨0x1024, 8, 8, 0x0⟩
/-- R122. -/ def WHL_ADJ_ADJ : RF := ⟨0x1028, 0, 32, 0x0⟩
/-- R122. -/ def WHL_STEP_STEP : RF := ⟨0x102C, 0, 32, 0x0⟩
/-- R122. -/ def WHL_MEAS_SEQ : RF := ⟨0x1030, 0, 16, 0x0⟩
/-- R122. -/ def WHL_PTP_SYNC_RATE : RF := ⟨0x1034, 0, 4, 0x0⟩
/-- R122. -/ def WHL_PTP_PDELAY_RATE : RF := ⟨0x1034, 4, 4, 0x0⟩
/-- R122. -/ def WHL_PTP_ANN_RATE : RF := ⟨0x1034, 8, 4, 0x0⟩
/-- R122. -/ def WHL_HOLDT_ELAPSED : RF := ⟨0x1038, 0, 32, 0x0⟩
/-- R122. -/ def WHL_UTC_CUR_OFFSET : RF := ⟨0x1040, 0, 16, 0x0⟩
/-- R122. -/ def WHL_UTC_ENTRIES : RF := ⟨0x1040, 16, 8, 0x0⟩
/-- R122. -/ def WHL_UTC_LOADED : RF := ⟨0x1040, 24, 1, 0x0⟩
/-- R122. -/ def WHL_UTC_EXPIRED : RF := ⟨0x1040, 25, 1, 0x0⟩
/-- R122. -/ def WHL_UTC_MISMATCH : RF := ⟨0x1040, 26, 1, 0x0⟩
/-- R122. -/ def WHL_EVT_ARMED : RF := ⟨0x1044, 0, 16, 0x0⟩
/-- R122. -/ def WHL_EVT_LATE : RF := ⟨0x1044, 16, 16, 0x0⟩
/-- R123. -/ def WHL_PLAT_TXLAT : RF := ⟨0x1100, 0, 16, 0x4⟩
/-- R123. -/ def WHL_PLAT_RXLAT : RF := ⟨0x1100, 16, 16, 0x4⟩
/-- R123. -/ def WHL_ASYM_ASYM : RF := ⟨0x11C0, 0, 32, 0x4⟩
/-- R123. -/ def WHL_UPOFF_OFFSET : RF := ⟨0x11D0, 0, 32, 0x4⟩
/-- R123. -/ def WHL_UPMPD_MPD : RF := ⟨0x11E0, 0, 32, 0x4⟩
/-- R125. -/ def WHL_PPS_OUT_EN : RF := ⟨0x13C0, 0, 1, 0x0⟩
/-- R125. -/ def WHL_PPS_IN_EN : RF := ⟨0x13C0, 1, 1, 0x0⟩
/-- R125. -/ def WHL_PPSLAT_OUT_LAT : RF := ⟨0x13C4, 0, 16, 0x0⟩
/-- R125. -/ def WHL_PPSLAT_IN_LAT : RF := ⟨0x13C4, 16, 16, 0x0⟩
/-- R125. -/ def WHL_TOD_BAUD : RF := ⟨0x13C8, 0, 3, 0x0⟩
/-- R125. -/ def WHL_TOD_EN : RF := ⟨0x13C8, 3, 1, 0x0⟩
/-- R125. -/ def WHL_REF_PPS_PRESENT : RF := ⟨0x13CC, 0, 1, 0x0⟩
/-- R125. -/ def WHL_REF_REF10M_PRESENT : RF := ⟨0x13CC, 1, 1, 0x0⟩
/-- R125. -/ def WHL_REF_TOD_VALID : RF := ⟨0x13CC, 2, 1, 0x0⟩
/-- R125. -/ def WHL_REF_TOD_ERRS : RF := ⟨0x13CC, 8, 8, 0x0⟩
/-- R159. -/ def TNS_CTRL_DROOP_EN : RF := ⟨0xF000, 0, 1, 0x0⟩
/-- R159. -/ def TNS_CTRL_REPLAN_EN : RF := ⟨0xF000, 1, 1, 0x0⟩
/-- R159. -/ def TNS_CTRL_REPLAN_IVL : RF := ⟨0xF000, 2, 4, 0x0⟩
/-- R159. -/ def TNS_CTRL_HORIZON : RF := ⟨0xF000, 6, 4, 0x0⟩
/-- R159. -/ def TNS_STATUS_MSTATE : RF := ⟨0xF004, 0, 2, 0x0⟩
/-- R159. -/ def TNS_STATUS_DROOP_LVL : RF := ⟨0xF004, 2, 2, 0x0⟩
/-- R159. -/ def TNS_STATUS_REPLANS : RF := ⟨0xF004, 16, 16, 0x0⟩
/-- R159. -/ def TNS_CYCLE_TWC : RF := ⟨0xF008, 0, 16, 0x0⟩
/-- R159. -/ def TNS_CYCLE_TP : RF := ⟨0xF008, 16, 16, 0x0⟩
/-- R159. -/ def TNS_SCALE_S : RF := ⟨0xF00C, 0, 16, 0x0⟩
/-- R159. -/ def TNS_DROOP_TH1 : RF := ⟨0xF010, 0, 8, 0x0⟩
/-- R159. -/ def TNS_DROOP_TH2 : RF := ⟨0xF010, 8, 8, 0x0⟩
/-- R159. -/ def TNS_DROOPCNT_LVL3 : RF := ⟨0xF014, 0, 16, 0x0⟩
/-- R159. -/ def TNS_DROOPCNT_LVL2 : RF := ⟨0xF014, 16, 16, 0x0⟩
/-- R159. -/ def TNS_COEF_KV : RF := ⟨0xF018, 0, 16, 0x0⟩
/-- R159. -/ def TNS_COEF_KT : RF := ⟨0xF018, 16, 16, 0x0⟩
/-- R159. -/ def TNS_AGE_SLOPE : RF := ⟨0xF01C, 0, 16, 0x0⟩
/-- R159. -/ def TNS_LATE_LATE : RF := ⟨0xF020, 0, 32, 0x0⟩
/-- R159. -/ def TNS_BOUND_BOUND : RF := ⟨0xF040, 0, 24, 0x4⟩
/-- R159. -/ def TNS_TARGET_TARGET : RF := ⟨0xF060, 0, 24, 0x4⟩
/-- R159. -/ def TNS_TARGET_REFUSED : RF := ⟨0xF060, 24, 1, 0x4⟩
/-- R159. -/ def TNS_CAP_CAP : RF := ⟨0xF080, 0, 13, 0x4⟩
/-- R159. -/ def TNS_BURST_BUDGET : RF := ⟨0xF090, 0, 16, 0x4⟩
/-- R161. -/ def LEA_CTRL_AUDIT_EN : RF := ⟨0x12000, 0, 1, 0x0⟩
/-- R161. -/ def LEA_STATUS_SAT : RF := ⟨0x12004, 0, 1, 0x0⟩
/-- R161. -/ def LEA_STATUS_MISMATCH : RF := ⟨0x12004, 1, 1, 0x0⟩
/-- R161. -/ def LEA_STATUS_INVALID : RF := ⟨0x12004, 2, 1, 0x0⟩
/-- R161. -/ def LEA_STATUS_AUDITS : RF := ⟨0x12004, 16, 16, 0x0⟩
/-- R161. -/ def LEA_POINTS_COUNT : RF := ⟨0x12008, 0, 16, 0x0⟩
/-- R161. -/ def LEA_SEL_POINT : RF := ⟨0x1200C, 0, 16, 0x0⟩
/-- R161. -/ def LEA_SEL_CUT : RF := ⟨0x1200C, 16, 1, 0x0⟩
/-- R161. -/ def LEA_PTINFO_KIND : RF := ⟨0x12010, 0, 8, 0x100000⟩
/-- R161. -/ def LEA_PTINFO_UNIT : RF := ⟨0x12010, 8, 4, 0x100000⟩
/-- R161. -/ def LEA_PTINFO_BAD : RF := ⟨0x12010, 15, 1, 0x100000⟩
/-- R161. -/ def LEA_PTINFO_INSTANCE : RF := ⟨0x12010, 16, 16, 0x100000⟩
/-- R161. -/ def LEA_PTRSN_REASONS : RF := ⟨0x12014, 0, 32, 0x100000⟩
/-- R161. -/ def LEA_CUTFT_FT : RF := ⟨0x12018, 0, 64, 0x0⟩
/-- R161. -/ def LEA_EPOCH_FT : RF := ⟨0x12020, 0, 64, 0x0⟩
/-- R161. -/ def LEA_IN_IN : RF := ⟨0x12100, 0, 64, 0x100000⟩
/-- R161. -/ def LEA_COPY_COPY : RF := ⟨0x12108, 0, 64, 0x100000⟩
/-- R161. -/ def LEA_OUT_OUT : RF := ⟨0x12110, 0, 64, 0x100000⟩
/-- R161. -/ def LEA_DUP_DUP : RF := ⟨0x12118, 0, 64, 0x100000⟩
/-- R161. -/ def LEA_DROP_DROP : RF := ⟨0x12120, 0, 64, 0x100000⟩
/-- R161. -/ def LEA_HELD_HELD : RF := ⟨0x12140, 0, 64, 0x100000⟩
/-- R216. -/ def HIF_CTRL_HOST_EN : RF := ⟨0x4000, 0, 1, 0x0⟩
/-- R216. -/ def HIF_CTRL_IRQ_EN : RF := ⟨0x4000, 1, 1, 0x0⟩
/-- R216. -/ def HIF_FNMODE_MODE : RF := ⟨0x4004, 0, 8, 0x0⟩
/-- R216. -/ def HIF_FNSTAT_MODE : RF := ⟨0x4008, 0, 8, 0x0⟩
/-- R216. -/ def HIF_FNSTAT_PENDING : RF := ⟨0x4008, 16, 8, 0x0⟩
/-- R216. -/ def HIF_ERR_PARTIAL : RF := ⟨0x400C, 0, 8, 0x0⟩
/-- R216. -/ def HIF_ERR_AUTH : RF := ⟨0x400C, 8, 8, 0x0⟩
/-- R216. -/ def HIF_ERR_UNMAPPED : RF := ⟨0x400C, 16, 8, 0x0⟩
/-- R216. -/ def HIF_ERR_DBELL : RF := ⟨0x400C, 24, 8, 0x0⟩
/-- R216. -/ def HIF_SIZES_SLICES : RF := ⟨0x4010, 0, 7, 0x0⟩
/-- R216. -/ def HIF_SIZES_SESSIONS : RF := ⟨0x4010, 16, 13, 0x0⟩
/-- R217. -/ def SLC_SEL_SLICE : RF := ⟨0x5000, 0, 6, 0x0⟩
/-- R217. -/ def SLC_QSUM_SUM : RF := ⟨0x5004, 0, 13, 0x0⟩
/-- R217. -/ def SLC_CTRL_ENABLE : RF := ⟨0x5010, 0, 1, 0x100000⟩
/-- R217. -/ def SLC_CTRL_VDEST : RF := ⟨0x5010, 1, 1, 0x100000⟩
/-- R217. -/ def SLC_CTRL_VMODE : RF := ⟨0x5010, 2, 1, 0x100000⟩
/-- R217. -/ def SLC_CTRL_STALL_LIM : RF := ⟨0x5010, 3, 8, 0x100000⟩
/-- R217. -/ def SLC_STATUS_ENABLED : RF := ⟨0x5014, 0, 1, 0x100000⟩
/-- R217. -/ def SLC_STATUS_QUIESCED : RF := ⟨0x5014, 1, 1, 0x100000⟩
/-- R217. -/ def SLC_STATUS_OVERQUOTA : RF := ⟨0x5014, 2, 1, 0x100000⟩
/-- R217. -/ def SLC_STATUS_RING_ERR : RF := ⟨0x5014, 3, 1, 0x100000⟩
/-- R217. -/ def SLC_STATUS_CAUSE : RF := ⟨0x5014, 4, 4, 0x100000⟩
/-- R217. -/ def SLC_STATUS_INFLIGHT : RF := ⟨0x5014, 16, 16, 0x100000⟩
/-- R217. -/ def SLC_PASID_PASID : RF := ⟨0x5018, 0, 20, 0x100000⟩
/-- R217. -/ def SLC_PASID_BOUND : RF := ⟨0x5018, 20, 1, 0x100000⟩
/-- R217. -/ def SLC_QUOTA_QUOTA : RF := ⟨0x501C, 0, 13, 0x100000⟩
/-- R217. -/ def SLC_QUOTA_OPEN : RF := ⟨0x501C, 16, 13, 0x100000⟩
/-- R217. -/ def SLC_CMDBASE_BASE : RF := ⟨0x5020, 0, 64, 0x100000⟩
/-- R217. -/ def SLC_CPLBASE_BASE : RF := ⟨0x5028, 0, 64, 0x100000⟩
/-- R217. -/ def SLC_VRDBASE_BASE : RF := ⟨0x5030, 0, 64, 0x100000⟩
/-- R217. -/ def SLC_VRDMIR_ADDR : RF := ⟨0x5038, 0, 64, 0x100000⟩
/-- R217. -/ def SLC_RINGSZ_CMD : RF := ⟨0x5040, 0, 5, 0x100000⟩
/-- R217. -/ def SLC_RINGSZ_CPL : RF := ⟨0x5040, 8, 5, 0x100000⟩
/-- R217. -/ def SLC_RINGSZ_VRD : RF := ⟨0x5040, 16, 5, 0x100000⟩
/-- R217. -/ def SLC_CMDHEAD_COUNT : RF := ⟨0x5044, 0, 32, 0x100000⟩
/-- R217. -/ def SLC_CMDTAIL_COUNT : RF := ⟨0x5048, 0, 32, 0x100000⟩
/-- R217. -/ def SLC_CPLHEAD_COUNT : RF := ⟨0x504C, 0, 32, 0x100000⟩
/-- R217. -/ def SLC_CPLTAIL_COUNT : RF := ⟨0x5050, 0, 32, 0x100000⟩
/-- R217. -/ def SLC_VRDHEAD_COUNT : RF := ⟨0x5054, 0, 32, 0x100000⟩
/-- R217. -/ def SLC_VRDTAIL_COUNT : RF := ⟨0x5058, 0, 32, 0x100000⟩
/-- R217. -/ def SLC_VSTAT_DROPPED : RF := ⟨0x505C, 0, 16, 0x100000⟩
/-- R217. -/ def SLC_VSTAT_UNDERRUNS : RF := ⟨0x505C, 16, 16, 0x100000⟩
/-- R217. -/ def SLC_VWSTAT_SEQ : RF := ⟨0x5060, 0, 16, 0x100000⟩
/-- R217. -/ def SLC_VWSTAT_VALID : RF := ⟨0x5060, 16, 1, 0x100000⟩
/-- R217. -/ def SLC_VWSTAT_UNDERRUN : RF := ⟨0x5060, 17, 1, 0x100000⟩
/-- R217. -/ def SLC_VWSTAT_NOTREADY : RF := ⟨0x5060, 18, 1, 0x100000⟩
/-- R217. -/ def SLC_VW_WORD : RF := ⟨0x5080, 0, 32, 0x100000⟩
/-- R258. -/ def REEL_CTRL_EN : RF := ⟨0x6000, 0, 1, 0x0⟩
/-- R258. -/ def REEL_CTRL_TAG_EN : RF := ⟨0x6000, 1, 1, 0x0⟩
/-- R258. -/ def REEL_STATUS_BUSY : RF := ⟨0x6004, 0, 1, 0x0⟩
/-- R258. -/ def REEL_STATUS_OVERRUNS : RF := ⟨0x6004, 16, 16, 0x0⟩
/-- R258. -/ def REEL_SIZES_COUNTERS : RF := ⟨0x6008, 0, 14, 0x0⟩
/-- R258. -/ def REEL_SIZES_SLOTSRC : RF := ⟨0x6008, 16, 7, 0x0⟩
/-- R258. -/ def REEL_SIZES_PORTS : RF := ⟨0x6008, 24, 6, 0x0⟩
/-- R258. -/ def REEL_INTRU_HOSTBW : RF := ⟨0x6010, 0, 16, 0x0⟩
/-- R258. -/ def REEL_QUIET_GENMASK : RF := ⟨0x6014, 0, 12, 0x0⟩
/-- R258. -/ def REEL_METER_WAITS : RF := ⟨0x6018, 0, 16, 0x0⟩
/-- R258. -/ def REEL_TAG_PERIOD : RF := ⟨0x6020, 0, 5, 0x0⟩
/-- R258. -/ def REEL_TAG_TIMEOUT : RF := ⟨0x6020, 5, 8, 0x0⟩
/-- R258. -/ def REEL_TAGSEED_SEED : RF := ⟨0x6024, 0, 32, 0x0⟩
/-- R258. -/ def REEL_TAGSRC_SRC : RF := ⟨0x6028, 0, 64, 0x0⟩
/-- R258. -/ def REEL_TAGSEL_SEL : RF := ⟨0x6030, 0, 64, 0x0⟩
/-- R258. -/ def REEL_TAGSTAT_RECORDS : RF := ⟨0x6038, 0, 16, 0x0⟩
/-- R258. -/ def REEL_TAGSTAT_LOST : RF := ⟨0x6038, 16, 16, 0x0⟩
/-- R258. -/ def REEL_DUMPSTAT_DUMPS : RF := ⟨0x603C, 0, 16, 0x0⟩
/-- R258. -/ def REEL_DUMPSTAT_SKIPPED : RF := ⟨0x603C, 16, 16, 0x0⟩
/-- R258. -/ def REEL_SET_GEN : RF := ⟨0x6040, 0, 4, 0x4⟩
/-- R258. -/ def REEL_SET_OPEN_LATCH : RF := ⟨0x6040, 4, 1, 0x4⟩
/-- R258. -/ def REEL_SET_EN : RF := ⟨0x6040, 5, 1, 0x4⟩
/-- R258. -/ def REEL_SETSTAT_COUNT : RF := ⟨0x6080, 0, 14, 0x4⟩
/-- R258. -/ def REEL_SETSTAT_BOUND : RF := ⟨0x6080, 14, 1, 0x4⟩
/-- R258. -/ def REEL_SETSTAT_SCHED : RF := ⟨0x6080, 15, 1, 0x4⟩
/-- R258. -/ def REEL_SETSTAT_SAMPLES : RF := ⟨0x6080, 16, 16, 0x4⟩
/-- R294. -/ def TRC_CTRL_FREEZE : RF := ⟨0x7000, 0, 1, 0x0⟩
/-- R294. -/ def TRC_CTRL_TRIG : RF := ⟨0x7000, 1, 1, 0x0⟩
/-- R294. -/ def TRC_CTRL_DSYNC : RF := ⟨0x7000, 2, 4, 0x0⟩
/-- R294. -/ def TRC_STATUS_STATE : RF := ⟨0x7004, 0, 3, 0x0⟩
/-- R294. -/ def TRC_STATUS_VALID : RF := ⟨0x7004, 3, 1, 0x0⟩
/-- R294. -/ def TRC_STATUS_OWNER : RF := ⟨0x7004, 4, 4, 0x0⟩
/-- R294. -/ def TRC_STATUS_OWNED : RF := ⟨0x7004, 8, 1, 0x0⟩
/-- R294. -/ def TRC_STATUS_CAUSE : RF := ⟨0x7004, 9, 3, 0x0⟩
/-- R294. -/ def TRC_STATUS_EXTRA_TRIG : RF := ⟨0x7004, 16, 16, 0x0⟩
/-- R294. -/ def TRC_TRIG_CAUSES : RF := ⟨0x7008, 0, 6, 0x0⟩
/-- R294. -/ def TRC_TRIG_FLVL : RF := ⟨0x7008, 6, 2, 0x0⟩
/-- R294. -/ def TRC_VKINDS_KINDS : RF := ⟨0x700C, 0, 16, 0x0⟩
/-- R294. -/ def TRC_TRIGFT_FT : RF := ⟨0x7010, 0, 64, 0x0⟩
/-- R294. -/ def TRC_WRCNT_COUNT : RF := ⟨0x7018, 0, 64, 0x0⟩
/-- R294. -/ def TRC_TRIGCNT_COUNT : RF := ⟨0x7020, 0, 64, 0x0⟩
/-- R294. -/ def TRC_OLDCNT_COUNT : RF := ⟨0x7028, 0, 64, 0x0⟩
/-- R294. -/ def TRC_DRAINCNT_COUNT : RF := ⟨0x7030, 0, 64, 0x0⟩
/-- R294. -/ def TRC_SIZES_SOURCES : RF := ⟨0x7038, 0, 6, 0x0⟩
/-- R294. -/ def TRC_ARCHBASE_BASE : RF := ⟨0x7040, 0, 64, 0x0⟩
/-- R294. -/ def TRC_ARCHSIZE_SIZE : RF := ⟨0x7048, 0, 64, 0x0⟩
/-- R294. -/ def TRC_ARCHCTRL_WRAP : RF := ⟨0x7050, 0, 1, 0x0⟩
/-- R294. -/ def TRC_ARCHSEQ_NEWEST : RF := ⟨0x7054, 0, 32, 0x0⟩
/-- R294. -/ def TRC_ARCHOLD_OLDEST : RF := ⟨0x7058, 0, 32, 0x0⟩
/-- R294. -/ def TRC_SRC_PRIO : RF := ⟨0x7100, 0, 3, 0x4⟩
/-- R294. -/ def TRC_SRCSTAT_DROPPED : RF := ⟨0x7180, 0, 16, 0x4⟩
/-- R294. -/ def TRC_SRCSTAT_POWERED : RF := ⟨0x7180, 16, 1, 0x4⟩
/-- R294. -/ def TRC_SRCSTAT_GATE : RF := ⟨0x7180, 17, 1, 0x4⟩
/-- R294. -/ def TRC_SRCSTAT_MALFORMED : RF := ⟨0x7180, 18, 6, 0x4⟩
/-- R294. -/ def TRC_SRCSTAT_FILTERED : RF := ⟨0x7180, 24, 8, 0x4⟩
/-- R294. -/ def TRC_CMP_CTRL_ACTION : RF := ⟨0x7200, 0, 2, 0x10⟩
/-- R294. -/ def TRC_CMP_CTRL_KIND : RF := ⟨0x7200, 2, 2, 0x10⟩
/-- R294. -/ def TRC_CMP_CTRL_RANGE : RF := ⟨0x7200, 4, 1, 0x10⟩
/-- R294. -/ def TRC_CMP_CTRL_IGN : RF := ⟨0x7200, 5, 6, 0x10⟩
/-- R294. -/ def TRC_CMP_SRC_SRC : RF := ⟨0x7204, 0, 32, 0x10⟩
/-- R294. -/ def TRC_CMP_ADDR : RF := ⟨0x7208, 0, 64, 0x10⟩
/-- R323. -/ def CRD_STATUS_OPEN : RF := ⟨0x8000, 0, 13, 0x0⟩
/-- R323. -/ def CRD_STATUS_RUNNING : RF := ⟨0x8000, 16, 13, 0x0⟩
/-- R323. -/ def CRD_SIZES_KEYS : RF := ⟨0x8004, 0, 21, 0x0⟩
/-- R323. -/ def CRD_SIZES_LANES : RF := ⟨0x8004, 24, 3, 0x0⟩
/-- R323. -/ def CRD_KEYUSED_USED : RF := ⟨0x8008, 0, 21, 0x0⟩
/-- R323. -/ def CRD_SEL_SESSION : RF := ⟨0x800C, 0, 12, 0x0⟩
/-- R323. -/ def CRD_SSTATE_STATE : RF := ⟨0x8010, 0, 3, 0x100000⟩
/-- R323. -/ def CRD_SSTATE_ADMITTED : RF := ⟨0x8010, 3, 1, 0x100000⟩
/-- R323. -/ def CRD_SSTATE_CLASS : RF := ⟨0x8010, 4, 3, 0x100000⟩
/-- R323. -/ def CRD_SSTATE_SLICE : RF := ⟨0x8010, 8, 6, 0x100000⟩
/-- R323. -/ def CRD_SSTATE_NFEAT : RF := ⟨0x8010, 16, 11, 0x100000⟩
/-- R323. -/ def CRD_SVECS_VECTORS : RF := ⟨0x8014, 0, 32, 0x100000⟩
/-- R323. -/ def CRD_SNAN_NAN : RF := ⟨0x8018, 0, 16, 0x100000⟩
/-- R323. -/ def CRD_SNAN_SUPPRESSED : RF := ⟨0x8018, 16, 16, 0x100000⟩
/-- R323. -/ def CRD_SMISS_MISSING : RF := ⟨0x801C, 0, 16, 0x100000⟩
/-- R323. -/ def CRD_SMISS_LATE : RF := ⟨0x801C, 16, 16, 0x100000⟩
/-- R323. -/ def CRD_SMASK_MASK : RF := ⟨0x8020, 0, 32, 0x100000⟩
/-- R323. -/ def CRD_SERR_STORE : RF := ⟨0x8024, 0, 16, 0x100000⟩
/-- R358. -/ def SPN_SIZES_SPINDLES : RF := ⟨0x9000, 0, 7, 0x0⟩
/-- R358. -/ def SPN_SIZES_STORE_K : RF := ⟨0x9000, 8, 8, 0x0⟩
/-- R358. -/ def SPN_SIZES_PASS_LIM : RF := ⟨0x9000, 16, 8, 0x0⟩
/-- R358. -/ def SPN_CTRL_STREAM_EN : RF := ⟨0x9004, 0, 1, 0x0⟩
/-- R358. -/ def SPN_LCSIZE_ENTRIES : RF := ⟨0x9008, 0, 23, 0x0⟩
/-- R358. -/ def SPN_LCUSED_USED : RF := ⟨0x900C, 0, 23, 0x0⟩
/-- R358. -/ def SPN_ERR_NODE_PAR : RF := ⟨0x9010, 0, 16, 0x0⟩
/-- R358. -/ def SPN_ERR_CACHE_PAR : RF := ⟨0x9010, 16, 16, 0x0⟩
/-- R358. -/ def SPN_SLUBS_COUNT : RF := ⟨0x9014, 0, 32, 0x0⟩
/-- R358. -/ def SPN_HBMCBASE_BASE : RF := ⟨0x9018, 0, 64, 0x0⟩
/-- R358. -/ def SPN_HBMCSIZE_SIZE : RF := ⟨0x9020, 0, 64, 0x0⟩
/-- R358. -/ def SPN_STRMBYTES_BYTES : RF := ⟨0x9028, 0, 48, 0x0⟩
/-- R359. -/ def SPN_STAT_BUSY : RF := ⟨0x40000, 0, 1, 0x1000⟩
/-- R359. -/ def SPN_STAT_FENCED : RF := ⟨0x40000, 1, 1, 0x1000⟩
/-- R359. -/ def SPN_STAT_STREAMING : RF := ⟨0x40000, 2, 1, 0x1000⟩
/-- R359. -/ def SPN_STOREUSED_RECORDS : RF := ⟨0x40004, 0, 18, 0x1000⟩
/-- R359. -/ def SPN_DIRUSED_ENTRIES : RF := ⟨0x40008, 0, 14, 0x1000⟩
/-- R359. -/ def SPN_CMPS_COUNT : RF := ⟨0x40010, 0, 48, 0x1000⟩
/-- R359. -/ def SPN_TEVAL_COUNT : RF := ⟨0x40018, 0, 48, 0x1000⟩
/-- R359. -/ def SPN_TSKIP_COUNT : RF := ⟨0x40020, 0, 48, 0x1000⟩
/-- R359. -/ def SPN_VECS_COUNT : RF := ⟨0x40028, 0, 32, 0x1000⟩
/-- R359. -/ def SPN_PASSES_COUNT : RF := ⟨0x4002C, 0, 32, 0x1000⟩
/-- R394. -/ def DST_CTRL_PEND : RF := ⟨0xA000, 0, 4, 0x0⟩
/-- R394. -/ def DST_CTRL_MAXW : RF := ⟨0xA000, 4, 7, 0x0⟩
/-- R394. -/ def DST_GRACE_GRACE : RF := ⟨0xA004, 0, 16, 0x0⟩
/-- R394. -/ def DST_SLICE_CYCLES : RF := ⟨0xA008, 0, 16, 0x0⟩
/-- R394. -/ def DST_STATUS_LOADING : RF := ⟨0xA00C, 0, 1, 0x0⟩
/-- R394. -/ def DST_STATUS_WANT : RF := ⟨0xA00C, 1, 1, 0x0⟩
/-- R394. -/ def DST_STATUS_REGISTERED : RF := ⟨0xA00C, 16, 11, 0x0⟩
/-- R394. -/ def DST_SIZES_MODELS : RF := ⟨0xA010, 0, 11, 0x0⟩
/-- R394. -/ def DST_SIZES_EXTENTS : RF := ⟨0xA010, 16, 12, 0x0⟩
/-- R394. -/ def DST_GEN_GEN : RF := ⟨0xA014, 0, 32, 0x0⟩
/-- R394. -/ def DST_EVSTAT_EVICTIONS : RF := ⟨0xA018, 0, 16, 0x0⟩
/-- R394. -/ def DST_EVSTAT_WANTED : RF := ⟨0xA018, 16, 16, 0x0⟩
/-- R394. -/ def DST_LOADS_LOADS : RF := ⟨0xA01C, 0, 16, 0x0⟩
/-- R394. -/ def DST_LOADS_RELOADS : RF := ⟨0xA01C, 16, 16, 0x0⟩
/-- R394. -/ def DST_HBMMBASE_BASE : RF := ⟨0xA020, 0, 64, 0x0⟩
/-- R394. -/ def DST_HBMMSIZE_SIZE : RF := ⟨0xA028, 0, 64, 0x0⟩
/-- R394. -/ def DST_HBMMUSED_USED : RF := ⟨0xA030, 0, 64, 0x0⟩
/-- R394. -/ def DST_MSEL_SLOT : RF := ⟨0xA040, 0, 10, 0x0⟩
/-- R394. -/ def DST_MSTAT_STATE : RF := ⟨0xA044, 0, 3, 0x100000⟩
/-- R394. -/ def DST_MSTAT_PIN : RF := ⟨0xA044, 3, 1, 0x100000⟩
/-- R394. -/ def DST_MSTAT_WIDTH : RF := ⟨0xA044, 4, 7, 0x100000⟩
/-- R394. -/ def DST_MSTAT_BINDS : RF := ⟨0xA044, 16, 13, 0x100000⟩
/-- R394. -/ def DST_MHANDLE_HANDLE : RF := ⟨0xA048, 0, 24, 0x100000⟩
/-- R394. -/ def DST_MHANDLE_SLICE : RF := ⟨0xA048, 24, 6, 0x100000⟩
/-- R394. -/ def DST_MGEN_GEN : RF := ⟨0xA04C, 0, 32, 0x100000⟩
/-- R394. -/ def DST_MSPN_SPINDLES : RF := ⟨0xA050, 0, 64, 0x100000⟩
/-- R394. -/ def DST_MEXT_EXTENTS : RF := ⟨0xA058, 0, 18, 0x100000⟩
/-- R394. -/ def DST_SSEL_SESSION : RF := ⟨0xA080, 0, 12, 0x0⟩
/-- R394. -/ def DST_SSTAT_SCHED : RF := ⟨0xA084, 0, 2, 0x100000⟩
/-- R394. -/ def DST_SSTAT_PROTECTED : RF := ⟨0xA084, 2, 1, 0x100000⟩
/-- R394. -/ def DST_SSTAT_PEND : RF := ⟨0xA084, 3, 5, 0x100000⟩
/-- R394. -/ def DST_SSTAT_SKIPPED : RF := ⟨0xA084, 16, 16, 0x100000⟩
/-- R394. -/ def DST_SDEBT_DEBT : RF := ⟨0xA088, 0, 8, 0x100000⟩
/-- R394. -/ def DST_SBLOCK_BLOCKED : RF := ⟨0xA08C, 0, 32, 0x100000⟩
/-- R434. -/ def TWS_CTRL_EN : RF := ⟨0xB000, 0, 1, 0x0⟩
/-- R434. -/ def TWS_CLOSE0_NS : RF := ⟨0xB004, 0, 16, 0x0⟩
/-- R434. -/ def TWS_STEP_NS : RF := ⟨0xB008, 0, 16, 0x0⟩
/-- R434. -/ def TWS_AMEND_US : RF := ⟨0xB00C, 0, 16, 0x0⟩
/-- R434. -/ def TWS_SIZES_MERGES : RF := ⟨0xB010, 0, 13, 0x0⟩
/-- R434. -/ def TWS_SIZES_PARTS : RF := ⟨0xB010, 16, 11, 0x0⟩
/-- R434. -/ def TWS_SINKS_SIZE : RF := ⟨0xB014, 0, 9, 0x0⟩
/-- R434. -/ def TWS_SINKS_USED : RF := ⟨0xB014, 16, 9, 0x0⟩
/-- R434. -/ def TWS_STATUS_OPEN : RF := ⟨0xB018, 0, 13, 0x0⟩
/-- R434. -/ def TWS_STATUS_PUSED : RF := ⟨0xB018, 16, 11, 0x0⟩
/-- R434. -/ def TWS_PASS_RAW : RF := ⟨0xB01C, 0, 16, 0x0⟩
/-- R434. -/ def TWS_PASS_AMENDS : RF := ⟨0xB01C, 16, 16, 0x0⟩
/-- R434. -/ def TWS_REPLAY_FOLDED : RF := ⟨0xB020, 0, 16, 0x0⟩
/-- R434. -/ def TWS_REPLAY_DUP : RF := ⟨0xB020, 16, 16, 0x0⟩
/-- R434. -/ def TWS_NOSINK_COUNT : RF := ⟨0xB024, 0, 32, 0x0⟩
/-- R434. -/ def TWS_CUT_LAST : RF := ⟨0xB028, 0, 24, 0x0⟩
/-- R434. -/ def TWS_CUT_PENDING : RF := ⟨0xB028, 24, 4, 0x0⟩
/-- R434. -/ def TWS_CUT_COMPLETE : RF := ⟨0xB028, 28, 1, 0x0⟩
/-- R434. -/ def TWS_AUTH_ENTRIES : RF := ⟨0xB02C, 0, 7, 0x0⟩
/-- R434. -/ def TWS_SAT_IVL : RF := ⟨0xB030, 0, 4, 0x0⟩
/-- R434. -/ def TWS_SATSTAT_QUEUED : RF := ⟨0xB034, 0, 7, 0x0⟩
/-- R434. -/ def TWS_SATSTAT_LOST : RF := ⟨0xB034, 16, 16, 0x0⟩
/-- R462. -/ def TWS_RKSEL_RULE : RF := ⟨0xB040, 0, 6, 0x0⟩
/-- R462. -/ def TWS_RKSIZE_RULES : RF := ⟨0xB044, 0, 7, 0x0⟩
/-- R462. -/ def TWS_RKCTRL_EN : RF := ⟨0xB050, 0, 1, 0x100000⟩
/-- R462. -/ def TWS_RKCTRL_KIND : RF := ⟨0xB050, 1, 1, 0x100000⟩
/-- R462. -/ def TWS_RKCTRL_DIR : RF := ⟨0xB050, 2, 1, 0x100000⟩
/-- R462. -/ def TWS_RKCTRL_POP_EN : RF := ⟨0xB050, 3, 1, 0x100000⟩
/-- R462. -/ def TWS_RKCTRL_OWN_EN : RF := ⟨0xB050, 4, 1, 0x100000⟩
/-- R462. -/ def TWS_RKCTRL_ERR : RF := ⟨0xB050, 5, 1, 0x100000⟩
/-- R462. -/ def TWS_RKSRC_RID : RF := ⟨0xB054, 0, 16, 0x100000⟩
/-- R462. -/ def TWS_RKSRC_SESSION : RF := ⟨0xB054, 16, 12, 0x100000⟩
/-- R462. -/ def TWS_RKQ_STRAG_Q : RF := ⟨0xB058, 0, 17, 0x100000⟩
/-- R462. -/ def TWS_RKGAP_GAP : RF := ⟨0xB05C, 0, 32, 0x100000⟩
/-- R462. -/ def TWS_RKMIN_MIN_N : RF := ⟨0xB060, 0, 6, 0x100000⟩
/-- R462. -/ def TWS_DRK_K : RF := ⟨0xB064, 0, 16, 0x100000⟩
/-- R462. -/ def TWS_DRH_H : RF := ⟨0xB068, 0, 32, 0x100000⟩
/-- R462. -/ def TWS_DROWN_FAST : RF := ⟨0xB06C, 0, 4, 0x100000⟩
/-- R462. -/ def TWS_DROWN_SLOW : RF := ⟨0xB06C, 4, 4, 0x100000⟩
/-- R462. -/ def TWS_DRDK_DK : RF := ⟨0xB070, 0, 32, 0x100000⟩
/-- R462. -/ def TWS_RKSTAT_IN_STRAG : RF := ⟨0xB074, 0, 1, 0x100000⟩
/-- R462. -/ def TWS_RKSTAT_IN_POP_HI : RF := ⟨0xB074, 1, 1, 0x100000⟩
/-- R462. -/ def TWS_RKSTAT_IN_POP_LO : RF := ⟨0xB074, 2, 1, 0x100000⟩
/-- R462. -/ def TWS_RKSTAT_IN_OWN : RF := ⟨0xB074, 3, 1, 0x100000⟩
/-- R462. -/ def TWS_RKSTAT_ARMED : RF := ⟨0xB074, 4, 1, 0x100000⟩
/-- R462. -/ def TWS_RKSTAT_HELD : RF := ⟨0xB074, 5, 3, 0x100000⟩
/-- R462. -/ def TWS_RKSTAT_EXPIRED : RF := ⟨0xB074, 16, 16, 0x100000⟩
/-- R462. -/ def TWS_RKLAST_F : RF := ⟨0xB078, 0, 17, 0x100000⟩
/-- R462. -/ def TWS_RKLAST_NONE : RF := ⟨0xB078, 17, 1, 0x100000⟩
/-- R462. -/ def TWS_RKRES_RESULTS : RF := ⟨0xB07C, 0, 32, 0x100000⟩
/-- R462. -/ def TWS_RKFT_FT : RF := ⟨0xB080, 0, 64, 0x100000⟩
/-- R462. -/ def TWS_DRSHI_SHI : RF := ⟨0xB088, 0, 32, 0x100000⟩
/-- R462. -/ def TWS_DRSLO_SLO : RF := ⟨0xB08C, 0, 32, 0x100000⟩
/-- R462. -/ def TWS_PUBCTRL_SEND : RF := ⟨0xB090, 0, 1, 0x0⟩
/-- R462. -/ def TWS_PUBCTRL_ERR : RF := ⟨0xB090, 1, 1, 0x0⟩
/-- R462. -/ def TWS_PUBSTAT_SENT : RF := ⟨0xB094, 0, 16, 0x0⟩
/-- R462. -/ def TWS_PUBSTAT_NOMATCH : RF := ⟨0xB094, 16, 16, 0x0⟩
/-- R462. -/ def TWS_PUBW_WORD : RF := ⟨0xB100, 0, 32, 0x4⟩
/-- R497. -/ def PLY_CTRL_EN : RF := ⟨0xC000, 0, 1, 0x0⟩
/-- R497. -/ def PLY_SIZES_JOBS : RF := ⟨0xC004, 0, 9, 0x0⟩
/-- R497. -/ def PLY_SIZES_REPL : RF := ⟨0xC004, 16, 7, 0x0⟩
/-- R497. -/ def PLY_BUDCFG_CAP : RF := ⟨0xC008, 0, 4, 0x0⟩
/-- R497. -/ def PLY_BUDCFG_REFILL : RF := ⟨0xC008, 4, 12, 0x0⟩
/-- R497. -/ def PLY_BUDCFG_QUIET : RF := ⟨0xC008, 16, 16, 0x0⟩
/-- R497. -/ def PLY_STAT_ROUNDS : RF := ⟨0xC00C, 0, 16, 0x0⟩
/-- R497. -/ def PLY_STAT_LOSSES : RF := ⟨0xC00C, 16, 16, 0x0⟩
/-- R497. -/ def PLY_EXPSTAT_EXPELLED : RF := ⟨0xC010, 0, 16, 0x0⟩
/-- R497. -/ def PLY_EXPSTAT_SUSPECTED : RF := ⟨0xC010, 16, 16, 0x0⟩
/-- R497. -/ def PLY_DIGSTAT_INCOMPLETE : RF := ⟨0xC014, 0, 16, 0x0⟩
/-- R497. -/ def PLY_DIGSTAT_LATE : RF := ⟨0xC014, 16, 16, 0x0⟩
/-- R497. -/ def PLY_TAPERR_UNKNOWN : RF := ⟨0xC018, 0, 16, 0x0⟩
/-- R497. -/ def PLY_TAPERR_STALE : RF := ⟨0xC018, 16, 16, 0x0⟩
/-- R497. -/ def PLY_BUD_TOKENS : RF := ⟨0xC040, 0, 4, 0x4⟩
/-- R497. -/ def PLY_BUD_STORM : RF := ⟨0xC040, 4, 1, 0x4⟩
/-- R497. -/ def PLY_BUD_SPENT : RF := ⟨0xC040, 16, 16, 0x4⟩
/-- R497. -/ def PLY_JSEL_JOB : RF := ⟨0xC080, 0, 8, 0x0⟩
/-- R497. -/ def PLY_JSTAT_VALID : RF := ⟨0xC084, 0, 1, 0x100000⟩
/-- R497. -/ def PLY_JSTAT_SLICE : RF := ⟨0xC084, 8, 6, 0x100000⟩
/-- R497. -/ def PLY_JSTAT_MEMBERS : RF := ⟨0xC084, 16, 6, 0x100000⟩
/-- R497. -/ def PLY_JSTAT_REPLICAS : RF := ⟨0xC084, 24, 6, 0x100000⟩
/-- R497. -/ def PLY_JSTAT_OPEN : RF := ⟨0xC084, 30, 2, 0x100000⟩
/-- R497. -/ def PLY_JEXP_EXPELLED : RF := ⟨0xC088, 0, 32, 0x100000⟩
/-- R497. -/ def PLY_JSUS_SUSPECT : RF := ⟨0xC08C, 0, 32, 0x100000⟩
/-- R497. -/ def PLY_JSTEP_STEP : RF := ⟨0xC090, 0, 32, 0x100000⟩
/-- R497. -/ def PLY_JLAST_RESULT : RF := ⟨0xC094, 0, 3, 0x100000⟩
/-- R497. -/ def PLY_JLAST_HOLDS : RF := ⟨0xC094, 8, 8, 0x100000⟩
/-- R497. -/ def PLY_JPOL_EVERY : RF := ⟨0xC098, 0, 16, 0x100000⟩
/-- R497. -/ def PLY_JPOL_WAIT : RF := ⟨0xC098, 16, 16, 0x100000⟩
/-- R539. -/ def SNG_CTRL_EXPEL_DEAD : RF := ⟨0x2000, 0, 1, 0x0⟩
/-- R539. -/ def SNG_CTRL_VSLICE : RF := ⟨0x2000, 1, 6, 0x0⟩
/-- R539. -/ def SNG_STATUS_LEVEL : RF := ⟨0x2004, 0, 2, 0x0⟩
/-- R539. -/ def SNG_STATUS_STOPPED : RF := ⟨0x2004, 2, 1, 0x0⟩
/-- R539. -/ def SNG_STATUS_ALIVE_RUN : RF := ⟨0x2004, 3, 1, 0x0⟩
/-- R539. -/ def SNG_STATUS_RAISED : RF := ⟨0x2004, 16, 16, 0x0⟩
/-- R539. -/ def SNG_UNACK_CLASS : RF := ⟨0x2008, 0, 16, 0x0⟩
/-- R539. -/ def SNG_CAP_CAPS : RF := ⟨0x200C, 0, 32, 0x0⟩
/-- R539. -/ def SNG_FQSTAT_COUNT : RF := ⟨0x2010, 0, 9, 0x0⟩
/-- R539. -/ def SNG_FQSTAT_LOST : RF := ⟨0x2010, 16, 16, 0x0⟩
/-- R539. -/ def SNG_FPOP_POP : RF := ⟨0x2014, 0, 1, 0x0⟩
/-- R539. -/ def SNG_FENCE_UNIT : RF := ⟨0x2018, 0, 11, 0x0⟩
/-- R539. -/ def SNG_FENCE_PART : RF := ⟨0x2018, 11, 4, 0x0⟩
/-- R539. -/ def SNG_FENCE_SCOPE : RF := ⟨0x2018, 15, 2, 0x0⟩
/-- R539. -/ def SNG_FENCE_GO : RF := ⟨0x2018, 17, 1, 0x0⟩
/-- R539. -/ def SNG_FSTAT_PARTS : RF := ⟨0x201C, 0, 16, 0x0⟩
/-- R539. -/ def SNG_FSTAT_REPEATS : RF := ⟨0x201C, 16, 16, 0x0⟩
/-- R539. -/ def SNG_FOUT_FENCED : RF := ⟨0x2020, 0, 64, 0x0⟩
/-- R539. -/ def SNG_WDOG_LIM : RF := ⟨0x2028, 0, 16, 0x0⟩
/-- R539. -/ def SNG_THERM_WARN : RF := ⟨0x202C, 0, 8, 0x0⟩
/-- R539. -/ def SNG_THERM_TRIP : RF := ⟨0x202C, 8, 8, 0x0⟩
/-- R539. -/ def SNG_LOGMASK_MASK : RF := ⟨0x2030, 0, 16, 0x0⟩
/-- R539. -/ def SNG_RES_BURST : RF := ⟨0x2034, 0, 16, 0x0⟩
/-- R539. -/ def SNG_RES_RATE : RF := ⟨0x2034, 16, 16, 0x0⟩
/-- R539. -/ def SNG_FW_WORD : RF := ⟨0x2040, 0, 32, 0x4⟩
/-- R539. -/ def SNG_DSEL_PORT : RF := ⟨0x2060, 0, 5, 0x0⟩
/-- R539. -/ def SNG_DSTATE_STATE : RF := ⟨0x2064, 0, 3, 0x100000⟩
/-- R539. -/ def SNG_DSTATE_EVAL : RF := ⟨0x2064, 3, 1, 0x100000⟩
/-- R539. -/ def SNG_DSTATE_SILENT : RF := ⟨0x2064, 4, 1, 0x100000⟩
/-- R539. -/ def SNG_DSTATE_SUSPECT : RF := ⟨0x2064, 5, 1, 0x100000⟩
/-- R539. -/ def SNG_DSTATE_CLAIMED : RF := ⟨0x2064, 6, 1, 0x100000⟩
/-- R539. -/ def SNG_DSTATE_CHANGES : RF := ⟨0x2064, 16, 16, 0x100000⟩
/-- R539. -/ def SNG_DLASTHB_US : RF := ⟨0x2068, 0, 32, 0x100000⟩
/-- R539. -/ def SNG_DLASTEV_US : RF := ⟨0x206C, 0, 32, 0x100000⟩
/-- R539. -/ def SNG_DPROG_PROG : RF := ⟨0x2070, 0, 32, 0x100000⟩
/-- R539. -/ def SNG_DCMD_RESTORE : RF := ⟨0x2074, 0, 1, 0x100000⟩
/-- R539. -/ def SNG_DEAD_US : RF := ⟨0x2078, 0, 16, 0x0⟩
/-- R539. -/ def SNG_SILENT_US : RF := ⟨0x207C, 0, 16, 0x0⟩
/-- R539. -/ def SNG_PEERIVL_US : RF := ⟨0x2080, 0, 16, 0x0⟩
/-- R539. -/ def SNG_STALL_US : RF := ⟨0x2084, 0, 32, 0x0⟩
/-- R539. -/ def SNG_PROGSEL_SRC : RF := ⟨0x2088, 0, 2, 0x0⟩
/-- R539. -/ def SNG_PROGSEL_ENTRY : RF := ⟨0x2088, 2, 6, 0x0⟩
/-- R539. -/ def SNG_CLAIM_SUBJECT : RF := ⟨0x2090, 0, 48, 0x0⟩
/-- R539. -/ def SNG_DSTAT_DISAGREE : RF := ⟨0x2098, 0, 16, 0x0⟩
/-- R539. -/ def SNG_DSTAT_CLAIMS : RF := ⟨0x2098, 16, 16, 0x0⟩
/-- R539. -/ def SNG_HARD_USED : RF := ⟨0x209C, 0, 11, 0x0⟩
/-- R539. -/ def SNG_HARD_REFUSED : RF := ⟨0x209C, 16, 16, 0x0⟩
/-- R539. -/ def SNG_ALIVEW_WIRED : RF := ⟨0x20A0, 0, 32, 0x0⟩
/-- R539. -/ def SNG_UEXP_COUNT : RF := ⟨0x20A4, 0, 7, 0x0⟩
/-- R539. -/ def SNG_FMAP_UNIT : RF := ⟨0x2100, 0, 11, 0x4⟩
/-- R539. -/ def SNG_FMAP_VALID : RF := ⟨0x2100, 31, 1, 0x4⟩
/-- R539. -/ def SNG_PEER_PEER : RF := ⟨0x2200, 0, 48, 0x8⟩
/-- R539. -/ def SNG_PEER_VALID : RF := ⟨0x2200, 63, 1, 0x8⟩
/-- R565. -/ def STP_CTRL_EN : RF := ⟨0x11000, 0, 1, 0x0⟩
/-- R565. -/ def STP_CTRL_AUTORETIRE : RF := ⟨0x11000, 1, 1, 0x0⟩
/-- R565. -/ def STP_CTRL_FAIL_LVL : RF := ⟨0x11000, 2, 1, 0x0⟩
/-- R565. -/ def STP_CTRL_RET_FENCE : RF := ⟨0x11000, 3, 1, 0x0⟩
/-- R565. -/ def STP_CTRL_VSLICE : RF := ⟨0x11000, 4, 6, 0x0⟩
/-- R565. -/ def STP_STATUS_RUNNING : RF := ⟨0x11004, 0, 1, 0x0⟩
/-- R565. -/ def STP_STATUS_IN_SAFE : RF := ⟨0x11004, 1, 1, 0x0⟩
/-- R565. -/ def STP_STATUS_PKGS : RF := ⟨0x11004, 2, 3, 0x0⟩
/-- R565. -/ def STP_STATUS_RUN_ERR : RF := ⟨0x11004, 5, 1, 0x0⟩
/-- R565. -/ def STP_STATUS_TESTS : RF := ⟨0x11004, 16, 11, 0x0⟩
/-- R565. -/ def STP_MAXDEF_HOURS : RF := ⟨0x11008, 0, 16, 0x0⟩
/-- R565. -/ def STP_HHALF_HOURS : RF := ⟨0x1100C, 0, 16, 0x0⟩
/-- R565. -/ def STP_HWEIGHT_W_FAIL : RF := ⟨0x11010, 0, 8, 0x0⟩
/-- R565. -/ def STP_HWEIGHT_W_TCHK : RF := ⟨0x11010, 8, 8, 0x0⟩
/-- R565. -/ def STP_HWEIGHT_W_VLOSS : RF := ⟨0x11010, 16, 8, 0x0⟩
/-- R565. -/ def STP_HWEIGHT_W_OVD : RF := ⟨0x11010, 24, 8, 0x0⟩
/-- R565. -/ def STP_RETIRE_THR : RF := ⟨0x11014, 0, 8, 0x0⟩
/-- R565. -/ def STP_DIE_SCORE : RF := ⟨0x11018, 0, 8, 0x0⟩
/-- R565. -/ def STP_DIE_OVERDUE : RF := ⟨0x11018, 16, 16, 0x0⟩
/-- R565. -/ def STP_KEYID_KEYID : RF := ⟨0x1101C, 0, 16, 0x0⟩
/-- R565. -/ def STP_HOSTID_HOSTID : RF := ⟨0x11020, 0, 32, 0x0⟩
/-- R565. -/ def STP_SPSTAT_PENDING : RF := ⟨0x11024, 0, 4, 0x0⟩
/-- R565. -/ def STP_SPSTAT_DECLARED : RF := ⟨0x11024, 16, 16, 0x0⟩
/-- R565. -/ def STP_RQSTAT_COUNT : RF := ⟨0x11028, 0, 9, 0x0⟩
/-- R565. -/ def STP_RQSTAT_LOST : RF := ⟨0x11028, 16, 16, 0x0⟩
/-- R565. -/ def STP_RUN_TEST : RF := ⟨0x1102C, 0, 8, 0x0⟩
/-- R565. -/ def STP_RUN_SLOT : RF := ⟨0x1102C, 8, 2, 0x0⟩
/-- R565. -/ def STP_RUN_GO : RF := ⟨0x1102C, 10, 1, 0x0⟩
/-- R565. -/ def STP_USEL_UNIT : RF := ⟨0x11030, 0, 11, 0x0⟩
/-- R565. -/ def STP_USTAT_SCORE : RF := ⟨0x11034, 0, 8, 0x100000⟩
/-- R565. -/ def STP_USTAT_RETIRED : RF := ⟨0x11034, 8, 1, 0x100000⟩
/-- R565. -/ def STP_USTAT_SUSPECT : RF := ⟨0x11034, 9, 1, 0x100000⟩
/-- R565. -/ def STP_USTAT_HELD : RF := ⟨0x11034, 10, 1, 0x100000⟩
/-- R565. -/ def STP_USTAT_DEFER : RF := ⟨0x11034, 16, 16, 0x100000⟩
/-- R565. -/ def STP_UNTESTED_FT : RF := ⟨0x11038, 0, 64, 0x100000⟩
/-- R565. -/ def STP_UCMD_RESTORE : RF := ⟨0x11040, 0, 1, 0x100000⟩
/-- R565. -/ def STP_WIN_LOG2 : RF := ⟨0x11060, 0, 6, 0x8⟩
/-- R565. -/ def STP_WIN_BASE : RF := ⟨0x11060, 12, 52, 0x8⟩
/-- R565. -/ def STP_PKG_PKGID : RF := ⟨0x110A0, 0, 32, 0x10⟩
/-- R565. -/ def STP_PKG_PKGVER : RF := ⟨0x110A4, 0, 32, 0x10⟩
/-- R565. -/ def STP_PKG_NTEST : RF := ⟨0x110A8, 0, 9, 0x10⟩
/-- R565. -/ def STP_PKG_VALID : RF := ⟨0x110A8, 9, 1, 0x10⟩
/-- R605. -/ def STR_CTRL_VSLICE : RF := ⟨0xD008, 0, 6, 0x0⟩
/-- R605. -/ def STR_CTRL_AUTORETURN : RF := ⟨0xD008, 6, 1, 0x0⟩
/-- R605. -/ def STR_RETURN_MS : RF := ⟨0xD00C, 0, 16, 0x0⟩
/-- R605. -/ def STR_UPSTAT_UP : RF := ⟨0xD014, 0, 4, 0x0⟩
/-- R605. -/ def STR_UPSTAT_LOSSES : RF := ⟨0xD014, 16, 16, 0x0⟩
/-- R605. -/ def STR_DNUP_UP : RF := ⟨0xD018, 0, 32, 0x0⟩
/-- R605. -/ def STR_STARTCFG_MIN : RF := ⟨0xD01C, 0, 16, 0x0⟩
/-- R605. -/ def STR_STARTCFG_LEAD : RF := ⟨0xD01C, 16, 16, 0x0⟩
/-- R605. -/ def STR_STARTSTAT_PENDING : RF := ⟨0xD020, 0, 4, 0x0⟩
/-- R605. -/ def STR_STARTSTAT_MISSED : RF := ⟨0xD020, 8, 8, 0x0⟩
/-- R605. -/ def STR_STARTSTAT_LATECOMMIT : RF := ⟨0xD020, 16, 8, 0x0⟩
/-- R605. -/ def STR_STARTSTAT_ABORTS : RF := ⟨0xD020, 24, 8, 0x0⟩
/-- R605. -/ def STR_BCSTAT_DUP : RF := ⟨0xD024, 0, 16, 0x0⟩
/-- R605. -/ def STR_BCSTAT_EVICT : RF := ⟨0xD024, 16, 16, 0x0⟩
/-- R605. -/ def STR_RTXBASE_BASE : RF := ⟨0xD028, 0, 64, 0x0⟩
/-- R605. -/ def STR_RTXSIZE_SIZE : RF := ⟨0xD030, 0, 64, 0x0⟩
/-- R605. -/ def STR_LASTSTART_FT : RF := ⟨0xD080, 0, 64, 0x0⟩
/-- R606. -/ def STR_PCTRL_EN : RF := ⟨0x80000, 0, 1, 0x1000⟩
/-- R606. -/ def STR_PCTRL_RETRAIN : RF := ⟨0x80000, 1, 1, 0x1000⟩
/-- R606. -/ def STR_PCTRL_UNCORR_LIM : RF := ⟨0x80000, 2, 4, 0x1000⟩
/-- R606. -/ def STR_PCFG_LANES : RF := ⟨0x80004, 0, 3, 0x1000⟩
/-- R606. -/ def STR_PCFG_RATE : RF := ⟨0x80004, 3, 1, 0x1000⟩
/-- R606. -/ def STR_PSTAT_STATE : RF := ⟨0x80008, 0, 3, 0x1000⟩
/-- R606. -/ def STR_PSTAT_ADMITTED : RF := ⟨0x80008, 3, 1, 0x1000⟩
/-- R606. -/ def STR_PSTAT_RESERVABLE : RF := ⟨0x80008, 4, 1, 0x1000⟩
/-- R606. -/ def STR_PSTAT_HOMED : RF := ⟨0x80008, 5, 1, 0x1000⟩
/-- R606. -/ def STR_PSTAT_LINKUPS : RF := ⟨0x80008, 16, 16, 0x1000⟩
/-- R606. -/ def STR_PERR_CRCERR : RF := ⟨0x8000C, 0, 16, 0x1000⟩
/-- R606. -/ def STR_PERR_UNCORR : RF := ⟨0x8000C, 16, 16, 0x1000⟩
/-- R606. -/ def STR_PRETRY_RETRIES : RF := ⟨0x80010, 0, 16, 0x1000⟩
/-- R606. -/ def STR_PRETRY_NAKS : RF := ⟨0x80010, 16, 16, 0x1000⟩
/-- R606. -/ def STR_PCRED_RES : RF := ⟨0x80014, 0, 16, 0x1000⟩
/-- R606. -/ def STR_PCRED_BE : RF := ⟨0x80014, 16, 16, 0x1000⟩
/-- R606. -/ def STR_PRTX_FRAMES : RF := ⟨0x80018, 0, 16, 0x1000⟩
/-- R606. -/ def STR_PRTX_KIB : RF := ⟨0x80018, 16, 16, 0x1000⟩
/-- R606. -/ def STR_PRTXCAP_KIB : RF := ⟨0x8001C, 0, 16, 0x1000⟩
/-- R606. -/ def STR_PSTALL_RTXFULL : RF := ⟨0x80020, 0, 16, 0x1000⟩
/-- R606. -/ def STR_PSTALL_CREDIT : RF := ⟨0x80020, 16, 16, 0x1000⟩
/-- R606. -/ def STR_PUNAUTH_COUNT : RF := ⟨0x80024, 0, 16, 0x1000⟩
/-- R606. -/ def STR_PTXSEQ_SEQ : RF := ⟨0x80028, 0, 32, 0x1000⟩
/-- R606. -/ def STR_PRXSEQ_SEQ : RF := ⟨0x8002C, 0, 32, 0x1000⟩
/-- R629. -/ def BOB_CELLS_CELLS : RF := ⟨0xE000, 0, 19, 0x0⟩
/-- R629. -/ def BOB_FREE_FREE : RF := ⟨0xE004, 0, 19, 0x0⟩
/-- R629. -/ def BOB_RSHARE_SHARE : RF := ⟨0xE008, 0, 19, 0x0⟩
/-- R629. -/ def BOB_RUSED_USED : RF := ⟨0xE00C, 0, 19, 0x0⟩
/-- R629. -/ def BOB_QCOUNT_QUEUES : RF := ⟨0xE010, 0, 14, 0x0⟩
/-- R629. -/ def BOB_ERR_PARITY : RF := ⟨0xE014, 0, 16, 0x0⟩
/-- R629. -/ def BOB_ERR_SCRUBS : RF := ⟨0xE014, 16, 16, 0x0⟩
/-- R629. -/ def BOB_STAT_RSTALL : RF := ⟨0xE018, 0, 16, 0x0⟩
/-- R629. -/ def BOB_STAT_DYNFAIL : RF := ⟨0xE018, 16, 16, 0x0⟩
/-- R629. -/ def BOB_QSEL_QUEUE : RF := ⟨0xE020, 0, 13, 0x0⟩
/-- R629. -/ def BOB_QLIM_LIMIT : RF := ⟨0xE024, 0, 19, 0x100000⟩
/-- R629. -/ def BOB_QGUAR_GUAR : RF := ⟨0xE028, 0, 16, 0x100000⟩
/-- R629. -/ def BOB_QGUAR_ERR : RF := ⟨0xE028, 31, 1, 0x100000⟩
/-- R629. -/ def BOB_QLEVEL_LEVEL : RF := ⟨0xE02C, 0, 16, 0x100000⟩
/-- R629. -/ def BOB_QSTAT_CELLS : RF := ⟨0xE030, 0, 19, 0x100000⟩
/-- R629. -/ def BOB_QSTAT_EMODE : RF := ⟨0xE030, 19, 2, 0x100000⟩
/-- R629. -/ def BOB_QSTAT_ONDEMAND : RF := ⟨0xE030, 21, 1, 0x100000⟩
/-- R629. -/ def BOB_QITEMS_ITEMS : RF := ⟨0xE034, 0, 19, 0x100000⟩
/-- R629. -/ def DRF_SEL_PORT : RF := ⟨0xE100, 0, 6, 0x0⟩
/-- R629. -/ def DRF_SEL_CLASS : RF := ⟨0xE100, 6, 3, 0x0⟩
/-- R629. -/ def DRF_BRATE_RATE : RF := ⟨0xE104, 0, 16, 0x100000⟩
/-- R629. -/ def DRF_BBURST_BURST : RF := ⟨0xE108, 0, 16, 0x100000⟩
/-- R629. -/ def DRF_POVH_OVH : RF := ⟨0xE10C, 0, 8, 0x100000⟩
/-- R629. -/ def DRF_BCTRL_COMMIT : RF := ⟨0xE110, 0, 1, 0x100000⟩
/-- R629. -/ def DRF_BCTRL_ERR : RF := ⟨0xE110, 1, 1, 0x100000⟩
/-- R629. -/ def DRF_BSTAT_TOKENS : RF := ⟨0xE114, 0, 24, 0x100000⟩
/-- R629. -/ def DRF_BLIVE_RATE : RF := ⟨0xE118, 0, 16, 0x100000⟩
/-- R629. -/ def DRF_BLIVE_BURST : RF := ⟨0xE118, 16, 16, 0x100000⟩
/-- R629. -/ def DRF_CSTAT_WAITS : RF := ⟨0xE11C, 0, 16, 0x100000⟩
/-- R629. -/ def DRF_CSTAT_SHED : RF := ⟨0xE11C, 16, 16, 0x100000⟩
/-- R651. -/ def CVU_CTRL_POLY : RF := ⟨0x10000, 0, 1, 0x0⟩
/-- R651. -/ def CVU_CTRL_INIT : RF := ⟨0x10000, 1, 1, 0x0⟩
/-- R651. -/ def CVU_STAT_CTX : RF := ⟨0x10004, 0, 5, 0x0⟩
/-- R651. -/ def CVU_STAT_BAD : RF := ⟨0x10004, 5, 1, 0x0⟩
/-- R651. -/ def CVU_STAT_BUSY : RF := ⟨0x10004, 16, 5, 0x0⟩
/-- R651. -/ def CVU_RUN_RUN : RF := ⟨0x10008, 0, 32, 0x0⟩
/-- R651. -/ def CVU_LEN_LEN : RF := ⟨0x1000C, 0, 32, 0x0⟩
/-- R651. -/ def CVU_DATA_DATA : RF := ⟨0x10010, 0, 32, 0x0⟩
/-- R651. -/ def CVU_TAIL_BYTES : RF := ⟨0x10014, 0, 24, 0x0⟩
/-- R651. -/ def CVU_TAIL_COUNT : RF := ⟨0x10014, 24, 2, 0x0⟩
/-- R651. -/ def CVU_VALUE_VALUE : RF := ⟨0x10018, 0, 32, 0x0⟩
/-- R651. -/ def CVU_ERR_PARITY : RF := ⟨0x1001C, 0, 16, 0x0⟩
/-- R651. -/ def CVU_ERR_WAITS : RF := ⟨0x1001C, 16, 16, 0x0⟩
/-- R652. -/ def DFL_CTRL_TABLES : RF := ⟨0x10100, 0, 2, 0x0⟩
/-- R652. -/ def DFL_CTRL_BLOCK : RF := ⟨0x10100, 2, 2, 0x0⟩
/-- R652. -/ def DFL_CSTAT_SEGMENTS : RF := ⟨0x10104, 0, 16, 0x0⟩
/-- R652. -/ def DFL_CSTAT_STORED : RF := ⟨0x10104, 16, 16, 0x0⟩
/-- R652. -/ def DFL_RAWBYTES_BYTES : RF := ⟨0x10108, 0, 64, 0x0⟩
/-- R652. -/ def DFL_CBYTES_BYTES : RF := ⟨0x10110, 0, 64, 0x0⟩
/-- R652. -/ def DFL_DSTAT_EXPANDED : RF := ⟨0x10118, 0, 16, 0x0⟩
/-- R652. -/ def DFL_DSTAT_FAILED : RF := ⟨0x10118, 16, 16, 0x0⟩
/-- R652. -/ def DFL_LASTERR_CODE : RF := ⟨0x1011C, 0, 4, 0x0⟩
/-- R652. -/ def DFL_LASTERR_BITPOS : RF := ⟨0x1011C, 4, 20, 0x0⟩
/-- R652. -/ def DFL_ERRCNT_COUNT : RF := ⟨0x10120, 0, 16, 0x4⟩
/-- R676. -/ def SKN_CTRL_MODE : RF := ⟨0x3000, 0, 1, 0x0⟩
/-- R676. -/ def SKN_CTRL_AUTODUMP : RF := ⟨0x3000, 1, 1, 0x0⟩
/-- R676. -/ def SKN_STAT_HELD : RF := ⟨0x3004, 0, 13, 0x0⟩
/-- R676. -/ def SKN_STAT_FROZEN : RF := ⟨0x3004, 13, 1, 0x0⟩
/-- R676. -/ def SKN_STAT_DUMPHELD : RF := ⟨0x3004, 14, 1, 0x0⟩
/-- R676. -/ def SKN_STAT_CAPTURING : RF := ⟨0x3004, 15, 1, 0x0⟩
/-- R676. -/ def SKN_STAT_LOST : RF := ⟨0x3004, 16, 16, 0x0⟩
/-- R676. -/ def SKN_SEQ_NEWEST : RF := ⟨0x3008, 0, 32, 0x0⟩
/-- R676. -/ def SKN_OLDEST_OLDEST : RF := ⟨0x300C, 0, 32, 0x0⟩
/-- R676. -/ def SKN_BOOT_BOOT : RF := ⟨0x3010, 0, 16, 0x0⟩
/-- R676. -/ def SKN_BOOT_BADCHK : RF := ⟨0x3010, 16, 16, 0x0⟩
/-- R676. -/ def SKN_FRZ_LIM : RF := ⟨0x3014, 0, 16, 0x0⟩
/-- R676. -/ def SKN_OVFHELD_RECORDS : RF := ⟨0x3018, 0, 32, 0x0⟩
/-- R676. -/ def SKN_OVFBASE_BASE : RF := ⟨0x3020, 0, 64, 0x0⟩
/-- R676. -/ def SKN_OVFSIZE_SIZE : RF := ⟨0x3028, 0, 64, 0x0⟩
/-- R676. -/ def SKN_DUMPBASE_BASE : RF := ⟨0x3030, 0, 64, 0x0⟩
/-- R676. -/ def SKN_DUMPSIZE_SIZE : RF := ⟨0x3038, 0, 64, 0x0⟩
/-- R676. -/ def SKN_DUMPLEN_BYTES : RF := ⟨0x3040, 0, 32, 0x0⟩
/-- R676. -/ def SKN_DUMPSTAT_NUM : RF := ⟨0x3044, 0, 8, 0x0⟩
/-- R676. -/ def SKN_DUMPSTAT_PORT : RF := ⟨0x3044, 8, 1, 0x0⟩
/-- R676. -/ def SKN_DUMPSTAT_AUTO : RF := ⟨0x3044, 9, 1, 0x0⟩
/-- R676. -/ def SKN_DUMPSTAT_MASK : RF := ⟨0x3044, 16, 16, 0x0⟩
/-- R676. -/ def SKN_SMEAR_NS : RF := ⟨0x3048, 0, 32, 0x0⟩
/-- R702. -/ def SNG_RESET_UNIT : RF := ⟨0x20B0, 0, 11, 0x0⟩
/-- R702. -/ def SNG_RESET_PART : RF := ⟨0x20B0, 11, 4, 0x0⟩
/-- R702. -/ def SNG_RESET_SCOPE : RF := ⟨0x20B0, 15, 2, 0x0⟩
/-- R702. -/ def SNG_RESET_GO : RF := ⟨0x20B0, 17, 1, 0x0⟩
/-- R702. -/ def SNG_RSTSTAT_BUSY : RF := ⟨0x20B4, 0, 1, 0x0⟩
/-- R702. -/ def SNG_RSTSTAT_COUNT : RF := ⟨0x20B4, 16, 16, 0x0⟩
/-- R702. -/ def SNG_RSTCAUSE_CAUSE : RF := ⟨0x20B8, 0, 8, 0x0⟩
/-- R702. -/ def SNG_RSTCAUSE_STATE : RF := ⟨0x20B8, 8, 3, 0x0⟩
/-- R702. -/ def SNG_RSTCAUSE_IMGERR : RF := ⟨0x20B8, 16, 16, 0x0⟩
/-- R711. -/ def ID_VERSION_MINOR : RF := ⟨0x0, 0, 8, 0x0⟩
/-- R711. -/ def ID_VERSION_MAJOR : RF := ⟨0x0, 8, 8, 0x0⟩
/-- R711. -/ def ID_VERSION_BUILD : RF := ⟨0x0, 16, 2, 0x0⟩
/-- R711. -/ def ID_VENDOR_VENDOR : RF := ⟨0x4, 0, 16, 0x0⟩
/-- R711. -/ def ID_VENDOR_DEVICE : RF := ⟨0x4, 16, 16, 0x0⟩
/-- R711. -/ def ID_IDCODE_IDCODE : RF := ⟨0x8, 0, 32, 0x0⟩
/-- R711. -/ def ID_STATUS_IMAGE : RF := ⟨0xC, 0, 1, 0x0⟩
/-- R711. -/ def ID_STATUS_RUN : RF := ⟨0xC, 1, 1, 0x0⟩
/-- R711. -/ def ID_IMGID_IMGID : RF := ⟨0x10, 0, 64, 0x0⟩
/-- R711. -/ def ID_SELF_HANK : RF := ⟨0x18, 0, 48, 0x0⟩
/-- R711. -/ def ID_TABLEID_TABLEID : RF := ⟨0x20, 0, 32, 0x0⟩
/-- R711. -/ def ID_KEYID_KEYID : RF := ⟨0x24, 0, 16, 0x0⟩
/-- R711. -/ def ID_LBANK_PAGE : RF := ⟨0x28, 0, 8, 0x0⟩
/-- R711. -/ def ID_SCRATCH_VALUE : RF := ⟨0x2C, 0, 32, 0x0⟩
/-- R121. -/ def WHL_FT_FT : RF := ⟨0x1008, 0, 64, 0x0⟩
/-- R121. -/ def WHL_RATE_RATE : RF := ⟨0x1010, 0, 48, 0x0⟩
/-- R124. -/ def WHL_GEN_KIND : RF := ⟨0x1200, 0, 2, 0x20⟩
/-- R124. -/ def WHL_GEN_ARM : RF := ⟨0x1200, 2, 1, 0x20⟩
/-- R124. -/ def WHL_GEN_ERR : RF := ⟨0x1200, 3, 1, 0x20⟩
/-- R124. -/ def WHL_GEN_RUNNING : RF := ⟨0x1200, 4, 1, 0x20⟩
/-- R124. -/ def WHL_GEN_PERIOD : RF := ⟨0x1204, 0, 32, 0x20⟩
/-- R124. -/ def WHL_GEN_OFFSET : RF := ⟨0x1208, 0, 32, 0x20⟩
/-- R124. -/ def WHL_GEN_LENGTH : RF := ⟨0x120C, 0, 32, 0x20⟩
/-- R124. -/ def WHL_GEN_APPLY_LO : RF := ⟨0x1210, 0, 32, 0x20⟩
/-- R124. -/ def WHL_GEN_APPLY_HI : RF := ⟨0x1214, 0, 32, 0x20⟩
/-- R124. -/ def WHL_GEN_SKIPPED : RF := ⟨0x1218, 0, 16, 0x20⟩

end Reg

end Sys2Proof.Machine
end

