-- ==== Sys2Proof/Machine/State.lean ====
section
/-! DEFINITION. The state of the block: every register, table, queue and mode that the spec gives it, as plain data, with the queue of waiting commands; and the state right after reset. -/

namespace Sys2Proof.Machine

/-- The two builds (R1). -/
inductive Build where | leaf | hub
  deriving DecidableEq, Repr

/-- Four 64-bit words: a fault record (R503), a slub record (R343), a descriptor's or a log payload. -/
structure Rec where
  w0 : W64 := 0
  w1 : W64 := 0
  w2 : W64 := 0
  w3 : W64 := 0
  deriving DecidableEq, Repr

/-- The counters of one ledger point (R149). -/
structure Ledger where
  inn : Nat := 0
  copy : Nat := 0
  out : Nat := 0
  dup : Nat := 0
  d0 : Nat := 0
  d1 : Nat := 0
  d2 : Nat := 0
  d3 : Nat := 0
  deriving DecidableEq, Repr

/-- Lea: the ledger points by key (kind x 65536 + instance), the counters latched at the last cut, and the points that have saturated. -/
structure Lea where
  pts : Tab Ledger := []
  cut : Tab Ledger := []
  bad : Tab Unit := []
  deriving DecidableEq, Repr

/-! ### Commands in flight -/

/-- A command started and not completed. -/
structure Running where
  src : Src
  opcode : Nat
  dseq : Nat
  d : Desc
  b : Bus
  deriving DecidableEq, Repr

/-! ### Strand -/

/-- A frame that waits for departure or is held in a retransmit buffer (R570, R585). `covers` lists the received frames (port index, SEQ) whose custody passes when this frame is acknowledged (R153). -/
structure TxFrame where
  typ : Nat
  tc : Nat
  first : Bool
  last : Bool
  replay : Bool
  poison : Bool
  dest : Hank
  payload : List W64
  seq : Nat
  msg : Nat
  sentFt : Nat
  covers : List (Nat × Nat)
  /-- merge inputs whose count ends when this frame is accepted (R421) -/
  inputs : Nat := 0
  /-- arrival stamp t2 that a Pdelay_Resp answers, in 2^-8 ns (R83) -/
  t2 : Int := 0
  deriving DecidableEq, Repr

/-- A message being reassembled in one class (R571). -/
structure Partial where
  typ : Nat
  dest : Hank
  replay : Bool
  words : List W64
  seqs : List Nat
  deriving DecidableEq, Repr

/-- One Strand port (R577 to R588) beside its registers: the partner named by INIT, the send and receive sides. -/
structure Port where
  peer : Hank := 0
  peerTier : Nat := 0
  peerIdx : Nat := 0
  initSent : Bool := false
  initGot : Bool := false
  upFt : Nat := 0
  lastRxFt : Nat := 0
  /-- FT of the latest heartbeat received -/
  lastHb : Nat := 0
  /-- egress queues TC0 to TC7, head first -/
  egress : List (List TxFrame) := [[], [], [], [], [], [], [], []]
  /-- producers held by a full reserved queue (R613) -/
  stalled : List (List TxFrame) := []
  rtx : List TxFrame := []
  /-- frames that wait for their replay (R579, R594) -/
  held : List TxFrame := []
  /-- FT at which the latest frame left -/
  txFt : Nat := 0
  lackFt : Nat := 0
  lack : Nat := 1
  resend : List Nat := []
  ctrlDue : Bool := false
  nakDue : Bool := false
  nakWait : Bool := false
  lastNakFt : Nat := 0
  rret : Nat := 0
  bret : Nat := 0
  sentCack : Nat := 1
  sentLack : Nat := 1
  custody : List Nat := []
  partials : Tab Partial := []
  /-- last sync point received on the stream (R77) -/
  rxSyncFt : Option Nat := none
  /-- Pdelay_Req messages answered since link-up, and whether R133 has judged the link -/
  pdReqs : Nat := 0
  judged : Bool := false
  deriving DecidableEq, Repr

/-- One originator of the broadcast duplicate table (R591): its epoch, highest BSEQ, the 64 values below it and when it was last used. -/
structure Origin where
  addr : Hank
  epoch : Nat
  high : Nat
  window : BitVec 64
  used : Nat
  deriving DecidableEq, Repr

/-- An adoption entry: a subtree's prefix and depth, and the port that leads to it (R34). -/
structure Adopt where
  prefix_ : Hank
  depth : Nat
  port : Nat
  deriving DecidableEq, Repr

/-- A path reservation held by this block for an owner (R137, R138). -/
structure PathRes where
  owner : Hank
  session : Nat
  anum : Nat
  /-- the path over the owner's alternate up-port -/
  alt : Bool
  /-- port of arrival; none at the owner -/
  arrived : Option Nat
  onward : Option Nat
  final : Nat
  cls : Nat
  burst : Nat
  rate : Nat
  cmps : Nat
  merges : Nat
  held : Bool
  deriving DecidableEq, Repr

/-- A start pending at its vote point (R599). -/
structure Start where
  job : Nat
  snum : Nat
  t : Nat
  mask : BitVec 32
  acks : BitVec 32
  committed : Bool
  cmd : Running
  deriving DecidableEq, Repr

/-- A start armed at a Leaf (R600, R602). -/
structure LeafStart where
  job : Nat
  snum : Nat
  vote : Hank
  t : Nat
  mask : BitVec 32
  /-- slices that declared the entries -/
  slices : List Nat
  commit : Bool
  deriving DecidableEq, Repr

/-- Where a failover or a return stands (R592, R597). -/
inductive Homing where
  | settled
  | attaching (port : Nat) (since : Nat)
  deriving DecidableEq, Repr

structure Strand where
  ports : Tab Port := []
  dups : List Origin := []
  adopt : List Adopt := []
  paths : List PathRes := []
  starts : List Start := []
  leafStarts : List LeafStart := []
  homing : Homing := .settled
  lostPort : Option Nat := none
  noParentFt : Option Nat := none
  /-- the up-port whose FENCE put the block in the fenced state (R55) -/
  childFenced : Option Nat := none
  /-- up-ports barred by a FENCE of a parent not in use -/
  barred : List Nat := []
  bseq : Nat := 0
  snum : Nat := 0
  anum : Nat := 0
  msgs : Nat := 0
  handovers : Tab Nat := []
  peerActive : Bool := false
  peerEpoch : Nat := 0
  mirror : List W64 := []
  returnFt : Option Nat := none
  deriving DecidableEq, Repr

/-! ### Whorl -/

/-- A generator set: shadow or running fields (R106, R107). -/
structure GenSet where
  kind : Nat := 0
  period : Nat := 0
  offset : Nat := 0
  length : Nat := 0
  apply : Nat := 0
  deriving DecidableEq, Repr

/-- One generator: its running set and pending set, and the boundaries whose window opening, trigger or pulse, and window close come next. -/
structure Gen where
  run : Option GenSet := none
  pend : Option GenSet := none
  nextOpen : Nat := 0
  nextMain : Nat := 0
  nextClose : Nat := 0
  quiet : Bool := false
  deriving DecidableEq, Repr

/-- What an event timer was armed for (R110). -/
inductive TimerUse where
  | cut (n : Nat) | startPrep (k : Nat) | start (k : Nat) | safePoint (k : Nat) | trcTrig
  | deadline (k : Nat)
  deriving DecidableEq, Repr

structure Timer where
  t : Nat
  use_ : TimerUse
  deriving DecidableEq, Repr

/-- A leap-second table (R113). -/
structure Leap where
  header : W64
  base : Int
  expiry : Nat
  entries : List (Nat × Int)
  deriving DecidableEq, Repr

/-- The Whorl beside its registers: the FT accumulator with 40 fraction bits (R69) and the servo (R88 to R97). -/
structure Whorl where
  acc : Nat := 0
  clock : Bool := false
  /-- island cycles counted since the clock locked, modulo nothing: the base of ALIVE (R516) -/
  cyc : Nat := 0
  /-- the rate without a slew, in 2^-40 ticks a cycle -/
  base : Nat := 2 ^ 42
  /-- own time still to remove by slewing, in 2^-40 ticks; negative when behind (R91, R93, R96) -/
  slew : Int := 0
  /-- frequency part, in 2^-23 ns per interval (R89) -/
  integ : Int := 0
  /-- base-2 logarithm of the Sync interval in seconds (R89) -/
  syncLog : Int := -7
  /-- consecutive Syncs within the lock threshold, and beyond 4 times it (R88) -/
  good : Nat := 0
  bad : Nat := 0
  /-- FT of the latest valid Sync on any up-port -/
  lastSync : Option Nat := none
  ftMaxed : Bool := false
  /-- FT at the entry of HOLDOVER, while in it -/
  holdFt : Option Nat := none
  /-- a root that took over corrects by slewing only (R103) -/
  noStep : Bool := false
  /-- path-delay measurements of each up-port, newest first, in 2^-17 ns -/
  delays : Tab (List Int) := []
  /-- outstanding Pdelay_Req of each up-port: sequenceId and departure stamp t1 in 2^-8 ns -/
  reqs : Tab (Nat × Int) := []
  /-- last published offset of each up-port, in 2^-8 ns -/
  offs : Tab Int := []
  pdSeq : Nat := 0
  syncSeq : Nat := 0
  annSeq : Nat := 0
  /-- clockClass and time flags of the latest Announce: class, TAI − UTC, leap61, leap59 -/
  ann : Option (Nat × Int × Bool × Bool) := none
  leap : Option Leap := none
  gens : Tab Gen := []
  timers : Tab Timer := []
  /-- stamp of the latest 1PPS edge, in ticks -/
  lastPps : Option Nat := none
  /-- label of the latest edge, and of the latest valid line, in TAI seconds since the FT epoch (R102) -/
  edgeLabel : Option Nat := none
  lineLabel : Option Nat := none
  /-- a valid line that waits for the edge it names: its label and the FT at which it ended -/
  lineDue : Option (Nat × Nat) := none
  disagree : Nat := 0
  deriving DecidableEq, Repr

/-! ### Host interface -/

/-- A command fetched but not started (R181). -/
structure Fetched where
  opcode : Nat
  d : Desc
  b : Bus
  dseq : Nat
  deriving DecidableEq, Repr

/-- A completion that waits for its ring entry (R191): opcode, status, session, VALUE, command count, its stamp and whether it asks for the interrupt. -/
structure Cpl where
  opcode : Nat
  status : Nat
  session : Nat
  value : Nat
  dseq : Nat
  ct : Nat
  irq : Bool
  deriving DecidableEq, Repr

/-- One slice beside its registers. -/
structure Slice where
  fetched : List Fetched := []
  running : List Running := []
  cplWait : List Cpl := []
  vq : List Rec := []
  shown : Rec := {}
  /-- reads of SLC_VWSTAT that stall: port and FT of arrival (R210) -/
  stalls : List (PortId × Nat) := []
  unbind : Option Running := none
  quiescing : Bool := false
  deriving DecidableEq, Repr

/-- The host interface: slices, the management command that runs, those that wait (R695, R696), its count (R207) and the staging buffer (R695). -/
structure Hif where
  slices : Tab Slice := []
  mgmtRun : Option Running := none
  /-- management commands that wait for the one that runs (R695) -/
  mgmtWait : List Instr := []
  /-- management requests of any kind that arrived before the island clock locked (R696) -/
  mgmtHeld : List Instr := []
  mgmtCount : Nat := 0
  staging : List Host.Cell := []
  quietOpen : Tab Unit := []
  deriving DecidableEq, Repr

/-! ### Snag -/

/-- A die entry of a tray Hub (R520, R528). -/
structure Die where
  state : Nat := 0
  tHb : Nat := 0
  tAlive : Nat := 0
  tPeer : Nat := 0
  tProg : Nat := 0
  anyHb : Bool := false
  anyAlive : Bool := false
  peersReported : Bool := false
  progValid : Bool := false
  prog : Nat := 0
  progSeen : Bool := false
  silent : Bool := false
  suspect : Bool := false
  expelled : Bool := false
  noEvidence : Bool := false
  claims : List (Hank × Nat) := []
  changes : Nat := 0
  deriving DecidableEq, Repr

structure Snag where
  last : Tab Nat := []
  fq : List Rec := []
  seq : W32 := 0
  unitFence : Tab Unit := []
  partIdle : Tab Nat := []
  stopFt : Option Nat := none
  aliveLevel : Bool := false
  aliveNext : Nat := 0
  probes : Tab Nat := []
  warmWarn : Bool := false
  warmTrip : Bool := false
  dies : Tab Die := []
  hard : List (Hank × Nat) := []
  unitExp : List (Nat × Nat × Nat) := []
  peerBits : BitVec 32 := 0
  peerNext : Nat := 0
  /-- what PEER_SEEN messages have taken of the standing reservation's bucket and refills have not given back, in 2^-16 bytes (R525, R139); 0 is a full bucket -/
  peerDebt : Int := 0
  /-- PEER_SEEN messages that wait for its tokens: subject and words -/
  peerHeld : List (Hank × List W64) := []
  steps : W32 := 0
  resets : Tab Nat := []
  partResets : Tab Nat := []
  deriving DecidableEq, Repr

/-! ### Skein -/

/-- A dump held or being captured (R666 to R672). -/
structure Dump where
  port : Nat
  auto : Bool
  mask : Nat
  startFt : Nat
  endFt : Nat
  bytes : List Byte
  pos : Nat
  deriving DecidableEq, Repr

/-- A dump capture that runs (R667): section mask, port, AUTO, start and the command that asked. -/
structure Capture where
  mask : Nat
  port : Nat
  auto : Bool
  start : Nat
  cmd : Option Running
  deriving DecidableEq, Repr

structure Skein where
  recs : List (Rec × Rec) := []
  ovf : List (Rec × Rec) := []
  staged : List (Rec × Rec) := []
  next : W32 := 0
  read : Option Running := none
  readFt : Nat := 0
  /-- bytes that the LOG_READ which runs writes -/
  readLen : Nat := 0
  dump : Option Dump := none
  capture : Option Capture := none
  noResp : Tab Unit := []
  refused : Bool := false
  dbgPos : Nat := 0
  waiting : List Running := []
  deriving DecidableEq, Repr

/-! ### Bring-up -/

/-- An image that IMG_LOAD has checked: its identity, own address, key, FIELD records (address, value, mask) and Staple key. -/
structure Image where
  imgid : W64
  self : Hank
  keyid : Nat
  fields : List (Nat × W32 × W32)
  stapleKey : List Byte
  deriving DecidableEq, Repr

structure Boot where
  /-- the mask ROM's public keys, by KEYID: it never changes (R689, assumption 1) -/
  rom : Tab (Nat × Nat) := []
  image : Option Image := none
  verify : Option Running := none
  applied : Bool := false
  linksFt : Nat := 0
  hbmReady : Bool := false
  deriving DecidableEq, Repr

/-! ### Draft and Bobbin -/

/-- A class bucket (R623, R624): tokens in 2^-16 bytes and the rate and burst in force. -/
structure Bucket where
  tokens : Nat := 0
  rate : Nat := 0
  burst : Nat := 0
  started : Bool := false
  deriving DecidableEq, Repr

structure Draft where
  buckets : Tab Bucket := []
  povh : Tab Nat := []
  /-- per port, the shadows that a commit has marked pending: rate and burst of each class, and the overhead (R626) -/
  commits : Tab (List (Nat × Nat) × Nat) := []
  refillFt : Nat := 0
  deriving DecidableEq, Repr

/-! ### Trace (R260 to R293) -/

/-- The configuration of TRC_CONFIG (R284). -/
structure TrcCfg where
  base : Nat
  log2 : Nat
  mode : Bool
  dest : Nat
  pre : Nat
  mirror : Bool
  autoDrain : Bool
  mirAddr : Nat
  srcMask : BitVec 32
  deriving DecidableEq, Repr

/-- One trace source: its local buffer of whole packets, gate, power and drop state (R264, R271, R281 to R283). -/
structure TrSrc where
  buf : List (List W64) := []
  dropN : Nat := 0
  dropCt : Nat := 0
  awaitSync : Bool := false
  lastSync : Option Nat := none
  moved : Nat := 0
  deriving DecidableEq, Repr

/-- A record of the Hub's archive (R291). -/
structure ArchRec where
  ft : Nat
  origin : Hank
  kind : Nat
  seq : W32
  oseq : Nat
  set : Nat
  hdrFt : Nat
  data : List Byte
  deriving DecidableEq, Repr

structure Trace where
  cfg : Option TrcCfg := none
  srcs : Tab TrSrc := []
  /-- packets of the circular buffer, oldest first, each with the write count at which it starts (R273) -/
  pkts : List (Nat × List W64) := []
  turn : Nat := 0
  segSeq : Nat := 0
  segFt : Nat := 0
  /-- write count at which the bytes not yet drained begin -/
  segPos : Nat := 0
  hostPos : Nat := 0
  autoDue : Bool := false
  /-- a release that drains (R286), with the command that asked -/
  releasing : Option (Option Running) := none
  archive : List ArchRec := []
  deriving DecidableEq, Repr

/-! ### The meter of the Leaf's initiator port (R253 to R256) -/

/-- What a host transfer that waits at the meter is for. -/
inductive XferUse where
  /-- the dump of a set's schedule (R251) and its mirror -/
  | dump (set : Nat)
  /-- a streamed trace drain (R289): the raw bytes that its end frees -/
  | trace (raw : Nat)
  /-- a transfer of a running Staple program (R552) -/
  | test
  /-- the re-reads of an attribution (R481) -/
  | recheck (entry : Nat)
  /-- the records of a LOG_READ (R661) -/
  | log
  deriving DecidableEq, Repr

/-- A host write that waits: precedence class of R254, slice, address and bytes left. -/
structure Xfer where
  cls : Nat
  use_ : XferUse
  slice : Nat
  addr : W64
  data : List Byte
  /-- bytes still to move; a read carries no data -/
  left : Nat
  waited : Bool
  /-- issued, and not yet completed -/
  flying : Bool := false
  deriving DecidableEq, Repr

structure Meter where
  /-- tokens in 1/800 byte -/
  tokens : Nat := 256 * 800
  ft : Nat := 0
  queue : List Xfer := []
  /-- the transfer outstanding on the port: the bytes of its current burst -/
  busy : Option Nat := none
  deriving DecidableEq, Repr

/-! ### Reel (R219 to R252) -/

/-- One entry of a sample (R231). -/
structure SampEntry where
  value : Nat
  delta : Nat
  first : Bool
  off : Bool
  deriving DecidableEq, Repr

structure Sample where
  ft : Nat
  locked : Bool
  gap : Bool
  entries : List SampEntry
  deriving DecidableEq, Repr

/-- A dump schedule (R250). -/
structure Sched where
  slice : Nat
  base : W64
  log2 : Nat
  div : Nat
  dest : Nat
  mirror : Bool
  mir : W64
  seq : Nat
  nth : Nat
  skipped : Nat
  bytes : Nat
  deriving DecidableEq, Repr

/-- One selection set: its selectors, the values its next deltas are taken from, raw counters of the previous sample, the latest sample, and its schedule. -/
structure RSet where
  sels : List Nat := []
  /-- previous value of each entry; none when R232 gives FIRST -/
  prev : List (Option Nat) := []
  /-- last value read of each entry (R233) -/
  last : List (Option Nat) := []
  raw : Tab Nat := []
  prevFt : Option Nat := none
  gapDue : Bool := false
  latest : Option Sample := none
  sched : Option Sched := none
  newSched : Option (Option Sched) := none
  deriving DecidableEq, Repr

/-- A set in a strobe: the list and GAP flag it had there, whether its list has changed since, and whether the strobe is that of its window's opening (R229). -/
structure RdSet where
  set_ : Nat
  sels : List Nat
  gap : Bool
  stale : Bool
  opening : Bool
  deriving DecidableEq, Repr

/-- A strobe's read-out: the sets it serves and the tag statistics at the strobe. `cut` names the cut whose extra strobe it is (R423). -/
structure Readout where
  ft : Nat
  locked : Bool
  shadow : Nat
  cut : Option Nat
  sets : List RdSet
  stats : List Nat
  deriving DecidableEq, Repr

/-- One tag source (R242 to R246). -/
structure TagSrc where
  countdown : Option Nat := none
  sentFt : Nat := 0
  loss : Bool := false
  asleep : Bool := false
  deriving DecidableEq, Repr

structure Reel where
  sets : Tab RSet := []
  reads : List Readout := []
  shadow : Nat := 0
  /-- FT of the last strobe refused (R224) -/
  refusedFt : Option Nat := none
  tags : List Rec := []
  srcs : Tab TagSrc := []
  lfsr : W32 := 1
  /-- the eight statistics of R247 -/
  stats : List Nat := [0, 0, 0, 0, 0, 0, 0, 0]
  deriving DecidableEq, Repr

/-! ### Carder (R295 to R324) -/

/-- A feature entry (R301). -/
structure Feat where
  pos : Nat
  fmt : Nat
  src : Bool
  group : Nat
  deriving DecidableEq, Repr

/-- A vector (R310 to R317). -/
structure Vec where
  ft : Nat
  origin : Hank
  member : Nat
  keys : List Key
  nans : List Bool
  mask : W32
  nan : Bool
  off : Bool
  full : Bool
  gap : Bool
  first : Bool
  late : Bool
  locked : Bool
  seq : Nat
  deriving DecidableEq, Repr

/-- A member record as it arrived at a CHILD session (R318). -/
structure ChildRec where
  ft : Nat
  origin : Hank
  locked : Bool
  gap : Bool
  first : Bool
  off : Bool
  full : Bool
  keys : List Key
  nans : List Bool
  covers : List (Nat × Nat)
  deriving DecidableEq, Repr

/-- Vectors that wait for dispatch together: one, or a CHILD batch (R378). -/
structure Batch where
  ft : Nat
  vecs : List Vec
  deriving DecidableEq, Repr

/-- A CHILD batch that gathers (R319). -/
structure Gather where
  ft : Nat
  recs : List ChildRec
  deriving DecidableEq, Repr

/-- What a session keeps for one member: previous keys (R303), leaf-value cache, running sum and hysteresis (R336). -/
structure Member where
  addr : Hank := 0
  keys : Option (List Key × List Bool) := none
  gen : Nat := 0
  cache : Tab Int := []
  sum : Int := 0
  sumBad : Bool := true
  inside : Bool := false
  /-- state of the cohort rule (R454) -/
  cohortIn : Bool := false
  /-- sample FT of the last record taken (R320) -/
  lastFt : Option Nat := none
  deriving DecidableEq, Repr

/-- A reservation of R305 that a session holds or asks for. -/
structure Resv where
  cls : Nat
  burst : Nat
  rate : Nat
  cmps : Nat
  merges : Nat
  anum : Nat
  held : Bool
  ft : Nat
  /-- answers that the paths have given, and the number of paths -/
  answers : List Nat
  paths : Nat
  cmd : Option Running
  /-- cycles per window charged on each Spindle, and the window in ticks (R374) -/
  charge : List (Nat × Nat)
  window : Nat
  /-- the session's bucket at the origin (R139): tokens in 2^-16 bytes -/
  tokens : Int
  deriving DecidableEq, Repr

/-- An item that waits at its origin for tokens of the session's bucket. -/
structure Shaped where
  typ : Nat
  tc : Nat
  dest : Hank
  words : List W64
  deriving DecidableEq, Repr

/-- A member's score in a batch, for the cohort rule (R453). -/
structure Scored where
  vec : Vec
  score : Int
  flags : Nat
  gen : Nat
  deriving DecidableEq, Repr

/-- A session (R295 to R304). -/
structure Sess where
  state : Nat
  slice : Nat
  word0 : W64
  word1 : W64
  feats : List Feat
  startFt : Nat := 0
  stopFt : Nat := 0
  built : Nat := 0
  vectors : Nat := 0
  nanN : Nat := 0
  suppN : Nat := 0
  missN : Nat := 0
  lateN : Nat := 0
  skipN : Nat := 0
  storeN : Nat := 0
  mask : W32 := 0
  members : Tab Member := []
  model : Option Nat := none
  resv : Option Resv := none
  pend : List Batch := []
  gather : Option Gather := none
  /-- records whose window has not closed here yet -/
  early : List ChildRec := []
  /-- FT of the last trigger a CHILD session took -/
  trigFt : Option Nat := none
  blockedFt : Nat := 0
  debt : Tab Nat := []
  shaped : List Shaped := []
  scored : List Scored := []
  /-- Bobbin queue of a CHILD session's pending batches (R615) -/
  queue : Option Nat := none
  deriving DecidableEq, Repr

/-! ### Spindle and Distaff (R325 to R393) -/

/-- A tree table entry (R330). -/
structure Tree where
  gmask : W32
  root : Nat
  depth : Nat
  deriving DecidableEq, Repr

/-- A compiled image (R329 to R331). -/
structure MImage where
  nfeat : Nat
  depth : Nat
  base : Int
  enter : Int
  exit : Int
  level : Bool
  modelId : W32
  cmps : Nat
  trees : List Tree
  gmap : List Nat
  nodes : List W64
  deriving DecidableEq, Repr

/-- A share of a model in a store: its domain and its run of trees (R370, R372). -/
structure MShare where
  dom : Nat
  first : Nat
  count : Nat
  deriving DecidableEq, Repr

/-- A model table entry that is not FREE (R360 to R369). -/
structure Model where
  state : Nat
  tag : Nat
  slice : Nat
  pin : Bool
  width : Nat
  gen : Nat
  bytes : Nat
  addr : W64
  img : MImage
  shares : List MShare := []
  /-- the MODEL_LOAD that has not completed -/
  cmd : Option Running := none
  /-- load bursts left on each domain, while LOADING (R387) -/
  bursts : Tab Nat := []
  reload : Bool := false
  /-- an eviction that runs: evict bursts left on each domain, whether it frees the model, and its command -/
  evict : Tab Nat := []
  evicting : Bool := false
  discard : Bool := false
  evCmd : List Running := []
  deriving DecidableEq, Repr

/-- The part of a vector's work on one Spindle (R349, R386): trees to issue, and those of the pass that runs. -/
structure Part where
  spindle : Nat
  all : List Nat
  todo : List Nat
  now : List Nat
  deriving DecidableEq, Repr

/-- A vector in evaluation: for each tree evaluated, the leaf value reached and the value it replaces (R337). -/
structure EvalVec where
  vec : Vec
  need : List Nat
  news : List (Nat × Int × Int)
  deriving DecidableEq, Repr

/-- A dispatched item (R386): its vectors, the model it uses and its parts. -/
structure Eval where
  sess : Nat
  slot : Nat
  gen : Nat
  ft : Nat
  streamed : Bool
  scorer : Nat
  vecs : List EvalVec
  parts : List Part
  deriving DecidableEq, Repr

/-- A scheduling domain (R388, R389). -/
structure Domain where
  burstLast : Bool := false
  holder : Nat := 0
  left : Int := 0
  deriving DecidableEq, Repr

structure Distaff where
  models : Tab Model := []
  tags : Tab Nat := []
  evals : List Eval := []
  doms : Tab Domain := []
  deriving DecidableEq, Repr

/-! ### Twister (R396 to R434) -/

/-- A contribution or summary (R401, R402), without REPLAY, AMEND and RAW. -/
structure RItem where
  ft : Nat
  rid : Nat
  op : Nat
  final : Nat
  n : Nat
  sat : Bool
  locked : Bool
  unknown : Bool
  group : Hank
  depth : Nat
  cover : W64
  contrib : Nat
  missing : Nat
  nan : Nat
  payload : List W64
  deriving DecidableEq, Repr

/-- The covers that a merge has received from one input group, and the MISSING its on-time inputs brought. -/
structure InGroup where
  group : Hank
  cover : W64
  missing : Nat
  deriving DecidableEq, Repr

/-- An input as it arrived: its item, flags and where it came from. -/
structure RInput where
  item : RItem
  replay : Bool
  amend : Bool
  raw : Bool
  tc : Nat
  words : List W64
  port : Nat
  covers : List (Nat × Nat)
  deriving DecidableEq, Repr

/-- A merge: open until close(k), then in its amendment interval (R407 to R416). -/
structure Merge where
  rid : Nat
  ft : Nat
  group : Hank
  depth : Nat
  tc : Nat
  reserved : Bool
  queue : Option Nat
  raw : Bool
  item : Option RItem
  replayed : Bool
  inputs : Nat
  covers : List (Nat × Nat)
  ins : List InGroup
  ports : List Nat
  held : List RInput
  closed : Bool
  amend : Option RItem
  deriving DecidableEq, Repr

/-- A sink (R397). -/
structure Sink where
  rid : Nat
  publish : Bool
  slice : Nat
  base : W64
  log2 : Nat
  mirror : Bool
  mir : W64
  bytes : Nat
  /-- class of the last result -/
  tc : Nat
  deriving DecidableEq, Repr

/-- A source binding of a session. -/
structure Source where
  rid : Nat
  op : Nat
  final : Nat
  n : Nat
  first : Nat
  publish : Bool
  edges : List Nat
  deriving DecidableEq, Repr

/-- A participant entry (R412). -/
structure Particip where
  rid : Nat
  port : Nat
  contrib : Nat
  idle : Nat
  deriving DecidableEq, Repr

/-- A cut that pends (R425, R426). -/
structure CutReq where
  t : Nat
  origin : Hank
  onum : Nat
  lnum : Nat
  subtree : Bool
  reel : Bool
  /-- slice that armed it here -/
  slice : Option Nat
  deriving DecidableEq, Repr

/-- The cut of one port (R423, R427, R428). -/
structure CutPort where
  p : Nat
  issued : Nat
  accepted : Nat
  held : Nat
  late : Nat
  closed : Bool
  incomplete : Bool
  reported : Bool
  auditFail : Bool
  inflight : Nat
  report : Option (Nat × Nat)
  deriving DecidableEq, Repr

/-- The latest cut of the block (R423 to R430). `children` lists the down-ports from which a report is awaited; `timeout` is the end of the wait of R429. -/
structure CutRes where
  req : CutReq
  cutFt : Nat
  late : Bool
  mismatch : Bool
  whorl : Nat
  ports : List CutPort
  merges : List RItem
  dumps : List (Nat × List Nat × Sample)
  children : List Nat
  timeout : Bool
  deriving DecidableEq, Repr

/-- One rank rule's running state (R444 to R457). -/
structure RankRule where
  held : List (Nat × Option Key × Bool) := []
  strag : Bool := false
  hi : Bool := false
  lo : Bool := false
  own : Bool := false
  ef : Int := 0
  es : Int := 0
  w : Nat := 0
  shi : Nat := 0
  slo : Nat := 0
  deriving DecidableEq, Repr

/-- Best-effort traffic tracked on a port (R431): its largest contributors, the frames shed in the interval by class, and the end of the last interval. -/
structure SatPort where
  contributors : List (Hank × Nat × Nat) := []
  shed : List Nat := [0, 0, 0, 0]
  lastFt : Nat := 0
  deriving DecidableEq, Repr

structure Twister where
  merges : List Merge := []
  sinks : List Sink := []
  sources : Tab Source := []
  parts : List Particip := []
  auth : List (Nat × Nat) := []
  cuts : List CutReq := []
  lnum : Nat := 0
  cut : Option CutRes := none
  sats : List (List W64) := []
  satPorts : Tab SatPort := []
  ranks : Tab RankRule := []
  deriving DecidableEq, Repr

/-! ### Ply (R463 to R497) -/

/-- A digest message as it was accepted (R474). -/
structure Digest where
  unit : Hank
  index : Nat
  incomplete : Bool
  step : Nat
  nseen : Nat
  digest : W64
  subs : List W32
  words : List W64
  deriving DecidableEq, Repr

structure Round where
  step : Nat
  openFt : Nat
  got : List Digest
  deriving DecidableEq, Repr

/-- The policy of R467. -/
structure Policy where
  every : Nat := 8
  wait : Nat := 100
  missLim : Nat := 3
  mask : BitVec 6 := 0x3F
  attrLim : Nat := 1000
  fence : Bool := false
  deriving DecidableEq, Repr

/-- A replica in a VOTER entry. -/
structure Replica where
  addr : Hank
  expelled : Bool := false
  suspect : Bool := false
  hold : Nat := 0
  absent : Nat := 0
  deriving DecidableEq, Repr

/-- The answer of one Leaf to an attribution request (R481). -/
structure Answer where
  index : Nat
  mask : W16
  pass : Bool
  stable : Bool
  poison : Bool
  memerr : Bool
  c2 : W64
  subs : List W32
  deriving DecidableEq, Repr

/-- A decided round that waits for its attribution (R481 to R484). -/
structure Attribution where
  step : Nat
  ft : Nat
  /-- when the wait for answers began, on the island clock -/
  since : Nat
  result : Nat
  got : List Digest
  present : BitVec 32
  winner : W64
  losers : List Nat
  /-- reference of a MAJORITY round or of EXPEL_OVERRIDE; none while a SPLIT has none -/
  ref : Option Nat
  /-- requests sent: replica, class mask, whether as a loser -/
  asks : List (Nat × W16 × Bool)
  answers : List Answer
  cmd : Option Running
  deriving DecidableEq, Repr

/-- A round already decided, for late digests (R479). -/
structure Decided where
  step : Nat
  units : List Hank
  result : Nat
  ft : Nat
  cls : Option Digest
  deriving DecidableEq, Repr

structure Job where
  slice : Nat
  replicas : List Replica
  policy : Policy := {}
  nextPolicy : Policy := {}
  rounds : List Round := []
  attrs : List Attribution := []
  decided : List Decided := []
  closed : Option Round := none
  lastStep : Nat := 0
  lastResult : Nat := 0
  rbase : W64 := 0
  rlog2 : Nat := 0
  mirror : Bool := false
  mir : W64 := 0
  rbytes : Nat := 0
  deriving DecidableEq, Repr

/-- A REPLICA entry and its open digest (R464, R472). -/
structure ReplEntry where
  slice : Nat
  tag : Nat
  nblk : Nat
  vp : Hank
  job : Nat
  unit : Hank
  index : Nat
  base : W64
  log2 : Nat
  opened : Bool := false
  step : Nat := 0
  digest : W64 := 0
  subs : List W32 := []
  nseen : Nat := 0
  expelled : Bool := false
  unanswered : Nat := 0
  raised : Bool := false
  /-- highest STEP of the records seen (R524) -/
  high : Option Nat := none
  deriving DecidableEq, Repr

/-- An attribution that runs at a Leaf (R481). -/
structure LeafAttr where
  entry : Nat
  step : Nat
  mask : W16
  loser : Bool
  todo : List Nat
  subs : List W32
  memerr : Bool
  pass : Bool
  phase : Nat
  c2 : W64
  status : Nat
  deriving DecidableEq, Repr

/-- A partition's budget beside its register (R487, R488). -/
structure Budget where
  fellFt : Option Nat := none
  loserFt : Nat := 0
  deriving DecidableEq, Repr

structure Ply where
  jobs : Tab Job := []
  repls : Tab ReplEntry := []
  attrs : List LeafAttr := []
  budgets : Tab Budget := []
  deriving DecidableEq, Repr

/-! ### Staple (R540 to R565) -/

/-- A test of a package (R543): its table entry, and its two programs as operations (OP, VAL, ADDR). -/
structure STest where
  unit : Nat
  interval : Nat
  expect : W32
  dur : Nat
  rdur : Nat
  prog : List (Nat × W32 × W64)
  rest : List (Nat × W32 × W64)
  deriving DecidableEq, Repr

structure Package where
  pkgid : W32
  ver : W32
  bytes : List Byte
  tests : List STest
  deriving DecidableEq, Repr

/-- What Staple keeps for a test (R549, R557, R558). -/
structure TestState where
  lastRun : Option Nat := none
  loadFt : Nat := 0
  defer : Nat := 0
  overdue : Bool := false
  deriving DecidableEq, Repr

/-- A unit's health entry (R559 to R563). -/
structure Health where
  fail : Nat := 0
  tchk : Nat := 0
  vloss : Nat := 0
  ovd : Nat := 0
  runs : Nat := 0
  fails : Nat := 0
  retired : Bool := false
  suspect : Bool := false
  held : Bool := false
  deriving DecidableEq, Repr

/-- A safe point (R548); `ran` lists the tests that started in it. -/
structure SafePoint where
  start : Nat
  len : Nat
  mask : BitVec 8
  opened : Bool
  ran : List Nat
  deriving DecidableEq, Repr

/-- The run in progress (R551 to R553). -/
structure Run where
  slot : Nat
  test : Nat
  ft : Nat
  /-- its start on the island clock -/
  since : Nat
  restoring : Bool
  restFt : Nat
  pc : Nat
  sig : Nat
  sigDone : Bool
  result : Nat
  abandoned : Bool
  /-- FT at which the operation at `pc` began -/
  opFt : Nat
  /-- the program's transfer in flight is its last -/
  ending : Bool
  deriving DecidableEq, Repr

structure Staple where
  pkgs : Tab Package := []
  tests : Tab TestState := []
  health : Tab Health := []
  points : List SafePoint := []
  run : Option Run := none
  results : List Rec := []
  /-- packages to replace or remove when the running test ends: slot and the new package -/
  changes : List (Nat × Option Package) := []
  changeCmds : List (Running × Nat) := []
  halveFt : Nat := 0
  /-- a run that a block reset struck (R558) -/
  struck : Option Rec := none
  deriving DecidableEq, Repr

/-! ### Tension (R141 to R148) -/

/-- A droop sensor: its level, and the FT since which its margin has been below 0 mV. -/
structure Sensor where
  level : Nat := 0
  margin : Int := 0
  belowFt : Option Nat := none
  deriving DecidableEq, Repr

/-- Sensors, the daily means of t_wc (newest first, in fs), the measurements of the running day, and when it began. -/
structure Tension where
  sensors : Tab Sensor := []
  days : List Nat := []
  today : List Nat := []
  dayFt : Nat := 0
  lastFt : Nat := 0
  deriving DecidableEq, Repr

/-! ### Outputs and deferred work -/

/-- A signal that the block drives (R109, R112, R513, R516, R602, R682). -/
inductive Pin where
  | alive | fence (n : Nat) | start | slot (n : Nat) | quiet (n : Nat) | pps | traceEnable (src : Nat)
  deriving DecidableEq, Repr

/-- What leaves the block at its boundary. The list `State.out` is the model's own record of it, newest first (assumption 5). -/
inductive Emission where
  /-- a frame departs on port `p` -/
  | frame (p typ : Nat) (f : Frame)
  /-- lanes of a port held in electrical idle, or released -/
  | lanes (p : Nat) (idle : Bool)
  /-- a DMA write by slice `slice` -/
  | dma (slice : Nat) (addr : W64) (data : List Byte)
  /-- an interrupt requested: MSI-X vector on a Hub, `tz_irq` line on a Leaf (R195) -/
  | irq (vector : Nat)
  /-- a signal driven to a level -/
  | pin (n : Pin) (level : Bool)
  /-- a pulse of 8 island cycles, or of 100 µs on 1PPS -/
  | pulse (n : Pin)
  /-- a management response: the two words of a completion (R694) -/
  | mgmtResp (w0 w1 : W64)
  /-- a management response of STAGE_WRITE, STAGE_READ or a register request: status and data -/
  | mgmtData (status : Nat) (data : List Byte)
  /-- the value a register read returned -/
  | readData (v : W32)
  /-- the value shifted out of the debug port -/
  | debug (bits : Nat) (v : W64)
  /-- a request to a tensor check-value tap: 0 recheck, 1 self-test, 2 second polynomial (R470, R481) -/
  | tap (kind src tag : Nat) (args : List W64)
  /-- the strobe of a Reel read-out with the selectors read (R223) -/
  | strobe (sels : List Nat)
  /-- a sync request to a trace source (R268) -/
  | syncReq (src : Nat)
  /-- a watchdog probe to a unit (R518) -/
  | probe (unit : Nat)
  /-- the Staple unit starts a test or restore program on a host unit (R551) -/
  | testRun (slot test : Nat) (restore : Bool) (unit : Nat)
  /-- a tag attached to a transaction of a source (R243) -/
  | tag (src : Nat) (v : W32)
  /-- a port begins training (R577) -/
  | train (p : Nat)
  deriving DecidableEq, Repr

/-- An effect that a step owes and carries out before it ends: a fault handed to Snag (R498), a fence request (R508), a trigger offered to Trace (R275). -/
inductive Work where
  | fault (cls lvl : Nat) (subj : Hank) (info : W64)
  /-- a fault whose record carries the start of an interval as its FT (R504) -/
  | faultAt (cls lvl : Nat) (subj : Hank) (info : W64) (ft : Nat)
  | fence (source scope target : Nat)
  | trig (cause arg ft : Nat)
  deriving DecidableEq, Repr

/-- What stops the model with a fault: nothing does; every path of every command and event ends in a next state. -/
inductive Fault where
  /-- Raised by no meaning; the type has to hold something. -/
  | none
  deriving DecidableEq, Repr

/-- A command the model gives no meaning. -/
inductive Refusal where
  /-- Answered by an arm of `exec` that has no meaning yet. Safe: the model stops. -/
  | notModelled (mnemonic : String)
  deriving DecidableEq, Repr

/-- The state of the block. -/
structure State where
  /-- commands that wait, first in first out -/
  pending : List Instr := []
  build : Build := .leaf
  /-- register words that differ from their reset value, by address -/
  regs : Tab W32 := []
  /-- what the image gave each register word: the value, and the bits of it that apply (R690) -/
  imgRegs : Tab (W32 × W32) := []
  /-- staged low words of 64-bit RW registers (R171) -/
  staged : Tab W32 := []
  whl : Whorl := {}
  lea : Lea := {}
  str : Strand := {}
  hif : Hif := {}
  snag : Snag := {}
  skn : Skein := {}
  boot : Boot := {}
  drf : Draft := {}
  trc : Trace := {}
  meter : Meter := {}
  reel : Reel := {}
  crd : Tab Sess := []
  dst : Distaff := {}
  tws : Twister := {}
  ply : Ply := {}
  stp : Staple := {}
  tns : Tension := {}
  /-- the model's own: counter for free values (assumption 2) -/
  fresh : Nat := 0
  /-- the model's own: what left the block (assumption 5) -/
  out : List Emission := []
  /-- the model's own: effects owed within a step; empty between steps -/
  work : List Work := []
  deriving DecidableEq, Repr

/-- The state right after reset of a build, before the island clock locks: step 1 of R698, with the cause POWER_ON of R700. -/
def State.resetOf (b : Build) : State := { build := b, regs := [(0x20B8, 1#32)], boot := { rom := Config.romKeys } }

/-- The machine right after reset: a Leaf (assumption 6). -/
def State.reset : State := State.resetOf .leaf

end Sys2Proof.Machine
end

