-- ==== Sys2Proof/Machine/Ops.lean ====
section
/-! DEFINITION. The named operations over the block's state: register words and fields, time, addresses, ledger points, outputs and free values. -/

namespace Sys2Proof.Machine

/-! ### Registers -/

def Build.isHub : Build → Bool
  | .hub => true
  | .leaf => false

/-- Counts of the build: slices, sessions, queues, cells (R1, R176, R607). -/
def nSlices (b : Build) : Nat := if b.isHub then 64 else 16
def nSessions (b : Build) : Nat := if b.isHub then 4096 else 256
def nQueues (b : Build) : Nat := if b.isHub then 8192 else 512
def nCells (b : Build) : Nat := if b.isHub then 262144 else 16384
def nParts (b : Build) : Nat := if b.isHub then 16 else 8
def nSpindles (b : Build) : Nat := if b.isHub then 64 else 2
def stagingSize (b : Build) : Nat := if b.isHub then 2097152 else 262144

/-- The port indices a build has (R123). -/
def hasPort (b : Build) (p : Nat) : Bool := if b.isHub then decide (p < 36) else p == 32 || p == 33

/-- Register addresses and instance banks: page x 4096 + offset below 2^20, the instance above; the management port's copy of a selector above 2^40 (R174). -/
def bankOf (k : Nat) : Nat := (k / 2 ^ 20) % 2 ^ 20
def wordOf (k : Nat) : Nat := k % 2 ^ 20
def mgmtCopy : Nat := 2 ^ 40

/-- Reset values that the register tables give by rule: R160, R131, R182, R612, R217. -/
def ruleReset (b : Build) (tier : Nat) (k : Nat) : Option Nat :=
  let n := bankOf k
  match wordOf k with
  | 0xF040 => some (if b.isHub then 0 else 750)
  | 0xF044 => some (if b.isHub && tier == 1 then 3000 else 0)
  | 0xF048 => some 12000
  | 0xF04C => some 260
  | 0xF050 => some 40000
  | 0xF090 => some 768
  | 0xF094 => some 2688
  | 0xF098 => some 6560
  | 0x5018 => some (if n = 0 then 2 ^ 20 else 0)
  | 0x501C => some (if n = 0 then nSessions b else 0)
  | 0xE024 => some (if n < 64 then (if n < nSlices b then (if b.isHub then 4096 else 1024) else 0)
      else if n = 64 ∨ n = 65 then 256 else if n = 66 then 1024
      else if 128 ≤ n ∧ n < 416 ∧ n % 8 < 4 then (if b.isHub then 2048 else 512) else 0)
  | 0xE028 => some (if n < nSlices b then 64 else if n = 64 then 256
      else if !b.isHub && n == 65 then 256 else if !b.isHub && n == 66 then 64
      else if 128 ≤ n ∧ n < 416 ∧ n % 8 < 4 ∧ hasPort b ((n - 128) / 8) then 16 else 0)
  | 0xE02C => some (if n < nSlices b then 1 else 0)
  | _ => none

/-- The reset value of a register word (R13), the image's values apart. -/
def resetWord (b : Build) (tier : Nat) (k : Nat) : Nat :=
  match ruleReset b tier k with
  | some v => v
  | none =>
    match rowOf (wordOf k) with
    | some r => if b.isHub then r.rstHub else r.rstLeaf
    | none => 0

/-- What the image gave a register word, if anything: a register with instances has one word for all of them (R690). -/
def State.imgWord (s : State) (k : Nat) : Option (W32 × W32) := Tab.get s.imgRegs (wordOf k)

/-- A word with the bits of the image's record. -/
def imgMerge (r : Option (W32 × W32)) (v : W32) : W32 :=
  match r with
  | some (x, m) => (v &&& ~~~m) ||| (x &&& m)
  | none => v

/-- The tier code of the image (R22). -/
def State.tier (s : State) : Nat := bits (imgMerge (s.imgWord 0xD000) 0) 2 0

/-- The value a register word holds. -/
def State.regGet (s : State) (k : Nat) : W32 :=
  match Tab.get s.regs k with
  | some v => v
  | none => imgMerge (s.imgWord k) (BitVec.ofNat 32 (resetWord s.build s.tier k))

def State.regSet (s : State) (k : Nat) (v : W32) : State := { s with regs := Tab.set s.regs k v }

/-- The value of a register field; a field may reach into the high word of a 64-bit register. -/
def State.fget (s : State) (f : RF) : Nat :=
  let lo := (s.regGet f.addr).toNat
  let v := if f.lo + f.w > 32 then lo + 2 ^ 32 * (s.regGet (f.addr + 4)).toNat else lo
  v / 2 ^ f.lo % 2 ^ f.w

def State.flag (s : State) (f : RF) : Bool := s.fget f != 0

/-- A word with `w` bits at `lo` replaced. -/
def putBits (word lo w v : Nat) : Nat :=
  let old := word / 2 ^ lo % 2 ^ w
  word - old * 2 ^ lo + (v % 2 ^ w) * 2 ^ lo

/-- Set a register field. -/
def State.fset (s : State) (f : RF) (v : Nat) : State :=
  if f.lo + f.w > 32 then
    let word := (s.regGet f.addr).toNat + 2 ^ 32 * (s.regGet (f.addr + 4)).toNat
    let n := putBits word f.lo f.w v
    (s.regSet f.addr (BitVec.ofNat 32 n)).regSet (f.addr + 4) (BitVec.ofNat 32 (n / 2 ^ 32))
  else s.regSet f.addr (BitVec.ofNat 32 (putBits (s.regGet f.addr).toNat f.lo f.w v))

def State.fsetB (s : State) (f : RF) (v : Bool) : State := s.fset f (b2n v)

/-- Add to a counter field that wraps (R10: "wraps"). -/
def State.fadd (s : State) (f : RF) (n : Nat) : State := s.fset f (s.fget f + n)

def State.bump (s : State) (f : RF) : State := s.fadd f 1

/-- The selector word that a port sees (R174). -/
def selKey (p : PortId) (f : RF) : Nat := match p with | .host => f.addr | .mgmt => f.addr + mgmtCopy
def State.selGet (s : State) (p : PortId) (f : RF) : Nat := s.fget { f with addr := selKey p f }

/-! ### Free values -/

/-- A free bit, and the counter advanced. -/
def State.freeBit (s : State) : Bool × State := (Config.freeBit s.fresh, { s with fresh := s.fresh + 1 })
def State.freeWord (s : State) : W64 × State := (Config.freeWord s.fresh, { s with fresh := s.fresh + 1 })

/-- `a / b` where the spec states no rounding: the floor, or the next number when the division is not exact and the free bit says so. -/
def State.freeDiv (s : State) (a : Int) (b : Nat) : Int × State :=
  if a % (b : Int) = 0 then (a / (b : Int), s)
  else (a / (b : Int) + (if Config.freeBit s.fresh then 1 else 0), { s with fresh := s.fresh + 1 })

/-! ### Outputs and deferred work -/

def State.emit (s : State) (e : Emission) : State := { s with out := e :: s.out }

/-- Hand Snag a fault (R498); Snag takes the faults of a step in the order of R502. -/
def State.raise (s : State) (cls lvl : Nat) (subj : Hank) (info : Nat) : State :=
  { s with work := s.work ++ [.fault cls lvl subj (BitVec.ofNat 64 info)] }

/-- Ask for a fence (R508). -/
def State.askFence (s : State) (source scope target : Nat) : State :=
  { s with work := s.work ++ [.fence source scope target] }

/-- Offer the Trace unit a trigger (R275). -/
def State.askTrig (s : State) (cause arg ft : Nat) : State := { s with work := s.work ++ [.trig cause arg ft] }

/-- Fault class codes (R499). -/
abbrev fLINK := 1
abbrev fTIME := 2
abbrev fLEDGER := 3
abbrev fSTORE := 4
abbrev fPOISON := 5
abbrev fBOUND := 6
abbrev fVOTE := 7
abbrev fTCHECK := 8
abbrev fFTEST := 9
abbrev fMARGIN := 10
abbrev fDROOP := 11
abbrev fHOSTPROTO := 12
abbrev fCONFIG := 13
abbrev fHANG := 14
abbrev fTHERMAL := 15
abbrev fINTERNAL := 16

/-! ### Time -/

/-- Fabric time: the integer part of the accumulator (R69). -/
def State.ft (s : State) : Nat := s.whl.acc / 2 ^ 40

def ftMax : Nat := 2 ^ 64 - 1

/-- Time since the island clock locked, in ticks: the measure of every interval that no rule counts in FT. A step of FT does not move it (assumption 49). -/
def State.now (s : State) : Nat := 4 * s.whl.cyc

/-- The compact stamp (R73). -/
def State.ct (s : State) : Nat := s.ft % 2 ^ 40

/-- The time-locked flag of a stamp taken now (R99). -/
def State.locked (s : State) : Bool := s.fget Reg.WHL_STATUS_STATE == 2

/-- Ticks in a microsecond and a millisecond. -/
abbrev us : Nat := 4000
abbrev ms : Nat := 4000000

/-- R76: FT from a compact stamp against a sync point. -/
def reconstruct (ct : Nat) (sp : Nat) : Nat :=
  let base : Int := (sp : Int) - 2 ^ 39
  let ft : Int := base + (((ct : Int) - base) % 2 ^ 40)
  if ft < 0 then (ft + 2 ^ 40).toNat
  else if ft > 2 ^ 64 - 1 then (ft - 2 ^ 40).toNat
  else ft.toNat

/-! ### Addresses (R29 to R32) -/

def State.self (s : State) : Hank := BitVec.ofNat 48 (s.fget Reg.ID_SELF_HANK)

/-- A sub-unit of this block, or of the block an address names. -/
def withSub (h : Hank) (sub : Nat) : Hank := BitVec.ofNat 48 (h.toNat / 2048 * 2048 + sub % 2048)
def State.unit (s : State) (sub : Nat) : Hank := withSub s.self sub
def hSub (h : Hank) : Nat := h.toNat % 2048
def hTier (h : Hank) : Nat := h.toNat / 2048 % 8
/-- The place fields joined, bits [47:14]. -/
def hPlace (h : Hank) : Nat := h.toNat / 2 ^ 14
def hSite (h : Hank) : Nat := h.toNat / 2 ^ 40
def sameBlock (a b : Hank) : Bool := a.toNat / 2048 == b.toNat / 2048

/-- Bits of a place that lie beyond the first `depth` place fields (site, hall, row, rack, tray, slot). -/
def beyond (depth : Nat) : Nat :=
  match depth with
  | 0 => 34
  | 1 => 26
  | 2 => 22
  | 3 => 16
  | 4 => 10
  | 5 => 5
  | _ => 0

/-- The first `depth` place fields of two places agree (R33). -/
def placeMatch (depth a b : Nat) : Bool := a / 2 ^ beyond depth == b / 2 ^ beyond depth

/-- The depth of a block's own prefix: the place fields down to its tier (R22, R30). -/
def tierDepth (tier : Nat) : Nat :=
  match tier with
  | 0 => 6
  | 1 => 5
  | 2 => 4
  | 3 => 3
  | 4 => 2
  | _ => 1

def isRootTier (t : Nat) : Bool := t == 5 || t == 6
def State.isRoot (s : State) : Bool := isRootTier s.tier

/-- The unit numbers that name something in a build (R31, R710). -/
def unitExists (b : Build) (sub : Nat) : Bool :=
  if sub = 0 then true
  else if sub < 0x40 then
    decide (sub ∈ [1, 2, 3, 4, 7, 8, 0xA, 0xB, 0xC, 0xE, 0xF, 0x10, 0x12, 0x13, 0x14, 0x15]) ||
      (!b.isHub && (sub == 6 || sub == 0x11))
  else if sub < 0x80 then decide (sub - 0x40 < nSpindles b)
  else if sub < 0xA0 then b.isHub
  else if sub < 0xA4 then b.isHub || decide (sub < 0xA2)
  else if sub < 0x100 then false
  else !b.isHub

/-- An address that names nothing (R32). -/
def namesNothing (h : Hank) : Bool :=
  hTier h == 7 || !(unitExists (if hTier h = 0 then .leaf else .hub) (hSub h))

/-- The sub-unit of a Strand port index (R31, R123). -/
def portSub (p : Nat) : Nat := 0x80 + p

def isUp (p : Nat) : Bool := decide (32 ≤ p)

/-! ### Partitions (R51 to R53) -/

/-- The partition of a down-port of a Hub. -/
def State.portPart (s : State) (p : Nat) : Nat :=
  ((List.range 16).find? fun n => bit (s.regGet (Reg.STR_PART_PORTS.at n).addr) p).getD 0

/-- The partition of a host sub-unit of a Leaf. -/
def State.hostPart (s : State) (u : Nat) : Option Nat :=
  (List.range 8).find? fun n =>
    s.flag (Reg.STR_PART_VALID.at n) && decide (s.fget (Reg.STR_PART_FIRST.at n) ≤ u)
      && decide (u ≤ s.fget (Reg.STR_PART_LAST.at n))

/-- A route entry (R33, R67). -/
def State.routeValid (s : State) (p : Nat) : Bool := s.build.isHub && s.flag (Reg.STR_ROUTE_VALID.at p)
def State.routeActive (s : State) (p : Nat) : Bool := s.routeValid p && s.flag (Reg.STR_ROUTE_ACTIVE.at p)
def State.routeMatch (s : State) (p : Nat) (place : Nat) : Bool :=
  placeMatch (s.fget (Reg.STR_ROUTE_DEPTH.at p)) (s.fget (Reg.STR_ROUTE_PREFIX.at p)) place

/-- The down-port whose valid route entry covers a place. -/
def State.portOfPlace (s : State) (place : Nat) : Option Nat :=
  (List.range 32).find? fun p => s.routeValid p && s.routeMatch p place

/-- The partition a subject lies in (R503). -/
def State.partOf (s : State) (h : Hank) : Option Nat :=
  if sameBlock h s.self then
    if s.build.isHub then
      (if 0x80 ≤ hSub h ∧ hSub h < 0xA0 then some (s.portPart (hSub h - 0x80)) else none)
    else if 0x100 ≤ hSub h then s.hostPart (hSub h) else none
  else if s.build.isHub then (s.portOfPlace (hPlace h)).map s.portPart
  else none

/-! ### Ledger points (R149 to R152) -/

/-- The counter of a ledger point to which an event adds. -/
inductive LedCol where | inn | copy | out | dup | drop (n : Nat)
  deriving DecidableEq, Repr

def Ledger.get (l : Ledger) : LedCol → Nat
  | .inn => l.inn
  | .copy => l.copy
  | .out => l.out
  | .dup => l.dup
  | .drop 0 => l.d0
  | .drop 1 => l.d1
  | .drop 2 => l.d2
  | .drop _ => l.d3

def Ledger.put (l : Ledger) (c : LedCol) (v : Nat) : Ledger :=
  match c with
  | .inn => { l with inn := v }
  | .copy => { l with copy := v }
  | .out => { l with out := v }
  | .dup => { l with dup := v }
  | .drop 0 => { l with d0 := v }
  | .drop 1 => { l with d1 := v }
  | .drop 2 => { l with d2 := v }
  | .drop _ => { l with d3 := v }

/-- HELD of R149. -/
def Ledger.held (l : Ledger) : Int :=
  (l.inn : Int) + l.copy - l.out - l.dup - l.d0 - l.d1 - l.d2 - l.d3

/-- Reason codes in the drop slots of each kind of point (R152). -/
def pointReasons (kind : Nat) : List Nat :=
  match kind with
  | 0x01 => [5, 9]
  | 0x02 => [0xC, 0xD, 9]
  | 0x03 => [5, 4, 9, 6]
  | 0x04 => [0xB, 5, 9]
  | 0x05 => [0xF, 5, 6, 9]
  | 0x06 => [2, 8, 6, 5]
  | 0x07 => [8, 9]
  | 0x08 => [1, 7, 6, 5]
  | 0x09 => [9]
  | 0x0A => [0xA, 5, 9]
  | 0x0B => [5, 9]
  | 0x0C => [3, 4, 0xE]
  | 0x0D => [0xF, 9]
  | 0x0F => [0xF, 5]
  | 0x10 => [0x10]
  | _ => []

def rsnPOISON := 5
def rsnRESET := 9
def rsnFENCED := 6

def ledKey (kind inst : Nat) : Nat := kind * 65536 + inst

/-- The unit of a ledger point, for LEDGER faults (R504). -/
def pointUnit (kind inst : Nat) : Nat :=
  match kind with
  | 0x01 => 6
  | 0x02 => 7
  | 0x03 => 8
  | 0x04 => 0x40 + inst
  | 0x05 => 0xE
  | 0x06 => 0x13
  | 0x07 => portSub inst
  | 0x08 => portSub inst
  | 0x09 => portSub inst
  | 0x0A => 0xB
  | 0x0B => 0xC
  | 0x0C => 4
  | 0x0D => 4
  | 0x0E => 0xC
  | 0x0F => 7
  | _ => 3

/-- The kinds in the order of R152 with the instances each build has: the order in which LEA_SEL counts the points (assumption 4). -/
def pointKinds (b : Build) : List (Nat × List Nat) :=
  if b.isHub then
    [(3, [0]), (4, List.range 64), (5, List.range 8192), (6, List.range 288), (7, List.range 36), (8, List.range 36),
     (9, List.range 36), (0xA, [0]), (0xB, [0]), (0xC, List.range 64), (0xD, List.range 64), (0xE, List.range 16), (0xF, [0]), (0x10, [0])]
  else
    [(1, [0]), (2, List.range 32), (3, [0]), (4, List.range 2), (5, List.range 512), (6, (List.range 16).map (256 + ·)),
     (7, [32, 33]), (8, [32, 33]), (9, [32, 33]), (0xA, [0]), (0xB, [0]), (0xC, List.range 16), (0xD, List.range 16),
     (0xE, List.range 8), (0x10, [0])]

/-- All ledger points of a build, as keys, in the order of their index. -/
def points (b : Build) : List Nat := (pointKinds b).flatMap fun e => e.2.map (ledKey e.1)

def State.pointIndex (s : State) (key : Nat) : Nat := ((points s.build).findIdx? (· == key)).getD 0

def State.ledGet (s : State) (kind inst : Nat) : Ledger := Tab.getD s.lea.pts (ledKey kind inst) {}

/-- Add to a counter of a ledger point. A counter that reaches 2^64 − 1 saturates there and raises LEDGER at F0, once (R150). -/
def State.led (s : State) (kind inst : Nat) (c : LedCol) (n : Nat) : State :=
  let l := s.ledGet kind inst
  let key := ledKey kind inst
  let old := l.get c
  let new := satAdd ftMax old n
  let s1 := { s with lea := { s.lea with pts := Tab.set s.lea.pts key (l.put c new) } }
  if new = ftMax ∧ old ≠ ftMax then
    let s2 := { s1 with lea := { s1.lea with bad := Tab.set s1.lea.bad key () } }
    (s2.fset Reg.LEA_STATUS_SAT 1).raise fLEDGER 0 (s.unit (pointUnit kind inst)) (s.pointIndex key + 65536 * kind)
  else s1

/-- Count items dropped at a point under a reason code. -/
def State.ledDrop (s : State) (kind inst reason n : Nat) : State :=
  match (pointReasons kind).findIdx? (· == reason) with
  | some i => s.led kind inst (.drop i) n
  | none => s

/-! ### Function modes (R214) -/

/-- A function runs in host-assisted mode. -/
def State.assisted (s : State) (bitNo : Nat) : Bool := (s.fget Reg.HIF_FNSTAT_MODE / 2 ^ bitNo) % 2 == 1

/-- A pending mode change takes effect at its unit's boundary. -/
def State.fnSwitch (s : State) (bitNo : Nat) : State :=
  let pend := s.fget Reg.HIF_FNSTAT_PENDING
  if pend / 2 ^ bitNo % 2 = 1 then
    let want := s.fget Reg.HIF_FNMODE_MODE / 2 ^ bitNo % 2
    let mode := s.fget Reg.HIF_FNSTAT_MODE
    (s.fset Reg.HIF_FNSTAT_MODE (putBits mode bitNo 1 want)).fset Reg.HIF_FNSTAT_PENDING (putBits pend bitNo 1 0)
  else s

/-! ### Modes of the block -/

/-- Bring-up has ended (R699). -/
def State.running (s : State) : Bool := s.flag Reg.ID_STATUS_RUN
def State.stopped (s : State) : Bool := s.flag Reg.SNG_STATUS_STOPPED
/-- The bring-up step of R698. -/
def State.bootStep (s : State) : Nat := s.fget Reg.SNG_RSTCAUSE_STATE

/-- A unit is fenced (R511). -/
def State.isFenced (s : State) (sub : Nat) : Bool := (Tab.get s.snag.unitFence sub).isSome
def State.partFenced (s : State) (n : Nat) : Bool := (s.fget Reg.SNG_FSTAT_PARTS / 2 ^ n) % 2 == 1

end Sys2Proof.Machine
end

