-- ==== Sys2Proof/Machine/Ptp.lean ====
section
/-! DEFINITION. PTP messages (R78 to R84) in the formats of IEEE 1588-2019, to which R80 refers (assumption 42), and the time fields that a frame takes at its departure. -/

namespace Sys2Proof.Machine

/-- Bytes of a number, highest first. -/
def beBytes (n v : Nat) : List Byte := (toBytes n v).reverse
def beVal (bs : List Byte) : Nat := ofBytes bs.reverse

abbrev ptpSYNC := 0x0
abbrev ptpPDELAY_REQ := 0x2
abbrev ptpPDELAY_RESP := 0x3
abbrev ptpANNOUNCE := 0xB

/-- The 34-byte header: type, length, correction in 2^-16 ns, source identity, sequenceId, interval. -/
def ptpHeader (mtype len : Nat) (flags : Nat) (corr : Int) (ident : Nat) (seq : Nat) (log : Int) : List Byte :=
  [BitVec.ofNat 8 mtype, 0x12#8] ++ beBytes 2 len ++ [0#8, 0#8] ++ beBytes 2 flags ++ beBytes 8 (corr % 2 ^ 64).toNat ++ beBytes 4 0
    ++ beBytes 10 ident ++ beBytes 2 seq ++ [0#8, BitVec.ofInt 8 log]

/-- The 10-byte timestamp of an instant in 2^-8 ns since the FT epoch, and what is left over for correctionField (R80). -/
def ptpTime (u : Int) : List Byte × Int :=
  let ns := (u / 256).toNat
  (beBytes 6 (ns / 1000000000 + 946684800) ++ beBytes 4 (ns % 1000000000), u % 256 * 256)

/-- Words of a message, padded to whole words. -/
def ptpWords (bs : List Byte) : List W64 := bytesWords (padTo 8 bs)

def ptpBytes (ws : List W64) : List Byte := wordsBytes ws
def ptpType (ws : List W64) : Nat := bits (ws.headD 0) 3 0
def ptpField (ws : List W64) (at_ n : Nat) : Nat := beVal ((ptpBytes ws).drop at_ |>.take n)
def ptpCorr (ws : List W64) : Int := sext 64 (ptpField ws 8 8)
def ptpSeq (ws : List W64) : Nat := ptpField ws 30 2
def ptpLog (ws : List W64) : Int := sext 8 (ptpField ws 33 1)
/-- The origin time in 2^-16 ns since the FT epoch, its correction included (R80). -/
def ptpOrigin (ws : List W64) : Int :=
  (((ptpField ws 34 6 : Int) - 946684800) * 1000000000 + ptpField ws 40 4) * 65536 + ptpCorr ws

/-- A message with other bytes from an offset on. -/
def ptpPut (ws : List W64) (at_ : Nat) (bs : List Byte) : List W64 :=
  let b := ptpBytes ws
  bytesWords (b.take at_ ++ bs ++ b.drop (at_ + bs.length))

/-- Sync: one-step; origin and correction are filled at departure. -/
def syncMsg (ident seq : Nat) (log : Int) : List W64 := ptpWords (ptpHeader ptpSYNC 44 0 0 ident seq log ++ beBytes 10 0)
def pdelayReqMsg (ident seq : Nat) : List W64 := ptpWords (ptpHeader ptpPDELAY_REQ 54 0 0 ident seq 0x7F ++ beBytes 20 0)
/-- Pdelay_Resp: one-step; the turnaround is filled at departure (R83). It names the port that asked. -/
def pdelayRespMsg (ident seq asked : Nat) : List W64 :=
  ptpWords (ptpHeader ptpPDELAY_RESP 54 0 0 ident seq 0x7F ++ beBytes 10 0 ++ beBytes 10 asked)
/-- Announce: leap61, leap59, TAI − UTC and clockClass are given (R79); the grandmaster's other fields are free. -/
def announceMsg (ident seq : Nat) (log : Int) (leap61 leap59 : Bool) (utc : Int) (cls : Nat) (free : Nat) : List W64 :=
  ptpWords (ptpHeader ptpANNOUNCE 64 (b2n leap61 + 2 * b2n leap59 + 12) 0 ident seq log ++ beBytes 10 0 ++ beBytes 2 (utc % 65536).toNat
    ++ [0#8] ++ beBytes 1 free ++ beBytes 1 cls ++ beBytes 3 (free / 256) ++ beBytes 1 (free / 2 ^ 32) ++ beBytes 8 (free / 7)
    ++ beBytes 2 (free / 2 ^ 40) ++ beBytes 1 (free / 2 ^ 56))

/-! ### Stamps at the ball (R81, R82) -/

/-- A departure stamp at the package ball, in 2^-8 ns. -/
def State.ballOut (s : State) (p stamp : Nat) : Int := (stamp : Int) * 64 + s.fget (Reg.WHL_PLAT_TXLAT.at p)
/-- An arrival stamp at the package ball, in 2^-8 ns. -/
def State.ballIn (s : State) (p stamp : Nat) : Int := (stamp : Int) * 64 - s.fget (Reg.WHL_PLAT_RXLAT.at p)

/-- The words of a frame as they leave: a heartbeat's FT (R588), a Sync's origin (R82), a Pdelay_Resp's turnaround (R83). `u` is the departure at the ball in 2^-8 ns, `ft` the same in ticks. -/
def departWords (typ : Nat) (u t2 : Int) (ft : Nat) (ws : List W64) : List W64 :=
  if typ = 1 then ws.take 1 ++ [BitVec.ofNat 64 ft]
  else if typ = 4 ∧ ptpType ws = ptpSYNC then
    let t := ptpTime u
    ptpPut (ptpPut ws 34 t.1) 8 (beBytes 8 (t.2 % 2 ^ 64).toNat)
  else if typ = 4 ∧ ptpType ws = ptpPDELAY_RESP then ptpPut ws 8 (beBytes 8 (((u - t2) * 256) % 2 ^ 64).toNat)
  else ws

/-- A departing Pdelay_Req leaves its departure stamp t1 with the Whorl (R84). -/
def State.noteReq (s : State) (p typ : Nat) (u : Int) (ws : List W64) : State :=
  if typ = 4 ∧ ptpType ws = ptpPDELAY_REQ ∧ 32 ≤ p then { s with whl := { s.whl with reqs := Tab.set s.whl.reqs (p - 32) (ptpSeq ws, u) } } else s

end Sys2Proof.Machine
end

