-- ==== Sys2Proof/Machine/Link.lean ====
section
/-! DEFINITION. Shared operations of Bobbin, Draft and Strand (R566 to R629, R33 to R60): queues and their limits, sending and shedding, frames received, routing, broadcasts, custody, and the loss of a link. -/

namespace Sys2Proof.Machine

/-! ### Ports -/

def State.port (s : State) (p : Nat) : Port := Tab.getD s.str.ports p {}
def State.setPort (s : State) (p : Nat) (x : Port) : State :=
  { s with str := { s.str with ports := Tab.set s.str.ports p x } }
def State.modPort (s : State) (p : Nat) (f : Port → Port) : State := s.setPort p (f (s.port p))

def State.pState (s : State) (p : Nat) : Nat := s.fget (Reg.STR_PSTAT_STATE.at p)
def State.portUp (s : State) (p : Nat) : Bool := s.pState p == 3

def State.primaryUp (s : State) : Nat :=
  if s.build.isHub then 32 + s.fget Reg.STR_HOMING_PRIMARY_UP else 32
def State.altUp (s : State) : Option Nat :=
  if !s.flag Reg.STR_HOMING_DUAL then none
  else if s.build.isHub then some (32 + s.fget Reg.STR_HOMING_ALT_UP) else some 33

/-- The up-port of the current parent (R47, R64); a block not yet attached keeps to its primary. -/
def State.curUp (s : State) : Option Nat :=
  if s.isRoot then none
  else match s.fget Reg.STR_HOMING_CUR_PARENT with
    | 0 => some s.primaryUp
    | 1 => s.altUp
    | 2 => none
    | _ => some s.primaryUp

/-- The peer link of a root (R27). -/
def State.isPeer (s : State) (p : Nat) : Bool := s.isRoot && p == 32

/-- The active root, or any block that is no root, merges and publishes as its tier gives. -/
def State.rootActive (s : State) : Bool := s.isRoot && s.flag Reg.STR_TIER_ROOT_ACTIVE

/-- Where an upward message goes: the current parent, or at a standby root the peer link (R27). -/
def State.upPort (s : State) : Option Nat :=
  if s.isRoot then (if s.flag Reg.STR_TIER_ROOT_ACTIVE then none else some 32) else s.curUp

def frameBytesLen (words : Nat) : Nat := 40 + 8 * words
def cellsOf (bytes : Nat) : Nat := ceilDiv bytes 64
def TxFrame.bytes (f : TxFrame) : Nat := frameBytesLen f.payload.length
def TxFrame.cells (f : TxFrame) : Nat := cellsOf f.bytes
def cellsSum (l : List TxFrame) : Nat := sumN (l.map TxFrame.cells)

/-! ### Bobbin (R607 to R621) -/

def egressQ (p c : Nat) : Nat := 128 + 8 * p + c
def draftPt (p c : Nat) : Nat := 8 * p + c

/-- Credits of one ingress pool of a configuration (R580): lane count and rate bit. -/
def poolCredits (lanes rate : Nat) : Nat := if rate = 0 then 128 else if lanes = 4 then 512 else 256
def State.pool (s : State) (p : Nat) : Nat := poolCredits (s.fget (Reg.STR_PCFG_LANES.at p)) (s.fget (Reg.STR_PCFG_RATE.at p))

def ports : List Nat := List.range 36

/-- Cells taken by the ingress pools of the ports that are UP (R609). -/
def State.ingressCells (s : State) : Nat := sumN (ports.map fun p => if s.portUp p then 2 * s.pool p else 0)

/-- The charge of a reservation's burst (R610). -/
def burstCells (burst : Nat) : Nat := ceilDiv burst 64 + 4

/-- Charges held on a port direction: link control, Snag's standing reservation, and the paths that leave by it (R610). -/
def State.portCharge (s : State) (p : Nat) : Nat :=
  (if s.portUp p then 16 + burstCells (s.fget Reg.SNG_RES_BURST) else 0) +
    sumN ((s.str.paths.filter fun r => r.onward == some p).map fun r => burstCells r.burst)

/-- Cells of a merge's state: the summary it will emit, and its amendment (R413, R608). -/
def RItem.cells (i : RItem) : Nat := cellsOf (48 + 8 * i.payload.length)
def Merge.cells (m : Merge) : Nat := (m.item.elim 0 RItem.cells) + (m.amend.elim 0 RItem.cells)

/-- Cells of a vector that waits in a CHILD session's queue (R608, R615). -/
def Vec.cells (v : Vec) : Nat := cellsOf (32 + 8 * (ceilDiv v.keys.length 2 + ceilDiv v.keys.length 64))
def Sess.pendCells (x : Sess) : Nat := sumN ((x.pend.flatMap (·.vecs)).map Vec.cells)

/-- The queues taken on demand (R615): the lowest free number. -/
def State.freeQueue (s : State) : Option Nat :=
  if !s.build.isHub then none
  else (List.range 7680).map (· + 512) |>.find? fun q =>
    !(s.tws.merges.any fun m => m.queue == some q) && !(s.crd.any fun e => e.2.queue == some q)

/-- Count an on-demand request that finds no queue free (R615). -/
def State.dynFail (s : State) : State := if s.freeQueue.isNone then s.bump Reg.BOB_STAT_DYNFAIL else s

/-- Cells each queue holds. -/
def State.egressCells (s : State) (p c : Nat) : Nat := cellsSum ((s.port p).egress.getD c [])
def State.qCells (s : State) (q : Nat) : Nat :=
  if q < 64 then (Tab.getD s.hif.slices q {}).vq.length
  else if q = 64 then s.snag.fq.length
  else if q = 65 then s.stp.results.length
  else if q = 66 then s.reel.tags.length
  else if 128 ≤ q ∧ q < 416 then s.egressCells ((q - 128) / 8) (q % 8)
  else if 488 ≤ q ∧ q < 512 then (if q = 488 then s.skn.staged.length else 0)
  else sumN ((s.tws.merges.filter fun m => m.queue == some q).map Merge.cells) +
    sumN ((s.crd.filter fun e => e.2.queue == some q).map fun e => Sess.pendCells e.2)

/-- The limit of a queue in force (R612). -/
def State.qLimit (s : State) (q : Nat) : Nat :=
  if 128 ≤ q ∧ q < 416 ∧ q % 8 ≥ 4 then s.portCharge ((q - 128) / 8)
  else if 416 ≤ q ∧ q < 488 then s.pool ((q - 416) / 2)
  else s.fget (Reg.BOB_QLIM_LIMIT.at q)

def State.qGuar (s : State) (q : Nat) : Nat := s.fget (Reg.BOB_QGUAR_GUAR.at q)

/-- The queues that take cells of the common part and have a descriptor of their own. -/
def commonQueues (b : Build) : List Nat :=
  List.range (nSlices b) ++ [64, 65, 66] ++ ((ports.filter (hasPort b)).flatMap fun p => (List.range 4).map (egressQ p))

/-- The size of the common part (R609). -/
def State.commonPart (s : State) : Nat := nCells s.build - s.fget Reg.BOB_RSHARE_SHARE - s.ingressCells

/-- Free cells of the common part, GUAR not included. -/
def State.commonFree (s : State) : Nat :=
  s.commonPart - sumN ((commonQueues s.build).map fun q => max (s.qGuar q) (s.qCells q)) -
    sumN ((s.tws.merges.filter fun m => !m.reserved).map Merge.cells) - sumN (s.crd.map fun e => if e.2.queue.isSome then Sess.pendCells e.2 else 0)

/-- Whether `n` more cells fit a queue (R613). -/
def State.qFits (s : State) (q n : Nat) : Bool :=
  decide (s.qCells q + n ≤ s.qLimit q) &&
    (if 128 ≤ q ∧ q < 416 ∧ q % 8 ≥ 4 then true
     else decide (n ≤ (s.qGuar q - s.qCells q) + s.commonFree))

/-- A parity error found in a cell of a queue: STORE at F0 names the Bobbin unit, the cell (free: no rule numbers cells) and the queue (R616, R504). -/
def State.badCell (s : State) (q : Nat) : State :=
  let f := s.freeWord
  (f.2.bump Reg.BOB_ERR_PARITY).raise fSTORE 0 (s.unit 0xE) (f.1.toNat % 2 ^ 32 + fld 13 32 q)

/-! ### Custody (R153, R585) -/

/-- The custody of a received frame passes. -/
def State.custodyDone (s : State) (c : Nat × Nat) : State :=
  s.modPort c.1 fun x => { x with custody := x.custody.filter (· != c.2) }

/-- The merge inputs that frames carried have passed on, or ended with them (R421). -/
def State.inputsOut (s : State) (n : Nat) : State := if n = 0 then s else s.led 0x0A 0 .out n

/-- Frames accepted by the next point, or dropped: the custody of what they carry passes or ends. -/
def State.endFrames (s : State) (fs : List TxFrame) : State :=
  ((fs.flatMap (·.covers)).foldl State.custodyDone s).inputsOut (sumN (fs.map (·.inputs)))

/-! ### Saturation accounts (R431) -/

/-- Origin and session of a best-effort message, from its payload (R317, R343, R401, R402); a message that names none is this block's own. -/
def State.contributor (s : State) (typ : Nat) (ws : List W64) : Hank × Nat :=
  let w := fun i => ws.getD i 0
  let h := fun (x : W64) => (BitVec.ofNat 48 (bits x 47 0) : Hank)
  match typ with
  | 0x10 => (h (w 1), bits (w 2) 43 32)
  | 0x13 => (h (w 3), bits (w 1) 59 48)
  | 0x11 => (h (w 2), 0)
  | _ => (s.unit 0, 0)

/-- Add bytes to a contributor: its own counter, a free one, or the smallest, whose count it takes over. -/
def addContributor (l : List (Hank × Nat × Nat)) (k : Hank × Nat) (n : Nat) : List (Hank × Nat × Nat) :=
  if l.any fun e => e.1 == k.1 && e.2.1 == k.2 then
    l.map fun e => if e.1 = k.1 ∧ e.2.1 = k.2 then (e.1, e.2.1, e.2.2 + n) else e
  else if l.length < 8 then l ++ [(k.1, k.2, n)]
  else
    let i := (l.zipIdx.foldl (fun (b : Nat × Nat) e => if e.1.2.2 < b.1 then (e.1.2.2, e.2) else b) ((l.headD (0, 0, 0)).2.2, 0))
    l.set i.2 (k.1, k.2, i.1 + n)

def State.modSat (s : State) (p : Nat) (f : SatPort → SatPort) : State :=
  { s with tws := { s.tws with satPorts := Tab.set s.tws.satPorts p (f (Tab.getD s.tws.satPorts p {})) } }

/-- Frames of a class shed under CLASS_SHED (R431, R629). -/
def State.countShed (s : State) (p c n : Nat) : State :=
  (s.fadd (Reg.DRF_CSTAT_SHED.at (p + 64 * c)) n).modSat p fun x => { x with shed := listSet x.shed c (x.shed.getD c 0 + n) }

def State.satOffer (s : State) (p : Nat) (fs : List TxFrame) : State :=
  match fs with
  | [] => s
  | f :: _ => s.modSat p fun x => { x with
      contributors := addContributor x.contributors (s.contributor f.typ f.payload) (sumN (fs.map TxFrame.bytes)) }

/-! ### Sending -/

/-- The frames of a message (R571): at most 27 payload words each. Fuel is the word count. -/
def framesF : Nat → List W64 → List (List W64)
  | 0, _ => []
  | n + 1, ws => if ws.length ≤ 27 then [ws] else ws.take 27 :: framesF n (ws.drop 27)

def mkFramesN (typ tc msg : Nat) (dest : Hank) (replay : Bool) (words : List W64) (covers : List (Nat × Nat)) (inputs : Nat) : List TxFrame :=
  let parts := framesF (words.length + 1) words
  let n := parts.length
  (parts.zipIdx).map fun e =>
    { typ, tc, first := e.2 == 0, last := e.2 + 1 == n, replay, poison := false, dest, payload := e.1, seq := 0, msg,
      sentFt := 0, covers := if e.2 + 1 = n then covers else [], inputs := if e.2 + 1 = n then inputs else 0 }

def mkFrames (typ tc msg : Nat) (dest : Hank) (replay : Bool) (words : List W64) (covers : List (Nat × Nat)) : List TxFrame :=
  mkFramesN typ tc msg dest replay words covers 0

/-- Queue whole frames of one class on a port, counting them in (R621, R628). -/
def State.enqueue (s : State) (p c : Nat) (fs : List TxFrame) : State :=
  let s1 := s.modPort p fun x => { x with egress := listSet x.egress c (x.egress.getD c [] ++ fs) }
  (s1.led 6 (draftPt p c) .inn fs.length).led 5 (egressQ p c) .inn (cellsSum fs)

/-- Take back the oldest message of a class of which no frame has departed (R627). -/
def oldestWhole (l : List TxFrame) : Option (List TxFrame × List TxFrame) :=
  match l.find? (·.first) with
  | none => none
  | some f => some (l.filter (·.msg == f.msg), l.filter (·.msg != f.msg))

/-- Shed one message of class `c`. -/
def State.shedOne (s : State) (p c : Nat) : Option State :=
  match oldestWhole ((s.port p).egress.getD c []) with
  | none => none
  | some (gone, rest) =>
    let s1 := s.modPort p fun x => { x with egress := listSet x.egress c rest }
    let s2 := (s1.ledDrop 6 (draftPt p c) 2 gone.length).led 5 (egressQ p c) .out (cellsSum gone)
    some ((s2.countShed p c gone.length).endFrames gone)

/-- Shed below class `c` until `n` cells fit, lowest class first (R627). -/
def State.makeRoom : Nat → State → Nat → Nat → Nat → State
  | 0, s, _, _, _ => s
  | fuel + 1, s, p, c, n =>
    if s.qFits (egressQ p c) n then s
    else
      match (List.range c).findSome? fun k => s.shedOne p k with
      | some s' => s'.makeRoom fuel p c n
      | none => s

/-- Drop the frames of a message at the Draft egress point before they are queued. -/
def State.dropAtDraft (s : State) (p c reason : Nat) (fs : List TxFrame) : State :=
  ((s.led 6 (draftPt p c) .inn fs.length).ledDrop 6 (draftPt p c) reason fs.length).endFrames fs

/-- A partition fence or a unit fence holds a down-port (R54, R511). -/
def State.portFenced (s : State) (p : Nat) : Bool :=
  s.isFenced (portSub p) || (!isUp p && s.build.isHub && s.partFenced (s.portPart p))

/-- Hand the frames of one message to Draft on a port. -/
def State.sendFrames (s : State) (p c : Nat) (fs : List TxFrame) : State :=
  if s.portFenced p then s.dropAtDraft p c rsnFENCED fs
  else
    let q := egressQ p c
    let n := cellsSum fs
    if c ≥ 4 then
      if s.qFits q n && (s.port p).stalled.isEmpty then s.enqueue p c fs
      else (s.modPort p fun x => { x with stalled := x.stalled ++ [fs] }).bump Reg.BOB_STAT_RSTALL
    else
      let s0 := s.satOffer p fs
      let s1 := s0.makeRoom (sumN (((s0.port p).egress.take c).map List.length) + 1) p c n
      if s1.qFits q n then s1.enqueue p c fs
      else (s1.dropAtDraft p c 2 fs).countShed p c fs.length

/-- Held producers retry when cells are released (R613). Fuel is the number held. -/
def State.retryStalled : Nat → State → Nat → State
  | 0, s, _ => s
  | fuel + 1, s, p =>
    match (s.port p).stalled with
    | [] => s
    | fs :: rest =>
      let c := (fs.head?.map (·.tc)).getD 7
      if s.qFits (egressQ p c) (cellsSum fs) then
        ((s.modPort p fun x => { x with stalled := rest }).enqueue p c fs).retryStalled fuel p
      else s

/-- Send a message that carries merge inputs on a port. -/
def State.sendN (s : State) (p typ tc : Nat) (dest : Hank) (replay : Bool) (words : List W64) (covers : List (Nat × Nat)) (inputs : Nat) : State :=
  let s1 := { s with str := { s.str with msgs := s.str.msgs + 1 } }
  s1.sendFrames p tc (mkFramesN typ tc s.str.msgs dest replay words covers inputs)

/-- Send a message on a port. -/
def State.send (s : State) (p typ tc : Nat) (dest : Hank) (replay : Bool) (words : List W64) (covers : List (Nat × Nat)) : State :=
  s.sendN p typ tc dest replay words covers 0

/-- Send a message toward the current parent; with no parent it is held for 64 µs after the loss, and from then on dropped under NO_PARENT (R155). -/
def State.sendUpN (s : State) (typ tc : Nat) (dest : Hank) (replay : Bool) (words : List W64) (covers : List (Nat × Nat)) (inputs : Nat) : State :=
  match s.upPort with
  | some p => s.sendN p typ tc dest replay words covers inputs
  | none =>
    let fs := mkFramesN typ tc 0 dest replay words covers inputs
    if s.isRoot then s.endFrames fs
    else if (s.str.noParentFt.elim false fun t => decide (s.now < t + 64 * us)) then
      s.sendN (s.str.lostPort.getD s.primaryUp) typ tc dest replay words covers inputs
    else s.dropAtDraft (s.str.lostPort.getD s.primaryUp) tc 8 fs

def State.sendUp (s : State) (typ tc : Nat) (dest : Hank) (replay : Bool) (words : List W64) (covers : List (Nat × Nat)) : State :=
  s.sendUpN typ tc dest replay words covers 0

/-! ### Departure (R570 to R573, R622) -/

def b2 (b : Bool) (k : Nat) : Nat := b2n b * 2 ^ k

/-- Header and payload of a frame as bytes (R568, R570). -/
def frameBytes (typ : Nat) (f : Frame) : List Byte :=
  let w0 := typ % 256 + fld 3 8 f.tc.toNat + b2 f.first 11 + b2 f.last 12 + b2 f.replay 13 + b2 f.poison 14 + b2 f.locked 15
    + fld 5 16 f.payload.length + f.ct.toNat * 2 ^ 24
  let w1 := f.seq.toNat + f.lack.toNat * 2 ^ 32
  let w2 := f.cack.toNat + f.rcred.toNat * 2 ^ 32 + f.bcred.toNat * 2 ^ 48
  wordsBytes ([BitVec.ofNat 64 w0, BitVec.ofNat 64 w1, BitVec.ofNat 64 w2, BitVec.ofNat 64 f.dest.toNat] ++ f.payload)

/-- The check of R570. -/
def frameCrc (typ : Nat) (f : Frame) : W32 := BitVec.ofNat 32 (crcOf polyIeee (frameBytes typ f))

/-- CACK of a port: every received frame below it is in custody (R570, R585). -/
def State.cackOf (s : State) (p : Nat) : Nat :=
  ((s.port p).custody ++ (s.port p).partials.flatMap fun e => e.2.seqs).foldl (fun m q => if seqLt q m then q else m) (s.fget (Reg.STR_PRXSEQ_SEQ.at p))

/-- Put a frame on the wire: header fields of the port, the stamp and time fields of its departure at the ball, credit returns, check (R570, R82). Where the ball instant lies between two ticks, which tick CT takes is free. -/
def State.emitFrame (s : State) (p : Nat) (x : TxFrame) (seq stamp : Nat) : State :=
  let pt := s.port p
  let lack := s.fget (Reg.STR_PRXSEQ_SEQ.at p)
  let cack := s.cackOf p
  let u := s.ballOut p stamp
  let d := s.freeDiv u 64
  let ft := d.1.toNat
  let f : Frame :=
    { tc := BitVec.ofNat 3 x.tc, first := x.first, last := x.last, replay := x.replay, poison := x.poison, locked := s.locked,
      ct := BitVec.ofNat 40 ft, seq := BitVec.ofNat 32 seq, lack := BitVec.ofNat 32 lack, cack := BitVec.ofNat 32 cack,
      rcred := BitVec.ofNat 16 pt.rret, bcred := BitVec.ofNat 16 pt.bret, dest := x.dest
      payload := departWords x.typ u x.t2 ft x.payload, crc := 0 }
  let f := { f with crc := frameCrc x.typ f }
  ((d.2.noteReq p x.typ u x.payload).setPort p { pt with rret := 0, bret := 0, txFt := s.now, sentCack := cack, sentLack := lack, ctrlDue := false }).emit
    (.frame p x.typ f)

/-- Bytes held in the retransmit buffer of a port. -/
def rtxBytes (pt : Port) : Nat := sumN ((pt.rtx ++ pt.held).map TxFrame.bytes)
def State.rtxShow (s : State) (p : Nat) : State :=
  (s.fset (Reg.STR_PRTX_FRAMES.at p) ((s.port p).rtx.length + (s.port p).held.length)).fset (Reg.STR_PRTX_KIB.at p) (ceilDiv (rtxBytes (s.port p)) 1024)

/-- The credit field of a class's pool (R580). -/
def credField (c p : Nat) : RF := if c ≥ 4 then Reg.STR_PCRED_RES.at p else Reg.STR_PCRED_BE.at p

/-- Frame bytes plus overhead charged to a class bucket (R623). -/
def State.bucketCharge (s : State) (p : Nat) (x : TxFrame) : Nat := (x.bytes + Tab.getD s.drf.povh p 0) * 65536
def State.bucket (s : State) (p c : Nat) : Bucket := Tab.getD s.drf.buckets (p + 64 * c) {}

/-- The head frame of a class may leave: credits, buffer room and tokens (R622). -/
def State.mayLeave (s : State) (p c : Nat) (x : TxFrame) : Bool :=
  decide (x.cells ≤ s.fget (credField c p)) &&
    decide (rtxBytes (s.port p) + x.bytes ≤ 1024 * s.fget (Reg.STR_PRTXCAP_KIB.at p)) &&
    (decide (c ≥ 4) || decide ((s.bucket p c).rate = 0) || decide (s.bucketCharge p x ≤ (s.bucket p c).tokens))

/-- The link-control types (R585, R594): their frames are never replayed. -/
def linkControl (typ : Nat) : Bool := decide (typ ∈ [0x01, 0x04, 0x05, 0x06, 0x07, 0x08, 0x09, 0x0A, 0x0B])

/-- A port whose held frames may be replayed: one that faces no parent, or the current parent's (R579, R594). -/
def State.replays (s : State) (p : Nat) : Bool := !isUp p || s.isPeer p || (s.curUp == some p && s.fget Reg.STR_HOMING_CUR_PARENT != 3)

/-- Departures have stopped on a port whose parent is lost (R593); on the port of an alternate that the child leaves, those of items (R597). -/
def State.lostHere (s : State) (p : Nat) : Bool :=
  s.str.lostPort == some p && s.portUp p && (match s.str.homing with | .attaching q _ => q != p | .settled => true)
def State.leaving (s : State) (p : Nat) : Bool := s.str.returnFt.isSome && s.altUp == some p

/-- A held frame may leave: credits alone bind it, since its room in the buffer is already taken. -/
def State.heldHead (s : State) (p c : Nat) : Option TxFrame :=
  if !s.replays p then none
  else ((s.port p).held.find? (·.tc == c)).bind fun x => if x.cells ≤ s.fget (credField c p) then some x else none

/-- The first class from 7 down of which a frame may leave (R622), with whether it is a held one: frames to replay leave before others of their class. -/
def State.pickClass (s : State) (p : Nat) : Option (Nat × TxFrame × Bool) :=
  ([7, 6, 5, 4, 3, 2, 1, 0] : List Nat).findSome? fun c =>
    match s.heldHead p c with
    | some x => some (c, x, true)
    | none =>
      if s.replays p && (s.port p).held.any (·.tc == c) then none
      else match (s.port p).egress.getD c [] with
      | x :: _ => if s.mayLeave p c x && !(s.leaving p && !linkControl x.typ) then some (c, x, false) else none
      | [] => none

/-- Count the classes passed over for want of tokens or credits, and a stall for want of buffer (R587, R629). -/
def State.countPassed (s : State) (p upto : Nat) : State :=
  ([7, 6, 5, 4, 3, 2, 1, 0] : List Nat).foldl (fun s c =>
    if c < upto then s else
    match (s.port p).egress.getD c [] with
    | [] => s
    | x :: _ =>
      let s1 := if x.cells ≤ s.fget (credField c p) then s else s.bump (Reg.STR_PSTALL_CREDIT.at p)
      let s2 := if rtxBytes (s.port p) + x.bytes ≤ 1024 * s.fget (Reg.STR_PRTXCAP_KIB.at p) then s1
        else s1.bump (Reg.STR_PSTALL_RTXFULL.at p)
      if c < 4 ∧ (s.bucket p c).rate ≠ 0 ∧ (s.bucket p c).tokens < s.bucketCharge p x then
        s2.bump (Reg.DRF_CSTAT_WAITS.at (p + 64 * c)) else s2) s

/-- A departure counted at the transmit point (R604). -/
def State.countDepart (s : State) (p : Nat) : State := (s.led 7 p .copy 1).led 7 p .out 1

/-- An unsequenced frame: CTRL (0x02) or NAK (0x03). -/
def ctlFrame (typ : Nat) : TxFrame :=
  { typ, tc := 7, first := true, last := true, replay := false, poison := false, dest := 0, payload := [], seq := 0, msg := 0, sentFt := 0, covers := [] }

/-- A frame enters the retransmit buffer with the next SEQ and leaves (R573, R585). -/
def State.firstDepart (s : State) (p stamp : Nat) (x : TxFrame) : State × Option TxFrame :=
  let next := s.fget (Reg.STR_PTXSEQ_SEQ.at p)
  let y := { x with seq := next, sentFt := s.ft }
  let s1 := s.modPort p fun q => { q with rtx := q.rtx ++ [y], lackFt := if q.rtx.isEmpty then s.now else q.lackFt }
  let s2 := (s1.countDepart p).fset (Reg.STR_PTXSEQ_SEQ.at p) (next + 1)
  ((s2.emitFrame p y next stamp).rtxShow p, some y)

/-- Spend a frame's credits (R580). -/
def State.spend (s : State) (p : Nat) (x : TxFrame) : State :=
  (s.fset (credField x.tc p) (s.fget (credField x.tc p) - x.cells)).led 9 p .out x.cells

/-- A frame leaves its egress queue for the transmit point. -/
def State.dequeue (s : State) (p c : Nat) (x : TxFrame) : State :=
  let s1 := s.modPort p fun q => { q with egress := listSet q.egress c ((q.egress.getD c []).drop 1) }
  ((s1.led 6 (draftPt p c) .out 1).led 5 (egressQ p c) .out x.cells).led 7 p .inn 1

/-- The class bucket is charged for a frame (R624). -/
def State.chargeBucket (s : State) (p c : Nat) (x : TxFrame) : State :=
  let bk := s.bucket p c
  let bk2 : Bucket := { bk with tokens := bk.tokens - s.bucketCharge p x }
  if c < 4 ∧ bk.rate ≠ 0 then { s with drf := { s.drf with buckets := Tab.set s.drf.buckets (p + 64 * c) bk2 } } else s

/-- INIT leaves first, and alone, in state INIT (R577). -/
def State.departInit (s : State) (p stamp : Nat) : State × Option TxFrame :=
  match (s.port p).egress.getD 7 [] with
  | x :: _ =>
    if x.typ = 5 then ((s.dequeue p 7 x).modPort p fun q => { q with initSent := true }).firstDepart p stamp x
    else (s, none)
  | [] => (s, none)

/-- One frame leaves a port: a CTRL or NAK frame, a frame of a retry, or the frame that Draft selects (R583, R585, R622). The last answer says which frame left. -/
def State.depart (s : State) (p stamp : Nat) : State × Option TxFrame :=
  let pt := s.port p
  let next := s.fget (Reg.STR_PTXSEQ_SEQ.at p)
  if !(s.pState p == 2 || s.pState p == 3) || s.lostHere p then (s, none)
  else if pt.nakDue then
    let s1 := s.setPort p { pt with nakDue := false, nakWait := true, lastNakFt := s.now }
    ((s1.bump (Reg.STR_PRETRY_NAKS.at p)).emitFrame p (ctlFrame 3) next stamp, none)
  else if pt.ctrlDue then (s.emitFrame p (ctlFrame 2) next stamp, none)
  else match pt.resend with
    | q :: rest =>
      let s1 := s.setPort p { pt with resend := rest }
      (match pt.rtx.find? (·.seq == q) with
      | some x => (((s1.countDepart p).bump (Reg.STR_PRETRY_RETRIES.at p)).emitFrame p x q stamp, some x)
      | none => (s1, none))
    | [] =>
      if s.pState p = 2 then (if pt.initSent then (s, none) else s.departInit p stamp)
      else match s.pickClass p with
      | none => (s.countPassed p 0, none)
      | some (c, x, true) =>
        let s1 := (s.countPassed p (c + 1)).modPort p fun q => { q with held := q.held.erase x }
        ((s1.spend p x).firstDepart p stamp x)
      | some (c, x, false) =>
        let s1 := (((s.countPassed p (c + 1)).dequeue p c x).chargeBucket p c x).spend p x
        let r := s1.firstDepart p stamp x
        (r.1.retryStalled (r.1.port p).stalled.length p, r.2)

/-! ### Release (R585) -/

/-- Release the held frames that CACK has passed. -/
def State.releaseTo (s : State) (p cack : Nat) : State :=
  let pt := s.port p
  let gone := pt.rtx.filter fun x => seqLt x.seq cack
  if gone.isEmpty then s
  else
    let s1 := s.setPort p { pt with rtx := pt.rtx.filter fun x => !seqLt x.seq cack }
    let s2 := s1.endFrames gone
    (s2.led 7 p .dup gone.length).rtxShow p

/-- The acknowledgements and credit returns that every frame carries. -/
def State.takeAcks (s : State) (p : Nat) (f : Frame) : State :=
  let pt := s.port p
  let lack := f.lack.toNat
  let s1 := if seqLt pt.lack lack then
      s.setPort p { pt with lack, lackFt := s.now, resend := pt.resend.filter fun q => !seqLt q lack } else s
  let s2 := s1.releaseTo p f.cack.toNat
  let r := f.rcred.toNat
  let b := f.bcred.toNat
  let s3 := (s2.fadd (Reg.STR_PCRED_RES.at p) r).fadd (Reg.STR_PCRED_BE.at p) b
  if r + b = 0 then s3 else s3.led 9 p .inn (r + b)

/-- Every frame from LACK onward is sent again (R583). -/
def State.resendAll (s : State) (p : Nat) : State :=
  s.modPort p fun x => { x with resend := (x.rtx.filter fun q => !seqLt q.seq x.lack).map (·.seq), lackFt := s.now }

/-! ### Cuts at a port (R158, R427, R428) -/

def State.modCutPort (s : State) (p : Nat) (f : CutPort → CutPort) : State :=
  match s.tws.cut with
  | some c => { s with tws := { s.tws with cut := some { c with ports := c.ports.map fun x => if x.p = p then f x else x } } }
  | none => s

/-- The parent's audit of a link, once the child's report is here and the port's cut has closed or is INCOMPLETE (R158, R428). -/
def State.auditLink (s : State) (p : Nat) : State :=
  match s.tws.cut with
  | none => s
  | some c =>
    match c.ports.find? (·.p == p) with
    | none => s
    | some x =>
      match x.report with
      | none => s
      | some (out, held) =>
        if !(x.closed || x.incomplete) then s
        else
          let inflight : Int := (out : Int) - x.accepted
          let bad := decide (inflight > (held : Int)) || (!x.incomplete && decide (inflight ≠ (x.late : Int)))
          let s1 := s.modCutPort p fun y => { y with inflight := inflight.toNat, auditFail := bad }
          if bad && !x.auditFail then s1.raise fLEDGER 0 (s.unit (portSub p)) (s.pointIndex (ledKey 8 p) + 65536 * 8) else s1

/-- A frame accepted on a port: stamped at or before the cut it is late; stamped after it, the port's cut closes (R427). Its CT is placed by the last sync point received on the port (R77, assumption 73). -/
def State.cutFrame (s : State) (p ct : Nat) : State :=
  match s.tws.cut with
  | none => s
  | some c =>
    if c.ports.any fun x => x.p == p && !x.closed && !x.incomplete then
      if reconstruct ct ((s.port p).rxSyncFt.getD s.ft) ≤ c.cutFt then s.modCutPort p fun x => { x with late := x.late + 1 }
      else (s.modCutPort p fun x => { x with closed := true }).auditLink p
    else s

/-- The link of a port is lost before its cut closes. -/
def State.cutLost (s : State) (p : Nat) : State :=
  (s.modCutPort p fun x => if x.closed then x else { x with incomplete := true }).auditLink p

/-! ### Receiving -/

/-- A message that a port has received whole. -/
structure Msg where
  port : Nat
  typ : Nat
  tc : Nat
  dest : Hank
  replay : Bool
  words : List W64
  seqs : List Nat
  deriving DecidableEq, Repr

/-- How a frame type is carried (R574). -/
inductive Carry where | link | hop | routed | bcast | none
  deriving DecidableEq, Repr

def carryOf (typ : Nat) : Carry :=
  if typ = 0 ∨ typ > 0x24 then .none
  else if typ ∈ [0x0C, 0x0D, 0x0E] then .hop
  else if typ ∈ [0x0F, 0x14, 0x15, 0x16, 0x17, 0x19, 0x1A, 0x20] then .routed
  else if typ ∈ [0x12, 0x1C, 0x1E, 0x1F, 0x21, 0x22] then .bcast
  else .link

/-- Types accepted on an up-port, and on a down-port (R574). PTP messages are judged by their own kind. -/
def acceptUp (typ : Nat) : Bool :=
  decide (typ ∈ [0x01, 0x02, 0x03, 0x04, 0x05, 0x07, 0x0B, 0x0D, 0x0E, 0x0F, 0x12, 0x15, 0x16, 0x19, 0x1A, 0x1C, 0x1E, 0x1F, 0x21, 0x22])
def acceptDown (typ : Nat) : Bool :=
  decide (typ ∈ [0x01, 0x02, 0x03, 0x04, 0x05, 0x06, 0x08, 0x09, 0x0A, 0x0C, 0x0E, 0x0F, 0x10, 0x11, 0x13, 0x14, 0x17, 0x18, 0x19, 0x1A, 0x1B, 0x1D, 0x20, 0x23])

/-- The direction rule of R574 and R575 at a port: a Leaf takes the "up" column only; on the peer link the active root takes "down", the standby "up"; MIRROR is for the peer link only. -/
def State.accepts (s : State) (p typ : Nat) : Bool :=
  if s.isPeer p then
    typ == 0x24 || (if s.rootActive then acceptDown typ else acceptUp typ)
  else if isUp p then acceptUp typ
  else acceptDown typ

/-- Note that every frame of a message has passed on at the receive point. -/
def State.rxPass (s : State) (p n : Nat) : State := s.led 8 p .out n

/-- The frame breaks R571, or completes or continues a message: the message received, if any. -/
def State.assemble (s : State) (p typ : Nat) (f : Frame) : State × Option Msg :=
  let c := f.tc.toNat
  let pt := s.port p
  let broken := fun (s : State) (n : Nat) =>
    ((s.modPort p fun x => { x with partials := Tab.del x.partials c }).ledDrop 8 p rsnPOISON n).raise fLINK 0 (s.unit (portSub p)) 0
  let keep := fun (s : State) (m : Partial) =>
    if f.last then
      ((s.modPort p fun x => { x with partials := Tab.del x.partials c }),
        some { port := p, typ, tc := c, dest := m.dest, replay := m.replay, words := m.words, seqs := m.seqs })
    else ((s.modPort p fun x => { x with partials := Tab.set x.partials c m }), none)
  match Tab.get pt.partials c, f.first with
  | none, true => keep s { typ, dest := f.dest, replay := f.replay, words := f.payload, seqs := [f.seq.toNat] }
  | some m, false =>
    if m.typ = typ then keep s { m with words := m.words ++ f.payload, seqs := m.seqs ++ [f.seq.toNat] }
    else (broken s (m.seqs.length + 1), none)
  | none, false => (broken s 1, none)
  | some m, true =>
    keep (broken s m.seqs.length) { typ, dest := f.dest, replay := f.replay, words := f.payload, seqs := [f.seq.toNat] }

/-- Receipt of a frame of type `typ` on port `p` up to the point at which its unit takes it: check, acknowledgements, sequence, direction, reassembly (R571 to R575, R580 to R585, R604). -/
def State.rx (s : State) (p typ : Nat) (f : Frame) : State × Option Msg :=
  if !hasPort s.build p then (s, none)
  else if s.portFenced p then
    (if s.pState p = 3 ∨ s.pState p = 4 then (s.led 8 p .inn 1).ledDrop 8 p rsnFENCED 1 else s, none)
  else if !(s.pState p == 3 || (s.pState p == 2 && (typ == 2 || typ == 3 || typ == 5))) then (s, none)
  else
    let s := s.modPort p fun x => { x with lastRxFt := s.now }
    let next := s.fget (Reg.STR_PRXSEQ_SEQ.at p)
    if f.crc ≠ frameCrc typ f then
      ((((s.bump (Reg.STR_PERR_CRCERR.at p)).led 8 p .inn 1).ledDrop 8 p rsnPOISON 1).modPort p fun x => { x with nakDue := true }, none)
    else if typ = 2 then (s.takeAcks p f, none)
    else if typ = 3 then ((s.takeAcks p f).resendAll p, none)
    else
      let s := (if typ = 5 then s else s.takeAcks p f).led 8 p .inn 1
      if f.seq.toNat ≠ next then
        let s1 := s.led 8 p .dup 1
        (if seqLt next f.seq.toNat then s1.modPort p fun x => { x with nakDue := true } else s1, none)
      else
        let n := cellsOf (frameBytesLen f.payload.length)
        let n := if typ = 5 then 0 else n
        let s := (s.fset (Reg.STR_PRXSEQ_SEQ.at p) (next + 1)).modPort p fun x => { x with
            nakWait := false,
            rret := if f.tc.toNat ≥ 4 then x.rret + n else x.rret,
            bret := if f.tc.toNat ≥ 4 then x.bret else x.bret + n }
        let s := s.cutFrame p f.ct.toNat
        if f.poison then (s.ledDrop 8 p rsnPOISON 1, none)
        else if !(s.accepts p typ) then ((s.ledDrop 8 p 7 1).bump (Reg.STR_PUNAUTH_COUNT.at p), none)
        else if carryOf typ = .routed ∧ namesNothing f.dest then (s.ledDrop 8 p 1 1, none)
        else s.assemble p typ f

/-- The receiver keeps the custody of a message's frames open until the messages that carry it onward are acknowledged. -/
def State.holdCustody (s : State) (m : Msg) : State :=
  s.modPort m.port fun x => { x with custody := x.custody ++ m.seqs }
def Msg.covers (m : Msg) : List (Nat × Nat) := m.seqs.map fun q => (m.port, q)

/-! ### Routing (R35) -/

inductive Route where | here | port (p : Nat) | parent | drop
  deriving DecidableEq, Repr

/-- The deepest match among active route entries and adoption entries; an adoption entry wins a tie. -/
def State.bestRoute (s : State) (place : Nat) : Option Nat :=
  let rs := ((List.range 32).filter fun p => s.routeActive p && s.routeMatch p place).map fun p => (s.fget (Reg.STR_ROUTE_DEPTH.at p), p)
  let as := (s.str.adopt.filter fun a => placeMatch a.depth (hPlace a.prefix_) place).map fun a => (a.depth, a.port)
  ((rs ++ as).foldl (fun (b : Option (Nat × Nat)) e =>
    match b with
    | none => some e
    | some x => if e.1 ≥ x.1 then some e else b) none).map (·.2)

def State.route (s : State) (dst : Hank) (arrived : Nat) : Route :=
  if hPlace dst = hPlace s.self ∧ hTier dst = s.tier then .here
  else if !s.build.isHub then (if isUp arrived then .drop else .parent)
  else match s.bestRoute (hPlace dst) with
    | some p => .port p
    | none => if isUp arrived || s.isRoot then .drop else .parent

/-- Forward a routed message, keeping its custody open until it is acknowledged; `none` when it is for this block. -/
def State.forward (s : State) (m : Msg) : Option State :=
  match s.route m.dest m.port with
  | .here => none
  | .port p => some (((s.rxPass m.port m.seqs.length).holdCustody m).send p m.typ m.tc m.dest m.replay m.words m.covers)
  | .parent => some (((s.rxPass m.port m.seqs.length).holdCustody m).sendUp m.typ m.tc m.dest m.replay m.words m.covers)
  | .drop => some (s.ledDrop 8 m.port 1 m.seqs.length)

/-- Send a routed message that starts at this block; `none` when it is for this block itself. -/
def State.sendRouted (s : State) (typ tc : Nat) (dest : Hank) (words : List W64) : Option State :=
  match s.route dest 0 with
  | .here => none
  | .port p => some (s.send p typ tc dest false words [])
  | .parent => some (s.sendUp typ tc dest false words [])
  | .drop => some s

/-! ### Broadcasts (R589 to R591) -/

/-- A port's route prefix lies within a scope, or the scope within it (R590). -/
def State.inScope (s : State) (p depth place : Nat) : Bool :=
  let d := s.fget (Reg.STR_ROUTE_DEPTH.at p)
  placeMatch (min d depth) (s.fget (Reg.STR_ROUTE_PREFIX.at p)) place

/-- The ports on which a broadcast goes out: down-ports in scope that are UP and, at the active root, the peer link. -/
def State.bcastPorts (s : State) (depth place : Nat) : List Nat :=
  if !s.build.isHub then []
  else ((List.range 32).filter fun p => s.portUp p && s.routeValid p && s.inScope p depth place) ++
    (if s.rootActive && s.portUp 32 then [32] else [])

def State.bcastSend (s : State) (typ tc depth place : Nat) (words : List W64) : State :=
  (s.bcastPorts depth place).foldl (fun s p => s.send p typ tc 0 false words []) s

/-- The scope of a block: its own prefix. -/
def State.ownDepth (s : State) : Nat := tierDepth s.tier

/-- Start a broadcast from this block over a scope (R589). -/
def State.broadcast (s : State) (typ tc : Nat) (depth : Nat) (pfx : Hank) (words : List W64) : State :=
  let n := s.str.bseq + 1
  let s1 := { s with str := { s.str with bseq := n % 2 ^ 32 } }
  let w0 := BitVec.ofNat 64 s.self.toNat
  let w1 := BitVec.ofNat 64 (n % 2 ^ 32 + fld 3 32 depth + fld 16 48 (s.fget Reg.SKN_BOOT_BOOT))
  s1.bcastSend typ tc depth (hPlace pfx) (w0 :: w1 :: BitVec.ofNat 64 pfx.toNat :: words)

/-- The duplicate table's answer for a broadcast (R591): accepted or not, with the table after it. -/
def State.dedupe (s : State) (orig : Hank) (epoch bseq : Nat) : Bool × State :=
  let put := fun (l : List Origin) => { s with str := { s.str with dups := l } }
  match s.str.dups.find? (·.addr == orig) with
  | some o =>
    let others := s.str.dups.filter (·.addr != orig)
    if o.epoch ≠ epoch then (true, put ({ o with epoch, high := bseq, window := 0, used := s.now } :: others))
    else if seqLt o.high bseq then
      let k := (bseq + 2 ^ 32 - o.high) % 2 ^ 32
      let w : W64 := if k ≥ 65 then 0 else (o.window <<< k) ||| (1#64 <<< (k - 1))
      (true, put ({ o with high := bseq, window := w, used := s.now } :: others))
    else
      let k := (o.high + 2 ^ 32 - bseq) % 2 ^ 32
      if 1 ≤ k ∧ k ≤ 64 ∧ !(bit o.window (k - 1)) then
        (true, put ({ o with window := o.window ||| (1#64 <<< (k - 1)), used := s.now } :: others))
      else (false, put ({ o with used := s.now } :: others))
  | none =>
    let o : Origin := { addr := orig, epoch, high := bseq, window := 0, used := s.now }
    if s.str.dups.length < 64 then (true, put (o :: s.str.dups))
    else
      let oldest := s.str.dups.foldl (fun (m : Origin) x => if x.used < m.used then x else m) (s.str.dups.headD o)
      (true, (((put (o :: s.str.dups.filter (·.addr != oldest.addr))).bump Reg.STR_BCSTAT_EVICT).raise fCONFIG 0 oldest.addr 0))

/-- Take a broadcast message: discard a duplicate, else relay it once and answer its words beyond the header (R590, R591). -/
def State.takeBcast (s : State) (m : Msg) : State × Option (Hank × List W64) :=
  let h0 := (m.words.getD 0 0).toNat
  let h1 := (m.words.getD 1 0).toNat
  let h2 := (m.words.getD 2 0).toNat
  let orig : Hank := BitVec.ofNat 48 h0
  let n := m.seqs.length
  match s.dedupe orig (h1 / 2 ^ 48) (h1 % 2 ^ 32) with
  | (false, s1) => ((s1.led 8 m.port .dup n).fadd Reg.STR_BCSTAT_DUP n, none)
  | (true, s1) =>
    let s2 := s1.rxPass m.port n
    (s2.bcastSend m.typ m.tc (h1 / 2 ^ 32 % 8) (h2 % 2 ^ 48 / 2 ^ 14) m.words, some (orig, m.words.drop 3))

/-! ### Links going down and parents lost (R569, R592, R593) -/

/-- The UP bits of R605. -/
def State.showUp (s : State) (p : Nat) (v : Bool) : State :=
  if isUp p then s.fset Reg.STR_UPSTAT_UP (putBits (s.fget Reg.STR_UPSTAT_UP) (p - 32) 1 (b2n v))
  else s.fset Reg.STR_DNUP_UP (putBits (s.fget Reg.STR_DNUP_UP) p 1 (b2n v))

/-- Credits in hand are counted under RESET and cleared when a link goes down (R604). -/
def State.dropCredits (s : State) (p : Nat) : State :=
  let n := s.fget (Reg.STR_PCRED_RES.at p) + s.fget (Reg.STR_PCRED_BE.at p)
  let s1 := (s.fset (Reg.STR_PCRED_RES.at p) 0).fset (Reg.STR_PCRED_BE.at p) 0
  if n = 0 then s1 else s1.ledDrop 9 p rsnRESET n

/-- A port leaves UP (or any training state) for the state given. -/
def State.leaveUp (s : State) (p newState : Nat) : State :=
  let open_ := sumN ((s.port p).partials.map fun e => e.2.seqs.length)
  let s0 := if open_ = 0 then s else s.ledDrop 8 p rsnPOISON open_
  let s1 := (s0.dropCredits p).modPort p fun x => { x with
    initSent := false, initGot := false, judged := false, pdReqs := 0, partials := [], custody := [], resend := [], nakDue := false, nakWait := false, ctrlDue := false }
  let s2 := (s1.fset (Reg.STR_PSTAT_STATE.at p) newState).showUp p false
  (s2.fset (Reg.STR_PSTAT_ADMITTED.at p) 0).fset (Reg.STR_PSTAT_RESERVABLE.at p) 0

/-- ATTACH on an up-port (R593): the child's address in [47:0]; RETURN in [48] is 1 when the port faces the primary parent (R597). -/
def State.sendAttach (s : State) (p : Nat) : State :=
  let s1 := s.send p 0x06 7 0 false [BitVec.ofNat 64 (s.self.toNat + b2n (p == s.primaryUp) * 2 ^ 48)] []
  { s1 with str := { s1.str with homing := .attaching p s.now } }

/-- The other up-port of a dual-homed child. -/
def State.otherUp (s : State) (p : Nat) : Option Nat :=
  if p = s.primaryUp then s.altUp else some s.primaryUp

/-- The child has no parent from now (R155). -/
def State.noParent (s : State) : State :=
  { s.fset Reg.STR_HOMING_CUR_PARENT 2 with str := { (s.fset Reg.STR_HOMING_CUR_PARENT 2).str with
      noParentFt := some (s.str.noParentFt.getD s.now) } }

/-- Loss of the current parent on port `p` detected (R592, R593). -/
def State.loseParent (s : State) (p : Nat) : State :=
  let s1 := (s.bump Reg.STR_UPSTAT_LOSSES).fset (Reg.STR_PSTAT_HOMED.at p) 0
  let s2 := { s1 with str := { s1.str with lostPort := some p } }
  if s2.str.childFenced.isSome then s2.noParent
  else match s2.otherUp p with
    | some q => if s2.portUp q && !(s2.str.barred.contains q) then s2.sendAttach q else s2.noParent
    | none => s2.noParent

/-- The port to which the child attaches goes down: it has no parent, and turns to its other up-port if that is UP (R598). -/
def State.attachLost (s : State) (p : Nat) : State :=
  let s1 := s.noParent
  let s2 := { s1 with str := { s1.str with homing := .settled } }
  match s2.otherUp p with
  | some q => if s2.portUp q && !(s2.str.barred.contains q) then s2.sendAttach q else s2
  | none => s2

/-- A child whose primary parent is the other root has attached here: at position B, an adopted child of the highest tier that the route table names (R28, R43). -/
def State.otherRootChild (s : State) : Bool :=
  let valid := (List.range 32).filter s.routeValid
  s.tier == 6 && valid.any fun p => s.routeActive p && s.flag (Reg.STR_ROUTE_ALT.at p) && s.portUp p &&
    valid.all fun q => decide (s.fget (Reg.STR_ROUTE_DEPTH.at p) ≤ s.fget (Reg.STR_ROUTE_DEPTH.at q))

/-- The role rules of R28 when what a root observes changes: a root that observes no active peer while a child of the other root is attached takes over. -/
def State.takeover (s : State) : State :=
  if s.isRoot && s.running && !s.rootActive && !s.str.peerActive && s.otherRootChild then
    let s1 := (s.fset Reg.STR_TIER_ROOT_ACTIVE 1).fadd Reg.STR_TIER_ROLE_EPOCH 1
    { s1 with whl := { s1.whl with noStep := true } }
  else s

/-- The address of the child that a route entry names: its place, and the tier that its depth gives (R22, R33). -/
def State.childAddr (s : State) (p : Nat) : Hank :=
  BitVec.ofNat 48 (s.fget (Reg.STR_ROUTE_PREFIX.at p) * 2 ^ 14 + 2048 * (6 - s.fget (Reg.STR_ROUTE_DEPTH.at p)))

/-- A child of this Hub is lost: LINK at F0 names it and the dies behind it, the largest CONTRIB remembered of it (R60, R412). -/
def State.loseChild (s : State) (p : Nat) : State :=
  if s.routeActive p then
    s.raise fLINK 0 (s.childAddr p) (((s.tws.parts.filter (·.port == p)).map (·.contrib)).foldl max 0)
  else s

/-- A link goes down (R569): the port leaves UP for `newState`; a lost parent starts the failover, a lost child is reported, and a root watches its peer link. -/
def State.linkDown (s : State) (p newState : Nat) : State :=
  let was := s.portUp p
  let s1 := (s.leaveUp p newState).cutLost p
  if !was then s1
  else if s.isPeer p then
    let s2 := { s1 with str := { s1.str with peerActive := false } }
    s2.takeover
  else if isUp p then
    (if s1.curUp = some p then s1.loseParent p
     else match s1.str.homing with
      | .attaching q _ => if q = p then s1.attachLost p else s1
      | .settled => s1)
  else s1.loseChild p

end Sys2Proof.Machine
end

