-- ==== Sys2Proof/Machine/Skein.lean ====
section
/-! DEFINITION. The Skein log (R653 to R665): calendar fields, records entering the log or its staging queue, and the start of a dump capture (R667). -/

namespace Sys2Proof.Machine

/-! ### Calendar time (R116, R117) -/

/-- Year, month and day of a count of days since 2000-01-01. -/
structure Civil where
  year : Nat
  month : Nat
  day : Nat
  deriving DecidableEq, Repr

/-- The civil date of a day count since 0000-03-01, shifted to eras of 400 years. -/
def civilOf (days : Nat) : Civil :=
  let z := days + 730425
  let era := z / 146097
  let doe := z % 146097
  let yoe := (doe - doe / 1460 + doe / 36524 - doe / 146096) / 365
  let doy := doe - (365 * yoe + yoe / 4 - yoe / 100)
  let mp := (5 * doy + 2) / 153
  let d := doy - (153 * mp + 2) / 5 + 1
  let m := if mp < 10 then mp + 3 else mp - 9
  { year := yoe + era * 400 + (if m ≤ 2 then 1 else 0), month := m, day := d }

/-- The calendar fields of an instant. -/
structure Cal where
  date : Civil
  hour : Nat
  minute : Nat
  second : Nat
  ns : Nat
  off : Int
  unconv : Bool
  deriving DecidableEq, Repr

def secondsPerTick : Nat := 4000000000

/-- The offset in force at a TAI second: the base, or that of the last entry whose T_eff has come. -/
def Leap.offsetAt (l : Leap) (tai : Nat) : Int :=
  l.entries.foldl (fun o e => if e.1 ≤ tai then e.2 else o) l.base

/-- R116. -/
def toCalendar (leap : Option Leap) (ft : Nat) : Cal :=
  let tai := ft / secondsPerTick
  let ns := ft % secondsPerTick / 4
  let off : Int := match leap with | some l => l.offsetAt tai | none => 0
  let u : Int := (tai : Int) - off
  let isLeap := match leap with
    | some l => l.entries.any fun e => e.1 == tai + 1 && decide (e.2 = off + 1)
    | none => false
  let expired := match leap with | some l => decide (tai > l.expiry) | none => true
  if u < 0 then
    { date := civilOf 0, hour := 0, minute := 0, second := 0, ns := 0, off, unconv := true }
  else
    let v := if isLeap then u.toNat - 1 else u.toNat
    { date := civilOf (v / 86400), hour := v % 86400 / 3600, minute := v % 3600 / 60,
      second := if isLeap then 60 else v % 60, ns, off, unconv := expired }

/-- Signed value as `w` bits. -/
def signed (w : Nat) (v : Int) : Nat := (v % (2 ^ w : Nat)).toNat

/-! ### Records (R657) -/

/-- The header words of a log record, CHECK included. -/
def sknRecord (s : State) (typ ft : Nat) (seq : W32) (payload : Rec) : Rec × Rec :=
  let c := toCalendar s.whl.leap ft
  let w1 := fld 12 0 c.date.year + fld 4 12 c.date.month + fld 5 16 c.date.day + fld 5 21 c.hour + fld 6 26 c.minute
    + fld 6 32 c.second + b2 c.unconv 38 + b2 s.locked 39 + fld 8 48 (signed 8 c.off)
  let w2 := fld 30 0 c.ns + fld 8 32 typ + fld 16 48 (s.fget Reg.SKN_BOOT_BOOT)
  let hdr := fun (chk : Nat) =>
    ({ w0 := BitVec.ofNat 64 ft, w1 := BitVec.ofNat 64 w1, w2 := BitVec.ofNat 64 w2,
       w3 := BitVec.ofNat 64 (seq.toNat + chk * 2 ^ 32) } : Rec)
  let words := fun (r : Rec) => [r.w0, r.w1, r.w2, r.w3]
  let chk := crcOf polyC (wordsBytes (words (hdr 0) ++ words payload))
  (hdr chk, payload)

def recSeq (r : Rec × Rec) : Nat := r.1.w3.toNat % 2 ^ 32
def recWords (r : Rec) : List W64 := [r.w0, r.w1, r.w2, r.w3]
def recBytes (r : Rec) : List Byte := wordsBytes (recWords r)
def recOfWords (ws : List W64) : Rec := { w0 := ws.getD 0 0, w1 := ws.getD 1 0, w2 := ws.getD 2 0, w3 := ws.getD 3 0 }

/-- The oldest held record: the overflow region comes before the on-chip log (R654). -/
def State.logHeld (s : State) : List (Rec × Rec) := s.skn.ovf ++ s.skn.recs

def ovfRecords (s : State) : Nat := s.fget Reg.SKN_OVFSIZE_SIZE / 64

def State.logLost (s : State) : State := (s.ledDrop 0x10 0 0x10 1).bump Reg.SKN_STAT_LOST

/-- A record enters the log under R654 and R655. -/
def State.logEnter (s : State) (r : Rec × Rec) : State :=
  let add := fun (s : State) => { s with skn := { s.skn with recs := s.skn.recs ++ [r] } }
  if s.skn.recs.length < 4096 then add s
  else if s.build.isHub && decide (s.skn.ovf.length < ovfRecords s) then
    add { s with skn := { s.skn with ovf := s.skn.ovf ++ s.skn.recs.take 1, recs := s.skn.recs.drop 1 } }
  else if s.flag Reg.SKN_CTRL_MODE then s.logLost
  else if s.build.isHub && decide (0 < ovfRecords s) then
    (add { s with skn := { s.skn with ovf := s.skn.ovf.drop 1 ++ s.skn.recs.take 1, recs := s.skn.recs.drop 1 } }).logLost
  else (add { s with skn := { s.skn with recs := s.skn.recs.drop 1 } }).logLost

/-- The whole log is full and keeps its records (R655). -/
def State.logRefuses (s : State) : Bool :=
  s.flag Reg.SKN_CTRL_MODE && decide (4096 ≤ s.skn.recs.length) && (!s.build.isHub || decide (ovfRecords s ≤ s.skn.ovf.length))

/-- A new record: it takes its SEQ and enters the log, or the staging queue while the log is frozen (R656, R662). -/
def State.logAdd (s : State) (typ ft : Nat) (payload : Rec) : State :=
  let s1 := s.led 0x10 0 .inn 1
  let r := sknRecord s typ ft s.skn.next payload
  let took := { s1 with skn := { s1.skn with next := s.skn.next + 1 } }
  if s.skn.read.isSome then
    if s.skn.staged.length < 256 then { took with skn := { took.skn with staged := took.skn.staged ++ [r] } }
    else s1.logLost
  else if s.logRefuses then s1.logLost
  else took.logEnter r

/-- The freeze ends: staged records enter in SEQ order (R662). -/
def State.logThaw (s : State) : State :=
  let st := s.skn.staged
  st.foldl State.logEnter { s with skn := { s.skn with staged := [], read := none } }

/-- A capture starts when none runs and no dump is held (R667). -/
def State.dumpStart (s : State) (mask port : Nat) (auto : Bool) (cmd : Option Running) : State :=
  { s with skn := { s.skn with capture := some { mask, port, auto, start := s.ft, cmd }, noResp := [] } }

def State.dumpFree (s : State) : Bool := s.skn.dump.isNone && s.skn.capture.isNone

end Sys2Proof.Machine
end

