-- ==== Sys2Proof/Machine/TraceCore.lean ====
section
/-! DEFINITION. The Trace unit's shared operations (R265 to R279): packets into the circular buffer, triggers and the freeze. -/

namespace Sys2Proof.Machine

abbrev tIDLE := 0
abbrev tARMED := 1
abbrev tPOST := 2
abbrev tFROZEN := 3
abbrev tSTREAM := 4

def State.trcState (s : State) : Nat := s.fget Reg.TRC_STATUS_STATE
def trcBuffer : Nat := 2097152

/-- A packet header (R265). -/
def pktHeader (typ src lenw : Nat) (locked : Bool) (info ct : Nat) : W64 :=
  BitVec.ofNat 64 (fld 4 0 typ + fld 5 4 src + fld 3 9 lenw + b2 locked 12 + fld 8 16 info + fld 40 24 ct)

def pktType (ws : List W64) : Nat := bits (ws.headD 0) 3 0
def pktSource (ws : List W64) : Nat := bits (ws.headD 0) 8 4
def pktBytes (ws : List W64) : Nat := 8 * ws.length

def State.trSrc (s : State) (i : Nat) : TrSrc := Tab.getD s.trc.srcs i {}
def State.setTrSrc (s : State) (i : Nat) (x : TrSrc) : State := { s with trc := { s.trc with srcs := Tab.set s.trc.srcs i x } }

/-- A source is enabled: the unit captures and SRCMASK names it (R284). -/
def State.srcEnabled (s : State) (i : Nat) : Bool :=
  decide (s.trcState ∈ [tARMED, tPOST, tSTREAM]) && s.trc.releasing.isNone &&
    (match s.trc.cfg with | some c => bit c.srcMask i | none => false)

/-- Write one packet at the write count. -/
def State.putPacket (s : State) (ws : List W64) : State :=
  let at_ := s.fget Reg.TRC_WRCNT_COUNT
  let wr := at_ + pktBytes ws
  let s1 := { s with trc := { s.trc with pkts := (s.trc.pkts ++ [(at_, ws)]).filter fun e => decide (wr ≤ e.1 + trcBuffer) } }
  s1.fset Reg.TRC_WRCNT_COUNT wr

/-- Drop a packet of a source under FROZEN. -/
def State.dropFrozen (s : State) (src n : Nat) : State :=
  if n = 0 then s else (s.ledDrop 2 src 0xD n).fadd (Reg.TRC_SRCSTAT_DROPPED.at src) n

/-- The freeze of R277. -/
def State.traceFreeze (s : State) : State :=
  let wr := s.fget Reg.TRC_WRCNT_COUNT
  let s1 := (List.range 32).foldl (fun s i =>
    let x := s.trSrc i
    let s1 := if s.srcEnabled i then s.emit (.pin (.traceEnable i) false) else s
    if x.buf.isEmpty then s1 else ((s1.dropFrozen i x.buf.length).setTrSrc i { x with buf := [] })) s
  let old := if wr ≤ trcBuffer then 0
    else match s1.trc.pkts.find? fun e => decide (wr - trcBuffer ≤ e.1) with | some e => e.1 | none => wr
  let s2 := ((s1.fset Reg.TRC_OLDCNT_COUNT old).fset Reg.TRC_STATUS_VALID 1).fset Reg.TRC_STATUS_STATE tFROZEN
  match s.trc.cfg with
  | some c => if c.autoDrain && !c.mode && c.dest != 0 then
      { s2.fset Reg.TRC_DRAINCNT_COUNT 0 with trc := { s2.trc with autoDue := true, segPos := old, segFt := s.now } }
    else s2
  | none => s2

/-- The post-trigger target of R276. -/
def TrcCfg.target (c : TrcCfg) : Nat := (16 - c.pre) * 131072

/-- Freeze when the count since the trigger has reached the target (R276). -/
def State.checkTarget (s : State) : State :=
  match s.trc.cfg with
  | some c =>
    if s.trcState = tPOST ∧ s.fget Reg.TRC_WRCNT_COUNT - s.fget Reg.TRC_TRIGCNT_COUNT ≥ c.target then s.traceFreeze else s
  | none => s

/-- A cause is enabled for what it names (R275). -/
def State.trigEnabled (s : State) (cause arg : Nat) : Bool :=
  (s.fget Reg.TRC_TRIG_CAUSES / 2 ^ cause) % 2 == 1 &&
    (match cause with
    | 2 => (s.fget Reg.TRC_VKINDS_KINDS / 2 ^ arg) % 2 == 1
    | 3 => decide (s.fget Reg.TRC_TRIG_FLVL ≤ arg)
    | _ => true)

/-- A trigger offered to the Trace unit of a Leaf (R275, R276, R278). `arg` is the comparator, slub kind or fault level. -/
def State.traceTrigger (s : State) (cause arg ft : Nat) : State :=
  if s.build.isHub || !(s.trigEnabled cause arg) then s
  else
    let pkt := [pktHeader 9 0 1 s.locked (fld 4 0 cause + fld 4 4 (if cause = 0 then arg else 0)) ft, BitVec.ofNat 64 ft]
    match s.trcState with
    | 1 =>
      let s1 := (s.fset Reg.TRC_TRIGCNT_COUNT (s.fget Reg.TRC_WRCNT_COUNT)).fset Reg.TRC_STATUS_CAUSE cause
      ((s1.fset Reg.TRC_STATUS_STATE tPOST).putPacket pkt).checkTarget
    | 2 => s.bump Reg.TRC_STATUS_EXTRA_TRIG
    | 3 => s.bump Reg.TRC_STATUS_EXTRA_TRIG
    | 4 => (s.fset Reg.TRC_STATUS_CAUSE cause).putPacket pkt
    | _ => s

end Sys2Proof.Machine
end

