-- ==== Sys2Proof/Machine/Snag.lean ====
section
/-! DEFINITION. Snag's shared operations (R498 to R519): taking a fault, its record, escalation, fences, the F3 stop, and carrying out the effects that a step owes. -/

namespace Sys2Proof.Machine

/-! ### Interrupts and fault records -/

/-- Request an interrupt (R195): nothing is requested, or remembered, while IRQ_EN is 0. -/
def State.irq (s : State) (hubVec leafLine : Nat) : State :=
  if s.flag Reg.HIF_CTRL_IRQ_EN then s.emit (.irq (if s.build.isHub then hubVec else leafLine)) else s

def State.faultIrq (s : State) : State := s.irq 128 32

/-- Write a record into the fault queue (R505); a record that enters an empty queue, or for which `always` holds, requests the interrupt (R507). -/
def State.fqPush (s : State) (r : Rec) (always : Bool) : State :=
  let empty := s.snag.fq.isEmpty
  let s1 := s.led 5 64 .inn 1
  if s.snag.fq.length < 256 then
    let s2 := { s1 with snag := { s1.snag with fq := s1.snag.fq ++ [r] } }
    if empty || always then s2.faultIrq else s2
  else
    let s2 := (s1.ledDrop 5 64 0xF 1).bump Reg.SNG_FQSTAT_LOST
    if always then s2.faultIrq else s2

/-- The flag bits of a fault record beside CODE, STATED and LEVEL (R503). -/
structure FaultBits where
  advisory : Bool := false
  escalated : Bool := false
  remote : Bool := false
  nofence : Bool := false
  deferred : Bool := false

/-- A fault record (R503). -/
def faultRec (s : State) (ft code stated level : Nat) (b : FaultBits) (subj : Hank) (info : W64) : Rec :=
  let w1 := fld 8 0 code + b2 b.advisory 8 + fld 2 9 stated + fld 2 11 level + b2 b.escalated 13 + b2 s.locked 14 + b2 b.remote 15
    + b2 b.nofence 16 + b2 b.deferred 17 + s.snag.seq.toNat * 2 ^ 32
  let w2 := subj.toNat + (match s.partOf subj with | some n => fld 4 48 n + 2 ^ 52 | none => 0)
  { w0 := BitVec.ofNat 64 ft, w1 := BitVec.ofNat 64 w1, w2 := BitVec.ofNat 64 w2, w3 := info }

def State.nextFaultSeq (s : State) : State := { s with snag := { s.snag with seq := s.snag.seq + 1 } }

/-- An advisory record (R536): recorded, logged under its mask, never escalated. HARD asks for the interrupt (R534). -/
def State.advise (s : State) (code : Nat) (subj : Hank) (info : Nat) (hard : Bool) : State :=
  let r := faultRec s s.ft code 0 0 { advisory := true } subj (BitVec.ofNat 64 info)
  let s1 := (s.fqPush r hard).nextFaultSeq
  if bit (BitVec.ofNat 16 (s.fget Reg.SNG_LOGMASK_MASK)) (code - 1) then s1.logAdd 1 s.ft r else s1

/-! ### Fences (R508 to R514) -/

/-- The fence outputs mapped to a host sub-unit (R513). -/
def State.outputsOf (s : State) (u : Nat) : List Nat :=
  (List.range 64).filter fun n => s.flag (Reg.SNG_FMAP_VALID.at n) && s.fget (Reg.SNG_FMAP_UNIT.at n) == u

/-- Any fence in force covers a host unit (R514). -/
def State.hostCovered (s : State) (u : Nat) : Bool :=
  s.isFenced u || (match s.hostPart u with | some n => s.partFenced n | none => false)

/-- A unit fence can be applied (R512). -/
def State.canFenceUnit (s : State) (sub : Nat) : Bool :=
  sub != 0 && unitExists s.build sub && (decide (sub < 0x100) || !(s.outputsOf sub).isEmpty)

/-- Down-ports fenced at F1, and asserted outputs, as `SNG_FOUT` shows them. -/
def State.setFout (s : State) (n : Nat) (v : Bool) : State :=
  s.fset Reg.SNG_FOUT_FENCED (putBits (s.fget Reg.SNG_FOUT_FENCED) n 1 (b2n v))

/-- Drive the outputs of a host unit; an output already at that level is left (R513, R514). -/
def State.assertOutputs (s : State) (u : Nat) (v : Bool) : State :=
  (s.outputsOf u).foldl (fun s n => if s.fget Reg.SNG_FOUT_FENCED / 2 ^ n % 2 == b2n v then s else (s.setFout n v).emit (.pin (.fence n) v)) s

/-- An F1 fence (R511). -/
def State.fenceUnit (s : State) (sub : Nat) : State :=
  if s.isFenced sub then s.bump Reg.SNG_FSTAT_REPEATS
  else if s.stopped && decide (0x100 ≤ sub) then s
  else
    let s1 := { s with snag := { s.snag with unitFence := Tab.set s.snag.unitFence sub () } }
    if sub ≥ 0x100 then s1.assertOutputs sub true
    else if 0x80 ≤ sub ∧ sub < 0xA4 then
      let p := sub - 0x80
      let s2 := ((s1.linkDown p 4).emit (.lanes p true))
      if p < 32 then s2.setFout p true else s2
    else if 0x40 ≤ sub ∧ sub < 0x80 then s1.fset (Reg.SPN_STAT_FENCED.at (sub - 0x40)) 1
    else s1

/-- The down-ports of a Hub partition (R51). -/
def State.partPorts (s : State) (n : Nat) : List Nat := (List.range 32).filter fun p => s.portPart p == n

/-- Empty the egress queues of a fenced port, the FENCE frame apart (R54, R621, R628). -/
def State.purgeEgress (s : State) (p : Nat) : State :=
  (List.range 8).foldl (fun s c =>
    let l := (s.port p).egress.getD c []
    let gone := l.filter fun x => x.typ != 0x0B
    if gone.isEmpty then s else
      let s1 := s.modPort p fun x => { x with egress := listSet x.egress c (l.filter fun x => x.typ == 0x0B) }
      ((s1.ledDrop 6 (draftPt p c) rsnFENCED gone.length).ledDrop 5 (egressQ p c) rsnFENCED (cellsSum gone)).endFrames gone) s

/-- The host units of a Leaf partition that have an output. -/
def State.partUnits (s : State) (n : Nat) : List Nat :=
  ((List.range 64).filter fun k => s.flag (Reg.SNG_FMAP_VALID.at k) && s.hostPart (s.fget (Reg.SNG_FMAP_UNIT.at k)) == some n).map
    fun k => s.fget (Reg.SNG_FMAP_UNIT.at k)

/-- An F2 fence (R54, R511). -/
def State.fencePart (s : State) (n : Nat) : State :=
  if s.partFenced n then s.bump Reg.SNG_FSTAT_REPEATS
  else
    let mark := fun (s : State) => s.fset Reg.SNG_FSTAT_PARTS (putBits (s.fget Reg.SNG_FSTAT_PARTS) n 1 1)
    if s.build.isHub then
      let ps := s.partPorts n
      let s1 := ps.foldl (fun s p => if s.portUp p then s.send p 0x0B 7 0 false [] [] else s) s
      let s2 := ps.foldl (fun s p => (s.purgeEgress p).fset (Reg.STR_ROUTE_ACTIVE.at p) 0) s1
      let s3 := ps.foldl (fun s p => s.fset (Reg.STR_PSTAT_HOMED.at p) 0) s2
      mark { s3 with
        str := { s3.str with adopt := s3.str.adopt.filter fun a => !(ps.contains a.port) }
        snag := { s3.snag with partIdle := Tab.set s3.snag.partIdle n (s.now + 2 * us) } }
    else if s.stopped then s
    else (s.partUnits n).foldl (fun s u => s.assertOutputs u true) (mark s)

/-- The F3 stop (R515, R516). -/
def State.stopBlock (s : State) : State :=
  if s.stopped then s
  else
    let s1 := ((s.fset Reg.SNG_STATUS_STOPPED 1).fset Reg.SNG_STATUS_ALIVE_RUN 0).emit (.pin .alive false)
    { s1 with snag := { s1.snag with stopFt := some s.now, aliveLevel := false } }

/-- A fence that a fault's level calls for: applied, deferred to the driver or impossible. -/
inductive FenceHow where | none | apply | nofence | deferred
  deriving DecidableEq, Repr

def State.fenceHow (s : State) (level : Nat) (subj : Hank) : FenceHow :=
  match level with
  | 0 => .none
  | 3 => .apply
  | 1 => if s.assisted 4 then .deferred else if sameBlock subj s.self && s.canFenceUnit (hSub subj) then .apply else .nofence
  | _ => if s.assisted 4 then .deferred
    else if hSub subj != 0 && sameBlock subj s.self && (s.partOf subj).isSome then .apply else .nofence

def State.applyLevel (s : State) (level : Nat) (subj : Hank) : State :=
  match level with
  | 1 => s.fenceUnit (hSub subj)
  | 2 => s.fencePart ((s.partOf subj).getD 0)
  | 3 => s.stopBlock
  | _ => s

/-! ### Taking a fault (R500 to R507) -/

/-- The cap of a class (R499). -/
def State.cap (s : State) (c : Nat) : Nat := s.fget Reg.SNG_CAP_CAPS / 2 ^ (2 * (c - 1)) % 4

/-- Snag takes one fault, whose record carries `ft`. `noFence` marks the record of a fence request that could not be applied (R512). -/
def State.takeFault (s : State) (ft c stated : Nat) (subj : Hank) (info : W64) (noFence : Bool) : State :=
  let s := s.fnSwitch 4
  let ub := s.fget Reg.SNG_UNACK_CLASS
  let unack := ub / 2 ^ (c - 1) % 2 == 1
  let last := Tab.getD s.snag.last c 0
  let e := if unack then max stated (min (max stated last + 1) (s.cap c)) else stated
  let how := s.fenceHow e subj
  let r := faultRec s ft c stated e
    { escalated := unack && decide (e > stated), nofence := noFence || how == .nofence, deferred := how == .deferred } subj info
  let s1 := (s.fset Reg.SNG_UNACK_CLASS (putBits ub (c - 1) 1 1)).bump Reg.SNG_STATUS_RAISED
  let s2 := { s1 with snag := { s1.snag with last := Tab.set s1.snag.last c e } }
  let s3 := ((s2.fset Reg.SNG_STATUS_LEVEL (max e (s2.fget Reg.SNG_STATUS_LEVEL))).fqPush r (decide (e ≥ 1))).nextFaultSeq
  let s4 := if e ≥ 1 || bit (BitVec.ofNat 16 (s.fget Reg.SNG_LOGMASK_MASK)) (c - 1) then s3.logAdd 1 ft r else s3
  let s5 := if e ≥ 1 ∧ !s.build.isHub then s4.sendUp 0x18 6 0 false (recWords r) [] else s4
  let s6 := if how = .apply then s5.applyLevel e subj else s5
  let s7 := if (e = 3 ∨ c = fHANG) ∧ s6.flag Reg.SKN_CTRL_AUTODUMP ∧ s6.dumpFree then s6.dumpStart 0xFF 0 true none else s6
  s7.traceTrigger 3 e s.ft

/-- A fence request of a source other than a fault (R508, R510, R512). -/
def State.takeFence (s : State) (source scope target : Nat) : State :=
  let no := fun (s : State) (h : Hank) => s.takeFault s.ft fCONFIG 0 h (BitVec.ofNat 64 source) true
  match scope with
  | 1 => if s.canFenceUnit target then s.fenceUnit target else no s (s.unit target)
  | 2 => s.fencePart target
  | 3 => s.stopBlock
  | _ => s

/-! ### Effects owed within a step -/

/-- The order in which faults of one step are taken: class code, then subject (R502). -/
def faultBefore (a b : Nat × Nat) : Bool := decide (a.1 < b.1) || (a.1 == b.1 && decide (a.2 < b.2))

def workKey : Work → Nat × Nat
  | .fault c _ h _ => (c, h.toNat)
  | .faultAt c _ h _ _ => (c, h.toNat)
  | .fence .. => (100, 0)
  | .trig .. => (101, 0)

/-- The work to do next, and the rest. -/
def nextWork : List Work → Option (Work × List Work)
  | [] => none
  | w :: l =>
    let i := ((w :: l).zipIdx.foldl (fun (b : Work × Nat) e => if faultBefore (workKey e.1) (workKey b.1) then e else b) (w, 0)).2
    some ((w :: l).getD i w, (w :: l).eraseIdx i)

def State.doWork (s : State) : Work → State
  | .fault c l h i => s.takeFault s.ft c l h i false
  | .faultAt c l h i ft => s.takeFault ft c l h i false
  | .fence src sc t => s.takeFence src sc t
  | .trig c a t => s.traceTrigger c a t

def settleF : Nat → State → State
  | 0, s => s
  | n + 1, s =>
    match nextWork s.work with
    | none => s
    | some (w, rest) => settleF n ({ s with work := rest }.doWork w)

/-- Carry out every effect that a step owes. -/
def State.settle (s : State) : State := settleF (8 * s.work.length + 64) s

/-- The outcome of a meaning that takes `s` to `t`: the next state, with every owed effect carried out. No command changes the build, and none touches the commands that wait behind it. -/
def act (s t : State) : Host.Outcome State Fault Refusal := .next { t.settle with build := s.build, pending := s.pending }

end Sys2Proof.Machine
end

