-- ==== Sys2Proof/Machine/Operands.lean ====
section
/-! DEFINITION. Descriptors and their operands (R190 to R207): the checks of R198, operand bytes, the staging buffer, starting and completing a command, and the writing of results. -/

namespace Sys2Proof.Machine

/-! ### Status codes (R203) -/

abbrev stOK := 0x00
abbrev stBAD_OPCODE := 0x01
abbrev stAUTH := 0x02
abbrev stBAD_FIELD := 0x03
abbrev stBAD_SESSION := 0x04
abbrev stLEN_ZERO := 0x05
abbrev stLEN_OVER := 0x06
abbrev stADDR_FAULT := 0x07
abbrev stSTATE := 0x08
abbrev stNO_RESOURCE := 0x09
abbrev stLATE := 0x0A
abbrev stREFUSED := 0x0B
abbrev stABORTED := 0x0C
abbrev stPOISON := 0x0D
abbrev stFENCED := 0x0E
abbrev stTIMEOUT := 0x0F
abbrev stMODE := 0x10

/-! ### The staging buffer (R695) -/

def stageGet (m : List Host.Cell) (a : Nat) : Byte := (Tab.get m a).getD 0

/-- Write one byte, keeping the canonical form: no entry holds the value that an unlisted offset reads as. -/
def stagePut (m : List Host.Cell) (a : Nat) (v : Byte) : List Host.Cell :=
  if v = 0 then Tab.del m a else Tab.set m a v

def stageWrite (m : List Host.Cell) (a : Nat) (bs : List Byte) : List Host.Cell :=
  (bs.zipIdx).foldl (fun m e => stagePut m (a + e.2) e.1) m

def stageRead (m : List Host.Cell) (a n : Nat) : List Byte := (List.range n).map fun i => stageGet m (a + i)

/-- The canonical form of the staging buffer: offsets strictly rising, no entry zero. -/
def Memory.wf (m : List Host.Cell) : Bool := Tab.wf m && m.all fun c => c.2 != 0

def State.setStaging (s : State) (m : List Host.Cell) : State := { s with hif := { s.hif with staging := m } }

/-! ### Slices -/

def State.slice (s : State) (n : Nat) : Slice := Tab.getD s.hif.slices n {}
def State.setSlice (s : State) (n : Nat) (x : Slice) : State := { s with hif := { s.hif with slices := Tab.set s.hif.slices n x } }

def State.bound (s : State) (n : Nat) : Bool := n == 0 || s.flag (Reg.SLC_PASID_BOUND.at n)
def State.enabled (s : State) (n : Nat) : Bool := s.flag (Reg.SLC_CTRL_ENABLE.at n)

def mod32 (a b : Nat) : Nat := (a + 2 ^ 32 - b % 2 ^ 32) % 2 ^ 32

/-- Ring sizes and occupancies (R185, R186). -/
def State.cmdSize (s : State) (n : Nat) : Nat := 2 ^ s.fget (Reg.SLC_RINGSZ_CMD.at n)
def State.cplSize (s : State) (n : Nat) : Nat := 2 ^ s.fget (Reg.SLC_RINGSZ_CPL.at n)
def State.vrdSize (s : State) (n : Nat) : Nat := 2 ^ s.fget (Reg.SLC_RINGSZ_VRD.at n)
def State.cmdOcc (s : State) (n : Nat) : Nat := mod32 (s.fget (Reg.SLC_CMDTAIL_COUNT.at n)) (s.fget (Reg.SLC_CMDHEAD_COUNT.at n))
def State.cplOcc (s : State) (n : Nat) : Nat := mod32 (s.fget (Reg.SLC_CPLTAIL_COUNT.at n)) (s.fget (Reg.SLC_CPLHEAD_COUNT.at n))
def State.vrdOcc (s : State) (n : Nat) : Nat := mod32 (s.fget (Reg.SLC_VRDTAIL_COUNT.at n)) (s.fget (Reg.SLC_VRDHEAD_COUNT.at n))

/-- The block fetches descriptors of a slice: out of bring-up, HOST_EN, enabled, not stopped, a descriptor in the ring and room in the completion ring (R180, R190, R191, R515, R696). -/
def State.canFetch (s : State) (n : Nat) : Bool :=
  decide (n < nSlices s.build) && s.running && !s.stopped && s.flag Reg.HIF_CTRL_HOST_EN && s.enabled n
    && decide (s.cmdOcc n ≠ 0) && decide (s.cplOcc n < s.cplSize n)

/-- Count a descriptor as fetched (R201). -/
def State.countFetch (s : State) (n : Nat) : State :=
  (((s.fadd (Reg.SLC_CMDHEAD_COUNT.at n) 1).led 0x0C n .inn 1).fadd (Reg.SLC_STATUS_INFLIGHT.at n) 1).fset (Reg.SLC_STATUS_QUIESCED.at n) 0

/-- A ring or doorbell error with its cause (R217). -/
def State.ringErr (s : State) (n cause : Nat) : State :=
  (s.fset (Reg.SLC_STATUS_RING_ERR.at n) 1).fset (Reg.SLC_STATUS_CAUSE.at n) cause

/-- HOSTPROTO at F0 naming a slice: SUBJECT the host interface, INFO[7:0] the slice (R504). -/
def State.hostProto (s : State) (sub info : Nat) : State := s.raise fHOSTPROTO 0 (s.unit sub) info

/-! ### Completions -/

/-- Words of a completion (R202). -/
def cplWords (cseq phase : Nat) (c : Cpl) : W64 × W64 :=
  (BitVec.ofNat 64 (fld 16 0 cseq + fld 16 16 c.dseq + fld 8 32 c.opcode + fld 8 40 c.status + fld 12 48 c.session + fld 1 63 phase),
   BitVec.ofNat 64 (fld 40 0 c.ct + fld 24 40 c.value))

/-- The drop reason that a rejected descriptor counts under (R201). -/
def statusDrop (st : Nat) : Option Nat :=
  if st = stLEN_ZERO then some 3 else if st = stLEN_OVER then some 4 else if st = stAUTH then some 0xE else none

/-- A slice that is disabled and has nothing in flight is quiesced (R181). After a failed ring write the completions that were not written stay in the block (R194) and do not hold QUIESCED back: `quiescing` is then 0. -/
def State.checkQuiesced (s : State) (n : Nat) : State :=
  let x := s.slice n
  if !(s.enabled n) && x.running.isEmpty && x.fetched.isEmpty && (x.cplWait.isEmpty || !x.quiescing) then
    (s.setSlice n { x with quiescing := false }).fset (Reg.SLC_STATUS_QUIESCED.at n) 1
  else s

/-- A command that runs completes: its completion passes to the completion point of its slice (R201), or is the response on the management port (R207). -/
def State.complete (s : State) (r : Running) (st value session : Nat) : State :=
  let c : Cpl := { opcode := r.opcode, status := st, session := session, value, dseq := r.dseq, ct := s.ct, irq := r.d.irq }
  match r.src with
  | .slice n =>
    let x := s.slice n
    if !(x.running.any fun y => y.dseq == r.dseq && y.opcode == r.opcode) then s
    else
    let s1 := s.setSlice n { x with running := x.running.filter (·.dseq != r.dseq), cplWait := x.cplWait ++ [c] }
    let s2 := match statusDrop st with
      | some rsn => s1.ledDrop 0x0C n rsn 1
      | none => s1.led 0x0C n .out 1
    let s3 := (s2.led 0x0D n .inn 1).fset (Reg.SLC_STATUS_INFLIGHT.at n) (s2.fget (Reg.SLC_STATUS_INFLIGHT.at n) - 1)
    (if st = stAUTH then s3.bump Reg.HIF_ERR_AUTH else s3).checkQuiesced n
  | .mgmt =>
    let w := cplWords r.dseq 1 c
    let s1 := { s with hif := { s.hif with mgmtRun := none } }
    (if st = stAUTH then s1.bump Reg.HIF_ERR_AUTH else s1).emit (.mgmtResp w.1 w.2)

def State.completeOk (s : State) (r : Running) (value : Nat) : State := s.complete r stOK value r.d.session.toNat
def State.fail (s : State) (r : Running) (st : Nat) : State := s.complete r st 0 r.d.session.toNat

/-- Complete every fetched but unstarted descriptor with ABORTED, and stop fetching (R181). -/
def State.disableSlice (s : State) (n : Nat) : State :=
  let s0 := (s.fset (Reg.SLC_CTRL_ENABLE.at n) 0).fset (Reg.SLC_STATUS_ENABLED.at n) 0
  let x := s0.slice n
  let fs : List Running := x.fetched.map fun f => { src := .slice n, opcode := f.opcode, dseq := f.dseq, d := f.d, b := f.b }
  let s1 := s0.setSlice n { x with fetched := [], running := x.running ++ fs, quiescing := true }
  (fs.foldl (fun s r => s.fail r stABORTED) s1).checkQuiesced n

/-! ### Starting a command (R190, R198, R695, R696) -/

/-- The ports of R205. -/
inductive Perm where | h | hm | m | h0 | h0m
  deriving DecidableEq, Repr

def permits (p : Perm) (src : Src) : Bool :=
  match p, src with
  | .h, .slice _ => true
  | .hm, _ => true
  | .m, .mgmt => true
  | .h0, .slice n => n == 0
  | .h0m, .slice n => n == 0
  | .h0m, .mgmt => true
  | _, _ => false

/-- The management port executes an opcode now (R696). -/
def State.mgmtServes (s : State) (opc : Nat) : Bool :=
  if s.stopped then decide (opc ∈ [0x83, 0x80, 0x81, 0x82, 0x60])
  else if s.running then true
  else decide (opc ∈ [0x83, 0x80, 0x82, 0x60])

/-- A host command may start: no earlier command of its session runs or waits, and with FENCE nothing earlier does (R190). -/
def startable (x : Slice) (ahead : List Fetched) (d : Desc) (namesSess : Bool) : Bool :=
  if d.fence then x.running.isEmpty && ahead.isEmpty
  else !namesSess || ((x.running.all fun r => r.d.session != d.session) && ahead.all fun f => f.d.session != d.session)

/-- Start a command of slice `n`: the oldest fetched descriptor when it is this one, else the next one fetched from the ring. A command that may not start yet waits, fetched. -/
def State.startHost (s : State) (n opc : Nat) (d : Desc) (b : Bus) (perm : Perm) (namesSess : Bool)
    (body : State → Running → State) : State :=
  let x := s.slice n
  let run := fun (s : State) (dseq : Nat) =>
    let r : Running := { src := .slice n, opcode := opc, dseq, d, b }
    let s1 := s.setSlice n { s.slice n with running := (s.slice n).running ++ [r] }
    (if permits perm (.slice n) then body s1 r else s1.fail r stAUTH).checkQuiesced n
  match x.fetched with
  | f :: rest =>
    if s.stopped then s
    else if f.opcode = opc ∧ f.d = d ∧ f.b = b then
      if startable x [] d namesSess then run (s.setSlice n { x with fetched := rest }) f.dseq else s
    else if s.canFetch n then
      let dseq := s.fget (Reg.SLC_CMDHEAD_COUNT.at n) % 65536
      (s.countFetch n).setSlice n { x with fetched := x.fetched ++ [{ opcode := opc, d, b, dseq }] }
    else s
  | [] =>
    if s.canFetch n then
      let dseq := s.fget (Reg.SLC_CMDHEAD_COUNT.at n) % 65536
      let s1 := s.countFetch n
      if startable x [] d namesSess then run s1 dseq
      else s1.setSlice n { x with fetched := [{ opcode := opc, d, b, dseq }] }
    else s

/-- Management requests are held before step 2 of R698, and behind those held (R696). -/
def State.mgmtHolds (s : State) : Bool := s.bootStep == 0 || !s.hif.mgmtHeld.isEmpty
def State.holdMgmt (s : State) (i : Instr) : State := { s with hif := { s.hif with mgmtHeld := s.hif.mgmtHeld ++ [i] } }

/-- Start a management command, or hold it: before the island clock locks, and while another runs (R695, R696). -/
def State.startMgmt (s : State) (i : Instr) (opc : Nat) (d : Desc) (b : Bus) (perm : Perm) (body : State → Running → State) : State :=
  if s.mgmtHolds then s.holdMgmt i
  else if s.hif.mgmtRun.isSome || !s.hif.mgmtWait.isEmpty then { s with hif := { s.hif with mgmtWait := s.hif.mgmtWait ++ [i] } }
  else
    let r : Running := { src := .mgmt, opcode := opc, dseq := s.hif.mgmtCount % 65536, d, b }
    let s1 := { s with hif := { s.hif with mgmtRun := some r, mgmtCount := s.hif.mgmtCount + 1 } }
    if !s.mgmtServes opc then s1.fail r stSTATE
    else if permits perm .mgmt then body s1 r else s1.fail r stAUTH

/-- Process one descriptor of a command: starting, checks 1 and 2, and the command's own body. -/
def State.command (s : State) (i : Instr) (src : Src) (d : Desc) (b : Bus) (opc : Nat) (perm : Perm) (namesSess : Bool)
    (body : State → Running → State) : State :=
  match src with
  | .slice n => s.startHost n opc d b perm namesSess body
  | .mgmt => s.startMgmt i opc d b perm body

/-! ### Operands and checks 3 to 8 -/

def Running.isMgmt (r : Running) : Bool := match r.src with | .mgmt => true | .slice _ => false
/-- The slice whose command it is; slice 0 for a management command, which names none. -/
def Running.slice (r : Running) : Nat := match r.src with | .slice n => n | .mgmt => 0

/-- The operand bytes of a command: LEN bytes from host memory, or from the staging buffer (R695). -/
def State.operand (s : State) (r : Running) : List Byte :=
  match r.src with
  | .slice _ => r.b.data.take r.d.len.toNat ++ List.replicate (r.d.len.toNat - r.b.data.length) 0
  | .mgmt => stageRead s.hif.staging r.d.addr.toNat r.d.len.toNat

/-- Checks 3 to 8 of R198 that every command shares; `args` says that the command's own arguments are in range, `sess` that it names a session that is open and its own, `need` that it needs an operand or count, `over` that LEN or COUNT exceeds what stands behind it, `reads` that it reads an operand. -/
structure Need where
  args : Bool := true
  sess : Option Bool := none
  zero : Bool := false
  tooLong : Bool := false
  reads : Bool := false

def State.check (s : State) (r : Running) (n : Need) : Option Nat :=
  let d := r.d
  if d.rsv ≠ 0 ∨ (d.len ≠ 0 ∧ d.addr.toNat % 8 ≠ 0) ∨ !n.args then some stBAD_FIELD
  else if n.sess = some false then some stBAD_SESSION
  else if n.zero then some stLEN_ZERO
  else if n.tooLong ∨ (d.len ≠ 0 ∧ d.addr.toNat + d.len.toNat > (if r.isMgmt then stagingSize s.build else 2 ^ 64)) then some stLEN_OVER
  else if n.reads ∧ !r.isMgmt ∧ r.b.rd = .fault then some stADDR_FAULT
  else if n.reads ∧ !r.isMgmt ∧ r.b.rd = .poison then some stPOISON
  else none

/-- Run a body after the shared checks. -/
def State.checked (s : State) (r : Running) (n : Need) (body : State → State) : State :=
  match s.check r n with
  | some st => s.fail r st
  | none => body s

/-- The first failing check of a list, in order. -/
def firstFail (l : List (Bool × Nat)) : Option Nat := (l.find? (·.1)).map (·.2)

/-- Run a body after a command's own checks: each pair is a failing condition and its status. -/
def State.guarded (s : State) (r : Running) (l : List (Bool × Nat)) (body : State → State) : State :=
  match firstFail l with
  | some st => s.fail r st
  | none => body s

/-- A time argument that has passed (R200). -/
def State.late (s : State) (ft : Nat) : Bool := decide (ft ≤ s.ft)

/-- Write a command's result buffer: how many bytes stood, and whether the write failed (R199). -/
def State.putResult (s : State) (r : Running) (bs : List Byte) : State × Option Nat :=
  match r.src with
  | .mgmt => (s.setStaging (stageWrite s.hif.staging r.d.addr.toNat bs), none)
  | .slice n =>
    match r.b.wfail with
    | some k => if k < bs.length then (s.emit (.dma n r.d.addr (bs.take k)), some k) else (s.emit (.dma n r.d.addr bs), none)
    | none => (s.emit (.dma n r.d.addr bs), none)

/-- Write a result and complete: OK with the value, or ADDR_FAULT with the bytes written (R199). -/
def State.finish (s : State) (r : Running) (bs : List Byte) (value : Nat) : State :=
  if bs.isEmpty then s.completeOk r value
  else match s.putResult r bs with
    | (s1, none) => s1.completeOk r value
    | (s1, some k) => s1.complete r stADDR_FAULT k r.d.session.toNat

/-! ### Verdict queues (R209 to R213, R620) -/

/-- `SLC_VWSTAT` as a read that completes now returns it (R210). -/
def vwWord (seq : Nat) (valid underrun notready : Bool) : W32 :=
  BitVec.ofNat 32 (seq % 65536 + b2 valid 16 + b2 underrun 17 + b2 notready 18)

/-- A register read answers: on the interconnect, or in a management response (R694). -/
def State.readOut (s : State) (p : PortId) (v : W32) : State :=
  match p with
  | .host => s.emit (.readData v)
  | .mgmt => s.emit (.mgmtData 0 (toBytes 4 v.toNat))

/-- A stalled read of the verdict window ends with a record (R210, R211). -/
def State.endStall (s : State) (n : Nat) : State :=
  let x := s.slice n
  x.stalls.foldl (fun s e => s.readOut e.1 (vwWord (s.fget (Reg.SLC_VRDHEAD_COUNT.at n)) true false false)) (s.setSlice n { x with stalls := [] })

/-- Request a slice's verdict interrupt (R195). -/
def State.verdictIrq (s : State) (n : Nat) : State := s.irq (2 * n + 1) (2 * n + 1)

/-- The slub kind of a record (R343). -/
def recKind (r : Rec) : Nat := bits r.w1 63 60

/-- Commit a record to the verdict queue of a slice. A record that finds the queue full is dropped under QUEUE_FULL (R213); an upward crossing of LEVEL asks for the interrupt (R620); Trace sees the record's kind (R275). -/
def State.pushVerdict (s : State) (n kind : Nat) (r : Rec) : State :=
  let x := s.slice n
  let s0 := ((s.led 0x0D n .inn 1).led 5 n .inn 1).askTrig 2 kind r.w0.toNat
  if s.qFits n 1 then
    let s1 := s0.setSlice n { x with vq := x.vq ++ [r] }
    let s2 := if s.flag (Reg.SLC_CTRL_VDEST.at n) then s1.fadd (Reg.SLC_VRDTAIL_COUNT.at n) 1 else s1
    let lvl := s.fget (Reg.BOB_QLEVEL_LEVEL.at n)
    let s3 := if x.vq.length < lvl ∧ lvl ≤ x.vq.length + 1 then s2.verdictIrq n else s2
    s3.endStall n
  else ((s0.ledDrop 0x0D n 0xF 1).ledDrop 5 n 0xF 1).bump (Reg.SLC_VSTAT_DROPPED.at n)

end Sys2Proof.Machine
end

