-- ==== Sys2Proof/Machine/Access.lean ====
section
/-! DEFINITION. Register accesses (R163 to R179, R694, R696): which accesses reach a register, the aliases, and the masked writes. -/

namespace Sys2Proof.Machine

/-- The value that an alias write of `v` gives a word that reads as `old` (R167). -/
def aliasWord (al : BitVec 2) (old v : W32) : W32 :=
  if al = 0 then v else if al = 1 then old ||| v else if al = 2 then old &&& ~~~v else old ^^^ v

/-- The low half that a write gives an MW register (R10, R168). -/
def maskedWord (al : BitVec 2) (old v : W32) : W32 :=
  if al = 0 then
    let m := v >>> 16
    ((old &&& ~~~m) ||| (v &&& m)) &&& 0xFFFF#32
  else aliasWord al old (v &&& 0xFFFF#32) &&& 0xFFFF#32

/-- A word with the bits of a mask taken from another. -/
def mergeBits (mask : Nat) (old new : W32) : W32 :=
  (old &&& ~~~BitVec.ofNat 32 mask) ||| (new &&& BitVec.ofNat 32 mask)

/-- The new value of an RW or MW word under a write (R10, R12, R167, R168). -/
def writtenWord (kind : RegKind) (wmask : Nat) (al : BitVec 2) (old v : W32) : W32 :=
  match kind with
  | .mw => mergeBits wmask old (maskedWord al old v)
  | .rw => mergeBits wmask old (aliasWord al old v)
  | .ro => old

/-- A write that the block refuses is counted, with a HOSTPROTO fault at F0 (R165, R179). -/
def State.refuseAccess (s : State) (f : RF) (info : Nat) : State := (s.bump f).hostProto 4 info

/-- A management request is answered (R694). -/
def State.answer (s : State) (a : Acc) : State := match a.port with | .mgmt => s.emit (.mgmtData 0 []) | .host => s

/-- Carry out a register write that reaches its page: a management request waits for the island clock, a Leaf's window takes no process identifier, and a write with partial byte enables is discarded. -/
def State.regAccess (s : State) (i : Instr) (a : Acc) (page : Nat) (body : State → State) : State :=
  match a.port with
  | .mgmt =>
    if s.mgmtHolds then s.holdMgmt i else (body s).answer a
  | .host =>
    if !s.build.isHub && a.pasid.isSome then s.refuseAccess Reg.HIF_ERR_UNMAPPED page
    else if !a.full then s.refuseAccess Reg.HIF_ERR_PARTIAL 0
    else body s

/-- The word a write gives an MW register whose stored bits `wmask` names. -/
def State.mwWrite (s : State) (key wmask : Nat) (a : Acc) (v : W32) : W32 := writtenWord .mw wmask a.bitAlias (s.regGet key) v
def State.rwWrite (s : State) (key wmask : Nat) (a : Acc) (v : W32) : W32 := writtenWord .rw wmask a.bitAlias (s.regGet key) v

/-! ### 64-bit RW registers (R171) -/

/-- The staged low word of a 64-bit RW register. -/
def State.stagedLow (s : State) (low : Nat) : W32 := (Tab.get s.staged low).getD (s.regGet low)
/-- A write of the low word changes the staged low word alone. -/
def State.writeLow (s : State) (low wmask : Nat) (a : Acc) (v : W32) : State :=
  { s with staged := Tab.set s.staged low (writtenWord .rw wmask a.bitAlias (s.stagedLow low) v) }
/-- A write of the high word gives the register its value: that word joined with the staged low word. -/
def State.writeHigh (s : State) (low wmask : Nat) (a : Acc) (v : W32) : State :=
  let s1 := (s.regSet low (s.stagedLow low)).regSet (low + 4) (s.rwWrite (low + 4) wmask a v)
  { s1 with staged := Tab.del s1.staged low }

/-! ### Reads -/

/-- Carry out a register read that reaches its page: on a Leaf one that carries a process identifier reads 0 (R179). -/
def State.readAccess (s : State) (i : Instr) (a : Acc) (page : Nat) (body : State → State) : State :=
  match a.port with
  | .mgmt => if s.mgmtHolds then s.holdMgmt i else body s
  | .host => if !s.build.isHub && a.pasid.isSome then (s.refuseAccess Reg.HIF_ERR_UNMAPPED page).readOut .host 0 else body s

end Sys2Proof.Machine
end

