-- ==== Sys2Proof/Machine/Carder.lean ====
section
/-! DEFINITION. The Carder (R295 to R322): sessions, input formats and key maps, change masks, vectors of a sample, CHILD batches, and the classes and buckets of a session's traffic. -/

namespace Sys2Proof.Machine

/-! ### Sessions (R295 to R303) -/

abbrev ssOPEN := 1
abbrev ssSTARTING := 2
abbrev ssRUNNING := 3
abbrev ssSTOPPING := 4

/-- A session that is not CLOSED. -/
def State.sess (s : State) (n : Nat) : Option Sess := Tab.get s.crd n
def State.setSess (s : State) (n : Nat) (x : Sess) : State := { s with crd := Tab.set s.crd n x }
def State.modSess (s : State) (n : Nat) (f : Sess → Sess) : State :=
  match s.sess n with
  | some x => s.setSess n (f x)
  | none => s

/-- Fields of the session block (R300). -/
def Sess.isChild (x : Sess) : Bool := bits x.word0 1 0 == 1
def Sess.set_ (x : Sess) : Nat := bits x.word0 5 2
def Sess.gen (x : Sess) : Nat := bits x.word0 9 6
def Sess.exports (x : Sess) : Bool := bit x.word0 10
def Sess.suppress (x : Sess) : Bool := bit x.word0 11
def Sess.fenceOnNan (x : Sess) : Bool := bit x.word0 12
def Sess.beclass (x : Sess) : Nat := bits x.word0 15 13
def Sess.tag (x : Sess) : Nat := bits x.word0 31 16
def Sess.fenceUnit (x : Sess) : Nat := bits x.word0 42 32
def Sess.refresh (x : Sess) : Nat := bits x.word0 63 48
def Sess.nanKey (x : Sess) : Key := BitVec.ofNat 32 (bits x.word1 31 0)
def Sess.collect (x : Sess) : Nat := bits x.word1 63 32
def Sess.nfeat (x : Sess) : Nat := x.feats.length
/-- Members a session can have (R303, R338). -/
def Sess.maxMembers (x : Sess) : Nat := if x.isChild then 32 else 1
/-- Keys of the key store that the session holds (R303). -/
def Sess.keyShare (x : Sess) : Nat := x.maxMembers * x.nfeat

/-- The generator that triggers a session. -/
def State.sessGen (s : State) (x : Sess) : Nat :=
  if x.isChild then x.gen else s.fget (Reg.REEL_SET_GEN.at x.set_)

/-- A reservation in force (R322, R375). -/
def Sess.admitted (x : Sess) : Bool := match x.resv with | some r => r.held | none => false
/-- Class of vector records and reductions (R322). -/
def Sess.vecClass (x : Sess) : Nat :=
  match x.resv with
  | some r => if r.held then r.cls else x.beclass
  | none => x.beclass
/-- Class of verdict records (R322). -/
def Sess.verdictClass (x : Sess) : Nat :=
  match x.resv with
  | some r => if r.held then (if r.cls < 6 then 5 else r.cls) else x.beclass
  | none => x.beclass

def State.keysUsed (s : State) : Nat := sumN (s.crd.map fun e => e.2.keyShare)

/-! ### Session buckets (R139, R623, R624) -/

/-- Frame bytes of a whole message, in 2^-16 bytes. -/
def msgCharge (words : List W64) : Nat :=
  65536 * sumN ((framesF (words.length + 1) words).map fun p => frameBytesLen p.length)

/-- An item passes to Draft; a contribution counts OUT at the merge input point (R421). -/
def State.passUp (s : State) (typ tc : Nat) (dest : Hank) (words : List W64) : State :=
  let s1 := s.sendUp typ tc dest false words []
  if typ = 0x11 then s1.led 0x0A 0 .out 1 else s1

/-- An item of a session leaves its origin, or waits for tokens of the session's bucket. -/
def State.sendSess (s : State) (n typ tc : Nat) (dest : Hank) (words : List W64) : State :=
  match s.sess n with
  | some x =>
    match x.resv with
    | some r =>
      if r.held && decide (tc ≥ 4) then
        let charge := msgCharge words
        if x.shaped.isEmpty && decide ((min charge (r.burst * 65536) : Int) ≤ r.tokens) then
          (s.setSess n { x with resv := some { r with tokens := r.tokens - charge } }).passUp typ tc dest words
        else s.setSess n { x with shaped := x.shaped ++ [{ typ, tc, dest, words }] }
      else s.passUp typ tc dest words
    | none => s.passUp typ tc dest words
  | none => s.passUp typ tc dest words

/-- Held items leave while tokens cover them. Fuel is their number. -/
def State.drainSess : Nat → State → Nat → State
  | 0, s, _ => s
  | fuel + 1, s, n =>
    match s.sess n with
    | some x =>
      match x.resv, x.shaped with
      | some r, i :: rest =>
        let charge := msgCharge i.words
        if (min charge (r.burst * 65536) : Int) ≤ r.tokens then
          ((s.setSess n { x with shaped := rest, resv := some { r with tokens := r.tokens - charge } }).passUp i.typ i.tc i.dest i.words).drainSess fuel n
        else s
      | _, _ => s
    | none => s

/-- Items that the bucket holds are released and take BECLASS (R322). -/
def State.releaseShaped (s : State) (n : Nat) : State :=
  match s.sess n with
  | some x => x.shaped.foldl (fun s i => s.passUp i.typ x.beclass i.dest i.words) (s.setSess n { x with shaped := [] })
  | none => s

/-! ### Keys (R306 to R308) -/

/-- R307. -/
def fkey (b : Nat) : Nat :=
  let b := if b = 0x80000000 then 0 else b
  if b < 2 ^ 31 then b + 2 ^ 31 else 2 ^ 32 - 1 - b

/-- R308: a binary16 value as binary32. -/
def widen (h : Nat) : Nat :=
  let sgn := h / 2 ^ 15 % 2 * 2 ^ 31
  let e := h / 2 ^ 10 % 32
  let f := h % 1024
  if e = 31 then sgn + 0x7F800000 + f * 2 ^ 13
  else if e ≠ 0 then sgn + (e + 112) * 2 ^ 23 + f * 2 ^ 13
  else if f = 0 then sgn
  else
    let k := Nat.log2 f
    sgn + (103 + k) * 2 ^ 23 + (f * 2 ^ (23 - k) - 2 ^ 23)

/-- A 48-bit count as binary32, rounded toward zero (R306, UFLT). -/
def uflt (x : Nat) : Nat :=
  if x = 0 then 0
  else
    let n := Nat.log2 x
    (127 + n) * 2 ^ 23 + ((if n ≤ 23 then x * 2 ^ (23 - n) else x / 2 ^ (n - 23)) - 2 ^ 23)

def isNan32 (x : Nat) : Bool := x / 2 ^ 23 % 256 == 255 && x % 2 ^ 23 != 0
def isNan16 (x : Nat) : Bool := x / 2 ^ 10 % 32 == 31 && x % 2 ^ 10 != 0

/-- The input of a feature: the entry's VALUE or DELTA. -/
def featIn (f : Feat) (e : SampEntry) : Nat := if f.src then e.delta else e.value

/-- NaN cases of a REEL feature (R310). -/
def featNan (f : Feat) (e : SampEntry) : Bool :=
  e.off || (f.fmt == 2 && isNan32 (e.value % 2 ^ 32)) || (f.fmt == 3 && isNan16 (e.value % 2 ^ 16))

/-- The key of a REEL feature (R306). -/
def featKey (f : Feat) (e : SampEntry) : Key :=
  let x := featIn f e
  BitVec.ofNat 32 (match f.fmt with
  | 0 => min x (2 ^ 32 - 1)
  | 1 => (clampI (-(2 ^ 31)) (2 ^ 31 - 1) (sext 48 x) + 2 ^ 31).toNat
  | 2 => fkey (x % 2 ^ 32)
  | 3 => fkey (widen (x % 2 ^ 16))
  | _ => fkey (uflt x))

/-! ### Change masks (R313 to R315) -/

/-- Groups whose key or NaN flag changed. -/
def changeMask (feats : List Feat) (keys : List Key) (nans : List Bool) (old : List Key × List Bool) : W32 :=
  ((feats.zip (keys.zip nans)).zip (old.1.zip old.2)).foldl (fun m e =>
    if e.1.2.1 ≠ e.2.1 ∨ e.1.2.2 ≠ e.2.2 then m ||| (1#32 <<< e.1.1.group) else m) 0#32

def State.modelOf (s : State) (x : Sess) : Option (Nat × Model) :=
  match x.model with
  | some h =>
    (match Tab.get s.dst.models (h % 1024) with
    | some m => if m.tag = h / 1024 then some (h % 1024, m) else none
    | none => none)
  | none => none

def State.modelGen (s : State) (x : Sess) : Nat :=
  match s.modelOf x with
  | some m => m.2.gen
  | none => 0

/-- What a vector is made from: its stamp, origin, keys and flags, before the change mask. -/
structure Raw where
  ft : Nat
  origin : Hank
  keys : List Key
  nans : List Bool
  off : Bool
  first : Bool
  gap : Bool
  full : Bool
  locked : Bool
  late : Bool

/-- Build one vector of a session for a member (R313, R315): the vector, and the session with the member's keys, counts and mask updated. `bad` is a parity error in the previous keys. -/
def State.buildVec (s : State) (x : Sess) (member : Nat) (r : Raw) (bad : Bool) : Vec × Sess :=
  let m := Tab.getD x.members member {}
  let gen := s.modelGen x
  let nth := x.refresh ≠ 0 ∧ (x.built + 1) % x.refresh = 0
  let full := m.keys.isNone || r.first || r.gap || r.full || m.gen != gen || decide nth || bad
  let mask := match m.keys with
    | some old => if full then 0xFFFFFFFF#32 else changeMask x.feats r.keys r.nans old
    | none => 0xFFFFFFFF#32
  let nan := r.nans.any id
  let v : Vec := { ft := r.ft, origin := r.origin, member, keys := r.keys, nans := r.nans, mask, nan, off := r.off, full,
                   gap := r.gap, first := r.first, late := r.late, locked := r.locked, seq := x.built % 2 ^ 32 }
  let m' := { m with keys := some (r.keys, r.nans), gen, addr := r.origin, lastFt := some r.ft }
  (v, { x with built := x.built + 1, mask, nanN := x.nanN + b2n nan, members := Tab.set x.members member m' })

/-- A sample entry at a position of the list; a position the sample lacks reads as an absent entry, off. -/
def sampAt (sm : Sample) (pos : Nat) : SampEntry := sm.entries.getD pos { value := 0, delta := 0, first := false, off := true }

/-- The keys, NaN flags and case flags that a REEL session reads from a sample (R306, R310). -/
def reelRaw (s : State) (x : Sess) (sm : Sample) : Raw :=
  let es := x.feats.map fun f => (f, sampAt sm f.pos)
  let nans := es.map fun e => featNan e.1 e.2
  { ft := sm.ft, origin := s.unit 0, nans,
    keys := (es.zip nans).map fun e => if e.2 then x.nanKey else featKey e.1.1 e.1.2,
    off := es.any fun e => e.2.off, first := es.any fun e => e.2.first, gap := sm.gap, full := false, locked := sm.locked, late := false }

/-- Keys of 4 bytes, two to a word (R317). -/
def keyWords : List Key → List W64
  | [] => []
  | [k] => [BitVec.ofNat 64 k.toNat]
  | k :: l :: t => BitVec.ofNat 64 (k.toNat + l.toNat * 2 ^ 32) :: keyWords t

/-- A NaN mask, 64 features to a word. Fuel is the feature count. -/
def maskWords : Nat → List Bool → List W64
  | 0, _ => []
  | _, [] => []
  | n + 1, b :: t =>
    BitVec.ofNat 64 (((b :: t).take 64).zipIdx.foldl (fun a e => a + b2n e.1 * 2 ^ e.2) 0) :: maskWords n ((b :: t).drop 64)

/-- The vector record of R317. -/
def vectorRecord (x : Sess) (n : Nat) (v : Vec) : List W64 :=
  let nf := v.keys.length
  [BitVec.ofNat 64 v.ft, BitVec.ofNat 64 (v.origin.toNat + x.tag * 2 ^ 48),
   BitVec.ofNat 64 (nf % 2048 + b2 v.first 11 + b2 v.gap 12 + b2 v.nan 13 + b2 v.off 14 + b2 v.locked 15 + b2 v.full 16 + v.mask.toNat * 2 ^ 32),
   BitVec.ofNat 64 (v.seq % 2 ^ 32 + fld 12 32 n)] ++ keyWords v.keys ++ maskWords nf v.nans

/-- Items a session may hold (R378). -/
def State.pendLimit (s : State) : Nat := s.fget Reg.DST_CTRL_PEND + 1

/-- A session takes samples of stamp `ft` (R297). -/
def Sess.takes (x : Sess) (ft : Nat) : Bool :=
  (decide (x.state = ssRUNNING ∨ x.state = ssSTARTING) && decide (x.startFt ≤ ft))
    || (decide (x.state = ssSTOPPING) && decide (x.startFt ≤ ft) && decide (ft < x.stopFt))

/-- A session of a set with room for one more vector; one without room skips the window (R379). -/
def State.readersOf (s : State) (set_ ft : Nat) : List Nat :=
  (s.crd.filter fun e => !e.2.isChild && e.2.set_ == set_ && e.2.takes ft).map (·.1)

/-- Clear a set's BOUND when no session in STARTING, RUNNING or STOPPING reads it (R298). -/
def State.checkBound (s : State) (set_ : Nat) : State :=
  if s.crd.any fun e => !e.2.isChild && e.2.set_ == set_ && decide (e.2.state ≥ ssSTARTING) then s
  else s.fset (Reg.REEL_SETSTAT_BOUND.at set_) 0

/-- No vector of the session is being built, pending or in evaluation (R297). -/
def State.sessIdle (s : State) (n : Nat) (x : Sess) : Bool :=
  x.pend.isEmpty && x.gather.isNone && !(s.dst.evals.any fun e => e.sess == n)
    && (x.isChild || !(s.reel.reads.any fun r => x.takes r.ft && r.cut.isNone && r.sets.any fun e => e.set_ == x.set_ && !e.opening))

/-- Sessions closed while a vector of theirs is in evaluation stand above this key until it ends (R298). -/
def closedKey : Nat := 65536

/-- A STOPPING session whose stop FT has come and that is idle returns to OPEN (R297). -/
def State.stopCheck (s : State) (n : Nat) : State :=
  match s.sess n with
  | some x =>
    if x.state = ssSTOPPING ∧ x.stopFt ≤ s.ft ∧ s.sessIdle n x then
      let s1 := s.setSess n { x with state := ssOPEN }
      if x.isChild then s1 else s1.checkBound x.set_
    else if closedKey ≤ n ∧ s.sessIdle n x then { s with crd := Tab.del s.crd n }
    else s
  | none => s

/-- A vector dropped after its mask was taken leaves its member's sum invalid (R381). -/
def State.badSum (s : State) (n : Nat) (v : Vec) : State :=
  s.modSess n fun x => { x with members := Tab.set x.members v.member { Tab.getD x.members v.member {} with sumBad := true } }

/-- Vectors leave the pending queue of a CHILD session, which frees the queue when it is empty, unless a reservation holds it (R615). -/
def State.leavePend (s : State) (n : Nat) (vs : List Vec) : State :=
  match s.sess n with
  | some x =>
    match x.queue with
    | some q =>
      let s1 := s.led 5 q .out (sumN (vs.map Vec.cells))
      if x.pend.isEmpty ∧ !x.admitted then s1.setSess n { x with queue := none } else s1
    | none => s
  | none => s

/-- Drop the pending vectors of a session at the Carder point under RESET (R298, R299). -/
def State.dropPending (s : State) (n : Nat) : State :=
  match s.sess n with
  | some x =>
    let vs := x.pend.flatMap (·.vecs)
    let g := match x.gather with | some g => g.recs.length | none => 0
    let k := vs.length + g + x.early.length
    let s1 := s.setSess n { x with pend := [], gather := none, early := [] }
    let s2 := (vs.foldl (fun s v => s.badSum n v) s1).leavePend n vs
    if k = 0 then s2 else s2.ledDrop 3 0 rsnRESET k
  | none => s

/-- The Carder takes nothing: fenced at F1, or stopped by an F3 (R321). -/
def State.carderFenced (s : State) : Bool := s.isFenced 8 || s.stopped

/-! ### CHILD sessions (R318 to R320) -/

/-- The window of a generator that a stamp belongs to, by its closing instants (R106). -/
def State.windowOf (s : State) (g ft : Nat) : Int :=
  match (Tab.getD s.whl.gens g {}).run with
  | some r => if r.period = 0 then ft else ((ft : Int) - (r.apply + r.offset + r.length)) / (r.period : Int)
  | none => ft

/-- The Leaf children of which a record is expected: active route entries and adopted Leaves (R48, R319). -/
def State.leafMembers (s : State) : List Hank :=
  (((List.range 32).filter fun p => s.routeActive p && s.fget (Reg.STR_ROUTE_DEPTH.at p) == 6).map s.childAddr) ++
    ((s.str.adopt.filter fun a => a.depth == 6).map fun a => withSub a.prefix_ 0)

/-- The member number of an origin: its own, or the lowest free. -/
def Sess.memberOf (x : Sess) (h : Hank) : Nat :=
  match x.members.find? fun e => e.2.addr == h with
  | some e => e.1
  | none => (Tab.lowestFree x.members 32).getD 0

def childRaw (r : ChildRec) (x : Sess) (late : Bool) : Raw :=
  let fs := x.feats.map fun f => (r.keys.getD f.pos 0, decide (f.pos ≥ r.keys.length) || r.nans.getD f.pos false)
  { ft := r.ft, origin := r.origin, nans := fs.map (·.2), keys := fs.map fun e => if e.2 then x.nanKey else e.1,
    off := r.off, first := r.first, gap := r.gap, full := r.full, locked := r.locked, late }

/-- Order of a batch: by tray (cohorts), then slot (R351). -/
def recBefore (a b : ChildRec) : Bool := decide (a.origin.toNat ≤ b.origin.toNat)

/-- Build a batch of member records as one pending item; without room for it the window is skipped and its records end here (R379). -/
def State.buildBatch (s : State) (n : Nat) (ft : Nat) (recs : List ChildRec) (late : Bool) : State :=
  match s.sess n with
  | some x =>
    if recs.isEmpty then s
    else if x.pend.length ≥ s.pendLimit ∨ (x.queue.isNone && s.freeQueue.isNone) then
      ((if x.queue.isNone then s.dynFail else s).setSess n { x with skipN := x.skipN + 1 }).led 3 0 .out recs.length
    else
      let x := { x with queue := match x.queue with | some q => some q | none => s.freeQueue }
      let r := (recs.mergeSort recBefore).foldl (fun (acc : List Vec × Sess) c =>
        let b := s.buildVec acc.2 (acc.2.memberOf c.origin) (childRaw c acc.2 late) false
        (acc.1 ++ [b.1], b.2)) ([], x)
      let s1 := s.setSess n { r.2 with pend := r.2.pend ++ [{ ft, vecs := r.1 }], lateN := r.2.lateN + (if late then recs.length else 0) }
      s1.led 5 (x.queue.getD 512) .inn (sumN (r.1.map Vec.cells))
  | none => s

/-- A batch closes: members without a record are MISSING (R319). -/
def State.closeBatch (s : State) (n : Nat) : State :=
  match s.sess n with
  | some x =>
    match x.gather with
    | some g =>
      let miss := (s.leafMembers.filter fun h => !(g.recs.any fun r => r.origin == h)).length
      (s.setSess n { x with gather := none, missN := x.missN + miss }).buildBatch n g.ft g.recs false
    | none => s
  | none => s

/-- A record joins the batch that gathers; the batch closes when every member has delivered (R319). -/
def State.addRecord (s : State) (n : Nat) (x : Sess) (g : Gather) (r : ChildRec) : State :=
  let g' := { g with recs := g.recs ++ [r] }
  let s1 := s.setSess n { x with gather := some g' }
  if s.leafMembers.all fun h => g'.recs.any fun q => q.origin == h then s1.closeBatch n else s1

/-- A record of a member reaches its CHILD session (R318 to R320). -/
def State.childRecord (s : State) (n : Nat) (r : ChildRec) : State :=
  match s.sess n with
  | some x =>
    let m := Tab.getD x.members (x.memberOf r.origin) {}
    let w := s.windowOf x.gen
    let known := (x.members.any fun e => e.2.addr == r.origin)
    let seen := (known && (match m.lastFt with | some f => w f == w r.ft | none => false))
      || (match x.gather with | some g => g.recs.any fun q => q.origin == r.origin && w q.ft == w r.ft | none => false)
      || x.early.any fun q => q.origin == r.origin && w q.ft == w r.ft
    if seen then s.led 3 0 .dup 1
    else if !(x.takes r.ft) then s.led 3 0 .out 1
    else match x.gather with
      | some g =>
        if w r.ft = w g.ft then s.addRecord n x g r
        else if w g.ft < w r.ft then s.setSess n { x with early := x.early ++ [r] }
        else s.buildBatch n r.ft [r] true
      | none =>
        if (match x.trigFt with | some f => decide (w f < w r.ft) | none => true) then
          s.setSess n { x with early := x.early ++ [r] }
        else s.buildBatch n r.ft [r] true
  | none => s

end Sys2Proof.Machine
end

