-- ==== Sys2Proof/Machine/Model.lean ====
section
/-! DEFINITION. Compiled images (R328 to R333): reading them, the fifteen checks in their order, walking a tree, and dealing trees into runs (R370). -/

namespace Sys2Proof.Machine

/-! ### Node records (R328) -/

def nodeLeaf (w : W64) : Bool := bit w 63
def nodeValue (w : W64) : Int := sext 32 (bits w 31 0)
def nodeThresh (w : W64) : Nat := bits w 31 0
def nodeFeature (w : W64) : Nat := bits w 41 32
def nodeRight (w : W64) : Nat := bits w 59 42

/-- Walk a tree from its node list (R326); a path longer than the fuel reads as leaf 0. -/
def walk : Nat → List W64 → List Key → Int
  | 0, _, _ => 0
  | _, [], _ => 0
  | fuel + 1, w :: rest, keys =>
    if nodeLeaf w then nodeValue w
    else if (keys.getD (nodeFeature w) 0).toNat < nodeThresh w then walk fuel rest keys
    else walk fuel (rest.drop (nodeRight w - 1)) keys

/-- Leaf value that tree `t` of an image reaches for a vector of keys (R326, R327). -/
def MImage.eval (i : MImage) (t : Nat) (keys : List Key) : Int :=
  match i.trees[t]? with
  | some e => walk 25 (i.nodes.drop e.root) keys
  | none => 0

/-! ### The image (R329 to R331) -/

structure MHeader where
  ntrees : Nat
  nnodes : Nat
  nfeat : Nat
  depth : Nat
  tOff : Nat
  gOff : Nat
  nOff : Nat
  stop : Nat
  deriving DecidableEq, Repr

def gmapBytes (nfeat : Nat) : Nat := ceilDiv nfeat 8 * 8

def readHeader (bs : List Byte) : MHeader :=
  let w := fun i => wordAt bs i
  let ntrees := bits (w 1) 31 0
  let nnodes := bits (w 1) 63 32
  let nfeat := bits (w 2) 10 0
  let tOff := bits (w 5) 63 32
  let gOff := bits (w 6) 31 0
  let nOff := bits (w 6) 63 32
  { ntrees, nnodes, nfeat, depth := bits (w 2) 15 11, tOff, gOff, nOff,
    stop := max (tOff + 8 * ntrees) (max (gOff + gmapBytes nfeat) (nOff + 8 * nnodes)) }

def sectionWords (bs : List Byte) (off n : Nat) : List W64 := bytesWords ((bs.drop off).take (8 * n))

def readTree (w : W64) : Tree := { gmask := BitVec.ofNat 32 (bits w 31 0), root := bits w 57 32, depth := bits w 62 58 }

def readImage (bs : List Byte) (h : MHeader) : MImage :=
  let w := fun i => wordAt bs i
  { nfeat := h.nfeat, depth := h.depth, base := sext 32 (bits (w 2) 63 32), enter := sext 32 (bits (w 3) 31 0),
    exit := sext 32 (bits (w 3) 63 32), level := bit (w 4) 0, modelId := BitVec.ofNat 32 (bits (w 4) 63 32), cmps := bits (w 5) 31 0,
    trees := (sectionWords bs h.tOff h.ntrees).map readTree,
    gmap := ((bs.drop h.gOff).take h.nfeat).map BitVec.toNat,
    nodes := sectionWords bs h.nOff h.nnodes }

/-- Record after the last of tree `t`. -/
def MImage.endOf (i : MImage) (t : Nat) : Nat := match i.trees[t + 1]? with | some e => e.root | none => i.nodes.length
/-- Records of a tree. -/
def MImage.recsOf (i : MImage) (t : Nat) : Nat := i.endOf t - (match i.trees[t]? with | some e => e.root | none => 0)
def MImage.depthOf (i : MImage) (t : Nat) : Nat := match i.trees[t]? with | some e => e.depth | none => 0

/-! ### Validation (R332) -/

/-- Least index at which a property holds. -/
def firstIdx {α : Type} (l : List α) (p : α → Bool) : Option Nat := l.findIdx? p

/-- Code 5: the sections as index, start and size. -/
def badSection (h : MHeader) (len : Nat) : Option Nat :=
  let secs := [(1, h.tOff, 8 * h.ntrees), (2, h.gOff, gmapBytes h.nfeat), (3, h.nOff, 8 * h.nnodes)]
  (secs.find? fun e => e.2.1 % 8 != 0 || decide (e.2.1 < 64) || decide (e.2.1 + e.2.2 > len) ||
    secs.any fun f => f.1 != e.1 && decide (f.2.1 < e.2.1 + e.2.2) && decide (e.2.1 < f.2.1 + f.2.2)).map (·.1)

/-- Code 6: the least image word with a reserved bit set. -/
def badReserved (bs : List Byte) (h : MHeader) (i : MImage) : Option Nat :=
  let w := fun i => wordAt bs i
  let hdr := (if bits (w 0) 63 48 != 0 then [0] else []) ++ (if bits (w 2) 31 16 != 0 then [2] else []) ++
    (if bits (w 4) 31 1 != 0 then [4] else []) ++ (if bits (w 7) 63 32 != 0 then [7] else [])
  let tab := match firstIdx (sectionWords bs h.tOff h.ntrees) (fun x => bit x 63) with | some k => [h.tOff / 8 + k] | none => []
  let pad := (((bs.drop (h.gOff + h.nfeat)).take (gmapBytes h.nfeat - h.nfeat)).any fun b => b != 0)
  let gm := if pad then [(h.gOff + gmapBytes h.nfeat) / 8 - 1] else []
  let nod := match firstIdx i.nodes (fun x => if nodeLeaf x then bits x 62 32 != 0 else bits x 62 60 != 0) with
    | some k => [h.nOff / 8 + k] | none => []
  let all := hdr ++ tab ++ gm ++ nod
  if all.isEmpty then none else some (all.foldl min (all.headD 0))

/-- Code 10: the least tree whose ROOT breaks the rule. -/
def badRoot (trees : List Tree) (nnodes : Nat) : Option Nat :=
  firstIdx (trees.zip ((0 :: trees.map fun t => t.root + 1).zipIdx)) fun e =>
    decide (e.1.root ≥ nnodes) || (if e.2.2 = 0 then e.1.root != 0 else decide (e.1.root < e.2.1))

/-- Code 11 within one tree: scan its records, with the positions that parents have reached; answers the least bad position. -/
def badShapeF : List W64 → Nat → Nat → List Nat → Option Nat
  | [], _, _, _ => none
  | w :: rest, i, stop, reached =>
    if (reached.filter (· == i)).length ≠ 1 then some i
    else
      let others := reached.filter (· != i)
      if nodeLeaf w then badShapeF rest (i + 1) stop others
      else if nodeRight w < 2 ∨ i + nodeRight w ≥ stop ∨ i + 1 ≥ stop then some i
      else badShapeF rest (i + 1) stop ((i + 1) :: (i + nodeRight w) :: others)

def badShape (i : MImage) : Option Nat :=
  (List.range i.trees.length).findSome? fun t =>
    match i.trees[t]? with
    | some e => badShapeF ((i.nodes.drop e.root).take (i.endOf t - e.root)) e.root (i.endOf t) [e.root]
    | none => none

/-- Longest path of a tree, in internal nodes (R327). Fuel is the record count. -/
def longest : Nat → List W64 → Nat
  | 0, _ => 0
  | _, [] => 0
  | n + 1, w :: rest => if nodeLeaf w then 0 else 1 + max (longest n rest) (longest n (rest.drop (nodeRight w - 1)))

def badDepth (i : MImage) : Option Nat :=
  match firstIdx i.trees.zipIdx (fun e => longest (i.recsOf e.2) ((i.nodes.drop e.1.root).take (i.recsOf e.2)) != e.1.depth) with
  | some t => some t
  | none => if (i.trees.map (·.depth)).foldl max 0 ≠ i.depth then some 0xFFFFF else none

/-- Code 15: the least tree whose GMASK lacks a group that it reads. -/
def badMask (i : MImage) : Option Nat :=
  firstIdx i.trees.zipIdx fun e =>
    ((i.nodes.drop e.1.root).take (i.recsOf e.2)).any fun w => !nodeLeaf w && !(bit e.1.gmask (i.gmap.getD (nodeFeature w) 0))

/-- Limits of R333 and R369 for a placement: trees, records, and whether they are those of a width that the command names. -/
structure MLimits where
  trees : Nat
  nodes : Nat
  wide : Bool

/-- VALUE of a failed check: code and index (R332). -/
def codeValue (code idx : Nat) : Nat := code * 2 ^ 20 + min idx 0xFFFFF

/-- Spindles that a model's counts need at least (R369). -/
def minWidth (ntrees nnodes : Nat) : Nat := max (ceilDiv nnodes 131072) (ceilDiv ntrees 8192)

/-- The class that PLACE and WIDTH give an image by its counts: its width, or none for a streamed model (R369). -/
def placedWidth (maxw place width ntrees nnodes : Nat) : Option Nat :=
  let w := minWidth ntrees nnodes
  if place = 2 then none
  else if width ≠ 0 then some width
  else if place = 1 then (if w ≤ 64 then some w else none)
  else if w ≤ maxw then some w else none

def limitsOf (b : Build) (maxw place width ntrees nnodes : Nat) : MLimits :=
  if !b.isHub then { trees := 8192, nodes := 65536, wide := false }
  else match placedWidth maxw place width ntrees nnodes with
    | some w => { trees := 8192 * w, nodes := 131072 * w, wide := width != 0 }
    | none => { trees := 65536, nodes := 2 ^ 26, wide := false }

/-- The fifteen checks, in order: the code and index of the first that fails, or the image. -/
def validate (bs : List Byte) (len : Nat) (lim : MLimits) : Except Nat MImage :=
  let w := fun i => wordAt bs i
  let h := readHeader bs
  let err := fun (c i : Nat) => (Except.error (codeValue c i) : Except Nat MImage)
  if bits (w 0) 31 0 ≠ 0x50535A54 ∨ bits (w 0) 47 32 ≠ 1 then err 1 0
  else if h.ntrees = 0 ∨ (h.ntrees > lim.trees ∧ !(lim.wide && decide (h.nnodes > lim.nodes))) then err 2 0
  else if h.nnodes < h.ntrees ∨ h.nnodes > lim.nodes then err 3 0
  else if h.nfeat = 0 ∨ h.nfeat > 1024 ∨ h.depth > 24 then err 4 0
  else match badSection h len with
  | some k => err 5 k
  | none =>
  let i := readImage bs h
  match badReserved bs h i with
  | some k => err 6 k
  | none =>
  if crcOf polyIeee ((bs.take h.stop).zipIdx.map fun e => if 56 ≤ e.2 ∧ e.2 < 60 then 0 else e.1) ≠ bits (w 7) 31 0 then err 7 0
  else if i.exit > i.enter then err 8 0
  else match firstIdx i.gmap (fun g => decide (g > 31)) with
  | some k => err 9 k
  | none =>
  match badRoot i.trees i.nodes.length with
  | some k => err 10 k
  | none =>
  match badShape i with
  | some k => err 11 k
  | none =>
  match badDepth i with
  | some k => err 12 k
  | none =>
  if i.cmps ≠ sumN (i.trees.map (·.depth)) then err 13 0
  else match firstIdx i.nodes (fun x => !nodeLeaf x && decide (nodeFeature x ≥ i.nfeat)) with
  | some k => err 14 k
  | none =>
  match badMask i with
  | some k => err 15 k
  | none => .ok i

/-! ### Runs (R370) -/

/-- Pack trees from the last into runs no heavier than a bound: the sizes of the runs, first run first; `none` when a tree alone is too large. Items are (DEPTH, records). -/
def packF (bound : Nat) : List (Nat × Nat) → Nat → Nat → Nat → List Nat → Option (List Nat)
  | [], n, _, _, done => some (if n = 0 then done else n :: done)
  | (d, r) :: rest, n, sd, sr, done =>
    if d > bound ∨ r > 131072 then none
    else if n < 8192 ∧ sd + d ≤ bound ∧ sr + r ≤ 131072 then packF bound rest (n + 1) (sd + d) (sr + r) done
    else packF bound rest 1 d r (n :: done)

def packs (bound w : Nat) (items : List (Nat × Nat)) : Option (List Nat) :=
  match packF bound items.reverse 0 0 0 [] with
  | some l => if l.length ≤ w then some (List.replicate (w - l.length) 0 ++ l) else none
  | none => none

/-- The least bound at which `w` runs suffice, by bisection. -/
def leastBound (w : Nat) (items : List (Nat × Nat)) : Nat → Nat → Nat → Nat
  | 0, _, hi => hi
  | fuel + 1, lo, hi =>
    if lo ≥ hi then hi
    else
      let mid := (lo + hi) / 2
      if (packs mid w items).isSome then leastBound w items fuel lo mid else leastBound w items fuel (mid + 1) hi

/-- The runs of a width, or of the first larger width that has any (R370). -/
def runsFrom : Nat → Nat → List (Nat × Nat) → Option (List Nat)
  | 0, _, _ => none
  | fuel + 1, w, items =>
    if w > 64 then none
    else
      let top := sumN (items.map (·.1))
      match packs (leastBound w items 40 0 top) w items with
      | some l => some l
      | none => runsFrom fuel (w + 1) items

/-- Run sizes as shares: first tree and count. -/
def runShares : List Nat → Nat → List (Nat × Nat)
  | [], _ => []
  | n :: t, at_ => (at_, n) :: runShares t (at_ + n)

def MImage.items (i : MImage) : List (Nat × Nat) := i.trees.zipIdx.map fun e => (e.1.depth, i.recsOf e.2)

/-- Σ DEPTH and records of a run. -/
def MImage.runDepth (i : MImage) (first n : Nat) : Nat := sumN ((i.items.drop first).take n |>.map (·.1))
def MImage.runRecs (i : MImage) (first n : Nat) : Nat := sumN ((i.items.drop first).take n |>.map (·.2))

end Sys2Proof.Machine
end

