-- ==== Sys2Proof/Machine/Distaff.lean ====
section
/-! DEFINITION. Distaff (R360 to R393): the model table, stores and placement, cache shares, scheduling states, and the eviction rule. -/

namespace Sys2Proof.Machine

abbrev mLOADING := 1
abbrev mRESIDENT := 2
abbrev mSTREAMED := 3
abbrev mEVICTED := 4
abbrev mDAMAGED := 5
abbrev mBROKEN := 6

/-! ### The model table -/

def nModels (b : Build) : Nat := if b.isHub then 1024 else 64

def State.setModel (s : State) (k : Nat) (m : Model) : State :=
  { s with dst := { s.dst with models := Tab.set s.dst.models k m } }
def State.delModel (s : State) (k : Nat) : State := { s with dst := { s.dst with models := Tab.del s.dst.models k } }

def Model.handle (m : Model) (slot : Nat) : Nat := slot + 1024 * m.tag

/-- The model that a handle names (R361). -/
def State.byHandle (s : State) (h : Nat) : Option (Nat × Model) :=
  match Tab.get s.dst.models (h % 1024) with
  | some m => if m.tag = h / 1024 ∧ h < 2 ^ 24 then some (h % 1024, m) else none
  | none => none

/-- The model that a handle names for a slice (R360). -/
def State.sliceModel (s : State) (h n : Nat) : Option (Nat × Model) :=
  match s.byHandle h with
  | some e => if e.2.slice = n then some e else none
  | none => none

/-- Sessions bound to a model. -/
def State.boundTo (s : State) (slot : Nat) (m : Model) : List (Nat × Sess) :=
  s.crd.filter fun e => e.2.model == some (m.handle slot)

/-- A session of the model is inside its reserved window (R375). -/
def State.protected_ (s : State) (slot : Nat) (m : Model) : Bool := (s.boundTo slot m).any fun e => e.2.admitted

/-- An evaluation uses the model. -/
def State.inUse (s : State) (slot : Nat) : Bool := s.dst.evals.any fun e => e.slot == slot

/-! ### Stores (R371, R372) -/

def nDomains (b : Build) : Nat := if b.isHub then 64 else 1
def extentsOf (records : Nat) : Nat := ceilDiv records 64
def storeExtents (b : Build) : Nat := if b.isHub then 2048 else 1024

def MShare.recs (x : MShare) (m : Model) : Nat := m.img.runRecs x.first x.count

/-- Extents and directory entries taken on a domain, models of a list left out. -/
def State.domUsed (s : State) (dom : Nat) (without : List Nat) : Nat × Nat :=
  s.dst.models.foldl (fun (a : Nat × Nat) e =>
    if without.contains e.1 then a
    else (e.2.shares.filter (·.dom == dom)).foldl (fun a x => (a.1 + extentsOf (x.recs e.2), a.2 + x.count)) a) (0, 0)

/-- Room on a domain for a run of an image. -/
def State.roomFor (s : State) (dom : Nat) (i : MImage) (first n : Nat) (without : List Nat) : Bool :=
  let u := s.domUsed dom without
  decide (u.1 + extentsOf (i.runRecs first n) ≤ storeExtents s.build) && decide (u.2 + n ≤ 8192)

/-- A Spindle that is not fenced; the Leaf's one domain never is. -/
def State.domOpen (s : State) (dom : Nat) : Bool := !s.build.isHub || !s.isFenced (0x40 + dom)

/-- Runs of a resident model: one on a Leaf, its width's on a Hub. -/
def State.runsOf (s : State) (m : Model) : List (Nat × Nat) :=
  if s.build.isHub then runShares ((runsFrom 65 m.width m.img.items).getD []) 0 else [(0, m.img.trees.length)]

/-- The first domains, in order, on which each run is accepted (R372). Fuel is the number of domains. -/
def placeF : Nat → Nat → List (Nat × Nat) → (Nat → Nat → Nat → Bool) → Option (List MShare)
  | _, _, [], _ => some []
  | 0, _, _, _ => none
  | fuel + 1, dom, (f, n) :: rest, ok =>
    if ok dom f n then (placeF fuel (dom + 1) rest ok).map ({ dom, first := f, count := n } :: ·)
    else placeF fuel (dom + 1) ((f, n) :: rest) ok

/-- A placement that needs no eviction. -/
def State.placeFree (s : State) (m : Model) : Option (List MShare) :=
  placeF (nDomains s.build) 0 (s.runsOf m) fun d f n => s.domOpen d && s.roomFor d m.img f n []

/-! ### Scheduling states (R380) -/

def Sess.hasWork (s : State) (n : Nat) (x : Sess) : Bool := !x.pend.isEmpty || s.dst.evals.any fun e => e.sess == n

/-- NONE 0, BLOCKED 1, RUNNABLE 2, WAITING 3. -/
def State.sched (s : State) (n : Nat) (x : Sess) : Nat :=
  match s.modelOf x with
  | none => 0
  | some (_, m) =>
    if !Sess.hasWork s n x then 1
    else if m.state = mRESIDENT ∨ m.state = mSTREAMED then 2
    else if x.pend.isEmpty then 2 else 3

/-- Blocked time in ticks; 0 unless BLOCKED. -/
def State.blocked (s : State) (n : Nat) (x : Sess) : Nat := if s.sched n x = 1 then s.now - x.blockedFt else 0

def State.grace (s : State) : Nat := s.fget Reg.DST_GRACE_GRACE * us

/-- Sessions whose model holds a share on a domain (R382). -/
def State.residents (s : State) (dom : Nat) : List (Nat × Sess) :=
  s.crd.filter fun e => match s.modelOf e.2 with | some (_, m) => m.shares.any (·.dom == dom) | none => false

/-- A model's blocked time, the least over its sessions; a model with none has no limit. -/
def State.modelBlocked (s : State) (slot : Nat) (m : Model) : Option Nat :=
  let l := (s.boundTo slot m).map fun e => s.blocked e.1 e.2
  if l.isEmpty then none else some (l.foldl min (l.headD 0))

/-- Larger blocked time first, then lower handle (R383). -/
def victimBefore (a b : Option Nat × Nat) : Bool :=
  match a.1, b.1 with
  | none, none => decide (a.2 ≤ b.2)
  | none, some _ => true
  | some _, none => false
  | some x, some y => decide (x > y) || (decide (x = y) && decide (a.2 ≤ b.2))

/-- Models of a domain that the rule may evict, in its order. -/
def State.victims (s : State) (dom : Nat) : List Nat :=
  (((s.dst.models.filter fun e => e.2.state == mRESIDENT && !e.2.evicting && !e.2.pin && e.2.shares.any (·.dom == dom)
      && !s.protected_ e.1 e.2).map fun e => (e.1, (s.modelBlocked e.1 e.2, e.2.handle e.1))).mergeSort
    fun a b => victimBefore a.2 b.2).map (·.1)

/-- The shortest prefix of the victims whose leaving makes room, beyond those already chosen. -/
def State.takeVictims (s : State) (dom : Nat) (i : MImage) (f n : Nat) (gone : List Nat) : List Nat → Option (List Nat)
  | [] => if s.roomFor dom i f n gone then some gone else none
  | v :: t => if s.roomFor dom i f n gone then some gone else s.takeVictims dom i f n (gone ++ [v]) t

/-- Every session resident on a domain has been blocked beyond the grace time. -/
def State.allBlocked (s : State) (dom : Nat) : Bool := (s.residents dom).all fun e => decide (s.blocked e.1 e.2 > s.grace)

/-- A domain that is ok for a run under R383. -/
def State.domOk (s : State) (m : Model) (dom f n : Nat) : Bool :=
  s.domOpen dom && (s.roomFor dom m.img f n [] ||
    (s.allBlocked dom && (s.takeVictims dom m.img f n [] (s.victims dom)).isSome))

/-! ### Loads and evictions (R385, R387, R390) -/

/-- A load or eviction runs. -/
def State.loadRuns (s : State) : Bool := s.dst.models.any fun e => e.2.state == mLOADING && !e.2.shares.isEmpty

/-- Load bursts of a share (R390). -/
def loadBursts (m : Model) (x : MShare) : Nat := extentsOf (x.recs m) + ceilDiv x.count 64

/-- Start loading a model on a placement. -/
def State.startLoad (s : State) (slot : Nat) (m : Model) (p : List MShare) : State :=
  s.setModel slot { m with state := mLOADING, shares := p, bursts := p.foldl (fun t x => Tab.set t x.dom (loadBursts m x)) [] }

/-- Start evicting a model: evict bursts on each domain that holds a share (R376, R387, R391). -/
def State.startEvict (s : State) (slot : Nat) (m : Model) : State :=
  s.setModel slot { m with evicting := true, evict := m.shares.foldl (fun t x => Tab.set t x.dom (ceilDiv x.count 64)) [] }

/-- The WAITING session whose oldest pending item is oldest (R383). -/
def State.oldestWaiting (s : State) : Option (Nat × Sess) :=
  (s.crd.filter fun e => s.sched e.1 e.2 == 3).foldl (fun (b : Option (Nat × Sess)) e =>
    let age := fun (x : Sess) => match x.pend with | p :: _ => p.ft | [] => 0
    match b with
    | none => some e
    | some y => if age e.2 < age y.2 then some e else b) none

/-- Evict on each domain of a placement without room until its run fits. -/
def State.evictFor (s : State) (m : Model) (p : List MShare) : State :=
  p.foldl (fun s x =>
    if s.roomFor x.dom m.img x.first x.count (s.dst.models.filter (·.2.evicting) |>.map (·.1)) then s
    else
      let gone := s.dst.models.filter (·.2.evicting) |>.map (·.1)
      match s.takeVictims x.dom m.img x.first x.count gone (s.victims x.dom) with
      | some l => (l.filter fun v => !gone.contains v).foldl (fun s v =>
          match Tab.get s.dst.models v with
          | some y => (s.startEvict v y).bump Reg.DST_EVSTAT_EVICTIONS
          | none => s) s
      | none => s) s

def State.setWant (s : State) (v : Bool) : State :=
  if v then
    if s.flag Reg.DST_STATUS_WANT then s
    else ((s.fset Reg.DST_STATUS_WANT 1).bump Reg.DST_EVSTAT_WANTED).faultIrq
  else s.fset Reg.DST_STATUS_WANT 0

/-- The eviction rule (R383, R384), for the WAITING session it serves. -/
def State.evictRule (s : State) : State :=
  let s := s.fnSwitch 6
  match s.oldestWaiting with
  | none => s.setWant false
  | some (_, x) =>
    match s.modelOf x with
    | none => s
    | some (slot, m) =>
      if m.state ≠ mEVICTED ∨ s.loadRuns then s
      else match s.placeFree m with
      | some p => (s.setWant false).startLoad slot m p
      | none =>
        if s.grace = 0 then s.setWant false
        else match placeF (nDomains s.build) 0 (s.runsOf m) (s.domOk m) with
        | none => s.setWant false
        | some p => if s.assisted 6 then s.setWant true else (s.evictFor m p).startLoad slot m p

/-! ### Registering a model (R362, R372) -/

/-- A MODEL_LOAD completes OK: the model takes its generation. -/
def State.registerModel (s : State) (slot : Nat) (m : Model) : State :=
  let g := (s.fget Reg.DST_GEN_GEN + 1) % 2 ^ 32
  let s1 := (s.fset Reg.DST_GEN_GEN g).setModel slot { m with gen := g, cmd := none }
  match m.cmd with
  | some r => s1.completeOk r (m.handle slot)
  | none => s1

/-- Sessions of a model become BLOCKED from now when it becomes RESIDENT (R380). -/
def State.touchSessions (s : State) (slot : Nat) (m : Model) : State :=
  (s.boundTo slot m).foldl (fun s e => s.modSess e.1 fun x => { x with blockedFt := s.now }) s

/-- The next load of the block (R385): a DAMAGED model whose shares are invalid, a new model that waits, then the rule. -/
def State.kick (s : State) : State :=
  if s.loadRuns then s
  else match s.dst.models.find? fun e => e.2.state == mDAMAGED && !e.2.evicting with
  | some (k, m) =>
    (match s.placeFree m with
    | some p => s.startLoad k { m with reload := true } p
    | none => (s.setModel k { m with state := mEVICTED }).evictRule)
  | none =>
    match s.dst.models.find? fun e => e.2.state == mLOADING && e.2.cmd.isSome with
    | some (k, m) =>
      (match s.placeFree m with
      | some p => s.startLoad k m p
      | none => s.registerModel k { m with state := mEVICTED })
    | none => s.evictRule

/-- A session got work: it may have become WAITING (R383). -/
def State.gotWork (s : State) (n : Nat) : State :=
  match s.sess n with
  | some x => if s.sched n x = 3 then s.kick else s
  | none => s

/-! ### Cache shares (R338, R366) -/

/-- Entries that a session's share takes, and whether they lie in HBM. -/
def State.shareOf (s : State) (x : Sess) : Nat × Bool :=
  match s.modelOf x with
  | some (_, m) => (m.img.trees.length * x.maxMembers, m.state == mSTREAMED)
  | none => (0, false)

/-- On-chip entries, and HBM bytes, held by shares, one session left out. -/
def State.cacheUsed (s : State) (without : Option Nat) : Nat × Nat :=
  s.crd.foldl (fun a e =>
    if some e.1 = without then a
    else
      let u := s.shareOf e.2
      if u.2 then (a.1, a.2 + 4 * u.1) else (a.1 + u.1, a.2)) (0, 0)

def cacheSize (b : Build) : Nat := if b.isHub then 2097152 else 131072

/-- Room for a share of a model, with the session's own share counted as free. -/
def State.cacheRoom (s : State) (n : Nat) (x : Sess) (m : Model) : Bool :=
  let u := s.cacheUsed (some n)
  let k := m.img.trees.length * x.maxMembers
  if m.state = mSTREAMED then decide (u.2 + 4 * k ≤ s.fget Reg.SPN_HBMCSIZE_SIZE) else decide (u.1 + k ≤ cacheSize s.build)

/-- A Spindle's reset marks the cache entries of its trees and the sums of their sessions invalid (R356). -/
def State.dropCacheOf (s : State) (dom : Nat) : State :=
  s.crd.foldl (fun s e =>
    match s.modelOf e.2 with
    | some (_, m) =>
      let runs := if m.state = mSTREAMED then [] else m.shares.filter (·.dom == dom)
      if runs.isEmpty then s
      else
        let hit := fun (t : Nat) => runs.any fun x => decide (x.first ≤ t ∧ t < x.first + x.count)
        s.setSess e.1 { e.2 with members := e.2.members.map fun q =>
          (q.1, { q.2 with sumBad := true, cache := q.2.cache.filter fun c => !hit c.1 }) }
    | none => s) s

end Sys2Proof.Machine
end

