-- ==== Sys2Proof/Machine/Spindle.lean ====
section
/-! DEFINITION. The Spindles (R325 to R357): dispatch, passes, errors found in stores, the score, hysteresis and slub records; and the order in which a domain's commands issue (R388, R389). -/

namespace Sys2Proof.Machine

/-! ### Late reserved items (R127) -/

/-- Compare a reserved item with its bound at its delivery point. -/
def State.boundCheck (s : State) (n ref extra : Nat) (subj : Hank) : State :=
  let due := ref + 4 * s.fget (Reg.TNS_BOUND_BOUND.at n) + extra
  if s.ft > due then
    (s.bump Reg.TNS_LATE_LATE).raise fBOUND 0 subj (n + min (s.ft - due) (2 ^ 32 - 1) * 2 ^ 32)
  else s

/-! ### Dispatch (R335, R386) -/

def State.mapEvals (s : State) (f : List Eval → List Eval) : State := { s with dst := { s.dst with evals := f s.dst.evals } }

/-- Trees that a vector evaluates (R335). -/
def needOf (i : MImage) (m : Member) (v : Vec) : List Nat :=
  (List.range i.trees.length).filter fun t =>
    v.full || (match i.trees[t]? with | some e => e.gmask &&& v.mask != 0#32 | none => false) || (Tab.get m.cache t).isNone

/-- A Leaf deals trees in order, each to the Spindle with fewer comparisons charged so far (R386). -/
def dealLeaf (i : MImage) (trees : List Nat) : List Nat × List Nat :=
  let r := trees.foldl (fun (a : (List Nat × Nat) × (List Nat × Nat)) t =>
    let d := i.depthOf t
    if a.1.2 ≤ a.2.2 then ((a.1.1 ++ [t], a.1.2 + d), a.2) else (a.1, (a.2.1 ++ [t], a.2.2 + d))) (([], 0), ([], 0))
  (r.1.1, r.2.1)

/-- A Spindle with nothing running or waiting. -/
def State.spindleFree (s : State) (k : Nat) : Bool :=
  !(s.dst.evals.any fun e => (e.scorer == k) || e.parts.any fun p => p.spindle == k && (!p.todo.isEmpty || !p.now.isEmpty))

/-- The first free Spindle, else the first that is not fenced (R386). -/
def State.firstFree (s : State) : Option Nat :=
  match (List.range (nSpindles s.build)).find? fun k => !s.isFenced (0x40 + k) && s.spindleFree k with
  | some k => some k
  | none => (List.range (nSpindles s.build)).find? fun k => !s.isFenced (0x40 + k)

/-- The parts of an item whose vectors need `trees`, and the Spindle that scores it when no tree is due. -/
def State.partsFor (s : State) (m : Model) (trees : List Nat) : Option (List Part × Nat) :=
  let part := fun (k : Nat) (l : List Nat) => ({ spindle := k, all := l, todo := l, now := [] } : Part)
  if !s.build.isHub then
    match s.isFenced 0x40, s.isFenced 0x41 with
    | false, false => let d := dealLeaf m.img trees; some ([part 0 d.1, part 1 d.2], 0)
    | false, true => some ([part 0 trees], 0)
    | true, false => some ([part 1 trees], 1)
    | true, true => none
  else if m.state = mSTREAMED then (s.firstFree).map fun k => ([part k trees], k)
  else
    match s.firstFree with
    | none => none
    | some free =>
      let ps := m.shares.map fun x => part (if s.isFenced (0x40 + x.dom) then free else x.dom)
        (trees.filter fun t => decide (x.first ≤ t ∧ t < x.first + x.count))
      some (ps, (ps.map (·.spindle)).foldl min ((ps.map (·.spindle)).headD 0))

/-- A session's oldest item can be dispatched. -/
def State.canDispatch (s : State) (n : Nat) (x : Sess) : Bool :=
  !x.pend.isEmpty && !(s.dst.evals.any fun e => e.sess == n) &&
    (match s.modelOf x with
    | some (_, m) => (m.state == mRESIDENT || m.state == mSTREAMED) && !m.evicting
    | none => false)

/-- The domains on which a session's next item would take work. -/
def State.nextDoms (s : State) (x : Sess) : List Nat :=
  if !s.build.isHub then [0]
  else match s.modelOf x with
    | some (_, m) => if m.state = mSTREAMED then (s.firstFree).toList
        else (m.shares.map fun y => if s.isFenced (0x40 + y.dom) then s.firstFree else some y.dom).filterMap id
    | none => []

/-- Dispatch the oldest item of a session: at most 16 members of a streamed batch at a time (R351). -/
def State.dispatch (s : State) (n : Nat) : State :=
  match s.sess n with
  | none => s
  | some x =>
    match x.pend, s.modelOf x with
    | b :: rest, some (slot, m) =>
      let k := if m.state = mSTREAMED then 16 else b.vecs.length
      let now := b.vecs.take k
      let later := b.vecs.drop k
      let evs : List EvalVec := now.map fun v =>
        let mem := Tab.getD x.members v.member {}
        let v' := { v with full := v.full || mem.sumBad }
        { vec := v', need := needOf m.img mem v', news := [] }
      let trees := (List.range m.img.trees.length).filter fun t => evs.any fun e => e.need.contains t
      match s.partsFor m trees with
      | none => s
      | some (parts, dflt) =>
        let busy := parts.filter fun p => !p.todo.isEmpty
        let scorer := if busy.isEmpty then dflt else (busy.map (·.spindle)).foldl min ((busy.map (·.spindle)).headD 0)
        let e : Eval := { sess := n, slot, gen := m.gen, ft := b.ft, streamed := m.state == mSTREAMED, scorer, vecs := evs, parts }
        let s1 := s.setSess n { x with pend := if later.isEmpty then rest else { b with vecs := later } :: rest,
                                       vectors := x.vectors + now.length }
        let s2 := ((s1.leavePend n now).mapEvals (· ++ [e])).led 3 0 .out now.length
        let s3 := s2.led 4 scorer .inn now.length
        let skipped := sumN (evs.map fun v => m.img.trees.length - v.need.length)
        let s4 := if s.build.isHub && m.state == mRESIDENT then
            m.shares.foldl (fun s y => s.fadd (Reg.SPN_TSKIP_COUNT.at y.dom)
              (sumN (evs.map fun v => y.count - (v.need.filter fun t => decide (y.first ≤ t ∧ t < y.first + y.count)).length))) s3
          else s3.fadd (Reg.SPN_TSKIP_COUNT.at scorer) skipped
        if m.state = mSTREAMED then
          (s4.fadd Reg.SPN_STRMBYTES_BYTES (8 * m.img.trees.length)).fset (Reg.SPN_STAT_STREAMING.at scorer) 1
        else s4
    | _, _ => s

/-! ### Passes (R348, R349) -/

def passLim (b : Build) : Nat := if b.isHub then 128 else 96

/-- Comparisons that a tree costs an item: its DEPTH for each member in need of it (R327). -/
def Eval.cost (e : Eval) (i : MImage) (t : Nat) : Nat := i.depthOf t * (e.vecs.filter fun v => v.need.contains t).length

/-- The trees of the next pass: until the next tree would take it above the limit. -/
def takePass (cost : Nat → Nat) (lim : Nat) : List Nat → Nat → List Nat
  | [], _ => []
  | t :: rest, c => if c ≠ 0 ∧ c + cost t > lim then [] else t :: takePass cost lim rest (c + cost t)

/-- The Spindles of a domain. -/
def domSpindles (b : Build) (dom : Nat) : List Nat := if b.isHub then [dom] else [0, 1]

/-- Issue the next pass of an item on each Spindle of a domain; answers the handshake cycles it takes. -/
def State.issuePass (s : State) (dom : Nat) (e : Eval) : State × Nat :=
  match Tab.get s.dst.models e.slot with
  | none => (s, 0)
  | some m =>
    let sp := domSpindles s.build dom
    let go := fun (p : Part) =>
      if sp.contains p.spindle && p.now.isEmpty then
        let l := takePass (e.cost m.img) (32 * passLim s.build) p.todo 0
        { p with now := l, todo := p.todo.drop l.length }
      else p
    let e' := { e with parts := e.parts.map go }
    let run := e'.parts.filter fun p => sp.contains p.spindle && !p.now.isEmpty
    let comps := fun (p : Part) => sumN (p.now.map (e.cost m.img))
    let s1 := run.foldl (fun s p =>
      let s1 := (s.bump (Reg.SPN_PASSES_COUNT.at p.spindle)).fset (Reg.SPN_STAT_BUSY.at p.spindle) 1
      if e.streamed then s1.fadd Reg.SPN_STRMBYTES_BYTES (8 * sumN (p.now.map m.img.recsOf)) else s1) s
    (s1.mapEvals (fun l => l.map fun q => if q.sess == e.sess && q.ft == e.ft then e' else q),
      (run.map fun p => max 1 (ceilDiv (comps p) 32)).foldl max 0)

/-! ### Shares of a fenced Spindle (R355, R393) -/

/-- The waiting part of an item on a fenced Spindle starts again, from its first tree, on another Spindle. -/
def State.moveParts (s : State) : State :=
  match (if s.build.isHub then s.firstFree else if !s.isFenced 0x40 then some 0 else if !s.isFenced 0x41 then some 1 else none) with
  | none => s
  | some dest =>
    let fenced := fun (k : Nat) => s.isFenced (0x40 + k)
    s.mapEvals fun l => l.map fun e =>
      let parts := e.parts.map fun p =>
        if fenced p.spindle && p.now.isEmpty && !p.todo.isEmpty then { p with spindle := dest, todo := p.all } else p
      { e with parts, scorer := if fenced e.scorer then dest else e.scorer }

/-- Each run that a fenced Hub Spindle held is loaded onto the first Spindle with room (R393). -/
def State.moveRuns (s : State) : State :=
  if !s.build.isHub then s
  else s.dst.models.foldl (fun s e =>
    if e.2.state = mRESIDENT ∧ !e.2.evicting then
      let shares := e.2.shares.map fun x =>
        if s.isFenced (0x40 + x.dom) then
          match (List.range 64).find? fun d => s.domOpen d && !(e.2.shares.any (·.dom == d)) && s.roomFor d e.2.img x.first x.count [] with
          | some d => { x with dom := d }
          | none => x
        else x
      if shares = e.2.shares then s else s.setModel e.1 { e.2 with shares }
    else s) s

/-! ### The command boundary of a domain (R388, R389) -/

def State.domain (s : State) (d : Nat) : Domain := Tab.getD s.dst.doms d {}
def State.setDomain (s : State) (d : Nat) (x : Domain) : State := { s with dst := { s.dst with doms := Tab.set s.dst.doms d x } }

/-- A session's item with trees to issue on a domain. -/
def State.evalOn (s : State) (dom n : Nat) : Option Eval :=
  s.dst.evals.find? fun e => e.sess == n && e.parts.any fun p => (domSpindles s.build dom).contains p.spindle && p.now.isEmpty && !p.todo.isEmpty

/-- A session has a pass to issue on a domain. -/
def State.wantsPass (s : State) (dom n : Nat) (x : Sess) : Bool :=
  (s.evalOn dom n).isSome || (s.canDispatch n x && (s.nextDoms x).contains dom)

/-- Sample FT of a session's oldest work. -/
def State.oldestFt (s : State) (n : Nat) (x : Sess) : Nat :=
  match s.dst.evals.find? (·.sess == n) with
  | some e => e.ft
  | none => match x.pend with | b :: _ => b.ft | [] => 0

/-- The reserved session that goes first: oldest sample FT, then lower ID. -/
def State.reservedNext (s : State) (dom : Nat) : Option Nat :=
  ((s.crd.filter fun e => e.2.admitted && s.wantsPass dom e.1 e.2).foldl (fun (b : Option (Nat × Nat)) e =>
    let f := s.oldestFt e.1 e.2
    match b with
    | none => some (f, e.1)
    | some y => if f < y.1 then some (f, e.1) else b) none).map (·.2)

/-- Evict bursts wait for the vectors already dispatched on the model (R376). -/
def State.burstOn (s : State) (dom : Nat) : Option (Nat × Bool) :=
  match s.dst.models.find? fun e => e.2.evicting && !s.inUse e.1 && decide (0 < Tab.getD e.2.evict dom 0) with
  | some e => some (e.1, true)
  | none =>
    match s.dst.models.find? fun e => e.2.state == mLOADING && decide (0 < Tab.getD e.2.bursts dom 0) with
    | some e => if s.dst.models.any fun q => q.2.evicting && decide (0 < Tab.getD q.2.evict dom 0) then none else some (e.1, false)
    | none => none

def State.issueBurst (s : State) (dom slot : Nat) (ev : Bool) : State :=
  match Tab.get s.dst.models slot with
  | some m =>
    let s1 := s.setModel slot (if ev then { m with evict := Tab.set m.evict dom (Tab.getD m.evict dom 0 - 1) }
      else { m with bursts := Tab.set m.bursts dom (Tab.getD m.bursts dom 0 - 1) })
    s1.setDomain dom { s1.domain dom with burstLast := true }
  | none => s

/-- The best-effort session that holds the domain's turn: the holder while its slice lasts, else the next in ID order with work (R389). -/
def State.bestEffort (s : State) (dom : Nat) : Option (Nat × Int) :=
  let want := (s.crd.filter fun e => !e.2.admitted && s.wantsPass dom e.1 e.2).map (·.1)
  let d := s.domain dom
  if want.contains d.holder ∧ 1 ≤ d.left then some (d.holder, d.left)
  else
    match (want.filter (· > d.holder) ++ want).head? with
    | none => none
    | some n =>
      let slice := max (s.fget Reg.DST_SLICE_CYCLES) (2 * passLim s.build)
      let debt : Nat := match s.sess n with | some x => Tab.getD x.debt dom 0 | none => 0
      some (n, (slice : Int) - debt)

/-- Issue a pass of a session on a domain, dispatching its item first where none is in evaluation. -/
def State.passOf (s : State) (dom n : Nat) : State × Nat :=
  let s1 := if (s.evalOn dom n).isSome then s else s.dispatch n
  match s1.evalOn dom n with
  | some e =>
    let r := s1.issuePass dom e
    (r.1.setDomain dom { r.1.domain dom with burstLast := false }, r.2)
  | none => (s1, 0)

/-- Droop stops best-effort issue in its domain at level 2 and above (R141). -/
def State.paced (s : State) (dom : Nat) : Bool :=
  s.flag Reg.TNS_CTRL_DROOP_EN && decide (2 ≤ (Tab.getD s.tns.sensors (if s.build.isHub then dom / 4 else dom) {}).level)

/-- What Distaff issues at a domain's boundary. A turn ends where no best-effort session of the domain has work (R389, DEDUCED, assumption 51). -/
def State.boundary (s : State) (dom : Nat) : State :=
  let busy := s.dst.evals.any fun e => e.parts.any fun p => (domSpindles s.build dom).contains p.spindle && !p.now.isEmpty
  if dom ≥ nDomains s.build ∨ busy ∨ s.stopped ∨ s.isFenced 0xA then s
  else
    let s := s.moveParts.moveRuns
    match s.reservedNext dom with
    | some n => (s.passOf dom n).1
    | none =>
      match s.burstOn dom, (s.domain dom).burstLast with
      | some b, false => s.issueBurst dom b.1 b.2
      | b, _ =>
        match (if s.paced dom then none else s.bestEffort dom) with
        | some (n, left) =>
          let r := s.passOf dom n
          let rest : Int := left - r.2
          let s1 := r.1.setDomain dom { r.1.domain dom with holder := n, left := rest }
          s1.modSess n fun x => { x with debt := Tab.set x.debt dom (if rest < 0 then (-rest).toNat else 0) }
        | none =>
          let s0 := if s.paced dom then s else s.setDomain dom { s.domain dom with left := 0 }
          match b with
          | some b => s0.issueBurst dom b.1 b.2
          | none => s0.setDomain dom { s0.domain dom with burstLast := false }

/-! ### The end of a pass (R349, R353, R354) -/

/-- Drop every vector of an item at the result point; its members' sums become invalid (R353, R354, R381). -/
def State.dropEval (s : State) (e : Eval) (reason : Nat) : State :=
  let s1 := s.mapEvals fun l => l.filter fun q => !(q.sess == e.sess && q.ft == e.ft)
  let s2 := e.vecs.foldl (fun s v => s.badSum e.sess v.vec) s1
  let s3 := s2.ledDrop 4 e.scorer reason e.vecs.length
  let s4 := s3.modSess e.sess fun x => { x with blockedFt := s.now }
  (e.parts.foldl (fun s p => s.fset (Reg.SPN_STAT_BUSY.at p.spindle) 0) s4).stopCheck e.sess

/-- The trees of a pass evaluated for one vector: leaf values reached with those they replace. -/
def evalTrees (i : MImage) (m : Member) (v : EvalVec) (trees : List Nat) : EvalVec :=
  trees.foldl (fun v t =>
    if v.need.contains t then
      let new := i.eval t v.vec.keys
      match v.news.find? (·.1 == t) with
      | some old => { v with news := (v.news.filter (·.1 != t)) ++ [(t, new, old.2.2)] }
      | none => { v with news := v.news ++ [(t, new, Tab.getD m.cache t 0)] }
    else v) v

/-- A resident model is marked damaged; its shares are invalidated (R391). -/
def State.modModelDamaged (s : State) (slot : Nat) : State :=
  match Tab.get s.dst.models slot with
  | some m =>
    if m.state = mRESIDENT then s.startEvict slot { m with state := mDAMAGED, reload := true } else s
  | none => s

/-- A pass on a Spindle ends. `err` is 0, or a parity error found in a node record (1), directory entry (2), cache entry (3), the running sum (4), or HBM poison (5), plus 8 times its index. -/
def State.passEnd (s : State) (k err : Nat) : State :=
  match s.dst.evals.find? fun e => e.parts.any fun p => p.spindle == k && !p.now.isEmpty with
  | none => s
  | some e =>
    match Tab.get s.dst.models e.slot, s.sess e.sess with
    | some m, some x =>
      let now := (e.parts.find? fun p => p.spindle == k && !p.now.isEmpty).elim [] (·.now)
      let idx := err / 8
      let subj := s.unit (0x40 + k)
      let evals := sumN (now.map fun t => (e.vecs.filter fun v => v.need.contains t).length)
      let s1 := ((s.fadd (Reg.SPN_CMPS_COUNT.at k) (sumN (now.map (e.cost m.img)))).fadd (Reg.SPN_TEVAL_COUNT.at k) evals).fset
        (Reg.SPN_STAT_BUSY.at k) 0
      match err % 8 with
      | 1 => (((s1.bump Reg.SPN_ERR_NODE_PAR).dropEval e rsnPOISON).raise fSTORE 0 subj idx).modModelDamaged e.slot
      | 2 => (((s1.bump Reg.SPN_ERR_NODE_PAR).dropEval e rsnPOISON).raise fSTORE 0 subj idx).modModelDamaged e.slot
      | 5 => (s1.dropEval e rsnPOISON).raise fPOISON 0 subj (idx % 2 ^ 32 + m.handle e.slot * 2 ^ 32)
      | c =>
        let mem := fun (v : EvalVec) => Tab.getD x.members v.vec.member {}
        let all := List.range m.img.trees.length
        let vecs := e.vecs.map fun v => evalTrees m.img (mem v) (if c = 3 ∧ !v.need.contains idx ∧ idx < m.img.trees.length
          then { v with need := v.need ++ [idx] } else v) (if c = 3 then now ++ (if now.contains idx then [] else [idx]) else now)
        let parts := e.parts.map fun p => if p.spindle == k && !p.now.isEmpty then { p with now := [] } else p
        let e1 : Eval := { e with vecs, parts }
        let e2 : Eval := if c = 4 then
            { e1 with vecs := e1.vecs.map fun v => { v with vec := { v.vec with full := true }, need := all }
                      parts := e1.parts.map fun p => if p.spindle == k then
                        { p with todo := all.filter fun t => !(e1.parts.any fun q => q.spindle != k && q.all.contains t) } else p }
          else e1
        let s2 := vecs.foldl (fun s v => s.modSess e.sess fun x =>
          let mm := Tab.getD x.members v.vec.member {}
          let mm2 : Member := { mm with cache := v.news.foldl (fun c t => Tab.set c t.1 t.2.1) mm.cache }
          { x with members := Tab.set x.members v.vec.member mm2 }) s1
        let s3 := s2.mapEvals fun l => l.map fun q => if q.sess == e.sess && q.ft == e.ft then e2 else q
        if c = 3 ∨ c = 4 then (s3.bump Reg.SPN_ERR_CACHE_PAR).raise fSTORE 0 subj ((if c = 3 then idx % 2 ^ 32 else 0) + e.sess * 2 ^ 32) else s3
    | _, _ => s
/-! ### Score and record (R337 to R347, R350) -/

/-- A slub record (R343). -/
def slubRec (ft : Nat) (subj : Hank) (sess kind : Nat) (score : Int) (flags gen : Nat) (owner : Hank) (aux : Nat) : Rec :=
  { w0 := BitVec.ofNat 64 ft, w1 := BitVec.ofNat 64 (subj.toNat + fld 12 48 sess + fld 4 60 kind),
    w2 := BitVec.ofNat 64 (signed 32 score + fld 16 32 flags + fld 16 48 gen), w3 := BitVec.ofNat 64 (owner.toNat + fld 16 48 aux) }

def clamp32 (v : Int) : Int := clampI (-(2 ^ 31)) (2 ^ 31 - 1) v

/-- The running sum after a vector (R337). -/
def newSum (i : MImage) (m : Member) (v : EvalVec) : Int :=
  if v.vec.full then v.news.foldl (fun a t => a + t.2.1) i.base
  else v.news.foldl (fun a t => a + (t.2.1 - t.2.2)) m.sum

/-- Commit a verdict record to a slice's queue and, for a reserved class, send it to the current parent (R347). -/
def State.commitVerdict (s : State) (n slice cls kind : Nat) (r : Rec) : State :=
  let s1 := s.pushVerdict slice kind r
  if cls ≥ 4 then s1.sendSess n 0x13 cls 0 (recWords r) else s1

/-- Flags that a vector's SLUB record carries (R345), FENCED and CLEAR apart. -/
def slubFlags (v : Vec) (sat streamed : Bool) : Nat :=
  b2n v.nan + b2 v.off 1 + b2 v.full 2 + b2 v.locked 3 + b2 sat 4 + b2 v.late 5 + b2 v.gap 8 + b2 streamed 9

/-- The score stage of the first vector of an item: sum, hysteresis, record (R337 to R347). -/
def State.scoreVec (s : State) (k : Nat) (e : Eval) (m : Model) (x : Sess) (v : EvalVec) : State :=
  let mem := Tab.getD x.members v.vec.member {}
  let sum := newSum m.img mem v
  let score := clamp32 sum
  let sat := decide (score ≠ sum)
  let supp := v.vec.nan && x.suppress
  let inside' := if mem.inside then decide (score > m.img.exit) else decide (score > m.img.enter)
  let clear := mem.inside && !inside'
  let due := (!mem.inside && inside') || (mem.inside && inside' && m.img.level) || clear
  let flags0 := slubFlags v.vec sat e.streamed
  let mem' := { mem with sum, sumBad := false, inside := if supp then mem.inside else inside' }
  let s1 := s.setSess e.sess { x with members := Tab.set x.members v.vec.member mem', suppN := x.suppN + b2n (supp && due),
                                      scored := if v.vec.late || supp then x.scored else x.scored ++ [{ vec := v.vec, score, flags := flags0, gen := e.gen }] }
  let s2 := s1.bump (Reg.SPN_VECS_COUNT.at k)
  if !due then s2.led 4 k .out 1
  else if supp then s2.ledDrop 4 k 0xB 1
  else
    let fu := x.fenceUnit
    let asks := !s.build.isHub && fu != 0 && !clear && (!v.vec.nan || x.fenceOnNan)
    let fenced := !s.build.isHub && fu != 0 && (asks || s.hostCovered fu)
    let subj := if x.isChild then v.vec.origin else s.unit fu
    let r := slubRec v.vec.ft subj e.sess 1 score (flags0 + b2 clear 6 + b2 fenced 7) e.gen (s.unit 0) (min v.news.length 0xFFFF)
    let s3 := ((s2.led 4 k .out 1).bump Reg.SPN_SLUBS_COUNT).commitVerdict e.sess x.slice x.verdictClass 1 r
    let s4 := if asks then s3.askFence 1 1 fu else s3
    if x.admitted && !s.build.isHub && !e.streamed then s4.boundCheck 0 v.vec.ft 0 (s.unit (0x40 + k)) else s4

/-- The item whose score stage a Spindle ends: the oldest with no tree left to evaluate. -/
def State.scorable (s : State) (k : Nat) : Option Eval :=
  s.dst.evals.find? fun e => e.scorer == k && e.parts.all fun p => p.todo.isEmpty && p.now.isEmpty

/-- The score stage of a Spindle ends: one vector is scored; with the last of an item the item ends. The answer names the session whose item ended. -/
def State.scoreEnd (s : State) (k : Nat) : State × Option Nat :=
  match s.scorable k with
  | none => (s, none)
  | some e =>
    match Tab.get s.dst.models e.slot, s.sess e.sess, e.vecs with
    | some m, some x, v :: rest =>
      let s1 := s.scoreVec k e m x v
      let same := fun (q : Eval) => q.sess == e.sess && q.ft == e.ft
      if rest.isEmpty then
        let s2 := s1.mapEvals fun l => l.filter fun q => !same q
        let s3 := (s2.modSess e.sess fun x => { x with blockedFt := s.now })
        (s3.fset (Reg.SPN_STAT_STREAMING.at k) 0, some e.sess)
      else (s1.mapEvals fun l => l.map fun q => if same q then { q with vecs := rest } else q, none)
    | _, _, _ => (s.mapEvals fun l => l.filter fun q => !(q.sess == e.sess && q.ft == e.ft), none)

end Sys2Proof.Machine
end

