-- ==== Sys2Proof/Machine/ModelCmd.lean ====
section
/-! DEFINITION. The commands and events of models: MODEL_LOAD, MODEL_EVICT, MODEL_BIND, MODEL_QUERY, and the ends of loads, evictions, passes and grace times (R360 to R395). -/

namespace Sys2Proof.Machine

/-! ### Registers of a model (R394) -/

/-- `DST_MSTAT` of an entry. -/
def State.mstatWord (s : State) (slot : Nat) : W32 :=
  match Tab.get s.dst.models slot with
  | none => 0
  | some m =>
    let width := if s.build.isHub then m.shares.length else (if m.state = mRESIDENT then 2 else 0)
    BitVec.ofNat 32 (fld 3 0 m.state + b2 m.pin 3 + fld 7 4 width + fld 13 16 (s.boundTo slot m).length)

def State.mhandleWord (s : State) (slot : Nat) : W32 :=
  match Tab.get s.dst.models slot with
  | none => 0
  | some m => BitVec.ofNat 32 (m.handle slot + fld 6 24 m.slice)

/-- The Spindles that hold a share: both on a Leaf, whose store is shared. -/
def State.mspn (s : State) (slot : Nat) : Nat :=
  match Tab.get s.dst.models slot with
  | none => 0
  | some m =>
    if s.build.isHub then sumN (m.shares.map fun x => 2 ^ x.dom) else if m.shares.isEmpty then 0 else 3

/-- The eight words of a MODEL_QUERY entry (R395). -/
def State.modelEntry (s : State) (slot : Nat) : List Byte :=
  let w := fun (v : Nat) => toBytes 4 v
  match Tab.get s.dst.models slot with
  | none => List.replicate 32 0
  | some m =>
    w (s.mhandleWord slot).toNat ++ w (s.mstatWord slot).toNat ++ w m.gen ++ w m.img.modelId.toNat ++ w m.img.trees.length
      ++ w m.img.nodes.length ++ w (s.mspn slot) ++ w (s.mspn slot / 2 ^ 32)

/-! ### MODEL_LOAD (R367 to R372) -/

/-- The lowest-numbered FREE entry. -/
def State.freeModel (s : State) : Option Nat := Tab.lowestFree s.dst.models (nModels s.build)

/-- The next reuse tag of an entry (R361). -/
def State.nextTag (s : State) (slot : Nat) : Nat :=
  let t := Tab.getD s.dst.tags slot 0
  if t ≥ 16383 then 1 else t + 1

/-- Bytes that backing copies hold in HBM. -/
def State.hbmModels (s : State) : Nat := if s.build.isHub then sumN (s.dst.models.map fun e => e.2.bytes) else 0

/-- Class and width of a valid image: the width whose runs exist, or none for a streamed model (R369, R370). -/
def State.modelClass (s : State) (i : MImage) (place width : Nat) : Option Nat :=
  if !s.build.isHub then some 0
  else match placedWidth (s.fget Reg.DST_CTRL_MAXW + 1) place width i.trees.length i.nodes.length with
    | none => none
    | some w => (runsFrom 65 w i.items).map List.length

/-- A model that has passed its checks takes the lowest free entry and is loaded, or waits (R368 to R372). -/
def State.takeModel (s : State) (r : Running) (i : MImage) (cls : Option Nat) (slot : Nat) : State :=
  let tag := s.nextTag slot
  let m : Model := { state := if cls.isSome then mLOADING else mSTREAMED, tag, slice := r.slice, pin := bit r.d.arg0 2,
                     width := cls.getD 0, gen := 0, bytes := r.d.len.toNat, addr := r.d.addr, img := i, cmd := some r }
  let s1 := { s with dst := { s.dst with tags := Tab.set s.dst.tags slot tag } }
  if cls.isNone then s1.registerModel slot m else (s1.setModel slot m).kick

def State.modelLoad (s : State) (r : Running) : State :=
  let place := bits r.d.arg0 1 0
  let width := bits r.d.arg0 9 3
  let hub := s.build.isHub
  let args := bits r.d.arg0 31 10 == 0 && r.d.arg1 == 0 && place != 3 && (hub || (place != 2 && width == 0)) &&
    decide (width ≤ 64) && !(place == 2 && width != 0)
  s.checked r { args, zero := r.d.len == 0, tooLong := decide (r.d.len.toNat < 64), reads := true } fun s =>
    let bs := s.operand r
    let h := readHeader bs
    match validate bs r.d.len.toNat (limitsOf s.build (s.fget Reg.DST_CTRL_MAXW + 1) place width h.ntrees h.nnodes) with
    | .error v => s.complete r stBAD_FIELD v r.d.session.toNat
    | .ok i =>
      let cls := s.modelClass i place width
      if cls.isNone && decide (i.trees.length > 65536) then s.complete r stBAD_FIELD (codeValue 2 0) r.d.session.toNat
      else match s.freeModel with
      | none => s.fail r stNO_RESOURCE
      | some slot =>
        s.guarded r [(hub && decide (s.hbmModels + r.d.len.toNat > s.fget Reg.DST_HBMMSIZE_SIZE), stNO_RESOURCE),
          (cls.isNone && !s.flag Reg.SPN_CTRL_STREAM_EN, stNO_RESOURCE)] fun s => s.takeModel r i cls slot

/-- MODEL_LOAD (R368). -/
def execModelLoad (src : Src) (d : Desc) (b : Bus) (s : State) : Host.Outcome State Fault Refusal :=
  act s (s.command (.modelLoad src d b) src d b 0x10 .h false State.modelLoad)

/-! ### MODEL_EVICT and MODEL_DISCARD (R376) -/

/-- Drop a model: its table entry becomes FREE, and the block looks for the next load. -/
def State.freeSlot (s : State) (slot : Nat) : State := (s.delModel slot).kick

/-- The models a slice's own commands reach. -/
def handleArg (r : Running) : Nat := r.d.arg0.toNat

def State.modelEvict (s : State) (r : Running) : State :=
  let e := s.sliceModel (handleArg r) r.slice
  s.checked r { args := r.d.arg1 == 0 && e.isSome } fun s =>
    match e with
    | none => s.fail r stBAD_FIELD
    | some (slot, m) =>
      if m.evicting ∧ !m.discard ∧ m.state = mRESIDENT then s.setModel slot { m with evCmd := m.evCmd ++ [r] }
      else if m.state = mEVICTED then s.completeOk r 0
      else if m.state = mRESIDENT ∧ !m.evicting ∧ !s.protected_ slot m then s.startEvict slot { m with evCmd := [r] }
      else s.fail r stSTATE

/-- MODEL_EVICT (R376). -/
def execModelEvict (src : Src) (d : Desc) (b : Bus) (s : State) : Host.Outcome State Fault Refusal :=
  let d := { d with arg1 := d.arg1 &&& ~~~1#64 }
  act s (s.command (.modelEvict src d b) src d b 0x11 .h false State.modelEvict)

/-- Discard a model: its shares are freed by evict bursts, then its entry (R376). -/
def State.discardModel (s : State) (slot : Nat) (m : Model) (cmds : List Running) : State :=
  if m.evicting then s.setModel slot { m with discard := true, evCmd := m.evCmd ++ cmds }
  else if m.shares.isEmpty then (cmds.foldl (fun s r => s.completeOk r 0) s).freeSlot slot
  else s.startEvict slot { m with discard := true, evCmd := cmds }

def State.modelDiscard (s : State) (r : Running) : State :=
  let e := s.sliceModel (handleArg r) r.slice
  s.checked r { args := r.d.arg1 == 1 && e.isSome } fun s =>
    match e with
    | none => s.fail r stBAD_FIELD
    | some (slot, m) =>
      if !(s.boundTo slot m).isEmpty || m.state == mLOADING then s.fail r stSTATE else s.discardModel slot m [r]

/-- MODEL_EVICT with DISCARD 1 (R376). -/
def execModelDiscard (src : Src) (d : Desc) (b : Bus) (s : State) : Host.Outcome State Fault Refusal :=
  let d := { d with arg1 := d.arg1 ||| 1#64 }
  act s (s.command (.modelDiscard src d b) src d b 0x11 .h false State.modelDiscard)

/-! ### MODEL_BIND (R334, R373) -/

/-- The first feature whose group disagrees with the image's group map, or 0xFF_FFFF when the session has too few features. -/
def badBinding (i : MImage) (x : Sess) : Option Nat :=
  if i.nfeat > x.nfeat then some 0xFFFFFF
  else (i.gmap.zip (x.feats.map (·.group))).findIdx? fun e => e.1 != e.2

/-- A session of the slice, for check 4 (R198). -/
def State.ownSess (s : State) (r : Running) : Option Sess :=
  match s.sess r.d.session.toNat with
  | some x => if x.slice = r.slice then some x else none
  | none => none

/-- Take the share of a model for a session: every entry, sum and hysteresis state as new (R336, R338, R339). -/
def Sess.bindTo (x : Sess) (handle ft : Nat) : Sess :=
  { x with model := some handle, blockedFt := ft,
           members := x.members.map fun e => (e.1, { e.2 with cache := [], sum := 0, sumBad := true, inside := false, cohortIn := false }) }

def State.modelBind (s : State) (r : Running) : State :=
  let n := r.d.session.toNat
  s.checked r { sess := some (s.ownSess r).isSome } fun s =>
    match s.sess n with
    | none => s.fail r stBAD_SESSION
    | some x =>
      match s.sliceModel (handleArg r) r.slice with
      | none => s.fail r stBAD_FIELD
      | some (slot, m) =>
        s.guarded r [(x.state != ssOPEN || x.resv.isSome, stSTATE), (m.state == mBROKEN, stSTATE),
          (!s.cacheRoom n x m, stNO_RESOURCE)] fun s =>
          match badBinding m.img x with
          | some k => s.complete r stBAD_FIELD k n
          | none => (s.setSess n (x.bindTo (m.handle slot) s.now)).completeOk r (m.gen % 2 ^ 24)

/-- MODEL_BIND (R373). -/
def execModelBind (src : Src) (d : Desc) (b : Bus) (s : State) : Host.Outcome State Fault Refusal :=
  act s (s.command (.modelBind src d b) src d b 0x12 .h true State.modelBind)

/-! ### MODEL_QUERY (R395) -/

def State.modelQuery (s : State) (r : Running) : State :=
  let len := r.d.len.toNat
  let one := (s.sliceModel (handleArg r) r.slice).map (·.1)
  let args := r.isMgmt || one.isSome
  s.checked r { args, zero := len == 0, tooLong := decide (len < 32) } fun s =>
    let slots := if r.isMgmt then ((List.range (nModels s.build)).drop (bits r.d.arg0 9 0)).take (len / 32) else one.toList
    s.finish r (slots.flatMap s.modelEntry) (32 * slots.length)

/-- MODEL_QUERY (R395). -/
def execModelQuery (src : Src) (d : Desc) (b : Bus) (s : State) : Host.Outcome State Fault Refusal :=
  act s (s.command (.modelQuery src d b) src d b 0x13 .hm false State.modelQuery)

/-! ### Events -/

/-- DOMAIN_BOUNDARY (R388): a domain issues its next command. -/
def execDomainBoundary (dom : Nat) (s : State) : Host.Outcome State Fault Refusal := act s (s.boundary dom)

/-- PASS_DONE (R349). -/
def execPassDone (spindle err : Nat) (s : State) : Host.Outcome State Fault Refusal := act s (s.passEnd spindle err)

/-- The extents and directory entries in use on a domain fit its store. -/
def State.domFits (s : State) (dom : Nat) : Bool :=
  let u := s.domUsed dom []
  decide (u.1 ≤ storeExtents s.build) && decide (u.2 ≤ 8192)

/-- The status with which a first load that failed ends MODEL_LOAD: CHECK disagrees, the fetch fails, poison (R372). -/
def loadStatus (err : Nat) : Nat × Nat :=
  match err with
  | 1 => (stBAD_FIELD, codeValue 7 0)
  | 2 => (stADDR_FAULT, 0)
  | _ => (stPOISON, 0)

/-- A reload failed: the model is BROKEN, with the fault of R392. -/
def State.breakModel (s : State) (slot : Nat) (m : Model) (err : Nat) : State :=
  let s1 := s.setModel slot { m with state := mBROKEN, shares := [], bursts := [], reload := false }
  if s.build.isHub then (if err = 3 then s1.raise fPOISON 0 (s.unit 0xA) slot else s1)
  else s1.raise fHOSTPROTO 0 (s.unit 0xA) err

/-- The load of a model into its store ends (R372, R385, R390 to R392). `err`: 0 none, 1 CHECK disagrees, 2 the fetch failed, 3 poison. -/
def State.loadEnd (s : State) (slot err : Nat) : State :=
  match Tab.get s.dst.models slot with
  | none => s
  | some m =>
    if m.state ≠ mLOADING ∨ m.shares.isEmpty ∨ !(m.shares.all fun x => s.domFits x.dom) then s
    else if err = 0 then
      let m' : Model := { m with state := mRESIDENT, bursts := [], reload := false }
      let s1 := (s.setModel slot m').bump Reg.DST_LOADS_LOADS
      let s2 := if m.reload then s1.bump Reg.DST_LOADS_RELOADS else s1
      let s3 := s2.touchSessions slot m'
      (if m.cmd.isSome then s3.registerModel slot m' else s3).kick
    else match m.cmd with
      | some r =>
        let st := loadStatus err
        ((s.delModel slot).complete r st.1 st.2 r.d.session.toNat).kick
      | none => (s.breakModel slot m err).kick

/-- MODEL_STORE_LOAD_DONE (R390). -/
def execModelStoreLoadDone (slot err : Nat) (s : State) : Host.Outcome State Fault Refusal := act s (s.loadEnd slot err)

/-- An eviction ends (R376, R391): every share of the model is gone. -/
def State.evictEnd (s : State) (slot : Nat) : State :=
  match Tab.get s.dst.models slot with
  | none => s
  | some m =>
    if !m.evicting || s.inUse slot then s
    else if m.discard then (m.evCmd.foldl (fun s r => s.completeOk r 0) s).freeSlot slot
    else
      let m' : Model := { m with evicting := false, evict := [], shares := [], evCmd := [],
                                 state := if m.state = mRESIDENT then mEVICTED else m.state }
      (m.evCmd.foldl (fun s r => s.completeOk r 0) (s.setModel slot m')).kick

/-- EVICTION_DONE (R376). -/
def execEvictionDone (slot : Nat) (s : State) : Host.Outcome State Fault Refusal := act s (s.evictEnd slot)

/-- A session's blocked time passes `DST_GRACE` (R383). -/
def State.gracePassed (s : State) (n : Nat) : State :=
  match s.sess n with
  | some x => if s.grace ≠ 0 ∧ s.blocked n x > s.grace then s.evictRule else s
  | none => s

/-- GRACE_EXPIRY (R383). -/
def execGraceExpiry (session : Nat) (s : State) : Host.Outcome State Fault Refusal := act s (s.gracePassed session)

end Sys2Proof.Machine
end

