-- ==== Sys2Proof/Machine/Twister.lean ====
section
/-! DEFINITION. Twister (R396 to R422, R435 to R443): contributions and summaries, the folds of the operators, sketches, merges with their closes and amendments, replays, results at the sink, and publications. -/

namespace Sys2Proof.Machine

/-! ### Items (R401 to R403) -/

/-- Truncate a place to its first `depth` fields, as a hank address with sub-unit and tier 0. -/
def truncPlace (depth : Nat) (h : Hank) : Hank := BitVec.ofNat 48 (hPlace h / 2 ^ beyond depth * 2 ^ beyond depth * 2 ^ 14)

/-- The place field at a depth (R29): site, hall, row, rack, tray, slot. -/
def placeField (depth : Nat) (h : Hank) : Nat := hPlace h / 2 ^ beyond depth % 2 ^ (beyond (depth - 1) - beyond depth)

/-- FLAGS of an item (R403). -/
def itemFlags (i : RItem) (replay amend raw nan : Bool) : Nat :=
  b2n replay + b2 amend 1 + b2 i.sat 2 + b2 i.locked 3 + b2 raw 4 + b2 nan 5 + b2 i.unknown 6

/-- The words of a summary form (R402). -/
def summaryWords (i : RItem) (replay amend raw : Bool) : List W64 :=
  [BitVec.ofNat 64 i.ft,
   BitVec.ofNat 64 (fld 16 0 i.rid + fld 4 16 i.op + 2 ^ 20 + fld 3 21 i.final + itemFlags i replay amend raw false * 2 ^ 24
     + fld 9 40 i.payload.length + fld 8 49 i.n),
   BitVec.ofNat 64 (i.group.toNat + fld 3 48 i.depth), i.cover,
   BitVec.ofNat 64 (min i.contrib (2 ^ 32 - 1) + min i.missing (2 ^ 32 - 1) * 2 ^ 32),
   BitVec.ofNat 64 (fld 32 0 i.nan)] ++ i.payload

/-! ### Sketches (R435 to R437) -/

structure Sketch where
  least : Nat
  greatest : Nat
  count : Nat
  level : Nat
  buckets : List (Nat × Nat)
  deriving DecidableEq, Repr

def Sketch.empty : Sketch := { least := 2 ^ 32 - 1, greatest := 0, count := 0, level := 0, buckets := [] }
def Sketch.single (k : Nat) : Sketch := { least := k, greatest := k, count := 1, level := 0, buckets := [(k, 1)] }

def readSketch (ws : List W64) : Sketch :=
  let w := fun i => ws.getD i 0
  { least := bits (w 0) 31 0, greatest := bits (w 0) 63 32, count := bits (w 1) 31 0, level := bits (w 1) 37 32,
    buckets := ((ws.drop 2).take (bits (w 1) 45 38)).map fun x => (bits x 31 0, bits x 63 32) }

def sketchWords (k : Sketch) : List W64 :=
  [BitVec.ofNat 64 (k.least + k.greatest * 2 ^ 32), BitVec.ofNat 64 (fld 32 0 k.count + fld 6 32 k.level + fld 8 38 k.buckets.length)] ++
    k.buckets.map fun e => BitVec.ofNat 64 (e.1 + fld 32 32 e.2)

/-- Add a bucket to a rising list. -/
def addBucket (t : List (Nat × Nat)) (e : Nat × Nat) : List (Nat × Nat) := Tab.set t e.1 (Tab.getD t e.1 0 + e.2)
def rebucket (l : Nat) (bs : List (Nat × Nat)) : List (Nat × Nat) := bs.foldl (fun t e => addBucket t (e.1 / 2 ^ l * 2 ^ l, e.2)) []

/-- Coarsen until at most 248 buckets are left; the level never passes 25. -/
def coarsen : Nat → Nat → List (Nat × Nat) → Nat × List (Nat × Nat)
  | 0, l, bs => (l, bs)
  | fuel + 1, l, bs => if bs.length ≤ 248 then (l, bs) else coarsen fuel (l + 1) (rebucket (l + 1) bs)

def Sketch.fold (a b : Sketch) : Sketch :=
  let l := max a.level b.level
  let c := coarsen 26 l ((rebucket l b.buckets).foldl addBucket (rebucket l a.buckets))
  { least := min a.least b.least, greatest := max a.greatest b.greatest, count := a.count + b.count, level := c.1, buckets := c.2 }

/-! ### Folds (R398, R404, R405) -/

/-- A SUM lane: exact in 64 bits; a lane that leaves the range holds the limit it crossed. A lane at a limit in an item whose SAT is set carries no defined value (`free`). -/
def sumLane (sat : Bool) (free a b : W64) : W64 × Bool :=
  let atLimit := fun (x : W64) => x == BitVec.ofNat 64 (2 ^ 63) || x == BitVec.ofNat 64 (2 ^ 63 - 1)
  if sat && (atLimit a || atLimit b) then (free, true)
  else
    let v := a.toInt + b.toInt
    if v > 2 ^ 63 - 1 then (BitVec.ofNat 64 (2 ^ 63 - 1), true)
    else if v < -(2 ^ 63) then (BitVec.ofNat 64 (2 ^ 63), true)
    else (a + b, sat)

def sumLanes (free : W64) : Bool → List W64 → List W64 → List W64 × Bool
  | sat, a :: s, b :: t =>
    let r := sumLane sat free a b
    let q := sumLanes free r.2 s t
    (r.1 :: q.1, q.2)
  | sat, _, _ => ([], sat)

/-- A MIN or MAX lane: two words each. On equal keys the lower origin stands. -/
def extLane (isMin : Bool) (a b : W64 × W64) : W64 × W64 :=
  let key := fun (x : W64 × W64) => bits x.1 31 0
  let cnt := fun (x : W64 × W64) => bits x.1 63 32
  let org := fun (x : W64 × W64) => bits x.2 47 0
  let pick := if cnt b = 0 then a else if cnt a = 0 then b
    else if key a = key b then (if org a ≤ org b then a else b)
    else if isMin == decide (key a < key b) then a else b
  (BitVec.ofNat 64 (key pick + fld 32 32 (cnt a + cnt b)), pick.2)

def extLanes (isMin : Bool) : List W64 → List W64 → List W64
  | a :: a' :: s, b :: b' :: t => let r := extLane isMin (a, a') (b, b'); r.1 :: r.2 :: extLanes isMin s t
  | _, _ => []

/-- HIST payload: bin counts and the NaN count, 4 bytes each. -/
def histAdd : List W64 → List W64 → List W64
  | a :: s, b :: t => BitVec.ofNat 64 (fld 32 0 (bits a 31 0 + bits b 31 0) + fld 32 32 (bits a 63 32 + bits b 63 32)) :: histAdd s t
  | s, [] => s
  | [], t => t

/-- SPARSE payload as index and sum. -/
def sparseTab : List W64 → Tab W64
  | i :: v :: t => Tab.set (sparseTab t) (bits i 15 0) v
  | _ => []
def sparseWords (t : Tab W64) : List W64 := t.flatMap fun e => [BitVec.ofNat 64 e.1, e.2]

def foldPayload (op : Nat) (sat : Bool) (free : W64) (a b : List W64) : List W64 × Bool :=
  match op with
  | 1 => sumLanes free sat a b
  | 2 => (extLanes true a b, sat)
  | 3 => (extLanes false a b, sat)
  | 4 => (histAdd a b, sat)
  | 5 => (sketchWords ((readSketch a).fold (readSketch b)), sat)
  | _ => (sparseWords ((sparseTab b).foldl (fun t e => Tab.set t e.1 (Tab.getD t e.1 0#64 + e.2)) (sparseTab a)), sat)

/-- Fold two items of one group; the group fields of the first stand. -/
def RItem.fold (free : W64) (a b : RItem) : RItem :=
  let p := foldPayload a.op (a.sat || b.sat) free a.payload b.payload
  { a with payload := p.1, sat := p.2, locked := a.locked && b.locked, unknown := a.unknown || b.unknown, cover := a.cover ||| b.cover,
           contrib := min (a.contrib + b.contrib) (2 ^ 32 - 1), missing := min (a.missing + b.missing) (2 ^ 32 - 1), nan := (a.nan + b.nan) % 2 ^ 32 }

def foldOpt (free : W64) : Option RItem → RItem → RItem
  | none, b => b
  | some a, b => a.fold free b

/-! ### Reading an input -/

/-- A single form as an item (R401, R404, R436). -/
def singleItem (ws : List W64) : RItem :=
  let w := fun i => ws.getD i 0
  let op := bits (w 1) 19 16
  let nan := bit (w 1) 29
  let key := bits (w 3) 31 0
  let org : Hank := BitVec.ofNat 48 (bits (w 2) 47 0)
  { ft := (w 0).toNat, rid := bits (w 1) 15 0, op, final := bits (w 1) 23 21, n := 1, sat := bit (w 1) 26, locked := bit (w 1) 27,
    unknown := bit (w 1) 30, group := truncPlace 6 org, depth := 6, cover := 0, contrib := 1, missing := 0, nan := b2n nan,
    payload := match op with
      | 1 => [if nan then 0 else w 3]
      | 5 => sketchWords (if nan then Sketch.empty else Sketch.single key)
      | _ => [BitVec.ofNat 64 (key + (if nan then 0 else 2 ^ 32)), BitVec.ofNat 64 org.toNat] }

def summaryItem (ws : List W64) : RItem :=
  let w := fun i => ws.getD i 0
  { ft := (w 0).toNat, rid := bits (w 1) 15 0, op := bits (w 1) 19 16, final := bits (w 1) 23 21, n := bits (w 1) 56 49,
    sat := bit (w 1) 26, locked := bit (w 1) 27, unknown := bit (w 1) 30, group := BitVec.ofNat 48 (bits (w 2) 47 0), depth := bits (w 2) 50 48,
    cover := w 3, contrib := bits (w 4) 31 0, missing := bits (w 4) 63 32, nan := bits (w 5) 31 0, payload := (ws.drop 6).take (bits (w 1) 48 40) }

/-- The message holds a whole item of a form of R401 or R402. -/
def itemWhole (ws : List W64) : Bool :=
  let w1 := ws.getD 1 0
  let op := bits w1 19 16
  decide (1 ≤ op ∧ op ≤ 6) &&
    (if bit w1 20 then decide (6 ≤ ws.length) && decide (ws.length = 6 + bits w1 48 40) && decide (1 ≤ bits (ws.getD 2 0) 50 48 ∧ bits (ws.getD 2 0) 50 48 ≤ 6)
     else decide (ws.length = 4) && decide (op ≠ 4 ∧ op ≠ 6))

/-- An input as it arrived. -/
def readInput (m : Msg) : RInput :=
  let w1 := m.words.getD 1 0
  { item := if bit w1 20 then summaryItem m.words else singleItem m.words, replay := m.replay || bit w1 24, amend := bit w1 25, raw := bit w1 28,
    tc := m.tc, words := m.words, port := m.port, covers := m.covers }

/-! ### Close instants (R408, R411, R416) -/

/-- The close index of this Hub. -/
def State.closeIdx (s : State) : Nat := if s.isRoot then (if s.rootActive then 6 else 5) else s.tier
def State.closeAt (s : State) (ft : Nat) : Nat :=
  ft + 4 * (s.fget Reg.TWS_CLOSE0_NS + (s.closeIdx - 1) * s.fget Reg.TWS_STEP_NS)
def State.amendAt (s : State) (ft : Nat) : Nat := s.closeAt ft + s.fget Reg.TWS_AMEND_US * us

/-- This Hub is the final point of a reduction (R411). -/
def State.isFinal (s : State) (final : Nat) : Bool := if s.isRoot then s.rootActive else decide (s.tier ≥ final)

/-- This Hub is the resolver of a copy (R418); the tier of the copy's origin is that of the depth of its group. -/
def State.isResolver (s : State) (i : RItem) : Bool :=
  let t := 6 - i.depth
  if s.rootActive then t == 3 || t == 4
  else if s.isRoot then false
  else placeMatch s.ownDepth (hPlace i.group) (hPlace s.self) && s.tier == t + 2

/-! ### Merges (R407, R413) -/

/-- The group that an input of group `g` at depth `d` folds into, and its COVER bit. -/
def RItem.parent (i : RItem) : Hank := truncPlace (i.depth - 1) i.group
def RItem.coverBit (i : RItem) : W64 := 1#64 <<< placeField i.depth i.group

def Merge.is (m : Merge) (rid ft : Nat) (g : Hank) : Bool := m.rid == rid && m.ft == ft && m.group == g
def State.findMerge (s : State) (rid ft : Nat) (g : Hank) : Option Merge := s.tws.merges.find? fun m => m.is rid ft g
def State.setMerges (s : State) (l : List Merge) : State := { s with tws := { s.tws with merges := l } }

/-- Store a merge, counting the cells of its queue that it takes or gives back (R413, R615). -/
def State.putMerge (s : State) (m : Merge) : State :=
  let old := (s.findMerge m.rid m.ft m.group).elim 0 Merge.cells
  let s1 := if s.tws.merges.any fun x => x.is m.rid m.ft m.group then
      s.setMerges (s.tws.merges.map fun x => if x.is m.rid m.ft m.group then m else x)
    else s.setMerges (s.tws.merges ++ [m])
  match m.queue with
  | some q => if old < m.cells then s1.led 5 q .inn (m.cells - old) else if m.cells < old then s1.led 5 q .out (old - m.cells) else s1
  | none => s1

/-- A merge ends; its cells and queue are free. -/
def State.dropMerge (s : State) (m : Merge) : State :=
  let s1 := s.setMerges (s.tws.merges.filter fun x => !(x.is m.rid m.ft m.group))
  match m.queue with
  | some q => if m.cells = 0 then s1 else s1.led 5 q .out m.cells
  | none => s1

/-- Members of a group already folded here: those of the merge of the group, and the COVERs received for it as an input group (R407, R419). -/
def State.coverUnion (s : State) (rid ft : Nat) (g : Hank) : W64 :=
  s.tws.merges.foldl (fun u m =>
    if m.rid = rid ∧ m.ft = ft then
      let own := if m.group = g then (m.item.elim 0#64 RItem.cover) ||| (m.amend.elim 0#64 RItem.cover) else 0#64
      u ||| own ||| (((m.ins.filter (·.group == g)).map (·.cover)).foldl (· ||| ·) 0#64)
    else u) 0#64

/-- Merge inputs that a path reservation charges here: none at its owner. -/
def PathRes.mergeLoad (r : PathRes) : Nat := if r.arrived.isNone then 0 else r.merges

/-- Entries of the merge table held for reserved reductions (R413). -/
def State.reservedMerges (s : State) : Nat := sumN (s.str.paths.map PathRes.mergeLoad)

/-- A best-effort merge can open: an entry, a queue and the cells of its first input (R414, R615). -/
def State.mergeRoom (s : State) (cells : Nat) : Bool :=
  decide ((s.tws.merges.filter fun m => !m.reserved).length + s.reservedMerges < 4096) && s.freeQueue.isSome
    && decide (cells ≤ s.commonFree)

/-! ### Delivery at the sink (R251, R411) -/

/-- Write bytes circularly from a running count; a record may wrap across the end of the buffer. -/
def State.ringWrite (s : State) (slice : Nat) (base : W64) (log2 count : Nat) (bs : List Byte) : State :=
  let at_ := count % 2 ^ log2
  let room := 2 ^ log2 - at_
  let s1 := s.emit (.dma slice (base + BitVec.ofNat 64 at_) (bs.take room))
  if bs.length ≤ room then s1 else s1.emit (.dma slice base (bs.drop room))

def State.toSink (s : State) (rid : Nat) (ws : List W64) : State :=
  match s.tws.sinks.find? (·.rid == rid) with
  | none => s.bump Reg.TWS_NOSINK_COUNT
  | some k =>
    let bs := wordsBytes ws
    let n := k.bytes + bs.length
    let s1 := s.ringWrite k.slice k.base k.log2 k.bytes bs
    let s2 := if k.mirror then s1.emit (.dma k.slice k.mir (toBytes 8 n)) else s1
    { s2 with tws := { s2.tws with sinks := s2.tws.sinks.map fun x => if x.rid = rid then { x with bytes := n } else x } }

/-- Inputs delivered or passed at this point: their count and the custody of their frames end. -/
def State.deliverInputs (s : State) (n : Nat) (covers : List (Nat × Nat)) : State := (covers.foldl State.custodyDone s).inputsOut n

/-- Pass an input on as it came, with the flags given (R414, R415, R418); at the final point it goes to the sink buffer. -/
def State.passInput (s : State) (r : RInput) (raw : Bool) : State :=
  let w1 := (r.words.getD 1 0) ||| (if raw then 1#64 <<< 28 else 0#64) ||| (if r.replay then 1#64 <<< 24 else 0#64)
  let ws := r.words.set 1 w1
  let s1 := if raw then s.bump Reg.TWS_PASS_RAW else s
  if s.isFinal r.item.final && raw then (s1.toSink r.item.rid ws).deliverInputs 1 r.covers
  else (s1.sendUp 0x11 r.tc 0 r.replay ws r.covers).led 0x0A 0 .out 1

/-! ### Publication (R439 to R443) -/

/-- Rank fraction of point i, in units of 2^-16. -/
def pointQ (i : Nat) : Nat := if i = 0 then 0 else if i < 48 then i * 65536 / 48 else if i < 55 then 65536 - 2 ^ (58 - i) else 65536

/-- LOW of the bucket in which the cumulative count first reaches a rank. -/
def bucketOf : List (Nat × Nat) → Nat → Nat
  | [], _ => 0
  | [e], _ => e.1
  | e :: t, r => if r ≤ e.2 then e.1 else bucketOf t (r - e.2)

def pointKey (k : Sketch) (i : Nat) : Nat :=
  if k.count = 0 then 0
  else if i = 0 then k.least
  else if i = 55 then k.greatest
  else max (bucketOf k.buckets (max 1 (ceilDiv (pointQ i * k.count) 65536))) k.least

def pairWords : List Nat → List W64
  | a :: b :: t => BitVec.ofNat 64 (a + b * 2 ^ 32) :: pairWords t
  | _ => []

/-- The publication of a result (R440). -/
def State.publication (s : State) (i : RItem) (replay : Bool) : List W64 :=
  let k := readSketch i.payload
  let eps := if k.count = 0 then 0 else ceilDiv ((k.buckets.map (·.2)).foldl max 0 * 65536) k.count
  [BitVec.ofNat 64 i.ft, BitVec.ofNat 64 (fld 16 0 i.rid + fld 6 16 k.level + itemFlags i replay false false false * 2 ^ 24),
   BitVec.ofNat 64 (fld 32 0 k.count + fld 32 32 eps), BitVec.ofNat 64 (s.unit 0).toNat] ++ pairWords ((List.range 56).map (pointKey k))

/-- Send a publication downward (R441). -/
def State.sendPublication (s : State) (tc : Nat) (ws : List W64) : State :=
  (s.broadcast 0x12 tc s.ownDepth (truncPlace s.ownDepth s.self) ws).bump Reg.TWS_PUBSTAT_SENT

/-- The on-time result of a published sketch (R439, R442, R443). -/
def State.publish (s : State) (i : RItem) (tc : Nat) (replay : Bool) : State :=
  let s := { s with tws := { s.tws with sinks := s.tws.sinks.map fun (x : Sink) => if x.rid = i.rid then { x with tc := tc } else x } }
  match s.tws.sinks.find? (·.rid == i.rid) with
  | some k =>
    if i.op = 5 ∧ k.publish then
      let s1 := s.fnSwitch 2
      if s1.assisted 2 then s1 else s1.sendPublication tc (s1.publication i replay)
    else s
  | none => s

/-! ### Taking an input (R405 to R419) -/

/-- The input disagrees with what the merge's first input fixed. -/
def disagrees (a b : RItem) : Bool := a.op != b.op || a.n != b.n || a.final != b.final || (a.op == 4 && a.payload.length != b.payload.length)

def ridInfo (rid : Nat) : Nat := rid

/-- The group under which a merge keeps an input's cover: a Leaf's is the group it folds into. -/
def RItem.inGroup (i : RItem) : Hank := if i.depth = 6 then i.parent else i.group

/-- Add to what a merge keeps of an input group: its COVER, and the MISSING of on-time inputs. -/
def InGroup.add (ins : List InGroup) (g : Hank) (cover : W64) (missing : Nat) : List InGroup :=
  if ins.any (·.group == g) then
    ins.map fun x => if x.group = g then { x with cover := x.cover ||| cover, missing := x.missing + missing } else x
  else ins ++ [{ group := g, cover, missing }]

/-- The part of MISSING that an amending input takes back: its CONTRIB, but no more than its group has left (R416). -/
def InGroup.back (ins : List InGroup) (g : Hank) (n : Nat) : Nat :=
  match ins.find? (·.group == g) with | some e => min n e.missing | none => 0
def InGroup.takeBack (ins : List InGroup) (g : Hank) (n : Nat) : List InGroup :=
  ins.map fun x => if x.group = g then { x with missing := x.missing - min n x.missing } else x

/-- A merge with nothing in it. -/
def newMerge (i : RItem) (tc : Nat) (queue : Option Nat) (raw closed : Bool) : Merge :=
  { rid := i.rid, ft := i.ft, group := i.parent, depth := i.depth - 1, tc, reserved := decide (tc ≥ 4), queue, raw, item := none,
    replayed := false, inputs := 0, covers := [], ins := [], ports := [], held := [], closed, amend := none }

/-- The input as it stands within the merge's group. -/
def Merge.inside (m : Merge) (i : RItem) : RItem := { i with group := m.group, depth := m.depth, cover := i.coverBit }

/-- Fold an input into a merge: on time, or into its amendment (R407, R416). -/
def State.foldInto (s : State) (m : Merge) (r : RInput) (onTime : Bool) : State :=
  let i := m.inside r.item
  let free := Config.freeWord s.fresh
  let s := { s with fresh := s.fresh + 1 }
  let m1 := { m with tc := max m.tc r.tc, inputs := m.inputs + 1, covers := m.covers ++ r.covers,
                     ports := if m.ports.contains r.port then m.ports else m.ports ++ [r.port] }
  let g := r.item.inGroup
  if onTime then s.putMerge { m1 with item := some (foldOpt free m.item i), ins := InGroup.add m.ins g r.item.cover r.item.missing }
  else
    let k := InGroup.back m.ins g r.item.contrib
    s.putMerge { m1 with amend := some (foldOpt free m.amend i), ins := InGroup.add (InGroup.takeBack m.ins g r.item.contrib) g r.item.cover 0,
                         item := m.item.map fun x => { x with missing := x.missing - k } }

/-- Drop an input at the merge input point; its custody ends. -/
def State.dropInput (s : State) (r : RInput) (reason : Nat) : State := (r.covers.foldl State.custodyDone s).ledDrop 0x0A 0 reason 1
def State.dupInput (s : State) (r : RInput) : State := (r.covers.foldl State.custodyDone s).led 0x0A 0 .dup 1

/-- Fold an input that has a merge, when it agrees with it (R406). -/
def State.foldChecked (s : State) (m : Merge) (r : RInput) (onTime : Bool) : State :=
  match (match m.item with | some a => some a | none => m.amend) with
  | some a =>
    if disagrees a r.item then (s.dropInput r rsnPOISON).raise fCONFIG 0 (s.unit 0xB) (ridInfo r.item.rid) else s.foldInto m r onTime
  | none => s.foldInto m r onTime

/-- Members of the input that were folded here before. -/
def State.overlaps (s : State) (i : RItem) : Bool :=
  if i.depth = 6 then (s.coverUnion i.rid i.ft i.parent &&& i.coverBit) != 0#64
  else (s.coverUnion i.rid i.ft i.group &&& i.cover) != 0#64

/-- A resolver's answer for a replayed copy, at the later of its arrival and close(k) (R419); a copy of an amendment goes into the amendment; the final point below the resolver folds it too, and its result carries REPLAY (R420). -/
def State.resolveCopy (s : State) (m : Merge) (r : RInput) (onTime : Bool) : State :=
  if (s.coverUnion r.item.rid r.item.ft r.item.parent &&& r.item.coverBit) ≠ 0#64 then (s.dupInput r).bump Reg.TWS_REPLAY_DUP
  else
    let m1 := if s.isFinal r.item.final && !s.isResolver r.item then { m with replayed := true } else m
    (s.bump Reg.TWS_REPLAY_FOLDED).foldChecked m1 r (onTime && !r.amend)

/-- What the participant table remembers of an input (R412): the entry of its RID and port, or UNKNOWN when the table is full. -/
def State.noteParticipant (s : State) (r : RInput) : State × Bool :=
  if r.replay || r.amend || isUp r.port then (s, false)
  else
    let put := fun (l : List Particip) => { s with tws := { s.tws with parts := l } }
    let is := fun (e : Particip) => e.rid == r.item.rid && e.port == r.port
    let rids := (s.tws.parts.map (·.rid)).eraseDups
    if s.tws.parts.any is then (put (s.tws.parts.map fun e => if is e then { e with contrib := r.item.contrib } else e), false)
    else if rids.contains r.item.rid || decide (rids.length < 1024) then
      (put (s.tws.parts ++ [{ rid := r.item.rid, port := r.port, contrib := r.item.contrib, idle := 0 }]), false)
    else (s, true)

/-- An input with a merge that stands open for it. -/
def State.inputTo (s : State) (m : Merge) (r : RInput) (onTime : Bool) : State :=
  if m.raw then s.passInput r true
  else if r.replay then
    (if onTime then s.putMerge { m with held := m.held ++ [r] } else s.resolveCopy m r false)
  else if !r.amend && s.overlaps r.item then
    (if onTime then (s.dupInput r).raise fLEDGER 0 (s.unit 0xB) (s.pointIndex (ledKey 0x0A 0) + 65536 * 0x0A + r.item.rid * 2 ^ 32) else s.dropInput r 0xA)
  else s.foldChecked m r (onTime && !r.amend)

/-- Twister takes an input on a Hub (R407 to R419). -/
def State.takeInput (s : State) (r : RInput) : State :=
  let i := r.item
  let onTime := decide (s.ft ≤ s.closeAt i.ft)
  let s := s.led 0x0A 0 .inn 1
  if r.replay && !s.isResolver i && !s.isFinal i.final then s.passInput r false
  else if s.ft > s.closeAt i.ft ∧ s.ft > s.amendAt i.ft then s.dropInput r 0xA
  else
    let p := s.noteParticipant r
    let r := { r with item := { i with unknown := i.unknown || p.2 } }
    let s := p.1
    match s.findMerge i.rid i.ft i.parent with
    | some m => s.inputTo m r (onTime && !m.closed)
    | none =>
      if !s.flag Reg.TWS_CTRL_EN then s.passInput r true
      else if r.tc < 4 && s.assisted 1 then
        (if s.mergeRoom 0 then s.putMerge (newMerge i r.tc none true (!onTime)) else s).passInput r true
      else if r.tc < 4 && !s.mergeRoom i.cells then s.dynFail.passInput r true
      else s.inputTo (newMerge i r.tc s.freeQueue false (!onTime)) r onTime

/-! ### Close and amendment (R410 to R412, R416) -/

/-- Copies that a merge held until its close. -/
def State.closeHeld (s : State) (m : Merge) : State :=
  m.held.foldl (fun s r =>
    match s.findMerge m.rid m.ft m.group with
    | some x => s.resolveCopy x r true
    | none => s) (s.putMerge { m with held := [] })

/-- CONTRIB remembered of the children that sent nothing to any merge of the window (R412): the group of its merge, its own input group, and the count. -/
def State.missingOf (s : State) (rid : Nat) (sent : List Nat) : List (Hank × Hank × Nat) :=
  (s.tws.parts.filter fun e => e.rid == rid && !sent.contains e.port && s.routeActive e.port).map fun e =>
    let d := s.fget (Reg.STR_ROUTE_DEPTH.at e.port)
    let h : Hank := BitVec.ofNat 48 (s.fget (Reg.STR_ROUTE_PREFIX.at e.port) * 2 ^ 14)
    (truncPlace (d - 1) h, truncPlace (if d = 6 then 5 else d) h, e.contrib)

/-- Count the windows of a reduction in which a child was silent; the 16th clears its entry (R412). -/
def State.ageParticipants (s : State) (rid : Nat) (sent : List Nat) : State :=
  let l := s.tws.parts.map fun e =>
    if e.rid = rid then (if sent.contains e.port then { e with idle := 0 } else { e with idle := e.idle + 1 }) else e
  { s with tws := { s.tws with parts := l.filter fun e => decide (e.idle < 16) } }

/-- The result of the final point: all groups in one (R402, R411). -/
def State.resultOf (s : State) (l : List RItem) : Option RItem :=
  match l with
  | [] => none
  | a :: t =>
    let i := t.foldl (fun x y => x.fold (Config.freeWord s.fresh) y) a
    some { i with group := truncPlace s.ownDepth s.self, depth := s.ownDepth, cover := 0 }

/-- The merge that takes the MISSING of a child's group, or the first of the reduction. -/
def mergeFor (ms : List Merge) (g : Hank) : Option Hank :=
  match ms.find? (·.group == g) with
  | some m => some m.group
  | none => ms.head?.map (·.group)

/-- One reduction's merges of a window close: MISSING is added, and each group's summary goes up, or one result to the sink (R410 to R412). -/
def State.closeRid (s : State) (rid ft : Nat) : State :=
  let ours := fun (s : State) => s.tws.merges.filter fun m => m.rid == rid && m.ft == ft && !m.closed && !m.raw
  let s1 := (ours s).foldl State.closeHeld s
  let live := (ours s1).filter fun m => m.item.isSome
  let sent := live.flatMap (·.ports)
  let s2 := (s1.missingOf rid sent).foldl (fun s e =>
    match mergeFor live e.1 with
    | some g =>
      (match s.findMerge rid ft g with
      | some m => (match m.item with
        | some i => s.putMerge { m with item := some { i with missing := min (i.missing + e.2.2) (2 ^ 32 - 1) },
                                        ins := InGroup.add m.ins e.2.1 0 e.2.2 }
        | none => s)
      | none => s)
    | none => s) s1
  let s3 := if live.isEmpty then s2 else s2.ageParticipants rid sent
  let live3 := (ours s3).filter fun m => m.item.isSome
  let final := (live3.head?.bind (·.item)).elim false fun i => s3.isFinal i.final
  if final then
    let n := sumN (live3.map (·.inputs))
    let rep := live3.any (·.replayed)
    let tc := (live3.map (·.tc)).foldl max 0
    let s4 := live3.foldl (fun s m => s.putMerge { m with inputs := 0, covers := [], ports := [] }) s3
    match s4.resultOf (live3.filterMap (·.item)) with
    | some i => (((s4.toSink rid (summaryWords i rep false false)).deliverInputs n (live3.flatMap (·.covers))).publish i tc rep)
    | none => s4
  else
    live3.foldl (fun s m =>
      match m.item with
      | some i => (s.putMerge { m with inputs := 0, covers := [], ports := [] }).sendUpN 0x11 m.tc 0 false (summaryWords i false false false) m.covers m.inputs
      | none => s) s3

/-- A window closes at this Hub (R410). -/
def State.mergeClose (s : State) (ft : Nat) : State :=
  let open_ := s.tws.merges.filter fun m => m.ft == ft && !m.closed
  if !s.build.isHub || open_.isEmpty || decide (s.ft < s.closeAt ft) || s.isFenced 0xB || s.stopped then s
  else
    let s1 := s.fnSwitch 1
    let s2 := ((open_.map (·.rid)).eraseDups).foldl (fun s rid => s.closeRid rid ft) s1
    s2.setMerges (s2.tws.merges.map fun m => if m.ft = ft then { m with closed := true } else m)

/-- Keep a merge's header for the cut that waits for it (R423). -/
def State.cutMerge (s : State) (m : Merge) (hdr : Option RItem) : State :=
  match s.tws.cut, hdr with
  | some c, some i => if m.ft ≤ c.cutFt then { s with tws := { s.tws with cut := some { c with merges := c.merges ++ [{ i with payload := [] }] } } } else s
  | _, _ => s

/-- The amendment interval of a window ends: each group that holds an amendment emits it, or the final point delivers the result again; the merges end (R416). -/
def State.amendEnd (s : State) (ft : Nat) : State :=
  let ms := s.tws.merges.filter fun m => m.ft == ft
  if !s.build.isHub || ms.isEmpty || (ms.any fun m => !m.closed) || decide (s.ft < s.amendAt ft) || s.isFenced 0xB || s.stopped then s
  else
    let rids := (ms.map (·.rid)).eraseDups
    let s1 := rids.foldl (fun s rid =>
      let g := ms.filter fun m => m.rid == rid && m.amend.isSome
      match g.head?.bind (·.amend) with
      | none => s
      | some a =>
        if s.isFinal a.final then
          let all := ms.filter fun m => m.rid == rid && !m.raw
          let items := all.filterMap fun m => match m.amend with | some x => some (foldOpt (Config.freeWord s.fresh) m.item x) | none => m.item
          (match s.resultOf items with
          | some i => ((s.toSink rid (summaryWords i (all.any (·.replayed)) true false)).deliverInputs (sumN (g.map (·.inputs)))
              (g.flatMap (·.covers))).bump Reg.TWS_PASS_AMENDS
          | none => s)
        else g.foldl (fun s m => match m.amend with
          | some i => (s.sendUpN 0x11 m.tc 0 false (summaryWords i false true false) m.covers m.inputs).bump Reg.TWS_PASS_AMENDS
          | none => s) s) s
    ms.foldl (fun s m => (s.cutMerge m (match m.amend with | some i => some i | none => m.item)).dropMerge m) s1

/-- A block reset, or a unit reset of Twister, drops every input of every open merge under RESET and acknowledges each (R421). -/
def State.resetMerges (s : State) : State :=
  let n := sumN (s.tws.merges.map fun m => m.inputs + m.held.length)
  let cs := s.tws.merges.flatMap fun m => m.covers ++ m.held.flatMap (·.covers)
  let s1 := s.tws.merges.foldl State.dropMerge s
  if n = 0 then s1 else (cs.foldl State.custodyDone s1).ledDrop 0x0A 0 rsnRESET n

end Sys2Proof.Machine
end

