-- ==== Sys2Proof/Machine/Rank.lean ====
section
/-! DEFINITION. Rank rules and drift detectors (R444 to R460), the publication as a Leaf takes it, the cohort rule of a tray Hub, and the end of a score stage. -/

namespace Sys2Proof.Machine

/-! ### Entries (R444, R445) -/

def nRules (b : Build) : Nat := if b.isHub then 64 else 16
def State.rank (s : State) (k : Nat) : RankRule := Tab.getD s.tws.ranks k {}
def State.setRank (s : State) (k : Nat) (x : RankRule) : State := { s with tws := { s.tws with ranks := Tab.set s.tws.ranks k x } }
def State.rankOn (s : State) (k : Nat) : Bool := s.flag (Reg.TWS_RKCTRL_EN.at k)
def State.rankCohort (s : State) (k : Nat) : Bool := s.flag (Reg.TWS_RKCTRL_KIND.at k)
def State.rankLow (s : State) (k : Nat) : Bool := s.flag (Reg.TWS_RKCTRL_DIR.at k)
def State.rankSess (s : State) (k : Nat) : Nat := s.fget (Reg.TWS_RKSRC_SESSION.at k)
def State.rankGap (s : State) (k : Nat) : Int := max 1 (s.fget (Reg.TWS_RKGAP_GAP.at k))
def State.rankQ (s : State) (k : Nat) : Nat := min 65536 (s.fget (Reg.TWS_RKQ_STRAG_Q.at k))

/-- The enabled entry of a kind that names a session. -/
def State.rankOf (s : State) (n : Nat) (cohort : Bool) : Option Nat :=
  (List.range (nRules s.build)).find? fun k => s.rankOn k && s.rankCohort k == cohort && s.rankSess k == n

/-- An entry's EN clears and its state is dropped (R445). -/
def State.rankOff (s : State) (k : Nat) : State :=
  (s.fset (Reg.TWS_RKCTRL_EN.at k) 0).setRank k {}

/-- The session closes, or its reduction is unbound or replaced. -/
def State.dropRanks (s : State) (n : Nat) : State :=
  (List.range (nRules s.build)).foldl (fun s k => if s.rankOn k && s.rankSess k == n then s.rankOff k else s) s

/-- The conditions under which an entry is enabled, with its register word as written. -/
def State.rankAllowed (s : State) (k : Nat) (w : W32) : Bool :=
  let n := s.rankSess k
  let cohort := bit w 1
  let other := (List.range (nRules s.build)).any fun j => j != k && s.rankOn j && s.rankSess j == n
  cohort == s.build.isHub && !other
    && (!bit w 4 || decide (s.fget (Reg.TWS_DROWN_FAST.at k) < s.fget (Reg.TWS_DROWN_SLOW.at k)))
    && (match s.sess n with
      | none => false
      | some x =>
        if cohort then x.isChild
        else !x.isChild && (match Tab.get s.tws.sources n with
          | some b => b.rid == s.fget (Reg.TWS_RKSRC_RID.at k) && b.op == 5 && b.publish
          | none => false))

/-- A write of `TWS_RKCTRL` (R445). -/
def State.writeRank (s : State) (a : Acc) (v : W32) : State :=
  let k := s.selGet a.port Reg.TWS_RKSEL_RULE
  if k ≥ nRules s.build then s
  else
    let key := (Reg.TWS_RKCTRL_EN.at k).addr
    let w := s.mwWrite key 0x1F a v
    let err := s.regGet key &&& 0x20#32
    if s.rankOn k && bit w 0 then s
    else if !bit w 0 then ((if s.rankOn k then s.rankOff k else s).regSet key ((w &&& 0x1E#32) ||| err))
    else if s.rankAllowed k w then (s.setRank k {}).regSet key (w &&& 0x1F#32)
    else s.regSet key ((w &&& 0x1E#32) ||| 0x20#32)

/-- TWS_RKCTRL_EN (R445). -/
def execTwsRkctrlEn (a : Acc) (v : W32) (s : State) : Host.Outcome State Fault Refusal :=
  act s (s.regAccess (.twsRkctrlEn a v) a 0xB fun s => s.writeRank a v)

/-! ### Records (R458, R459) -/

/-- A STRAGGLER (2) or DRIFT (3) record of a SITE entry. -/
def State.rankRecord (s : State) (n ft kind : Nat) (score : Int) (locked clear low own : Bool) (aux : Nat) : Rec :=
  slubRec ft (s.unit 0) n kind (clamp32 score) (b2 locked 3 + b2 clear 6 + b2 low 11 + b2 own 12) 0 (s.unit 0) aux

def State.commitRank (s : State) (n : Nat) (kind : Nat) (r : Rec) : State :=
  match s.sess n with
  | some x => s.commitVerdict n x.slice x.verdictClass kind r
  | none => s

/-! ### The own baseline (R455) -/

/-- `own_update`: the state after a key, and the record due: d and whether it clears. -/
def ownUpdate (x : RankRule) (a b dk : Nat) (key : Nat) : RankRule × Option (Int × Bool) :=
  let k : Int := (key : Int) * 65536
  let y : RankRule := if x.w = 0 then { x with ef := k, es := k } else
    { x with ef := x.ef + (k - x.ef) / (2 ^ a : Nat), es := x.es + (k - x.es) / (2 ^ b : Nat) }
  let y := { y with w := min (y.w + 1) (2 ^ 32 - 1) }
  let d := (y.ef - y.es) / 65536
  if y.w ≥ 2 ^ b ∧ !y.own ∧ d.natAbs ≥ dk then ({ y with own := true }, some (d, false))
  else if y.own ∧ d.natAbs < dk / 2 then ({ y with own := false }, some (d, true))
  else (y, none)

/-- A key of a session's contribution, as its SITE entry takes it when the contribution is built: the own baseline first, then the key held for the publication (R446, R455). -/
def State.rankKey (s : State) (n ft : Nat) (key : Option Key) (locked : Bool) : State :=
  match s.rankOf n false with
  | none => s
  | some k =>
    let x := s.rank k
    let own := match key with
      | some q => if s.flag (Reg.TWS_RKCTRL_OWN_EN.at k) then
          ownUpdate x (s.fget (Reg.TWS_DROWN_FAST.at k)) (s.fget (Reg.TWS_DROWN_SLOW.at k)) (max 1 (s.fget (Reg.TWS_DRDK_DK.at k))) q.toNat
          else (x, none)
      | none => (x, none)
    let full := decide (own.1.held.length ≥ 4)
    let held := (if full then own.1.held.drop 1 else own.1.held) ++ [(ft, key, locked)]
    let s1 := s.setRank k { own.1 with held }
    let s2 := if full then s1.bump (Reg.TWS_RKSTAT_EXPIRED.at k) else s1
    match own.2 with
    | some (d, clear) => s2.commitRank n 3 (s.rankRecord n ft 3 d locked clear (decide (d < 0)) true 0)
    | none => s2

/-! ### The site rank (R447 to R452, R456) -/

/-- KEY_i of a publication. -/
def pubKey (ws : List W64) (i : Nat) : Nat :=
  let w := ws.getD (4 + i / 2) 0
  if i % 2 = 0 then bits w 31 0 else bits w 63 32

/-- Rank from above and from below (R447). -/
def rankHigh (ws : List W64) (k : Nat) : Nat :=
  (List.range 56).foldl (fun f i => if pubKey ws i ≤ k then pointQ i else f) 0
def rankLowF (ws : List W64) (k : Nat) : Nat :=
  match (List.range 56).find? fun j => decide (pubKey ws j ≥ k) with | some j => pointQ j | none => 65536

/-- The test of R449: rank fractions and the distance above the median. -/
def stragTest (low : Bool) (q : Nat) (gap : Int) (f fl : Nat) (above : Int) : Bool :=
  if low then decide (fl + q ≤ 65536) && decide (-above ≥ gap) else decide (f ≥ q) && decide (above ≥ gap)

/-- One side of the population CUSUM (R456): the sum, the state, and the record due. -/
def popSide (sum : Nat) (on : Bool) (step : Int) (h : Nat) : Nat × Bool × Option Bool :=
  let v := (clampI 0 (2 ^ 31 - 1) ((sum : Int) + step)).toNat
  if !on ∧ v ≥ h then (v, true, some false)
  else if on ∧ v = 0 then (v, false, some true)
  else (v, on, none)

/-- A rank result of one entry for a publication that matches its held key. -/
def State.rankResult (s : State) (k : Nat) (ws : List W64) (h : Nat × Option Key × Bool) : State :=
  let n := s.rankSess k
  let x := s.rank k
  let low := s.rankLow k
  let count := bits (ws.getD 2 0) 31 0
  let x1 := { x with held := x.held.filter fun e => e.1 != h.1 }
  let regs := fun (s : State) (f : Nat) (none_ : Bool) =>
    (((s.fset (Reg.TWS_RKLAST_F.at k) f).fset (Reg.TWS_RKLAST_NONE.at k) (b2n none_)).fset (Reg.TWS_RKFT_FT.at k) h.1).bump (Reg.TWS_RKRES_RESULTS.at k)
  match h.2.1 with
  | none => regs (s.setRank k x1) 0 true
  | some key =>
    if count = 0 then regs (s.setRank k x1) 0 true
    else
      let f := rankHigh ws key.toNat
      let fl := rankLowF ws key.toNat
      let s1 := regs (s.setRank k x1) (if low then fl else f) false
      if s.assisted 2 then s1
      else
        let above : Int := (key.toNat : Int) - pubKey ws 24
        let hit := stragTest low (s.rankQ k) (s.rankGap k) f fl above
        let hi := popSide x1.shi x1.hi ((f : Int) - 32768 - s.fget (Reg.TWS_DRK_K.at k)) (max 1 (s.fget (Reg.TWS_DRH_H.at k)))
        let lo := popSide x1.slo x1.lo (32768 - (f : Int) - s.fget (Reg.TWS_DRK_K.at k)) (max 1 (s.fget (Reg.TWS_DRH_H.at k)))
        let pop := s.flag (Reg.TWS_RKCTRL_POP_EN.at k)
        let x2 : RankRule := { x1 with strag := hit }
        let x3 : RankRule := if pop then { x2 with shi := hi.1, hi := hi.2.1, slo := lo.1, lo := lo.2.1 } else x2
        let s2 := s1.setRank k x3
        let s3 := if hit ≠ x1.strag then
            s2.commitRank n 2 (s.rankRecord n h.1 2 (if low then -above else above) h.2.2 (!hit) low false (min (if low then fl else f) 0xFFFF)) else s2
        let drift := fun (s : State) (r : Option Bool) (v : Nat) (isLow : Bool) =>
          match r with
          | some clear => if pop then s.commitRank n 3 (s.rankRecord n h.1 3 v h.2.2 clear isLow false (min f 0xFFFF)) else s
          | none => s
        drift (drift s3 hi.2.2 hi.1 false) lo.2.2 lo.1 true

/-- A publication reaches a Leaf (R446). -/
def State.takePublication (s : State) (ws : List W64) : State :=
  let rid := bits (ws.getD 1 0) 15 0
  let ft := (ws.getD 0 0).toNat
  let s := s.fnSwitch 2
  let rules := (List.range (nRules s.build)).filter fun k => s.rankOn k && !s.rankCohort k && s.fget (Reg.TWS_RKSRC_RID.at k) == rid
  rules.foldl (fun s k =>
    match (s.rank k).held.find? (·.1 == ft) with
    | some h =>
      let s1 := s.rankResult k ws h
      (match s.sess (s.rankSess k) with
      | some x => if x.admitted then s1.boundCheck 2 ft 0 (s.unit 0xB) else s1
      | none => s1)
    | none => s.bump Reg.TWS_PUBSTAT_NOMATCH) s

/-- PUBLISH (R447): relayed, and on a Leaf ranked. -/
def execPublish (p : Nat) (f : Frame) (s : State) : Host.Outcome State Fault Refusal :=
  act s (match s.rx p 0x12 f with
  | (s1, some m) =>
    match s1.takeBcast m with
    | (s2, some (_, ws)) => if s2.build.isHub || s2.isFenced 0xB || s2.stopped then s2 else s2.takePublication ws
    | (s2, none) => s2
  | (s1, none) => s1)

/-! ### The driver's publication (R443) -/

/-- The item in `TWS_PUBW0` to `TWS_PUBW63`. -/
def State.pubWords (s : State) : List W64 :=
  (List.range 32).map fun i => BitVec.ofNat 64 (s.fget (Reg.TWS_PUBW_WORD.at (2 * i)) + s.fget (Reg.TWS_PUBW_WORD.at (2 * i + 1)) * 2 ^ 32)

def State.pubSend (s : State) : State :=
  if !s.build.isHub then s
  else
    let ws := s.pubWords
    let w := fun i => ws.getD i 0
    let rising := (List.range 55).all fun i => decide (pubKey ws i ≤ pubKey ws (i + 1))
    let ok := bits (w 1) 23 22 == 0 && bits (w 1) 63 40 == 0 && bits (w 3) 63 48 == 0 && (bits (w 2) 31 0 == 0 || rising)
    match s.tws.sinks.find? fun k => k.rid == bits (w 1) 15 0 with
    | some k =>
      if ok then (s.sendPublication k.tc (ws.set 3 (BitVec.ofNat 64 (s.unit 0).toNat))).fset Reg.TWS_PUBCTRL_ERR 0
      else s.fset Reg.TWS_PUBCTRL_ERR 1
    | none => s.fset Reg.TWS_PUBCTRL_ERR 1

/-- TWS_PUBCTRL_SEND (R443). -/
def execTwsPubctrlSend (a : Acc) (s : State) : Host.Outcome State Fault Refusal :=
  act s (s.regAccess (.twsPubctrlSend a) a 0xB State.pubSend)

/-! ### Cohorts (R453, R454) -/

/-- The rank of one member among the scores of its cohort, and its record when its state changes. -/
def State.cohortMember (s : State) (n k : Nat) (all : List Int) (median : Int) (v : Scored) : State :=
  match s.sess n with
  | none => s
  | some x =>
    let m := Tab.getD x.members v.vec.member {}
    let d := all.length - 1
    let f := (all.filter (· < v.score)).length * 65536 / d
    let fl := 65536 - (all.filter (· > v.score)).length * 65536 / d
    let low := s.rankLow k
    let hit := stragTest low (s.rankQ k) (s.rankGap k) f fl (v.score - median)
    if hit = m.cohortIn then s
    else
      let s1 := s.setSess n { x with members := Tab.set x.members v.vec.member { m with cohortIn := hit } }
      let score := if low then median - v.score else v.score - median
      let r := slubRec v.vec.ft v.vec.origin n 2 (clamp32 score) (v.flags + b2 (!hit) 6 + b2 low 11) v.gen (s.unit 0)
        (min (if low then fl else f) 0xFFFF)
      let s2 := s1.commitVerdict n x.slice x.verdictClass 2 r
      if x.admitted then s2.boundCheck 1 v.vec.ft 0 (s.unit 0xB) else s2

/-- Rank every cohort of a batch: the members of one tray (R48, R453). -/
def State.rankCohorts (s : State) (n : Nat) (l : List Scored) : State :=
  match s.rankOf n true with
  | none => s
  | some k =>
    let tray := fun (v : Scored) => truncPlace 5 v.vec.origin
    ((l.map tray).eraseDups).foldl (fun s t =>
      let c := l.filter fun v => tray v == t
      if c.length < max 2 (s.fget (Reg.TWS_RKMIN_MIN_N.at k)) then s
      else
        let scores := (c.map (·.score)).mergeSort (fun a b => decide (a ≤ b))
        c.foldl (fun s v => s.cohortMember n k scores (scores.getD ((c.length - 1) / 2) 0) v) s) s

/-- An item of a session has been scored: once its whole batch is, cohorts are ranked; the session may stop (R297, R453). -/
def State.itemScored (s : State) (n : Nat) : State :=
  match s.sess n with
  | none => s
  | some x =>
    let more := match x.pend, x.scored with
      | b :: _, v :: _ => b.ft == v.vec.ft
      | _, _ => false
    if more then s
    else
      let s1 := s.setSess n { x with scored := [] }
      (if x.isChild then s1.rankCohorts n x.scored else s1).stopCheck n

def State.scoreStage (s : State) (k : Nat) : State :=
  if s.stopped then s else match s.scoreEnd k with
  | (s1, some n) => s1.itemScored n
  | (s1, none) => s1

/-- SCORE_STAGE_DONE (R339). -/
def execScoreStageDone (spindle : Nat) (s : State) : Host.Outcome State Fault Refusal := act s (s.scoreStage spindle)

end Sys2Proof.Machine
end

