-- ==== Sys2Proof/Machine/Reel.lean ====
section
/-! DEFINITION. The Reel (R219 to R259): selectors and sets, strobes and samples, instruction tags, dumps and their schedules, and the meter of the Leaf's initiator port. -/

namespace Sys2Proof.Machine

def State.rset (s : State) (n : Nat) : RSet := Tab.getD s.reel.sets n {}
def State.setRset (s : State) (n : Nat) (x : RSet) : State := { s with reel := { s.reel with sets := Tab.set s.reel.sets n x } }
def State.setReads (s : State) (l : List Readout) : State := { s with reel := { s.reel with reads := l } }

/-- The Reel takes no strobe: on a Hub, fenced, or stopped (R219, R511, R515). -/
def State.reelOff (s : State) : Bool := s.build.isHub || s.isFenced 6 || s.stopped

/-! ### Selectors (R225, R236, R237, R240, R247) -/

def selSpace (sel : Nat) : Nat := sel / 8192 % 4
def selIndex (sel : Nat) : Nat := sel % 8192

/-- A selector names a value present in this die. -/
def State.selPresent (s : State) (sel : Nat) : Bool :=
  let i := selIndex sel
  decide (sel < 32768) &&
    (match selSpace sel with
    | 0 => decide (i < s.fget Reg.REEL_SIZES_COUNTERS)
    | 1 => decide (i / 16 % 4 = 0) && decide (i % 16 ≤ 8) && decide (i / 64 % 64 < s.fget Reg.REEL_SIZES_SLOTSRC)
    | 2 => decide (i / 512 = 0) && decide (i / 16 % 32 < s.fget Reg.REEL_SIZES_PORTS)
    | _ => decide (i ≤ 7))

/-- The ring counters that a selector needs, each named by its raw selector (R230, R237, R240). -/
def rawOf (sel : Nat) : List Nat :=
  let i := selIndex sel
  match selSpace sel with
  | 0 => [sel]
  | 1 => if i / 4096 = 0 then [sel] else [sel - 4096, sel - 4096 - i % 16]
  | 2 =>
    (match i % 4 with
    | 0 => [sel]
    | 1 => [sel]
    | 2 => [sel - 2]
    | _ => (List.range 4).map fun st => sel - i % 16 + 4 * st + 1)
  | _ => []

/-- INFO of a failed read (R234): kind of bank, bank, position. -/
def rawInfo (id : Nat) : Nat :=
  let i := selIndex id
  match selSpace id with
  | 0 => i
  | 1 => 8192 + i / 64 % 64 * 64 + i % 16
  | _ => 16384 + i / 16 % 32 * 64 + 2 * (i / 4 % 4) + i % 4 % 2

/-! ### Strobes (R222 to R224, R229) -/

/-- The distinct ring counters that sets need, in set order and then in list order. -/
def ringReads (sets : List RdSet) : List Nat := ((sets.flatMap (·.sels)).flatMap rawOf).eraseDups

/-- Sets take GAP in their next sample. -/
def State.gapNext (s : State) (sets : List Nat) : State :=
  sets.foldl (fun s n => s.setRset n { s.rset n with gapDue := true }) s

/-- Strobe the sets given, as sample triggers, window openings or the extra strobe of a cut; a trigger that falls in the island cycle of the newest strobe shares it. -/
def State.strobe (s : State) (sets : List Nat) (opening : Bool) (cut : Option Nat) : State :=
  if s.reelOff || sets.isEmpty then s
  else
    let rd := sets.map fun n => ({ set_ := n, sels := (s.rset n).sels, gap := (s.rset n).gapDue && !opening, stale := false, opening } : RdSet)
    let count := fun (s : State) => if opening then s else s.led 1 0 .inn sets.length
    let clear := fun (s : State) => if opening || cut.isSome then s else sets.foldl (fun s n => s.setRset n { s.rset n with gapDue := false }) s
    let shares := match s.reel.reads.getLast? with | some r => r.ft == s.ft && r.cut == cut | none => false
    if shares then
      let l := s.reel.reads
      clear (count ((s.setReads ((l.dropLast) ++ (l.getLast?.toList.map fun r => { r with sets := r.sets ++ rd }))).emit (.strobe (ringReads rd))))
    else if s.reel.reads.length ≥ 2 then
      let s1 := if s.reel.refusedFt = some s.ft then s else
        { s.bump Reg.REEL_STATUS_OVERRUNS with reel := { (s.bump Reg.REEL_STATUS_OVERRUNS).reel with refusedFt := some s.ft } }
      s1.gapNext sets
    else
      let r : Readout := { ft := s.ft, locked := s.locked, shadow := s.reel.shadow, cut, sets := rd, stats := s.reel.stats }
      clear (count ({ s with reel := { s.reel with reads := s.reel.reads ++ [r], shadow := 1 - s.reel.shadow } }.emit (.strobe (ringReads rd))))

/-- The sets that latch on a generator. -/
def State.setsOf (s : State) (g : Nat) (opening : Bool) : List Nat :=
  if !s.flag Reg.REEL_CTRL_EN then []
  else (List.range 16).filter fun n => s.flag (Reg.REEL_SET_EN.at n) && s.fget (Reg.REEL_SET_GEN.at n) == g
    && (!opening || s.flag (Reg.REEL_SET_OPEN_LATCH.at n))

/-! ### Samples (R231 to R234, R237 to R241) -/

def two48 : Nat := 2 ^ 48

/-- What the ring answered for a counter; one that the answer leaves out was off. -/
def ringGet (vals : List (Nat × Nat × W64)) (id : Nat) : Option Nat :=
  match vals.find? fun e => e.1 == id with
  | some (_, 1, _) => none
  | some (_, _, v) => some (v.toNat % two48)
  | none => none

/-- Increase of a raw counter since the set's previous values; 0 with no previous value. -/
def RSet.rawDelta (x : RSet) (vals : List (Nat × Nat × W64)) (id : Nat) : Nat :=
  match Tab.get x.raw id, ringGet vals id with
  | some p, some v => (v + two48 - p) % two48
  | _, _ => 0

/-- The value that a selector delivers when its banks are on; `first` says that the entry has no previous value. -/
def RSet.selValue (x : RSet) (r : Readout) (vals : List (Nat × Nat × W64)) (sel : Nat) (first : Bool) : Nat :=
  let i := selIndex sel
  let share := fun (n d : Nat) => if d = 0 then 0 else n * 65536 / d
  match selSpace sel, rawOf sel with
  | 1, [c, t] => if first then 0 else share (x.rawDelta vals c) (x.rawDelta vals t)
  | 2, [b] =>
    if i % 4 = 2 then
      let dt := r.ft - x.prevFt.getD r.ft
      if first ∨ dt = 0 then 0 else x.rawDelta vals b * 4000 / dt
    else (ringGet vals b).getD 0
  | 2, [a, b, c, d] =>
    if first then 0
    else share (x.rawDelta vals (sel - i % 4 + 1)) (x.rawDelta vals a + x.rawDelta vals b + x.rawDelta vals c + x.rawDelta vals d)
  | 3, _ => r.stats.getD (i % 8) 0
  | _, ids => (ids.head?.bind (ringGet vals)).getD 0

/-- One entry of a sample. `free` is the value of an entry that is off and was never read.
An entry that is off carries OFF alone of the two flags (R233, DEDUCED, assumption 50). -/
def RSet.entry (x : RSet) (r : Readout) (vals : List (Nat × Nat × W64)) (pos sel free : Nat) : SampEntry :=
  let prev := x.prev.getD pos none
  if (rawOf sel).any fun id => (ringGet vals id).isNone then
    { value := (x.last.getD pos none).getD free, delta := 0, first := false, off := true }
  else
    let v := x.selValue r vals sel prev.isNone % two48
    match prev with
    | some p => { value := v, delta := (v + two48 - p) % two48, first := false, off := false }
    | none => { value := v, delta := 0, first := true, off := false }

/-- The raw counters a set keeps for the next sample. -/
def newRaw (vals : List (Nat × Nat × W64)) (sels : List Nat) : Tab Nat :=
  ((sels.flatMap rawOf).eraseDups).foldl (fun t id => match ringGet vals id with | some v => Tab.set t id v | none => t) []

/-- The sample of a set at a strobe. -/
def State.sampleOf (s : State) (r : Readout) (q : RdSet) (vals : List (Nat × Nat × W64)) : Sample :=
  let x := if q.stale then { s.rset q.set_ with prev := [], last := [], raw := [], prevFt := none } else s.rset q.set_
  { ft := r.ft, locked := r.locked, gap := q.gap,
    entries := q.sels.zipIdx.map fun e => x.entry r vals e.2 e.1 ((Config.freeWord (s.fresh + e.2)).toNat % two48) }

/-- The set's values after a sample. -/
def RSet.after (x : RSet) (r : Readout) (sels : List Nat) (vals : List (Nat × Nat × W64)) (sm : Sample) : RSet :=
  { x with
    prev := sm.entries.map fun e => if e.off then none else some e.value
    last := sm.entries.map fun e => some e.value
    raw := newRaw vals sels
    prevFt := some r.ft
    latest := some sm }

/-- The opening of a sample window: deltas are taken from here on (R229). An entry with no previous value keeps none. -/
def RSet.opened (x : RSet) (r : Readout) (sels : List Nat) (vals : List (Nat × Nat × W64)) (sm : Sample) : RSet :=
  { x with
    prev := (sm.entries.zipIdx).map fun e => if e.1.off ∨ (x.prev.getD e.2 none).isNone then none else some e.1.value
    raw := newRaw vals sels
    prevFt := some r.ft }

/-! ### Dumps (R248 to R252) -/

/-- The bytes of a dump. -/
def State.dumpBytes (s : State) (n : Nat) (sels : List Nat) (sm : Sample) (seq skipped : Nat) : List Byte :=
  let hdr := [BitVec.ofNat 64 sm.ft,
    BitVec.ofNat 64 (fld 32 0 seq + fld 4 32 n + fld 4 36 (s.fget (Reg.REEL_SET_GEN.at n)) + fld 14 40 sm.entries.length + b2 sm.locked 54 + b2 sm.gap 55),
    BitVec.ofNat 64 (s.unit 0).toNat, BitVec.ofNat 64 (min skipped 0xFFFF)]
  let ents := (sels.zip sm.entries).map fun e => (BitVec.ofNat 64 (fld 48 0 e.2.value + fld 15 48 e.1 + b2 e.2.off 63) : W64)
  padTo 64 (wordsBytes (hdr ++ ents))

/-! ### The meter (R253 to R256) -/

def State.quiet (s : State) : Bool := !s.hif.quietOpen.isEmpty
def State.meterCap (s : State) : Nat := (if s.quiet then 64 else 256) * 800

/-- Tokens accrue up to now at the rate of the regime: B/100 bytes a tick, or B/800 (R253). -/
def State.meterRefill (s : State) : State :=
  let rate := s.fget Reg.REEL_INTRU_HOSTBW * (if s.quiet then 1 else 8)
  let m := s.meter
  { s with meter := { m with tokens := min s.meterCap (m.tokens + rate * (s.now - m.ft)), ft := s.now } }

/-- Quiet windows open and close; entry to the quiet regime cuts the tokens. -/
def State.quietSet (s : State) (l : Tab Unit) : State :=
  let s1 := s.meterRefill
  let s2 := { s1 with hif := { s1.hif with quietOpen := l } }
  { s2 with meter := { s2.meter with tokens := min s2.meterCap s2.meter.tokens } }

/-- The port can take a transfer of `n` bytes now. -/
def State.meterTakes (s : State) (n : Nat) : Bool := s.meter.busy.isNone && decide (n * 800 ≤ s.meterRefill.meter.tokens)
def State.meterSpend (s : State) (n : Nat) : State :=
  let s1 := s.meterRefill
  { s1 with meter := { s1.meter with tokens := s1.meter.tokens - n * 800 } }
/-- A Leaf's own write of `n` bytes: it issues when the meter has the tokens, else it waits and is counted (R254). -/
def State.metered (s : State) (n : Nat) (body : State → State) : State :=
  if s.build.isHub then body s
  else if s.meterTakes n then body (s.meterSpend n)
  else s.bump Reg.REEL_METER_WAITS

def State.addXfers (s : State) (l : List Xfer) : State := { s with meter := { s.meter with queue := s.meter.queue ++ l } }

/-- The pieces of bytes written circularly from a running count, each up to the end of the buffer. -/
def ringPieces (log2 : Nat) : Nat → Nat → List Byte → List (Nat × List Byte)
  | 0, _, _ => []
  | fuel + 1, count, bs =>
    if bs.isEmpty then []
    else
      let at_ := count % 2 ^ log2
      let room := 2 ^ log2 - at_
      (at_, bs.take room) :: ringPieces log2 fuel (count + room) (bs.drop room)

/-- The writes of bytes into a circular buffer at a running count, with the mirrored count after them (R251, R289). -/
def ringXfers (cls : Nat) (use_ : XferUse) (slice : Nat) (base : W64) (log2 count : Nat) (bs : List Byte) (mir : Option W64) : List Xfer :=
  let x := fun (a : W64) (d : List Byte) => ({ cls, use_, slice, addr := a, data := d, left := d.length, waited := false } : Xfer)
  ((ringPieces log2 bs.length count bs).map fun e => x (base + BitVec.ofNat 64 e.1) e.2) ++
    (match mir with | some m => [x m (toBytes 8 (count + bs.length))] | none => [])

/-- Precedence of waiting transfers: lowest class first, oldest first in a class (R254). -/
def nextXfer (l : List Xfer) : Option (Nat × Xfer) :=
  (l.zipIdx).foldl (fun (b : Option (Nat × Xfer)) e =>
    match b with
    | none => some (e.2, e.1)
    | some y => if e.1.cls < y.2.cls then some (e.2, e.1) else b) none

/-- The meter issues the next transfer, of at most 64 bytes. -/
def State.meterIssue (s : State) : State :=
  if s.build.isHub || s.meter.busy.isSome || (s.stopped && s.meter.queue.all fun x => x.cls != 1) then s
  else match nextXfer s.meter.queue with
  | none => s
  | some (i, x) =>
    let n := min 64 x.left
    let s1 := s.meterRefill
    if n * 800 ≤ s1.meter.tokens then
      let s2 := if x.data.isEmpty then s1 else s1.emit (.dma x.slice x.addr (x.data.take n))
      { s2 with meter := { s2.meter with
          tokens := s2.meter.tokens - n * 800
          busy := some n
          queue := s2.meter.queue.set i { x with waited := false, flying := true } } }
    else if x.waited then s1
    else
      let s2 := s1.bump Reg.REEL_METER_WAITS
      { s2 with meter := { s2.meter with queue := s2.meter.queue.set i { x with waited := true } } }

/-- METER_TRANSFER (R253). -/
def execMeterTransfer (s : State) : Host.Outcome State Fault Refusal := act s s.meterIssue

/-- A dump schedule still writes its previous dump. -/
def State.dumpWriting (s : State) (n : Nat) : Bool := s.meter.queue.any fun x => x.use_ == .dump n

/-- A schedule's dump at a sample of its set (R250 to R252). -/
def State.periodic (s : State) (n : Nat) (sels : List Nat) (sm : Sample) : State :=
  let x0 := s.rset n
  let x := match x0.newSched with | some c => { x0 with sched := c, newSched := none } | none => x0
  let s := s.setRset n x
  match x.sched with
  | none => s
  | some c =>
    let nth := c.nth + 1
    if nth < c.div then s.setRset n { x with sched := some { c with nth } }
    else if c.dest = 0 ∧ s.dumpWriting n then
      (s.setRset n { x with sched := some { c with nth := 0, seq := (c.seq + 1) % 2 ^ 32, skipped := min 0xFFFF (c.skipped + 1) } }).bump Reg.REEL_DUMPSTAT_SKIPPED
    else
      let bs := s.dumpBytes n sels sm c.seq c.skipped
      let c1 := { c with nth := 0, seq := (c.seq + 1) % 2 ^ 32, skipped := 0 }
      if c.dest = 0 then
        let xs := ringXfers 3 (.dump n) c.slice c.base c.log2 c.bytes bs (if c.mirror then some c.mir else none)
        (s.setRset n { x with sched := some { c1 with bytes := c.bytes + bs.length } }).addXfers xs
      else ((s.setRset n { x with sched := some c1 }).bump Reg.REEL_DUMPSTAT_DUMPS).sendUp 0x23 2 0 false (bytesWords bs) []

/-! ### Commands -/

/-- CTR_SELECT's list. -/
def selList (bs : List Byte) (n : Nat) : List Nat := (List.range n).map fun i => ofBytes ((bs.drop (2 * i)).take 2)

/-- Entries of the selection table that the other sets hold (R226). -/
def State.tableUsed (s : State) (without : Nat) : Nat :=
  sumN ((s.reel.sets.filter fun e => e.1 != without).map fun e => e.2.sels.length)

/-- A set takes a new list (R228, R232). -/
def State.newList (s : State) (n : Nat) (sels : List Nat) : State :=
  let s1 := s.setReads (s.reel.reads.map fun (r : Readout) => { r with sets := r.sets.map fun (q : RdSet) => if q.set_ = n then { q with stale := true } else q })
  (s1.setRset n { s1.rset n with sels, prev := [], last := [], raw := [], prevFt := none, latest := none }).fset (Reg.REEL_SETSTAT_COUNT.at n) sels.length

def State.ctrSelect (s : State) (r : Running) : State :=
  let n := bits r.d.arg0 3 0
  let count := r.d.count.toNat
  let len := r.d.len.toNat
  let zero := decide ((count = 0) ≠ (len = 0))
  s.checked r { args := bits r.d.arg0 31 4 == 0 && r.d.arg1 == 0, zero, tooLong := decide (count > 8192) || decide (len < 2 * count), reads := decide (len ≠ 0) } fun s =>
    let sels := selList (s.operand r) count
    if s.build.isHub then s.fail r stNO_RESOURCE
    else match sels.findIdx? fun x => !s.selPresent x with
      | some i => s.complete r stBAD_FIELD i r.d.session.toNat
      | none =>
        s.guarded r [(s.flag (Reg.REEL_SETSTAT_BOUND.at n), stSTATE), (decide (s.tableUsed n + count > 8192), stNO_RESOURCE)] fun s =>
          (s.newList n sels).completeOk r 0

/-- CTR_SELECT (R226). -/
def execCtrSelect (src : Src) (d : Desc) (b : Bus) (s : State) : Host.Outcome State Fault Refusal :=
  act s (s.command (.ctrSelect src d b) src d b 0x50 .h false State.ctrSelect)

/-- Move whole tag records to the destination (R249). -/
def State.dumpTags (s : State) (r : Running) : State :=
  let n := min s.reel.tags.length (r.d.len.toNat / 32)
  let recs := s.reel.tags.take n
  let s1 := { s with reel := { s.reel with tags := s.reel.tags.drop n } }
  (if n = 0 then s1 else s1.led 5 66 .out n).finish r (recs.flatMap recBytes) (32 * n)

def State.ctrDump (s : State) (r : Running) : State :=
  let a := r.d.arg0.toNat
  let len := r.d.len.toNat
  let n := a % 16
  let size := ceilDiv (32 + 8 * (s.rset n).sels.length) 64 * 64
  s.checked r { args := decide (a ≤ 16), zero := decide (len = 0), tooLong := if a = 16 then decide (len < 32) else decide (len < size) } fun s =>
    if s.build.isHub then s.fail r stNO_RESOURCE
    else if a = 16 then s.dumpTags r
    else match (s.rset n).latest with
      | none => s.fail r stSTATE
      | some sm =>
        let bs := s.dumpBytes n (s.rset n).sels sm 0 0
        (s.bump Reg.REEL_DUMPSTAT_DUMPS).finish r bs bs.length

/-- CTR_DUMP (R249). -/
def execCtrDump (src : Src) (d : Desc) (b : Bus) (s : State) : Host.Outcome State Fault Refusal :=
  act s (s.command (.ctrDump src d b) src d b 0x51 .h false State.ctrDump)

/-- CTR_DUMP with ARG0 = 0x10 (R249). -/
def execCtrDumpTags (src : Src) (d : Desc) (b : Bus) (s : State) : Host.Outcome State Fault Refusal :=
  let d := { d with arg0 := 0x10 }
  act s (s.command (.ctrDumpTags src d b) src d b 0x51 .h false State.ctrDump)

def State.ctrPeriodic (s : State) (r : Running) : State :=
  let len := r.d.len.toNat
  s.checked r { zero := decide (len = 0), tooLong := decide (len < 32), reads := true } fun s =>
    let bs := s.operand r
    let w := wordAt bs
    let n := bits (w 1) 11 8
    let dest := bits (w 1) 33 32
    let log2 := bits (w 1) 4 0
    let div := bits (w 1) 31 16
    let bufOk := dest != 0 || (bits (w 0) 11 0 == 0 && decide (12 ≤ log2) && decide (log2 ≤ 30) && bits (w 2) 2 0 == 0)
    let ok := bits (w 1) 7 5 == 0 && bits (w 1) 15 12 == 0 && bits (w 1) 63 35 == 0 && w 3 == 0 && decide (dest ≤ 1) && bufOk
    s.guarded r [(!ok, stBAD_FIELD), (s.build.isHub, stNO_RESOURCE)] fun s =>
      let c : Sched := { slice := r.slice, base := w 0, log2, div, dest, mirror := bit (w 1) 34 && dest == 0, mir := w 2, seq := 0, nth := 0, skipped := 0, bytes := 0 }
      (s.setRset n { s.rset n with newSched := some (if div = 0 then none else some c) }).completeOk r 0

/-- CTR_PERIODIC (R250). -/
def execCtrPeriodic (src : Src) (d : Desc) (b : Bus) (s : State) : Host.Outcome State Fault Refusal :=
  act s (s.command (.ctrPeriodic src d b) src d b 0x52 .h false State.ctrPeriodic)

/-! ### Instruction tags (R242 to R247) -/

def State.tagSrc (s : State) (i : Nat) : TagSrc := Tab.getD s.reel.srcs i {}
def State.setTagSrc (s : State) (i : Nat) (x : TagSrc) : State := { s with reel := { s.reel with srcs := Tab.set s.reel.srcs i x } }

/-- The Reel tags a source (R242). -/
def State.tagged (s : State) (i : Nat) : Bool :=
  !s.reelOff && s.flag Reg.REEL_CTRL_TAG_EN && s.fget Reg.REEL_TAGSEL_SEL / 2 ^ i % 2 == 1 && s.fget Reg.REEL_TAGSRC_SRC / 2 ^ i % 2 == 1

def addStat (l : List Nat) (i n : Nat) : List Nat := listSet l i ((l.getD i 0 + n) % two48)

/-- P of R243. -/
def State.tagPeriod (s : State) : Nat := 2 ^ (max 4 (min 24 (s.fget Reg.REEL_TAG_PERIOD)))

/-- Send the next countdown to a tagged source that has no tag in flight and is awake. -/
def State.tagSend (s : State) (i : Nat) : State :=
  let x := s.tagSrc i
  if !s.tagged i || x.countdown.isSome || x.asleep then s
  else
    let l := Config.tagLfsrStep s.reel.lfsr
    let n := s.tagPeriod / 2 + l.toNat % s.tagPeriod
    let s1 := { s with reel := { s.reel with lfsr := l, stats := addStat s.reel.stats 0 1 } }
    (s1.setTagSrc i { x with countdown := some n, sentFt := s.now }).emit (.tag i (BitVec.ofNat 32 n))

/-- Tags start on every source that is tagged now. -/
def State.tagAll (s : State) : State := (List.range 64).foldl State.tagSend s

/-- Write the record of a tag that ended. -/
def State.tagRecord (s : State) (i outcome : Nat) (addr : W64) (d1 d2 d3 events : Nat) : State :=
  let x := s.tagSrc i
  let cap := fun (n : Nat) => min n 0xFFFF
  let r : Rec :=
    { w0 := BitVec.ofNat 64 s.ft,
      w1 := BitVec.ofNat 64 ((Config.tagUnit i).toNat + fld 6 11 i + fld 3 17 outcome + b2 s.locked 20 + b2 x.loss 21 + fld 32 32 (x.countdown.getD 0)),
      w2 := addr, w3 := BitVec.ofNat 64 (cap d1 + cap d2 * 2 ^ 16 + cap d3 * 2 ^ 32 + fld 8 48 events) }
  let st := addStat (addStat (addStat (addStat s.reel.stats (if outcome = 0 then 1 else if outcome = 1 then 2 else 3) 1) 5 (cap d1)) 6 (cap d2)) 7 (cap d3)
  let s1 := { s with reel := { s.reel with stats := st } }
  let s2 := s1.led 5 66 .inn 1
  if s.qFits 66 1 then
    (({ s2 with reel := { s2.reel with tags := s2.reel.tags ++ [r] } }).bump Reg.REEL_TAGSTAT_RECORDS).setTagSrc i { x with countdown := none, loss := false }
  else
    let s3 := (s2.ledDrop 5 66 0xF 1).bump Reg.REEL_TAGSTAT_LOST
    ({ s3 with reel := { s3.reel with stats := addStat s3.reel.stats 4 1 } }).setTagSrc i { x with countdown := none, loss := true }

/-- TAG_RETURN (R243): `lat` holds the three stage times in 32-bit fields, lowest first; `info` the outcome in bit 0, 1 when flushed, and the event bits in [8:1]. -/
def execTagReturn (src lat : Nat) (addr : W64) (info : Nat) (s : State) : Host.Outcome State Fault Refusal :=
  act s (if (s.tagSrc src).countdown.isNone || s.reelOff then s
    else (s.tagRecord src (info % 2) addr (lat % 2 ^ 32) (lat / 2 ^ 32 % 2 ^ 32) (lat / 2 ^ 64) (info / 2 % 256)).tagSend src)

/-- The stage times and address of a tag that did not return: none is stated, beside ADDR 0 of a TIMEOUT. -/
def State.tagLost (s : State) (i outcome : Nat) : State :=
  let f := Config.freeWord s.fresh
  let g := Config.freeWord (s.fresh + 1)
  let s1 := { s with fresh := s.fresh + 2 }
  s1.tagRecord i outcome (if outcome = 3 then 0 else g) (bits f 15 0) (bits f 31 16) (bits f 47 32) (bits f 55 48)

/-- TAG_TIMEOUT (R244). -/
def execTagTimeout (src : Nat) (s : State) : Host.Outcome State Fault Refusal :=
  let x := s.tagSrc src
  let lim := s.fget Reg.REEL_TAG_TIMEOUT
  act s (if x.countdown.isNone || lim == 0 || decide (s.now < x.sentFt + lim * us) || s.reelOff then s else (s.tagLost src 3).tagSend src)

/-- TAG_CORE_POWER_DOWN (R244). -/
def execTagCorePowerDown (src : Nat) (s : State) : Host.Outcome State Fault Refusal :=
  let s1 := if (s.tagSrc src).countdown.isSome && !s.reelOff then s.tagLost src 2 else s
  act s (if s.build.isHub then s else s1.setTagSrc src { s1.tagSrc src with asleep := true })

/-- TAG_CORE_WAKE (R244). -/
def execTagCoreWake (src : Nat) (s : State) : Host.Outcome State Fault Refusal :=
  act s (if s.build.isHub then s else (s.setTagSrc src { s.tagSrc src with asleep := false }).tagSend src)

/-- A block reset or a unit reset of the Reel drops the samples being read (R235). -/
def State.resetReads (s : State) : State :=
  let n := sumN (s.reel.reads.map fun r => (r.sets.filter fun q => !q.opening).length)
  let s1 := s.setReads []
  if n = 0 then s1 else s1.ledDrop 1 0 rsnRESET n

end Sys2Proof.Machine
end

