-- ==== Sys2Proof/Machine/TwisterCmd.lean ====
section
/-! DEFINITION. Twister's commands and events (R397 to R400, R407 to R434): reduction bindings, contributions arriving, window closes, time cuts and their reports, and saturation reports. -/

namespace Sys2Proof.Machine

/-! ### RED_BIND (R397 to R400) -/

/-- The reduction block. -/
structure RedBlock where
  rid : Nat
  op : Nat
  sink : Bool
  final : Nat
  n : Nat
  first : Nat
  publish : Bool
  base : W64
  log2 : Nat
  mirror : Bool
  mir : W64
  edges : List Nat
  clean : Bool

def readRed (bs : List Byte) : RedBlock :=
  let w := wordAt bs
  let op := bits (w 0) 19 16
  let n := bits (w 0) 31 24
  { rid := bits (w 0) 15 0, op, sink := bit (w 0) 20, final := bits (w 0) 23 21, n, first := bits (w 0) 41 32, publish := bit (w 0) 42,
    base := w 1, log2 := bits (w 2) 4 0, mirror := bit (w 2) 5, mir := w 3,
    edges := if op = 4 then (List.range (n - 1)).map fun i => (w32At bs (12 + i)).toNat else [],
    clean := bits (w 0) 63 43 == 0 && bits (w 2) 63 6 == 0 && w 4 == 0 && w 5 == 0 }

/-- Lanes of an operator (R398). -/
def lanesOk (op n : Nat) : Bool :=
  match op with
  | 1 => decide (1 ≤ n ∧ n ≤ 32)
  | 2 => decide (1 ≤ n ∧ n ≤ 32)
  | 3 => decide (1 ≤ n ∧ n ≤ 32)
  | 4 => decide (2 ≤ n ∧ n ≤ 64)
  | 5 => decide (n = 1)
  | 6 => decide (1 ≤ n ∧ n ≤ 124)
  | _ => true

def rising : List Nat → Bool
  | a :: b :: t => decide (a < b) && rising (b :: t)
  | _ => true

/-- The features that a source's lanes read are of the formats that the operator allows. -/
def lanesFit (op first n : Nat) (feats : List Feat) : Bool :=
  let lanes := (feats.drop first).take n
  match op with
  | 1 => decide (first + n ≤ feats.length) && lanes.all fun f => decide (f.fmt ∈ [0, 1, 4])
  | 2 => decide (first + n ≤ feats.length)
  | 3 => decide (first + n ≤ feats.length)
  | 6 => decide (first + n ≤ feats.length) && lanes.all fun f => decide (f.fmt ∈ [0, 4]) && f.src
  | _ => decide (first < feats.length)

/-- Check 1 of R399. -/
def State.redOk (s : State) (b : RedBlock) (x : Option Sess) : Bool :=
  b.clean && b.sink == s.build.isHub && decide (b.op ≤ 6) &&
    (b.op == 0 ||
      (lanesOk b.op b.n && decide (1 ≤ b.final ∧ b.final ≤ 5) && (!b.publish || b.op == 5) && rising b.edges &&
        (if b.sink then b.base.toNat % 4096 == 0 && decide (12 ≤ b.log2 ∧ b.log2 ≤ 30) && b.mir.toNat % 8 == 0
         else b.base == 0 && (match x with | some x => lanesFit b.op b.first b.n x.feats | none => false))))

def State.setSinks (s : State) (l : List Sink) : State := { s with tws := { s.tws with sinks := l } }
def State.setSources (s : State) (l : Tab Source) : State := { s with tws := { s.tws with sources := l } }

/-- A session's reduction is unbound. -/
def State.unbindSource (s : State) (n : Nat) : State := (s.setSources (Tab.del s.tws.sources n)).dropRanks n

def State.redBind (s : State) (r : Running) : State :=
  let n := r.d.session.toNat
  let hub := s.build.isHub
  let x := s.ownSess r
  let len := r.d.len.toNat
  s.checked r { sess := if hub then none else some x.isSome, zero := decide (len = 0), tooLong := decide (len < 48), reads := true } fun s =>
    let b := readRed (s.operand r)
    let other := s.tws.sinks.find? (·.rid == b.rid)
    s.guarded r [(b.op == 4 && decide (len < 48 + 4 * (b.n - 1)), stLEN_OVER), (!s.redOk b x, stBAD_FIELD),
      (!hub && (match x with | some x => x.isChild || x.state != ssOPEN | none => true), stSTATE),
      (hub && (match other with | some k => b.op != 0 || k.slice != r.slice | none => false), stSTATE),
      (hub && b.op != 0 && decide (s.tws.sinks.length ≥ 256), stNO_RESOURCE)] fun s =>
        let s1 :=
          if hub then
            if b.op = 0 then s.setSinks (s.tws.sinks.filter (·.rid != b.rid))
            else s.setSinks (s.tws.sinks ++ [{ rid := b.rid, publish := b.publish, slice := r.slice, base := b.base, log2 := b.log2,
                                               mirror := b.mirror, mir := b.mir, bytes := 0, tc := 0 }])
          else
            let s0 := s.unbindSource n
            if b.op = 0 then s0
            else s0.setSources (Tab.set s0.tws.sources n { rid := b.rid, op := b.op, final := b.final, n := b.n, first := b.first, publish := b.publish, edges := b.edges })
        s1.completeOk r 0

/-- RED_BIND (R397). -/
def execRedBind (src : Src) (d : Desc) (b : Bus) (s : State) : Host.Outcome State Fault Refusal :=
  act s (s.command (.redBind src d b) src d b 0x20 .h (!s.build.isHub) State.redBind)

/-- The operand with OP 0 (R400). -/
def clearOp (bs : List Byte) : List Byte := if bs.length < 3 then bs else bs.set 2 ((bs.getD 2 0) &&& 0xF0#8)

/-- RED_BIND with OP 0 (R400). -/
def execRedUnbind (src : Src) (d : Desc) (b : Bus) (s : State) : Host.Outcome State Fault Refusal :=
  let b := { b with data := clearOp b.data }
  act s (s.command (.redUnbind src d b) src d b 0x20 .h (!s.build.isHub) State.redBind)

/-! ### Inputs, closes and amendments -/

/-- CONTRIB (R407). -/
def execContrib (p : Nat) (f : Frame) (s : State) : Host.Outcome State Fault Refusal :=
  act s (match s.rx p 0x11 f with
  | (s1, some m) =>
    let k := m.seqs.length
    if s1.isFenced 0xB || s1.stopped then s1.ledDrop 8 p rsnFENCED k
    else
      let s2 := s1.rxPass p k
      if itemWhole m.words then (s2.holdCustody m).takeInput (readInput m)
      else (s2.led 0x0A 0 .inn 1).ledDrop 0x0A 0 rsnPOISON 1
  | (s1, none) => s1)

/-- MERGE_CLOSE (R410). -/
def execMergeClose (ft : Nat) (s : State) : Host.Outcome State Fault Refusal := act s (s.mergeClose ft)

/-- AMENDMENT_END (R416). -/
def execAmendmentEnd (ft : Nat) (s : State) : Host.Outcome State Fault Refusal := act s (s.amendEnd ft)

/-! ### Cuts (R423 to R430) -/

def State.setCuts (s : State) (l : List CutReq) : State := { s with tws := { s.tws with cuts := l } }

/-- The latest cut is complete (R429). -/
def State.cutComplete (s : State) : Bool :=
  match s.tws.cut with
  | none => false
  | some c => (c.ports.all fun x => x.closed || x.incomplete) && !(s.tws.merges.any fun m => decide (m.ft ≤ c.cutFt)) && (c.children.isEmpty || c.timeout)

/-- What HELD of a ledger point must equal at a cut (R157). -/
def State.auditHeld (s : State) (kind inst : Nat) : Option Nat :=
  match kind with
  | 5 => some (s.qCells inst)
  | 7 => some ((s.port inst).rtx.length + (s.port inst).held.length)
  | 9 => some (s.fget (Reg.STR_PCRED_RES.at inst) + s.fget (Reg.STR_PCRED_BE.at inst))
  | 0xE => some (s.fget (Reg.PLY_BUD_TOKENS.at inst))
  | _ => none

/-- The local audit of every ledger point at a cut (R157). -/
def State.auditPoints (s : State) : State :=
  if !s.flag Reg.LEA_CTRL_AUDIT_EN then s
  else (s.lea.pts.foldl (fun s e =>
    let kind := e.1 / 65536
    let inst := e.1 % 65536
    let held := e.2.held
    let ok := decide (0 ≤ held) && (match s.auditHeld kind inst with | some n => decide (held = (n : Int)) | none => true)
    if ok then s
    else (s.fset Reg.LEA_STATUS_MISMATCH 1).raise fLEDGER 0 (s.unit (pointUnit kind inst)) (s.pointIndex e.1 + 65536 * kind)) s).bump Reg.LEA_STATUS_AUDITS

/-- The words of a cut report: the cut's identity, the actual FT, and OUT and HELD of the transmit point of each up-port (R428). -/
def cutReport (c : CutRes) : List W64 :=
  [BitVec.ofNat 64 c.req.origin.toNat, BitVec.ofNat 64 c.req.onum, BitVec.ofNat 64 c.cutFt] ++
    ((c.ports.filter fun x => isUp x.p).flatMap fun x => [BitVec.ofNat 64 x.p, BitVec.ofNat 64 x.issued, BitVec.ofNat 64 x.held])

/-- The block cuts now (R423, R157, R428). -/
def State.takeCut (s : State) (q : CutReq) (late : Bool) : State :=
  let up := ports.filter fun p => hasPort s.build p && s.portUp p
  let cp := up.map fun p =>
    let t := s.ledGet 7 p
    ({ p, issued := t.out, accepted := (s.ledGet 8 p).inn, held := t.held.toNat, late := 0, closed := false, incomplete := false,
       reported := false, auditFail := false, inflight := 0, report := none } : CutPort)
  let s0 := { s with lea := { s.lea with cut := s.lea.pts } }
  let s1 := (s0.fset Reg.LEA_CUTFT_FT s.ft).auditPoints
  let c : CutRes :=
    { req := q, cutFt := s.ft, late, mismatch := (s1.lea.pts.any fun e => decide (e.2.held < 0) ||
        (match s1.auditHeld (e.1 / 65536) (e.1 % 65536) with | some n => decide (e.2.held ≠ (n : Int)) | none => false)) && s.flag Reg.LEA_CTRL_AUDIT_EN,
      whorl := s.fget Reg.WHL_STATUS_STATE + b2 s.locked 8, ports := cp, merges := [], dumps := [],
      children := if s.build.isHub then up.filter fun p => !isUp p else [], timeout := false }
  let s2 := { s1 with tws := { s1.tws with cut := some c } }
  let sets := if q.reel && !s.build.isHub then (List.range 16).filter fun n => s.flag (Reg.REEL_SET_EN.at n) else []
  (s2.strobe sets false (some q.lnum)).sendUp 0x1D 3 0 false (cutReport c) []

/-- A cut becomes pending, or is taken at once when its time has come (R426). -/
def State.addCut (s : State) (q : CutReq) : State := s.setCuts (s.tws.cuts ++ [q])

/-- The next local cut number (R425). -/
def State.nextCut (s : State) : Nat × State :=
  (s.tws.lnum, { s with tws := { s.tws with lnum := (s.tws.lnum + 1) % 2 ^ 24 } })

/-- The words of the CUT broadcast after its header. -/
def cutWords (q : CutReq) (cancel : Bool) : List W64 := [BitVec.ofNat 64 q.t, BitVec.ofNat 64 (q.onum + b2 q.reel 24 + b2 cancel 25)]

def State.sendCut (s : State) (q : CutReq) (cancel : Bool) : State :=
  if q.subtree then s.broadcast 0x1C 7 s.ownDepth (truncPlace s.ownDepth s.self) (cutWords q cancel) else s

def State.snapArm (s : State) (r : Running) : State :=
  let subtree := bit r.d.arg0 0
  let reel := bit r.d.arg0 1
  let hub := s.build.isHub
  let auth := s.tws.auth.any fun e => e.1 == r.slice && decide (b2n subtree ≤ e.2)
  if !auth then s.fail r stAUTH
  else s.checked r { args := bits r.d.arg0 31 2 == 0 && !(subtree && !hub) && !(reel && hub) } fun s =>
    s.guarded r [(s.late r.d.arg1.toNat, stLATE),
      (decide ((s.tws.cuts.filter fun q => q.slice.isSome).length ≥ 4) || decide (s.tws.cuts.length ≥ 8), stNO_RESOURCE)] fun s =>
        let k := s.nextCut
        let q : CutReq := { t := r.d.arg1.toNat, origin := s.unit 0, onum := k.1, lnum := k.1, subtree, reel, slice := some r.slice }
        (((k.2.addCut q).sendCut q false)).completeOk r k.1

/-- SNAP_ARM (R425). -/
def execSnapArm (src : Src) (d : Desc) (b : Bus) (s : State) : Host.Outcome State Fault Refusal :=
  act s (s.command (.snapArm src d b) src d b 0x21 .h false State.snapArm)

/-- SNAP_CANCEL (R429). -/
def State.snapCancel (s : State) (r : Running) : State :=
  s.checked r {} fun s =>
    match s.tws.cuts.find? fun q => q.lnum == r.d.arg0.toNat && q.slice == some r.slice with
    | some q => ((s.setCuts (s.tws.cuts.filter (· != q))).sendCut q true).completeOk r 0
    | none => s.fail r stSTATE

/-- SNAP_CANCEL (R429). -/
def execSnapCancel (src : Src) (d : Desc) (b : Bus) (s : State) : Host.Outcome State Fault Refusal :=
  act s (s.command (.snapCancel src d b) src d b 0x23 .h false State.snapCancel)

/-- SNAP_AUTH: the list of slices and scopes (R424). -/
def State.snapAuth (s : State) (r : Running) : State :=
  let n := r.d.count.toNat
  let len := r.d.len.toNat
  s.checked r { args := decide (n ≤ 64), zero := decide ((n = 0) ≠ (len = 0)), tooLong := decide (len < 8 * n), reads := decide (len ≠ 0) } fun s =>
    let ws := (List.range n).map fun i => wordAt (s.operand r) i
    let ok := ws.all fun w => bits w 63 8 == 0 && decide (bits w 5 0 < nSlices s.build) && decide (bits w 7 6 ≤ 1)
    s.guarded r [(!ok, stBAD_FIELD)] fun s =>
      { s with tws := { s.tws with auth := ws.map fun w => (bits w 5 0, bits w 7 6) } }.completeOk r 0

/-- SNAP_AUTH (R424). -/
def execSnapAuth (src : Src) (d : Desc) (b : Bus) (s : State) : Host.Outcome State Fault Refusal :=
  act s (s.command (.snapAuth src d b) src d b 0x2F .m false State.snapAuth)

/-- The snapshot broadcast reaches a block (R426, R429). -/
def State.takeCutMsg (s : State) (m : Msg) : State :=
  let w := fun i => m.words.getD i 0
  let orig : Hank := BitVec.ofNat 48 (bits (w 0) 47 0)
  let n := m.seqs.length
  let depth := bits (w 1) 34 32
  let place := (w 2).toNat % 2 ^ 48 / 2 ^ 14
  match s.dedupe orig (bits (w 1) 63 48) (bits (w 1) 31 0) with
  | (false, s1) => (s1.led 8 m.port .dup n).fadd Reg.STR_BCSTAT_DUP n
  | (true, s1) =>
    let s2 := s1.rxPass m.port n
    let relay := fun (s : State) => s.bcastSend m.typ m.tc depth place m.words
    let onum := bits (w 4) 23 0
    if !(placeMatch depth (hPlace s.self) place) then s2
    else if bit (w 4) 25 then relay (s2.setCuts (s2.tws.cuts.filter fun q => !(q.origin == orig && q.onum == onum)))
    else if s2.tws.cuts.length ≥ 8 then s2.raise fCONFIG 0 orig (onum * 2 ^ 8)
    else
      let k := s2.nextCut
      let q : CutReq := { t := (w 3).toNat, origin := orig, onum, lnum := k.1, subtree := true, reel := bit (w 4) 24, slice := none }
      if k.2.ft ≥ q.t then (relay k.2).takeCut q true else relay (k.2.addCut q)

/-- CUT (R426). -/
def execCut (p : Nat) (f : Frame) (s : State) : Host.Outcome State Fault Refusal :=
  act s (match s.rx p 0x1C f with
  | (s1, some m) => if s1.isFenced 0xB || s1.stopped then s1.ledDrop 8 p rsnFENCED m.seqs.length else s1.takeCutMsg m
  | (s1, none) => s1)

/-- The entry of a cut report for an up-port index. -/
def reportEntry : List W64 → Nat → Option (Nat × Nat)
  | i :: o :: h :: t, k => if i.toNat = k then some (o.toNat, h.toNat) else reportEntry t k
  | _, _ => none

/-- A child's cut report (R428, R158). -/
def State.takeCutRep (s : State) (p : Nat) (ws : List W64) : State :=
  match s.tws.cut with
  | none => s
  | some c =>
    if c.req.origin.toNat = bits (ws.getD 0 0) 47 0 ∧ c.req.onum = bits (ws.getD 1 0) 23 0 then
      let s1 := { s with tws := { s.tws with cut := some { c with children := c.children.filter (· != p) } } }
      (s1.modCutPort p fun x => { x with reported := true, report := reportEntry (ws.drop 3) (s.port p).peerIdx }).auditLink p
    else s

/-- CUTREP (R428). -/
def execCutrep (p : Nat) (f : Frame) (s : State) : Host.Outcome State Fault Refusal :=
  act s (match s.rx p 0x1D f with
  | (s1, some m) =>
    if s1.isFenced 0xB || s1.stopped then s1.ledDrop 8 p rsnFENCED m.seqs.length
    else (s1.rxPass p m.seqs.length).takeCutRep p m.words
  | (s1, none) => s1)

/-- The earliest pending cut. -/
def earliestCut (l : List CutReq) : Option CutReq :=
  l.foldl (fun (b : Option CutReq) q => match b with | none => some q | some y => if q.t < y.t then some q else b) none

/-- The timer of the earliest pending cut fires; cuts of the same island cycle are one cut (R426). -/
def State.cutTimer (s : State) : State :=
  if s.stopped || s.isFenced 0xB then s
  else match earliestCut s.tws.cuts with
  | none => s
  | some q => if s.ft < q.t then s else (s.setCuts (s.tws.cuts.filter fun x => decide (q.t + 16 ≤ x.t))).takeCut q false

/-- CUT_TIMER (R423). -/
def execCutTimer (s : State) : Host.Outcome State Fault Refusal := act s s.cutTimer

/-- CUT_REPORT_TIMEOUT (R429): 1 ms has passed since T. -/
def execCutReportTimeout (s : State) : Host.Outcome State Fault Refusal :=
  act s (match s.tws.cut with
  | some c => if s.ft < c.req.t + ms || c.children.isEmpty || c.timeout then s
      else { s with tws := { s.tws with cut := some { c with timeout := true } } }
  | none => s)

/-! ### SNAP_READ (R430, R433) -/

/-- The header of a cut's output. -/
def State.cutHeader (s : State) (c : CutRes) : List W64 :=
  [BitVec.ofNat 64 c.req.t, BitVec.ofNat 64 (c.req.origin.toNat + b2 c.req.subtree 48 + b2 c.req.reel 49),
   BitVec.ofNat 64 (fld 24 0 c.req.onum + fld 24 24 c.req.lnum), BitVec.ofNat 64 c.cutFt,
   BitVec.ofNat 64 (b2n s.cutComplete + b2 c.late 1 + b2 (c.ports.any (·.auditFail)) 2 + b2 c.mismatch 3 + fld 8 8 c.ports.length
     + fld 13 16 c.merges.length + fld 5 29 c.dumps.length + fld 6 34 c.children.length), 0, 0, 0]

def cutPortWords (x : CutPort) : List W64 :=
  [BitVec.ofNat 64 (fld 8 0 x.p + b2 x.incomplete 8 + b2 x.reported 9 + b2 x.auditFail 10 + fld 32 32 x.inflight), BitVec.ofNat 64 (fld 32 0 x.late)]

def cutMergeWords (i : RItem) : List W64 :=
  let ws := summaryWords i false false false
  [ws.getD 0 0, ws.getD 1 0, ws.getD 2 0, ws.getD 4 0]

/-- The entries that fit, in order (R430). -/
def takeFit : Nat → List (List Byte) → List Byte
  | _, [] => []
  | room, e :: t => if e.length ≤ room then e ++ takeFit (room - e.length) t else []

def State.cutEntries (s : State) (c : CutRes) : List (List Byte) :=
  [wordsBytes (s.cutHeader c)] ++ (c.ports.map fun x => wordsBytes (cutPortWords x)) ++ (c.merges.map fun i => wordsBytes (cutMergeWords i)) ++
    (c.dumps.map fun d => s.dumpBytes d.1 d.2.1 d.2.2 0 0)

/-- Move whole saturation records to the buffer. -/
def State.satRead (s : State) (r : Running) : State :=
  let k := min s.tws.sats.length (r.d.len.toNat / 96)
  let recs := s.tws.sats.take k
  ({ s with tws := { s.tws with sats := s.tws.sats.drop k } }).finish r (recs.flatMap wordsBytes) (96 * k)

def State.snapRead (s : State) (r : Running) : State :=
  let a := r.d.arg0
  let sat := bit a 31
  let len := r.d.len.toNat
  s.checked r { args := if sat then bits a 30 0 == 0 else bits a 30 24 == 0, zero := decide (len = 0), tooLong := decide (len < if sat then 96 else 64) } fun s =>
    if sat then s.satRead r
    else match s.tws.cut with
      | some c =>
        if c.req.lnum = bits a 23 0 then
          let bs := takeFit len (s.cutEntries c)
          s.finish r bs bs.length
        else s.fail r stSTATE
      | none => s.fail r stSTATE

/-- SNAP_READ (R430). -/
def execSnapRead (src : Src) (d : Desc) (b : Bus) (s : State) : Host.Outcome State Fault Refusal :=
  let d := { d with arg0 := d.arg0 &&& 0x7FFFFFFF }
  act s (s.command (.snapRead src d b) src d b 0x22 .hm false State.snapRead)

/-- SNAP_READ with ARG0[31] = 1 (R433). -/
def execSatRecordRead (src : Src) (d : Desc) (b : Bus) (s : State) : Host.Outcome State Fault Refusal :=
  let d := { d with arg0 := d.arg0 ||| 0x80000000 }
  act s (s.command (.satRecordRead src d b) src d b 0x22 .hm false State.snapRead)

/-! ### Saturation reports (R431 to R433) -/

/-- The report interval in ticks. -/
def State.satIvl (s : State) : Nat := 2 ^ (max 6 (min 14 (s.fget Reg.TWS_SAT_IVL))) * us

def State.satEnd (s : State) (p : Nat) : State :=
  let x := Tab.getD s.tws.satPorts p {}
  let ft := s.ft / s.satIvl * s.satIvl
  if !hasPort s.build p || s.isFenced 0xB || s.stopped || ft ≤ x.lastFt then s
  else
    let s1 := s.modSat p fun _ => { lastFt := ft }
    if x.shed.all (· == 0) then s1
    else
      let top := (x.contributors.mergeSort fun a b => decide (a.2.2 ≥ b.2.2)).take 4
      let cell := fun i => match top[i]? with
        | some e => [BitVec.ofNat 64 (e.1.toNat + fld 12 48 e.2.1), BitVec.ofNat 64 e.2.2]
        | none => [0, 0]
      let sh := fun i => min (x.shed.getD i 0) (2 ^ 32 - 1)
      let rec_ : List W64 := [BitVec.ofNat 64 ft, BitVec.ofNat 64 ((s.unit (portSub p)).toNat + fld 3 48 s.tier),
        BitVec.ofNat 64 (sh 0 + sh 1 * 2 ^ 32), BitVec.ofNat 64 (sh 2 + sh 3 * 2 ^ 32)] ++ (List.range 4).flatMap cell
      let full := decide (s1.tws.sats.length ≥ 64)
      let s2 := if full then s1.bump Reg.TWS_SATSTAT_LOST else s1
      let s3 := { s2 with tws := { s2.tws with sats := (if full then s2.tws.sats.drop 1 else s2.tws.sats) ++ [rec_] } }
      if s1.tws.sats.isEmpty then s3.faultIrq else s3

/-- SAT_INTERVAL_END (R432). -/
def execSatIntervalEnd (p : Nat) (s : State) : Host.Outcome State Fault Refusal := act s (s.satEnd p)

end Sys2Proof.Machine
end

