-- ==== Sys2Proof/Machine/Admit.lean ====
section
/-! DEFINITION. Reserved admission (R137, R138, R610, R714): the resources of a block, path reservations, the messages ADMIT, ADMITTED and ADMIT_RELEASE, and the release of a reservation. -/

namespace Sys2Proof.Machine

def State.setPaths (s : State) (l : List PathRes) : State := { s with str := { s.str with paths := l } }

/-- Outcome codes (R204). -/
abbrev adOK := 0
abbrev adPORT := 1
abbrev adMEDIUM := 2
abbrev adSPINDLE := 3
abbrev adMERGE := 4
abbrev adCELLS := 5
abbrev adTABLE := 6
abbrev adMARGIN := 7
abbrev adTIMEOUT := 8

/-! ### Resources (R130, R131, R137, R610) -/

/-- The configuration of R130 that a port runs. -/
def State.portCfg (s : State) (p : Nat) : Nat :=
  if s.fget (Reg.STR_PCFG_LANES.at p) = 4 then 2 else if s.fget (Reg.STR_PCFG_RATE.at p) = 0 then 0 else 1
/-- Payload rate of a configuration, bytes a second. -/
def payloadRate (c : Nat) : Nat := if c = 0 then 12400000000 else if c = 1 then 24800000000 else 49600000000

def State.onPort (s : State) (p : Nat) : List PathRes := s.str.paths.filter fun r => r.onward == some p

/-- Bursts and rates reserved on a port direction, Snag's standing reservation included (R525). -/
def State.portBursts (s : State) (p : Nat) : Nat :=
  (if s.portUp p then s.fget Reg.SNG_RES_BURST else 0) + sumN ((s.onPort p).map (·.burst))
def State.portRates (s : State) (p : Nat) : Nat :=
  (if s.portUp p then 1000000 * s.fget Reg.SNG_RES_RATE else 0) + sumN ((s.onPort p).map (·.rate))

def capUnit : Nat := 4096
/-- Burst and rate fit a port direction at a capacity fraction and a budget. -/
def State.portFits (s : State) (p burst rate budget cap : Nat) : Bool :=
  decide (s.portBursts p + burst ≤ budget) &&
    decide (100 * capUnit * (s.portRates p + rate) ≤ 60 * payloadRate (s.portCfg p) * cap)

/-- A path reservation belongs to a session of an owner. -/
def PathRes.of (r : PathRes) (owner : Hank) (session : Nat) : Bool := r.owner == owner && r.session == session

/-- One path reservation for each session: a session is charged once at a block, whether one of its paths or both cross it (R610, DEDUCED, assumption 52). -/
def sessionPaths (l : List PathRes) : List PathRes :=
  l.foldl (fun acc r => if acc.any (·.of r.owner r.session) then acc else acc ++ [r]) []

/-- The charge of a reserved session, and of a reduction that the block merges for it (R610). -/
def State.sessionCharge (s : State) (burst merges : Nat) : Nat := burstCells burst + (if s.build.isHub && decide (0 < merges) then 33 else 0)

/-- Charges of the reserved share held in the block (R610). -/
def State.sharesUsed (s : State) : Nat :=
  sumN (ports.map fun p => if s.portUp p then 16 + burstCells (s.fget Reg.SNG_RES_BURST) else 0) +
    sumN ((sessionPaths s.str.paths).map fun r => s.sessionCharge r.burst r.mergeLoad)

/-- Merge inputs and merge cycles at this tier (R137, R422): each input folds in at most 9 cycles, and a summary takes 32. ADMIT names no window, so the least window of R107 is charged. -/
def State.mergeFits (s : State) (new cap : Nat) : Bool :=
  let n := s.reservedMerges + new
  decide (n ≤ 32) && (decide (n = 0) || decide ((9 * n + 32) * 70 * 4 * capUnit ≤ 3 * 100000 * cap))

/-- Reservations that a block may hold. -/
def State.pathCap (s : State) : Nat := if s.build.isHub then 16384 else 1024

/-- The checks of a block for one path, in their order, with the link it arrived on and the one it leaves by; `again` says that the block already holds a path of the same session. -/
def State.pathCheck (s : State) (arrived onward : Option Nat) (burst rate merges : Nat) (spindles again : Bool) : Nat :=
  let cap := fun (m : Nat) => s.fget (Reg.TNS_CAP_CAP.at m)
  let res := fun (p : Option Nat) => match p with | some p => s.flag (Reg.STR_PSTAT_RESERVABLE.at p) | none => true
  if s.fget Reg.TNS_STATUS_MSTATE ≥ 2 then adMARGIN
  else if s.str.paths.length ≥ s.pathCap then adTABLE
  else if !res arrived || !res onward then adMEDIUM
  else if !(match onward with | some p => s.portFits p burst rate (s.fget (Reg.TNS_BURST_BUDGET.at (s.portCfg p))) (cap 1) | none => true) then adPORT
  else if !spindles then adSPINDLE
  else if s.build.isHub && !s.mergeFits merges (cap 3) then adMERGE
  else if !again && decide (s.sharesUsed + s.sessionCharge burst merges > s.fget Reg.BOB_RSHARE_SHARE) then adCELLS
  else adOK

/-! ### The Spindle check (R137, R374) -/

/-- Sum of fractions cycles × t_b ÷ window, as numerator and denominator, with t_b = 0.70 ns and a window in ticks of 0.25 ns. -/
def loadSum (l : List (Nat × Nat)) : Nat × Nat :=
  l.foldl (fun a e => if e.2 = 0 then a else (a.1 * (10 * e.2) + 28 * e.1 * a.2, a.2 * (10 * e.2))) (0, 1)

/-- Cycles charged on a Spindle by the reservations in force, with their windows. -/
def State.spindleLoad (s : State) (k : Nat) : List (Nat × Nat) :=
  s.crd.filterMap fun e =>
    match e.2.resv with
    | some r => if r.held then (r.charge.find? (·.1 == k)).map fun c => (c.2, r.window) else none
    | none => none

def loadFits (l : List (Nat × Nat)) (cap : Nat) : Bool :=
  let q := loadSum l
  decide (q.1 * 4 * capUnit ≤ 3 * cap * q.2)

/-- The reserved window of a session: the PERIOD of its generator's running sample set. -/
def State.sessWindow (s : State) (x : Sess) : Option Nat :=
  match (Tab.getD s.whl.gens (s.sessGen x) {}).run with
  | some g => if g.kind = 1 then some g.period else none
  | none => none

/-- The cycles a reservation would be charged on each Spindle, and its window; none where the model or generator forbids it. -/
def State.spindleCharge (s : State) (x : Sess) (cmps : Nat) : Option (List (Nat × Nat) × Nat) :=
  match s.modelOf x, s.sessWindow x with
  | some (_, m), some w =>
    if m.state ≠ mRESIDENT ∨ m.evicting ∨ cmps < m.img.cmps ∨ cmps > 6144 then none
    else
      let v := if x.isChild then ((List.range 32).filter s.routeValid).length else 1
      let c := if s.build.isHub then
          (if m.img.cmps = 0 then 0 else
            ceilDiv (((m.shares.map fun y => sumN ((List.range y.count).map fun i => m.img.depthOf (y.first + i))).foldl max 0) * cmps) m.img.cmps)
        else ceilDiv (cmps + m.img.depth) 2
      let cyc := v * (ceilDiv c 32 + 8 + m.img.depth + 20)
      let ks := if s.build.isHub then m.shares.map (·.dom) else [0, 1]
      some (ks.map fun k => (k, cyc), w)
  | _, _ => none

def State.spindlesFit (s : State) (c : Option (List (Nat × Nat) × Nat)) : Bool :=
  match c with
  | none => false
  | some (l, w) => l.all fun e => loadFits ((e.2, w) :: s.spindleLoad e.1) (s.fget (Reg.TNS_CAP_CAP.at 2))

/-! ### Messages (R714) -/

/-- The 32-byte payload of ADMIT, ADMITTED and ADMIT_RELEASE. -/
def admitWords (r : PathRes) (outcome : Nat) : List W64 :=
  [BitVec.ofNat 64 (r.owner.toNat + fld 12 48 r.session),
   BitVec.ofNat 64 (fld 16 0 r.anum + fld 3 16 r.final + b2 r.alt 19 + fld 3 20 r.cls + fld 4 24 outcome),
   BitVec.ofNat 64 (fld 32 0 r.burst + fld 32 32 r.cmps), BitVec.ofNat 64 (fld 40 0 r.rate + fld 8 40 r.merges)]

def readAdmit (ws : List W64) : PathRes :=
  let w := fun i => ws.getD i 0
  { owner := BitVec.ofNat 48 (bits (w 0) 47 0), session := bits (w 0) 59 48, anum := bits (w 1) 15 0, alt := bit (w 1) 19,
    arrived := none, onward := none, final := bits (w 1) 18 16, cls := bits (w 1) 22 20, burst := bits (w 2) 31 0, rate := bits (w 3) 39 0,
    cmps := bits (w 2) 63 32, merges := bits (w 3) 47 40, held := false }
def admitOutcome (ws : List W64) : Nat := bits (ws.getD 1 0) 27 24

/-- Two messages of one path reservation. -/
def PathRes.same (a b : PathRes) : Bool := a.owner == b.owner && a.session == b.session && a.anum == b.anum && a.alt == b.alt

def State.dropPath (s : State) (r : PathRes) : State := s.setPaths (s.str.paths.filter fun x => !(x.same r))

/-- Send ADMIT_RELEASE up a path of this block, and drop its hold (R138, R714). -/
def State.releasePath (s : State) (r : PathRes) : State :=
  let s1 := s.dropPath r
  match r.onward with
  | some p => s1.send p 0x0E 7 0 false (admitWords r 0) []
  | none => s1

/-- Own paths of a session. -/
def State.ownPaths (s : State) (n : Nat) : List PathRes :=
  s.str.paths.filter fun r => r.arrived.isNone && r.session == n

/-- A reservation ends by release or demotion: its paths are released, and what its bucket holds leaves in BECLASS (R147, R322). -/
def State.releaseResv (s : State) (n : Nat) : State :=
  match s.sess n with
  | some x =>
    let x1 := { x with resv := none }
    let x2 := if x1.pend.isEmpty then { x1 with queue := none } else x1
    let s1 := (s.setSess n x2).releaseShaped n
    (s.ownPaths n).foldl State.releasePath s1
  | none => s

/-! ### The owner (R138) -/

/-- Every path has answered: the reservation is held, or it is refused and released. -/
def State.admitDone (s : State) (n : Nat) (x : Sess) (r : Resv) : State :=
  match r.cmd with
  | none => s
  | some c =>
    match (r.answers.map (· % 16)).find? (· != adOK) with
    | none =>
      let s1 := s.setSess n { x with resv := some { r with held := true, cmd := none, tokens := r.burst * 65536, ft := s.ft } }
      (s1.setPaths (s1.str.paths.map fun p => if p.arrived.isNone && p.session == n then { p with held := true } else p)).completeOk c adOK
    | some o => ((s.ownPaths n).foldl State.releasePath (s.setSess n { x with resv := none })).complete c stREFUSED o n

/-- An answer reaches the owner. -/
def State.admitAnswer (s : State) (n anum : Nat) (alt : Bool) (outcome : Nat) : State :=
  match s.sess n with
  | some x =>
    match x.resv with
    | some r =>
      if r.held ∨ r.anum ≠ anum ∨ r.answers.any (fun a => a / 16 == b2n alt) then s
      else
        let r1 := { r with answers := r.answers ++ [outcome + 16 * b2n alt] }
        let s1 := s.setSess n { x with resv := some r1 }
        let s2 := if outcome = adOK then s1
          else s1.setPaths (s1.str.paths.filter fun p => !(p.arrived.isNone && p.session == n && p.alt == alt))
        if r1.answers.length ≥ r1.paths then s2.admitDone n { x with resv := some r1 } r1 else s2
    | none => s
  | none => s

/-- The up-ports that a session's traffic may take: primary and, when dual-homed, alternate. -/
def State.admitPorts (s : State) : List (Nat × Bool) :=
  if s.isRoot then [] else (s.primaryUp, false) :: (match s.altUp with | some p => [(p, true)] | none => [])

/-- The final tier code of a session's paths (R714). -/
def State.finalOf (s : State) (n : Nat) : Nat :=
  match Tab.get s.tws.sources n with
  | some b => b.final
  | none => if s.portUp s.primaryUp then (s.port s.primaryUp).peerTier else s.tier + 1

/-- A reservation that has passed its field checks is put to admission. -/
def State.admitRes (s : State) (r : Running) (n : Nat) (x : Sess) (cls burst rate cmps merges : Nat) : State :=
  let ps := s.admitPorts
  let charge := s.spindleCharge x cmps
  let fit := s.spindlesFit charge
  let twice := decide (s.str.paths.length + ps.length > s.pathCap)
  let codes := (if twice then [adTABLE] else []) ++ if ps.isEmpty then [s.pathCheck none none burst rate 0 fit false] else ps.map fun p => s.pathCheck none (some p.1) burst rate 0 fit false
  let order := [adMARGIN, adTABLE, adMEDIUM, adPORT, adSPINDLE, adMERGE, adCELLS]
  let code := (order.find? fun c => codes.contains c).getD adOK
  if code ≠ adOK then s.complete r stREFUSED code n
  else
    let anum := s.str.anum
    let final := s.finalOf n
    let own := ps.map fun p => ({ owner := s.unit 0, session := n, anum, alt := p.2, arrived := none, onward := some p.1, final, cls, burst, rate, cmps,
                                  merges, held := false } : PathRes)
    let rv : Resv := { cls, burst, rate, cmps, merges, anum, held := false, ft := s.now, answers := [], paths := ps.length, cmd := some r,
                       charge := (charge.elim [] (·.1)), window := (charge.elim 0 (·.2)), tokens := 0 }
    let s1 := { s with str := { s.str with anum := (anum + 1) % 65536, paths := s.str.paths ++ own } }
    let s2 := s1.setSess n { x with resv := some rv }
    let s3 := own.foldl (fun s p => match p.onward with | some q => s.send q 0x0C 7 0 false (admitWords p 0) [] | none => s) s2
    if ps.isEmpty then s3.admitDone n { x with resv := some rv } rv else s3

def State.sessAdmit (s : State) (r : Running) : State :=
  let n := r.d.session.toNat
  let len := r.d.len.toNat
  s.checked r { sess := some (s.ownSess r).isSome, zero := decide (len = 0), tooLong := decide (len < 32), reads := true } fun s =>
    let w := wordAt (s.operand r)
    let cls := bits (w 0) 2 0
    let burst := bits (w 0) 63 32
    let rate := bits (w 1) 39 0
    let clean := bits (w 0) 31 3 == 0 && bits (w 1) 63 40 == 0 && bits (w 2) 63 40 == 0 && w 3 == 0
    match s.sess n with
    | none => s.fail r stBAD_SESSION
    | some x =>
      s.guarded r [(!clean || decide (cls < 4) || decide (1 ≤ burst ∧ burst < 256), stBAD_FIELD), (decide (burst = 0 ∨ rate = 0), stLEN_ZERO),
        (!(x.state == ssOPEN || x.state == ssRUNNING) || x.resv.isSome, stSTATE)] fun s =>
          s.admitRes r n x cls burst rate (bits (w 2) 31 0) (bits (w 2) 39 32)

/-- SESS_ADMIT (R138). -/
def execSessAdmit (src : Src) (d : Desc) (b : Bus) (s : State) : Host.Outcome State Fault Refusal :=
  act s (s.command (.sessAdmit src d b) src d b 0x03 .h true State.sessAdmit)

/-- SESS_RELEASE (R322). -/
def State.sessRelease (s : State) (r : Running) : State :=
  let n := r.d.session.toNat
  s.checked r { sess := some (s.ownSess r).isSome } fun s =>
    match s.sess n with
    | none => s.fail r stBAD_SESSION
    | some x => if x.admitted then (s.releaseResv n).completeOk r 0 else s.fail r stSTATE

/-- SESS_RELEASE (R322). -/
def execSessRelease (src : Src) (d : Desc) (b : Bus) (s : State) : Host.Outcome State Fault Refusal :=
  act s (s.command (.sessRelease src d b) src d b 0x04 .h true State.sessRelease)

/-- No answer within 1 ms: released on every path (R138). -/
def State.admitTimeout (s : State) (n : Nat) : State :=
  match s.sess n with
  | some x =>
    match x.resv with
    | some r =>
      (match r.cmd with
      | some c => if s.now < r.ft + ms then s
          else (((s.ownPaths n).foldl State.releasePath (s.setSess n { x with resv := none })).complete c stTIMEOUT adTIMEOUT n)
      | none => s)
    | none => s
  | none => s

/-- ADMIT_TIMEOUT (R138). -/
def execAdmitTimeout (session : Nat) (s : State) : Host.Outcome State Fault Refusal := act s (s.admitTimeout session)

/-! ### Hubs on the path -/

/-- A Hub receives ADMIT: it refuses, answers, or holds tentatively and forwards (R138, R714). -/
def State.takeAdmit (s : State) (m : Msg) : State :=
  let a := readAdmit m.words
  let final := s.isRoot || decide (a.final ≤ s.tier)
  let onward := if final then none else s.upPort
  let refuse := fun (c : Nat) => s.send m.port 0x0E 7 0 false (admitWords a c) []
  if !final && onward.isNone then refuse adMEDIUM
  else
    let code := s.pathCheck (some m.port) onward a.burst a.rate a.merges true (s.str.paths.any (·.of a.owner a.session))
    if code ≠ adOK then refuse code
    else
      let r : PathRes := { a with arrived := some m.port, onward, held := final }
      let s1 := s.setPaths ((s.str.paths.filter fun x => !(x.same r)) ++ [r])
      match onward with
      | some q => (s1.holdCustody m).send q 0x0C 7 0 false m.words m.covers
      | none => s1.send m.port 0x0D 7 0 false (admitWords r adOK) []

/-- A hop-by-hop message of admission: a refused or unknown one ends here. -/
def State.hopMsg (s : State) (p typ : Nat) (f : Frame) (take : State → Msg → State) : State :=
  match s.rx p typ f with
  | (s1, some m) => if s1.stopped then s1.ledDrop 8 p rsnFENCED m.seqs.length else take (s1.rxPass p m.seqs.length) m
  | (s1, none) => s1

/-- ADMIT (R714). -/
def execAdmitFrame (p : Nat) (f : Frame) (s : State) : Host.Outcome State Fault Refusal := act s (s.hopMsg p 0x0C f State.takeAdmit)

/-- An ADMITTED turns a tentative hold into a held reservation and goes on toward the owner. -/
def State.takeAdmitted (s : State) (m : Msg) : State :=
  let a := readAdmit m.words
  match s.str.paths.find? fun x => x.same a && x.onward == some m.port with
  | none => s
  | some x =>
    match x.arrived with
    | none => s.admitAnswer x.session x.anum x.alt adOK
    | some q =>
      ((s.setPaths (s.str.paths.map fun y => if y.same a then { y with held := true } else y)).holdCustody m).send q 0x0D 7 0 false m.words m.covers

/-- ADMITTED (R714). -/
def execAdmitted (p : Nat) (f : Frame) (s : State) : Host.Outcome State Fault Refusal := act s (s.hopMsg p 0x0D f State.takeAdmitted)

/-- An ADMIT_RELEASE removes the hold: a refusal goes on toward the owner, a release toward the final point. -/
def State.takeRelease (s : State) (m : Msg) : State :=
  let a := readAdmit m.words
  match s.str.paths.find? fun x => x.same a && (x.onward == some m.port || x.arrived == some m.port) with
  | none => s
  | some x =>
    if x.arrived = some m.port then
      (match x.onward with
      | some q => ((s.dropPath a).holdCustody m).send q 0x0E 7 0 false m.words m.covers
      | none => s.dropPath a)
    else match x.arrived with
      | none => s.admitAnswer x.session x.anum x.alt (admitOutcome m.words)
      | some q => ((s.dropPath a).holdCustody m).send q 0x0E 7 0 false m.words m.covers

/-- ADMIT_RELEASE (R714). -/
def execAdmitRelease (p : Nat) (f : Frame) (s : State) : Host.Outcome State Fault Refusal := act s (s.hopMsg p 0x0E f State.takeRelease)

end Sys2Proof.Machine
end

