-- ==== Sys2Proof/Machine/Crypto.lean ====
section
/-! DEFINITION. ECDSA verification over curve P-384 with SHA-384 (FIPS 186-5), as pattern packages and configuration images are signed (R542, R689). -/

namespace Sys2Proof.Machine

/-! ### SHA-384 (FIPS 180-4) -/

/-- The round constants: the first 64 fraction bits of the cube roots of the first 80 primes. -/
def shaK1 : List Nat := [
  0x428A2F98D728AE22, 0x7137449123EF65CD, 0xB5C0FBCFEC4D3B2F, 0xE9B5DBA58189DBBC,
  0x3956C25BF348B538, 0x59F111F1B605D019, 0x923F82A4AF194F9B, 0xAB1C5ED5DA6D8118,
  0xD807AA98A3030242, 0x12835B0145706FBE, 0x243185BE4EE4B28C, 0x550C7DC3D5FFB4E2,
  0x72BE5D74F27B896F, 0x80DEB1FE3B1696B1, 0x9BDC06A725C71235, 0xC19BF174CF692694,
  0xE49B69C19EF14AD2, 0xEFBE4786384F25E3, 0x0FC19DC68B8CD5B5, 0x240CA1CC77AC9C65,
  0x2DE92C6F592B0275, 0x4A7484AA6EA6E483, 0x5CB0A9DCBD41FBD4, 0x76F988DA831153B5,
  0x983E5152EE66DFAB, 0xA831C66D2DB43210, 0xB00327C898FB213F, 0xBF597FC7BEEF0EE4,
  0xC6E00BF33DA88FC2, 0xD5A79147930AA725, 0x06CA6351E003826F, 0x142929670A0E6E70,
  0x27B70A8546D22FFC, 0x2E1B21385C26C926, 0x4D2C6DFC5AC42AED, 0x53380D139D95B3DF,
  0x650A73548BAF63DE, 0x766A0ABB3C77B2A8, 0x81C2C92E47EDAEE6, 0x92722C851482353B]
def shaK2 : List Nat := [
  0xA2BFE8A14CF10364, 0xA81A664BBC423001, 0xC24B8B70D0F89791, 0xC76C51A30654BE30,
  0xD192E819D6EF5218, 0xD69906245565A910, 0xF40E35855771202A, 0x106AA07032BBD1B8,
  0x19A4C116B8D2D0C8, 0x1E376C085141AB53, 0x2748774CDF8EEB99, 0x34B0BCB5E19B48A8,
  0x391C0CB3C5C95A63, 0x4ED8AA4AE3418ACB, 0x5B9CCA4F7763E373, 0x682E6FF3D6B2B8A3,
  0x748F82EE5DEFB2FC, 0x78A5636F43172F60, 0x84C87814A1F0AB72, 0x8CC702081A6439EC,
  0x90BEFFFA23631E28, 0xA4506CEBDE82BDE9, 0xBEF9A3F7B2C67915, 0xC67178F2E372532B,
  0xCA273ECEEA26619C, 0xD186B8C721C0C207, 0xEADA7DD6CDE0EB1E, 0xF57D4F7FEE6ED178,
  0x06F067AA72176FBA, 0x0A637DC5A2C898A6, 0x113F9804BEF90DAE, 0x1B710B35131C471B,
  0x28DB77F523047D84, 0x32CAAB7B40C72493, 0x3C9EBE0A15C9BEBC, 0x431D67C49C100D4C,
  0x4CC5D4BECB3E42B6, 0x597F299CFC657E2A, 0x5FCB6FAB3AD6FAEC, 0x6C44198C4A475817]

/-- The initial hash value. -/
def shaInit : List Nat := [
  0xCBBB9D5DC1059ED8, 0x629A292A367CD507, 0x9159015A3070DD17, 0x152FECD8F70E5939,
  0x67332667FFC00B31, 0x8EB44A8768581511, 0xDB0C2E0D64F98FA7, 0x47B5481DBEFA4FA4]

def m64 (x : Nat) : Nat := x % 2 ^ 64
def rotr (n x : Nat) : Nat := x / 2 ^ n + (x % 2 ^ n) * 2 ^ (64 - n)

/-- The next word of the message schedule; the schedule is held newest first. -/
def shaNext (w : List Nat) : Nat :=
  let a := w.getD 14 0
  let b := w.getD 1 0
  let s0 := rotr 1 a ^^^ rotr 8 a ^^^ (a / 2 ^ 7)
  let s1 := rotr 19 b ^^^ rotr 61 b ^^^ (b / 2 ^ 6)
  m64 (w.getD 15 0 + s0 + w.getD 6 0 + s1)

def shaExpand : Nat → List Nat → List Nat
  | 0, w => w
  | n + 1, w => shaExpand n (shaNext w :: w)

/-- One round on the eight working variables. -/
def shaRound (v : List Nat) (kw : Nat) : List Nat :=
  match v with
  | [a, b, c, d, e, f, g, h] =>
    let s1 := rotr 14 e ^^^ rotr 18 e ^^^ rotr 41 e
    let ch := (e &&& f) ^^^ ((2 ^ 64 - 1 - e) &&& g)
    let t1 := h + s1 + ch + kw
    let s0 := rotr 28 a ^^^ rotr 34 a ^^^ rotr 39 a
    let maj := (a &&& b) ^^^ (a &&& c) ^^^ (b &&& c)
    [m64 (t1 + s0 + maj), a, b, c, m64 (d + t1), e, f, g]
  | _ => v

/-- A number from bytes, highest first. -/
def beNat (bs : List Byte) : Nat := bs.foldl (fun n b => n * 256 + b.toNat) 0

/-- The `n` big-endian 64-bit words of a block, newest first. -/
def shaWords : Nat → List Byte → List Nat → List Nat
  | 0, _, acc => acc
  | n + 1, bs, acc => shaWords n (bs.drop 8) (beNat (bs.take 8) :: acc)

def shaBlock (h : List Nat) (blk : List Byte) : List Nat :=
  let w := (shaExpand 64 (shaWords 16 blk [])).reverse
  let v := ((shaK1 ++ shaK2).zip w).foldl (fun v e => shaRound v (e.1 + e.2)) h
  (h.zip v).map fun e => m64 (e.1 + e.2)

def shaBlocks : Nat → List Nat → List Byte → List Nat
  | 0, h, _ => h
  | n + 1, h, bs => shaBlocks n (shaBlock h (bs.take 128)) (bs.drop 128)

/-- SHA-384 of a byte string, as a number. -/
def sha384 (bs : List Byte) : Nat :=
  let n := bs.length
  let pad := (239 - n % 128) % 128
  let msg := bs ++ 0x80#8 :: List.replicate pad 0 ++ (toBytes 16 (8 * n)).reverse
  ((shaBlocks (msg.length / 128) shaInit msg).take 6).foldl (fun a x => a * 2 ^ 64 + x) 0

/-! ### Curve P-384 -/

def p384 : Nat := 2 ^ 384 - 2 ^ 128 - 2 ^ 96 + 2 ^ 32 - 1
def n384 : Nat := 0xFFFFFFFFFFFFFFFFFFFFFFFFFFFFFFFFFFFFFFFFFFFFFFFFC7634D81F4372DDF581A0DB248B0A77AECEC196ACCC52973
def b384 : Nat := 0xB3312FA7E23EE7E4988E056BE3F82D19181D9C6EFE8141120314088F5013875AC656398D8A2ED19D2A85C8EDD3EC2AEF
def gx384 : Nat := 0xAA87CA22BE8B05378EB1C71EF320AD746E1D3B628BA79B9859F741E082542A385502F25DBF55296C3A545E3872760AB7
def gy384 : Nat := 0x3617DE4A96262C6F5D9E98BF9292DC29F8F41DBD289A147CE9DA3113B5F0B8C00A60B1CE1D7E819D7A431D7C90EA0E5F

/-- `b ^ e mod m`, over the low `k` bits of `e`. -/
def powMod (m b : Nat) : Nat → Nat → Nat
  | 0, _ => 1
  | k + 1, e =>
    let r := powMod m b k (e / 2)
    let q := r * r % m
    if e % 2 = 1 then q * b % m else q

def invMod (m a : Nat) : Nat := powMod m a 384 (m - 2)

/-- A point in Jacobian coordinates; Z = 0 is the point at infinity. -/
structure JPoint where
  x : Nat
  y : Nat
  z : Nat
  deriving DecidableEq, Repr

def subP (a b : Nat) : Nat := (a + p384 - b % p384) % p384
def mulP (a b : Nat) : Nat := a * b % p384

def JPoint.double (q : JPoint) : JPoint :=
  if q.z = 0 ∨ q.y = 0 then { x := 1, y := 1, z := 0 }
  else
    let zz := mulP q.z q.z
    let m := mulP 3 (mulP (subP q.x zz) (q.x + zz))
    let yy := mulP q.y q.y
    let s := mulP 4 (mulP q.x yy)
    let x := subP (mulP m m) (2 * s)
    { x, y := subP (mulP m (subP s x)) (8 * mulP yy yy), z := mulP 2 (mulP q.y q.z) }

def JPoint.add (a b : JPoint) : JPoint :=
  if a.z = 0 then b
  else if b.z = 0 then a
  else
    let z1 := mulP a.z a.z
    let z2 := mulP b.z b.z
    let u1 := mulP a.x z2
    let u2 := mulP b.x z1
    let s1 := mulP a.y (mulP b.z z2)
    let s2 := mulP b.y (mulP a.z z1)
    if u1 = u2 then (if s1 = s2 then a.double else { x := 1, y := 1, z := 0 })
    else
      let h := subP u2 u1
      let r := subP s2 s1
      let h2 := mulP h h
      let h3 := mulP h h2
      let v := mulP u1 h2
      let x := subP (subP (mulP r r) h3) (2 * v)
      { x, y := subP (mulP r (subP v x)) (mulP s1 h3), z := mulP h (mulP a.z b.z) }

/-- A multiple of a point, over the low `k` bits of the factor. -/
def JPoint.times (q : JPoint) : Nat → Nat → JPoint
  | 0, _ => { x := 1, y := 1, z := 0 }
  | k + 1, e =>
    let r := (q.times k (e / 2)).double
    if e % 2 = 1 then r.add q else r

def JPoint.affineX (q : JPoint) : Nat := let i := invMod p384 q.z; mulP q.x (mulP i i)

def onCurve (x y : Nat) : Bool := decide (x < p384) && decide (y < p384) && decide ((y * y + 3 * x) % p384 = (x * x * x + b384) % p384)

/-- The signature (r, s) of a message is valid against the public key (qx, qy). -/
def ecdsaOk (qx qy r s : Nat) (msg : List Byte) : Bool :=
  if r = 0 ∨ r ≥ n384 ∨ s = 0 ∨ s ≥ n384 ∨ !(onCurve qx qy) then false
  else
    let w := invMod n384 s
    let g : JPoint := { x := gx384, y := gy384, z := 1 }
    let q : JPoint := { x := qx, y := qy, z := 1 }
    let p := (g.times 384 (sha384 msg * w % n384)).add (q.times 384 (r * w % n384))
    p.z != 0 && p.affineX % n384 == r

/-- The 96-byte form of a signature: r, then s, each 48 bytes, highest byte first. -/
def signatureOk (qx qy : Nat) (sig msg : List Byte) : Bool := ecdsaOk qx qy (beNat (sig.take 48)) (beNat ((sig.drop 48).take 48)) msg

end Sys2Proof.Machine
end

