-- ==== Sys2Proof/Machine/Timer.lean ====
section
/-! DEFINITION. The one-shot event timers of the Whorl (R110). -/

namespace Sys2Proof.Machine

/-- The 16 timers: timer 0 is Twister's for cuts, the others are taken as units arm them. -/
def timerIndices : List Nat := (List.range 15).map (· + 1)

/-- Arm a timer for a use at `t`: not armed when `t` has passed or no timer is free, and counted. The answer says whether it is armed. -/
def State.armTimer (s : State) (t : Nat) (u : TimerUse) : State × Bool :=
  match timerIndices.find? fun i => (Tab.get s.whl.timers i).isNone with
  | some i =>
    if t ≤ s.ft then (s.bump Reg.WHL_EVT_LATE, false)
    else ({ s with whl := { s.whl with timers := Tab.set s.whl.timers i { t, use_ := u } } }, true)
  | none => (s.bump Reg.WHL_EVT_LATE, false)

/-- Disarm every timer of a use. -/
def State.disarm (s : State) (u : TimerUse) : State :=
  { s with whl := { s.whl with timers := s.whl.timers.filter fun e => e.2.use_ != u } }

/-- A timer of this use has come due: its T has been reached. -/
def State.timerDue (s : State) (u : TimerUse) : Option Nat :=
  (s.whl.timers.find? fun e => e.2.use_ == u && decide (e.2.t ≤ s.ft)).map (·.2.t)

end Sys2Proof.Machine
end

