-- ==== Sys2Proof/Machine/Deflate.lean ====
section
/-! DEFINITION. The DEFLATE engine (R639 to R652): expansion of a raw RFC 1951 stream with the errors of R646 and R647, and the compressed form of a segment (R640 to R642). -/

namespace Sys2Proof.Machine

/-! ### Expansion (R646) -/

/-- An error code of R646 and the stream bit offset at which it was found. -/
abbrev DErr := Nat × Nat

abbrev eSEG_HDR := 1
abbrev ePOISON := 2
abbrev eBTYPE_RSVD := 3
abbrev eSTORED_LEN := 4
abbrev eBAD_TABLE := 5
abbrev eILLEGAL_CODE := 6
abbrev eDIST_FAR := 7
abbrev eOUT_OVER := 8
abbrev eTRUNCATED := 9
abbrev eTRAILING := 10
abbrev eSHORT := 11
abbrev eCHECK := 12

/-- A stream as a number, its first bit least significant, and its length in bits. -/
structure BitS where
  val : Nat
  len : Nat
  deriving DecidableEq, Repr

def bitsOf (bs : List Byte) : BitS := { val := ofBytes bs, len := 8 * bs.length }

/-- The field of `n` bits at `pos`. -/
def BitS.take (b : BitS) (pos n : Nat) : Except DErr Nat :=
  if pos + n ≤ b.len then .ok (b.val / 2 ^ pos % 2 ^ n) else .error (eTRUNCATED, pos)

/-- A canonical Huffman code: how many codes each length 1 to 15 has, and the symbols in code order. -/
structure Huff where
  cnt : List Nat
  syms : List Nat
  deriving DecidableEq, Repr

def mkHuff (lens : List Nat) : Huff :=
  { cnt := (List.range 15).map fun l => lens.count (l + 1)
    syms := (List.range 15).flatMap fun l => (lens.zipIdx.filter (·.1 == l + 1)).map (·.2) }

/-- Code space left over: 0 for a complete code, negative for an over-subscribed one. -/
def Huff.left (h : Huff) : Int := (h.cnt.foldl (fun (a : Int × Int) (c : Nat) => (2 * a.1 - c, min a.2 (2 * a.1 - c))) (1, 1)).2
def Huff.spare (h : Huff) : Int := h.cnt.foldl (fun (a : Int) (c : Nat) => 2 * a - c) 1
def Huff.complete (h : Huff) : Bool := decide (0 ≤ h.left) && decide (h.spare = 0)

/-- Read one symbol: `code`, `first` and `index` follow the canonical order of lengths. -/
def Huff.read (h : Huff) (b : BitS) (start : Nat) : List Nat → Nat → Nat → Nat → Nat → Except DErr (Nat × Nat)
  | [], _, _, _, _ => .error (eILLEGAL_CODE, start)
  | c :: rest, code, first, index, pos =>
    if (c :: rest).all (· == 0) then .error (eILLEGAL_CODE, start)
    else if pos ≥ b.len then .error (eTRUNCATED, start)
    else
      let code := code + b.val / 2 ^ pos % 2
      if code < first + c then .ok (h.syms.getD (index + (code - first)) 0, pos + 1)
      else h.read b start rest (2 * code) (2 * (first + c)) (index + c) (pos + 1)

def Huff.sym (h : Huff) (b : BitS) (pos : Nat) : Except DErr (Nat × Nat) := h.read b pos h.cnt 0 0 0 pos

/-- Bases and extra bits of the length symbols 257 to 285 and of the distance symbols (RFC 1951). -/
def lenBase : List Nat := [3, 4, 5, 6, 7, 8, 9, 10, 11, 13, 15, 17, 19, 23, 27, 31, 35, 43, 51, 59, 67, 83, 99, 115, 131, 163, 195, 227, 258]
def lenExtra : List Nat := [0, 0, 0, 0, 0, 0, 0, 0, 1, 1, 1, 1, 2, 2, 2, 2, 3, 3, 3, 3, 4, 4, 4, 4, 5, 5, 5, 5, 0]
def distBase : List Nat := [1, 2, 3, 4, 5, 7, 9, 13, 17, 25, 33, 49, 65, 97, 129, 193, 257, 385, 513, 769, 1025, 1537, 2049, 3073, 4097, 6145, 8193, 12289, 16385, 24577]
def distExtra : List Nat := [0, 0, 0, 0, 1, 1, 2, 2, 3, 3, 4, 4, 5, 5, 6, 6, 7, 7, 8, 8, 9, 9, 10, 10, 11, 11, 12, 12, 13, 13]

/-- Copy `n` bytes from `d` back; the output is held newest first. -/
def copyBack : Nat → Nat → List Byte → List Byte
  | 0, _, out => out
  | n + 1, d, out => copyBack n d (out.getD (d - 1) 0 :: out)

/-- The symbols of one block up to its end-of-block code. Within one symbol, ILLEGAL_CODE comes before DIST_FAR and that before OUT_OVER (R647). -/
def inflateSyms : Nat → BitS → Huff → Huff → Nat → Nat → List Byte → Nat → Except DErr (Nat × List Byte × Nat)
  | 0, _, _, _, _, pos, _, _ => .error (eTRUNCATED, pos)
  | fuel + 1, b, lit, dist, rawlen, pos, out, n =>
    match lit.sym b pos with
    | .error e => .error e
    | .ok (x, p1) =>
      if x < 256 then
        if n + 1 > rawlen then .error (eOUT_OVER, pos)
        else inflateSyms fuel b lit dist rawlen p1 (BitVec.ofNat 8 x :: out) (n + 1)
      else if x = 256 then .ok (p1, out, n)
      else if x > 285 then .error (eILLEGAL_CODE, pos)
      else
        let eb := lenExtra.getD (x - 257) 0
        match b.take p1 eb with
        | .error e => .error e
        | .ok ev =>
          let len := lenBase.getD (x - 257) 0 + ev
          let p2 := p1 + eb
          match dist.sym b p2 with
          | .error e => .error e
          | .ok (y, p3) =>
            if y > 29 then .error (eILLEGAL_CODE, p2)
            else
              let db := distExtra.getD y 0
              match b.take p3 db with
              | .error e => .error e
              | .ok dv =>
                let d := distBase.getD y 0 + dv
                if d > n then .error (eDIST_FAR, p2)
                else if n + len > rawlen then .error (eOUT_OVER, pos)
                else inflateSyms fuel b lit dist rawlen (p3 + db) (copyBack len d out) (n + len)

/-- The order in which a dynamic header gives the lengths of the code length code. -/
def clOrder : List Nat := [16, 17, 18, 0, 8, 7, 9, 6, 10, 5, 11, 4, 12, 3, 13, 2, 14, 1, 15]

/-- The code length code's lengths, of which `n` are given from `pos`. -/
def readCl (b : BitS) : List Nat → Nat → Nat → List (Nat × Nat) → Except DErr (List Nat × Nat)
  | [], _, pos, acc => .ok ((List.range 19).map fun k => Tab.getD acc k 0, pos)
  | k :: ks, n, pos, acc =>
    match n with
    | 0 => .ok ((List.range 19).map fun k => Tab.getD acc k 0, pos)
    | n + 1 =>
      match b.take pos 3 with
      | .error e => .error e
      | .ok v => readCl b ks n (pos + 3) (Tab.set acc k v)

/-- The literal and distance code lengths, newest first, up to `total` of them. -/
def readLens : Nat → BitS → Huff → Nat → Nat → List Nat → Except DErr (List Nat × Nat)
  | 0, _, _, _, pos, acc => .ok (acc, pos)
  | fuel + 1, b, cl, total, pos, acc =>
    if acc.length ≥ total then .ok (acc, pos)
    else match cl.sym b pos with
      | .error e => .error e
      | .ok (x, p1) =>
        if x < 16 then readLens fuel b cl total p1 (x :: acc)
        else
          let eb := if x = 16 then 2 else if x = 17 then 3 else 7
          match b.take p1 eb with
          | .error e => .error e
          | .ok ev =>
            let n := if x = 18 then 11 + ev else 3 + ev
            if x = 16 ∧ acc.isEmpty then .error (eBAD_TABLE, pos)
            else if acc.length + n > total then .error (eBAD_TABLE, pos)
            else readLens fuel b cl total (p1 + eb) (List.replicate n (if x = 16 then acc.headD 0 else 0) ++ acc)

/-- A distance code may be complete, or define one code of length 1, or define none (RFC 1951). -/
def distOk (h : Huff) (lens : List Nat) : Bool :=
  h.complete || (h.cnt.headD 0 == 1 && sumN h.cnt == 1) || lens.all (· == 0)

/-- The codes of a dynamic block, whose header begins at `pos`. -/
def dynTables (b : BitS) (pos : Nat) : Except DErr (Huff × Huff × Nat) :=
  match b.take pos 5, b.take (pos + 5) 5, b.take (pos + 10) 4 with
  | .ok hl, .ok hd, .ok hc =>
    if hl > 29 then .error (eBAD_TABLE, pos)
    else if hd > 29 then .error (eBAD_TABLE, pos + 5)
    else match readCl b clOrder (hc + 4) (pos + 14) [] with
      | .error e => .error e
      | .ok (cls, p1) =>
        if !(mkHuff cls).complete then .error (eBAD_TABLE, pos + 14)
        else match readLens 320 b (mkHuff cls) (hl + 257 + hd + 1) p1 [] with
          | .error e => .error e
          | .ok (rev, p2) =>
            let all := rev.reverse
            let ll := all.take (hl + 257)
            let dl := all.drop (hl + 257)
            if ll.getD 256 0 = 0 ∨ !(mkHuff ll).complete ∨ !(distOk (mkHuff dl) dl) then .error (eBAD_TABLE, p1)
            else .ok (mkHuff ll, mkHuff dl, p2)
  | .error e, _, _ => .error e
  | _, .error e, _ => .error e
  | _, _, .error e => .error e

/-- The static codes of RFC 1951. -/
def staticLit : Huff := mkHuff (List.replicate 144 8 ++ List.replicate 112 9 ++ List.replicate 24 7 ++ List.replicate 8 8)
def staticDist : Huff := mkHuff (List.replicate 32 5)

/-- The bytes of a stored block. -/
def storedBytes (b : BitS) (rawlen : Nat) : Nat → Nat → List Byte → Nat → Except DErr (Nat × List Byte × Nat)
  | 0, pos, out, n => .ok (pos, out, n)
  | k + 1, pos, out, n =>
    match b.take pos 8 with
    | .error e => .error e
    | .ok v => if n + 1 > rawlen then .error (eOUT_OVER, pos) else storedBytes b rawlen k (pos + 8) (BitVec.ofNat 8 v :: out) (n + 1)

/-- One block after its header bits. -/
def inflateBlock (b : BitS) (btype rawlen pos : Nat) (out : List Byte) (n : Nat) : Except DErr (Nat × List Byte × Nat) :=
  match btype with
  | 0 =>
    let p := (pos + 7) / 8 * 8
    (match b.take p 16, b.take (p + 16) 16 with
    | .ok len, .ok nlen => if len + nlen ≠ 0xFFFF then .error (eSTORED_LEN, p + 16) else storedBytes b rawlen len (p + 32) out n
    | .error e, _ => .error e
    | _, .error e => .error e)
  | 1 => inflateSyms (b.len + 1) b staticLit staticDist rawlen pos out n
  | 2 =>
    (match dynTables b pos with
    | .error e => .error e
    | .ok (l, d, p) => inflateSyms (b.len + 1) b l d rawlen p out n)
  | _ => .error (eBTYPE_RSVD, pos - 2)

/-- Blocks up to the final one. -/
def inflateF : Nat → BitS → Nat → Nat → List Byte → Nat → Except DErr (Nat × List Byte × Nat)
  | 0, _, _, pos, _, _ => .error (eTRUNCATED, pos)
  | fuel + 1, b, rawlen, pos, out, n =>
    match b.take pos 3 with
    | .error e => .error e
    | .ok h =>
      match inflateBlock b (h / 2) rawlen (pos + 3) out n with
      | .error e => .error e
      | .ok (p, out', n') => if h % 2 = 1 then .ok (p, out', n') else inflateF fuel b rawlen p out' n'

/-- Expand one stream of `rawlen` bytes with their CRC-32 (R646, R647). -/
def expand (rawlen check : Nat) (bs : List Byte) : Except DErr (List Byte) :=
  let b := bitsOf bs
  match inflateF (b.len + 1) b rawlen 0 [] 0 with
  | .error e => .error e
  | .ok (p, out, n) =>
    if (p + 7) / 8 < bs.length then .error (eTRAILING, p)
    else if n < rawlen then .error (eSHORT, p)
    else if crcOf polyIeee out.reverse ≠ check then .error (eCHECK, p)
    else .ok out.reverse

/-! ### Compression (R640 to R643) -/

/-- Stored blocks of 65,535 bytes with the rest in a last block (R642). Fuel is the byte count. -/
def storedForm : Nat → List Byte → List Byte
  | 0, _ => []
  | fuel + 1, bs =>
    let last := decide (bs.length ≤ 65535)
    let d := bs.take 65535
    (BitVec.ofNat 8 (b2n last) :: toBytes 2 d.length) ++ toBytes 2 (65535 - d.length) ++ d ++
      (if last then [] else storedForm fuel (bs.drop 65535))

/-- The compressed stream of a segment, and whether it is its stored form: the compressor's own coding is open (assumption 2), so long as it expands to the segment and is no longer than the stored form. -/
def compress (tables block : Nat) (raw : List Byte) : List Byte × Bool :=
  let st := storedForm (raw.length + 1) raw
  let c := Config.deflateBytes tables block raw
  let ok := match expand raw.length (crcOf polyIeee raw) c with | .ok out => out == raw | .error _ => false
  if ok && decide (c.length ≤ st.length) then (c, false) else (st, true)

/-- A trace segment (R288): header, stream and padding, with the counts of R652. -/
def State.segment (s : State) (ft seq off : Nat) (raw : List Byte) : List Byte × State :=
  let c := compress (s.fget Reg.DFL_CTRL_TABLES) (s.fget Reg.DFL_CTRL_BLOCK) raw
  let hdr := [BitVec.ofNat 64 ft, BitVec.ofNat 64 (fld 32 0 seq + fld 17 32 raw.length), BitVec.ofNat 64 off,
    BitVec.ofNat 64 (fld 32 0 c.1.length + fld 32 32 (crcOf polyIeee raw))]
  let s1 := s.bump Reg.DFL_CSTAT_SEGMENTS
  let s2 := if c.2 then s1.bump Reg.DFL_CSTAT_STORED else s1
  (wordsBytes hdr ++ padTo 8 c.1, (s2.fadd Reg.DFL_RAWBYTES_BYTES raw.length).fadd Reg.DFL_CBYTES_BYTES c.1.length)

/-- Expand a stored segment: its raw bytes, or the error counted under R648. -/
def State.expandSegment (s : State) (poison : Bool) (seg : List Byte) : Except DErr (List Byte) × State :=
  let rawlen := bits (wordAt seg 1) 48 32
  let clen := bits (wordAt seg 3) 31 0
  let r : Except DErr (List Byte) :=
    if rawlen % 8 ≠ 0 ∨ rawlen < 8 ∨ rawlen > 65536 ∨ clen > seg.length - 32 then .error (eSEG_HDR, 0)
    else if poison then .error (ePOISON, 0)
    else expand rawlen (bits (wordAt seg 3) 63 32) ((seg.drop 32).take clen)
  match r with
  | .ok out =>
    (r, ((s.bump Reg.DFL_DSTAT_EXPANDED).fadd Reg.DFL_RAWBYTES_BYTES out.length).fadd Reg.DFL_CBYTES_BYTES clen)
  | .error (c, pos) =>
    (r, (((s.bump (Reg.DFL_ERRCNT_COUNT.at c)).bump Reg.DFL_DSTAT_FAILED).fset Reg.DFL_LASTERR_CODE c).fset Reg.DFL_LASTERR_BITPOS (min pos 0xFFFFF))

end Sys2Proof.Machine
end

