-- ==== Sys2Proof/Machine/Session.lean ====
section
/-! DEFINITION. Session commands and events (R295 to R324): opening, starting, stopping, closing and querying sessions, vector records of child Leaves, and batch deadlines. -/

namespace Sys2Proof.Machine

/-! ### SESS_OPEN (R296, R300 to R303) -/

def readFeat (w : W32) : Feat := { pos := bits w 12 0, fmt := bits w 15 13, src := bit w 16, group := bits w 21 17 }

/-- A feature entry of a block is legal for its source. -/
def featOk (child : Bool) (w : W32) : Bool :=
  let f := readFeat w
  bits w 31 22 == 0 && (if child then f.fmt == 5 && decide (f.pos ≤ 1023) else decide (f.fmt ≤ 4)) && (!f.src || f.fmt == 0 || f.fmt == 4)

/-- The header fields of a session block are legal for the build. -/
def headerOk (b : Build) (w0 w2 w3 : W64) : Bool :=
  let src := bits w0 1 0
  let fu := bits w0 42 32
  decide (src = if b.isHub then 1 else 0) && decide (bits w0 15 13 ≤ 3) && (fu == 0 || (!b.isHub && decide (0x100 ≤ fu))) &&
    (src != 1 || decide (bits w0 9 6 ≤ 11)) && bits w0 47 43 == 0 && w2 == 0 && w3 == 0

/-- Sessions of the block, those closed but still in evaluation apart. -/
def State.openSess (s : State) : Tab Sess := s.crd.filter fun e => decide (e.1 < closedKey)
/-- Open sessions of a slice. -/
def State.openOf (s : State) (n : Nat) : Nat := (s.openSess.filter fun e => e.2.slice == n).length
/-- The slice holds more open sessions than its quota (R182). -/
def State.overQuota (s : State) (n : Nat) : Bool := decide (s.openOf n > s.fget (Reg.SLC_QUOTA_QUOTA.at n))
def keyStore (b : Build) : Nat := if b.isHub then 1048576 else 16384

def State.sessOpen (s : State) (r : Running) : State :=
  let count := r.d.count.toNat
  let len := r.d.len.toNat
  s.checked r { zero := decide (count = 0 ∨ len = 0), tooLong := decide (count > 1024) || decide (len < 32 + 4 * count), reads := true } fun s =>
    let bs := s.operand r
    let w := wordAt bs
    let es := (List.range count).map fun i => w32At bs (8 + i)
    let child := s.build.isHub
    if !headerOk s.build (w 0) (w 2) (w 3) then s.complete r stBAD_FIELD 0xFFFFFF r.d.session.toNat
    else match es.findIdx? fun e => !featOk child e with
      | some i => s.complete r stBAD_FIELD i r.d.session.toNat
      | none =>
        let x : Sess := { state := ssOPEN, slice := r.slice, word0 := w 0, word1 := w 1, feats := es.map readFeat }
        s.guarded r [(decide (s.openOf r.slice ≥ s.fget (Reg.SLC_QUOTA_QUOTA.at r.slice)), stNO_RESOURCE),
          (decide (s.keysUsed + x.keyShare > keyStore s.build), stNO_RESOURCE),
          (child && s.openSess.any (fun e => e.2.isChild && e.2.tag == x.tag), stSTATE)] fun s =>
            match Tab.lowestFree s.crd (nSessions s.build) with
            | some n => (s.setSess n x).complete r stOK 0 n
            | none => s.fail r stNO_RESOURCE

/-- SESS_OPEN (R300). -/
def execSessOpen (src : Src) (d : Desc) (b : Bus) (s : State) : Host.Outcome State Fault Refusal :=
  act s (s.command (.sessOpen src d b) src d b 0x01 .h false State.sessOpen)

/-! ### SESS_CLOSE (R298) -/

/-- A session closes. One with a vector in evaluation is kept aside until that ends. -/
def State.closeSession (s : State) (n : Nat) : State :=
  let s1 := ((s.dropPending n).releaseResv n).unbindSource n
  match s1.sess n with
  | none => s1
  | some x =>
    let busy := s1.dst.evals.any fun e => e.sess == n
    let s2 := { s1 with crd := Tab.del s1.crd n }
    let aside := ((List.range (s2.crd.length + 1)).map fun i => closedKey * (i + 1) + n).find? fun k => (s2.sess k).isNone
    let s3 := match busy, aside with
      | true, some k =>
        let z : Sess := { x with state := 0, feats := [], model := none, resv := none, pend := [], gather := none, early := [] }
        (s2.setSess k z).mapEvals fun l => l.map fun (e : Eval) => if e.sess = n then { e with sess := k } else e
      | _, _ => s2
    (if x.isChild then s3 else s3.checkBound x.set_).kick

/-- SESS_CLOSE (R298). -/
def State.sessClose (s : State) (r : Running) : State :=
  s.checked r { sess := some (s.ownSess r).isSome } fun s => (s.closeSession r.d.session.toNat).completeOk r 0

/-- SESS_CLOSE (R298). -/
def execSessClose (src : Src) (d : Desc) (b : Bus) (s : State) : Host.Outcome State Fault Refusal :=
  act s (s.command (.sessClose src d b) src d b 0x02 .h true State.sessClose)

/-! ### SESS_START and SESS_STOP (R304) -/

/-- A generator names a sample generator: a sample set runs. -/
def State.samples (s : State) (g : Nat) : Bool :=
  match (Tab.getD s.whl.gens g {}).run with | some r => r.kind == 1 | none => false

/-- The session as it starts: counts since the start, and no previous keys (R315, R323). -/
def Sess.started (x : Sess) (ft : Nat) : Sess :=
  { x with state := ssSTARTING, startFt := ft, stopFt := 0, built := 0, vectors := 0, trigFt := none,
           members := x.members.map fun e => (e.1, { e.2 with keys := none, lastFt := none }) }

def State.sessStart (s : State) (r : Running) : State :=
  let n := r.d.session.toNat
  let t := r.d.arg1.toNat
  s.checked r { sess := some (s.ownSess r).isSome } fun s =>
    match s.sess n with
    | none => s.fail r stBAD_SESSION
    | some x =>
      s.guarded r [(s.late t, stLATE), (x.state != ssOPEN, stSTATE), ((s.modelOf x).isNone, stSTATE)] fun s =>
        match (if x.isChild then none else x.feats.findIdx? fun f => decide (f.pos ≥ s.fget (Reg.REEL_SETSTAT_COUNT.at x.set_))) with
        | some i => s.complete r stBAD_FIELD i n
        | none =>
          s.guarded r [(!s.samples (s.sessGen x) || (!x.isChild && !s.flag (Reg.REEL_SET_EN.at x.set_)), stSTATE)] fun s =>
            let s1 := s.setSess n (x.started t)
            (if x.isChild then s1 else s1.fset (Reg.REEL_SETSTAT_BOUND.at x.set_) 1).completeOk r 0

/-- SESS_START (R304). -/
def execSessStart (src : Src) (d : Desc) (b : Bus) (s : State) : Host.Outcome State Fault Refusal :=
  act s (s.command (.sessStart src d b) src d b 0x05 .h true State.sessStart)

def State.sessStop (s : State) (r : Running) : State :=
  let n := r.d.session.toNat
  let t := r.d.arg1.toNat
  s.checked r { sess := some (s.ownSess r).isSome } fun s =>
    match s.sess n with
    | none => s.fail r stBAD_SESSION
    | some x =>
      s.guarded r [(s.late t, stLATE), (!(x.state == ssSTARTING || x.state == ssRUNNING), stSTATE)] fun s =>
        if x.state = ssSTARTING ∧ t ≤ x.startFt then
          let s1 := s.setSess n { x with state := ssOPEN }
          (if x.isChild then s1 else s1.checkBound x.set_).completeOk r 0
        else (s.setSess n { x with state := ssSTOPPING, stopFt := t }).completeOk r 0

/-- SESS_STOP (R297). -/
def execSessStop (src : Src) (d : Desc) (b : Bus) (s : State) : Host.Outcome State Fault Refusal :=
  act s (s.command (.sessStop src d b) src d b 0x06 .h true State.sessStop)

/-- STOP_FT_REACHED (R297). -/
def execStopFtReached (session : Nat) (s : State) : Host.Outcome State Fault Refusal := act s (s.stopCheck session)

/-! ### SESS_QUERY (R323, R324) -/

/-- `CRD_SSTATE` of a session. -/
def sstateWord (x : Sess) : W32 :=
  BitVec.ofNat 32 (fld 3 0 x.state + b2 x.admitted 3 + fld 3 4 x.vecClass + fld 6 8 x.slice + fld 11 16 x.nfeat)
def snanWord (x : Sess) : W32 := BitVec.ofNat 32 (fld 16 0 x.nanN + fld 16 16 x.suppN)
def smissWord (x : Sess) : W32 := BitVec.ofNat 32 (fld 16 0 x.missN + fld 16 16 x.lateN)

/-- The 64 bytes of a session's entry. -/
def State.sessEntry (s : State) (n : Nat) : List Byte :=
  let w := fun (v : Nat) => toBytes 4 v
  (match s.sess n with
  | some x =>
    w (sstateWord x).toNat ++ w x.vectors ++ w (snanWord x).toNat ++ w (smissWord x).toNat ++ w x.mask.toNat ++ w n ++
      toBytes 8 x.word0.toNat ++ w x.nanKey.toNat ++ w (x.model.getD 0)
  | none => List.replicate 20 0 ++ w n ++ List.replicate 16 0) ++ List.replicate 24 0

def State.sessQuery (s : State) (r : Running) : State :=
  let len := r.d.len.toNat
  let n := r.d.session.toNat
  let sess := if r.isMgmt then none else some (s.ownSess r).isSome
  s.checked r { sess, zero := decide (len = 0), tooLong := decide (len < 64) } fun s =>
    let ids := if r.isMgmt then ((List.range (nSessions s.build)).drop (bits r.d.arg0 11 0)).take (len / 64) else [n]
    s.finish r (ids.flatMap s.sessEntry) (64 * ids.length)

/-- SESS_QUERY (R324). -/
def execSessQuery (src : Src) (d : Desc) (b : Bus) (s : State) : Host.Outcome State Fault Refusal :=
  act s (s.command (.sessQuery src d b) src d b 0x07 .hm true State.sessQuery)

/-! ### CHILD sessions (R317 to R320) -/

/-- Keys of a vector record, two to a word. -/
def readKeys : List W64 → List Key
  | [] => []
  | w :: t => BitVec.ofNat 32 (bits w 31 0) :: BitVec.ofNat 32 (bits w 63 32) :: readKeys t

/-- The NaN mask of a vector record. -/
def readMask (ws : List W64) (n : Nat) : List Bool := (List.range n).map fun i => bit (ws.getD (i / 64) 0) (i % 64)

def readVector (ws : List W64) : ChildRec :=
  let w := fun i => ws.getD i 0
  let n := bits (w 2) 10 0
  let kw := ceilDiv n 2
  { ft := (w 0).toNat, origin := BitVec.ofNat 48 (bits (w 1) 47 0), locked := bit (w 2) 15, gap := bit (w 2) 12, first := bit (w 2) 11,
    off := bit (w 2) 14, full := bit (w 2) 16, keys := (readKeys ((ws.drop 4).take kw)).take n, nans := readMask (ws.drop (4 + kw)) n, covers := [] }

/-- NFEAT agrees with the size of the record. -/
def vectorWhole (ws : List W64) : Bool :=
  let n := bits (ws.getD 2 0) 10 0
  decide (1 ≤ n ∧ n ≤ 1024) && decide (ws.length = 4 + ceilDiv n 2 + ceilDiv n 64)

/-- The open CHILD session that takes a record's TAG. -/
def State.childOf (s : State) (tag : Nat) : Option Nat :=
  (s.openSess.find? fun e => e.2.isChild && e.2.tag == tag).map (·.1)

/-- A vector record reaches a Hub. -/
def State.takeVector (s : State) (m : Msg) : State :=
  let k := m.seqs.length
  match s.childOf (bits (m.words.getD 1 0) 63 48) with
  | none => s.ledDrop 8 m.port 1 k
  | some n =>
    let s1 := (s.rxPass m.port k).led 3 0 .inn 1
    if s1.carderFenced then s1.ledDrop 3 0 rsnFENCED 1
    else if !vectorWhole m.words then s1.ledDrop 3 0 4 1
    else (s1.childRecord n (readVector m.words)).gotWork n

/-- VECTOR (R318). -/
def execVector (p : Nat) (f : Frame) (s : State) : Host.Outcome State Fault Refusal :=
  act s (match s.rx p 0x10 f with
  | (s1, some m) => s1.takeVector m
  | (s1, none) => s1)

/-- The deadline of a CHILD batch passes (R319). -/
def State.batchExpiry (s : State) (n : Nat) : State :=
  match s.sess n with
  | some x =>
    match x.gather with
    | some g => if x.collect = 0 ∨ s.ft < g.ft + 4 * x.collect ∨ s.carderFenced then s else ((s.closeBatch n).gotWork n).stopCheck n
    | none => s
  | none => s

/-- BATCH_COLLECT_EXPIRY (R319). -/
def execBatchCollectExpiry (session : Nat) (s : State) : Host.Outcome State Fault Refusal := act s (s.batchExpiry session)

/-- A sample trigger of a CHILD session's generator: the batch that still gathers closes when no deadline rules it, and the next one opens with the records that came early (R319). -/
def State.childTrigger (s : State) (n ft : Nat) : State :=
  match s.sess n with
  | none => s
  | some x0 =>
    let s0 := match x0.gather with
      | some g => if x0.collect = 0 ∨ g.ft + 4 * x0.collect ≤ ft then s.closeBatch n else s
      | none => s
    match s0.sess n with
    | none => s0
    | some x =>
      if !(x.takes ft) || s0.carderFenced then s0
      else
        let w := s.windowOf x.gen
        let mine := x.early.filter fun r => w r.ft == w ft
        let old := x.early.filter fun r => decide (w r.ft < w ft)
        let s1 := match x.gather with
          | some _ => s0.closeBatch n
          | none => s0
        let s2 := s1.modSess n fun (y : Sess) => { y with early := y.early.filter (fun r => decide (w ft < w r.ft)), gather := some { ft, recs := [] }, trigFt := some ft }
        let s3 := old.foldl (fun s r => s.buildBatch n r.ft [r] true) s2
        (mine.foldl (fun s r => match s.sess n with
          | some y => (match y.gather with | some g => s.addRecord n y g r | none => s.buildBatch n r.ft [r] true)
          | none => s) s3).gotWork n

/-- A sample trigger moves the sessions of its generator: STARTING ones enter RUNNING, and CHILD batches turn over (R297, R319). -/
def State.sessTrigger (s : State) (g ft : Nat) : State :=
  let ids := (s.crd.filter fun e => s.sessGen e.2 == g).map (·.1)
  ids.foldl (fun s n =>
    match s.sess n with
    | some x =>
      let s1 := if x.state = ssSTARTING ∧ x.startFt ≤ ft then s.setSess n { x with state := ssRUNNING } else s
      (if x.isChild then s1.childTrigger n ft else s1).stopCheck n
    | none => s) s

end Sys2Proof.Machine
end

