-- ==== Sys2Proof/Machine/Readout.lean ====
section
/-! DEFINITION. The end of a strobe's read-out (R230): samples pass to Carder, vectors and contributions are built, schedules dump (R313, R401, R446, R455). -/

namespace Sys2Proof.Machine

/-! ### Contributions (R398, R401 to R404) -/

/-- A lane's input: the feature, its sample entry, key and NaN flag. -/
structure Lane where
  feat : Feat
  entry : SampEntry
  key : Key
  nan : Bool

/-- Raw entry of a SUM or SPARSE lane. -/
def Lane.raw (l : Lane) : Int := if l.feat.fmt = 1 then sext 48 l.entry.value else featIn l.feat l.entry

/-- The bin of a HIST key: edges at or below it. -/
def binOf (edges : List Nat) (k : Nat) : Nat := (edges.filter (· ≤ k)).length

/-- Bin counts of one key, then the NaN count, 4 bytes each. -/
def histPayload (n : Nat) (edges : List Nat) (l : Option Lane) : List W64 :=
  let hot := match l with | some x => if x.nan then n else binOf edges x.key.toNat | none => n + 1
  bytesWords ((List.range (n + 1)).flatMap fun i => toBytes 4 (if i = hot then 1 else 0))

/-- The payload of a Leaf's contribution in summary form. `free` stands where a lane is empty. -/
def leafPayload (b : Source) (origin : Hank) (free : W64) (ls : List Lane) : List W64 :=
  match b.op with
  | 1 => ls.map fun l => if l.nan then 0 else BitVec.ofInt 64 l.raw
  | 4 => histPayload b.n b.edges ls.head?
  | 6 => (ls.zipIdx.filter fun e => !e.1.nan && e.1.raw != 0).flatMap fun e => [BitVec.ofNat 64 e.2, BitVec.ofInt 64 e.1.raw]
  | 5 => (match ls.head? with
    | some l => sketchWords (if l.nan then Sketch.empty else Sketch.single l.key.toNat)
    | none => sketchWords Sketch.empty)
  | _ => ls.flatMap fun l =>
      if l.nan then [BitVec.ofNat 64 (bits free 31 0), BitVec.ofNat 64 (bits free 47 0)] else [BitVec.ofNat 64 (l.key.toNat + 2 ^ 32), BitVec.ofNat 64 origin.toNat]

/-- The single form of R401. -/
def singleWords (b : Source) (ft : Nat) (origin : Hank) (locked : Bool) (l : Lane) : List W64 :=
  let val : W64 := if l.nan then 0 else if b.op = 1 then BitVec.ofInt 64 l.raw else BitVec.ofNat 64 l.key.toNat
  [BitVec.ofNat 64 ft, BitVec.ofNat 64 (fld 16 0 b.rid + fld 4 16 b.op + fld 3 21 b.final + b2 locked 27 + b2 l.nan 29),
   BitVec.ofNat 64 origin.toNat, val]

/-- The lanes of a source: its features from FIRST on; HIST and SKETCH read FIRST alone. -/
def sourceLanes (b : Source) (x : Sess) (v : Vec) (sm : Sample) : List Lane :=
  let k := if b.op = 4 ∨ b.op = 5 then 1 else b.n
  ((List.range k).map (b.first + ·)).filterMap fun i =>
    match x.feats[i]? with
    | some f => some { feat := f, entry := sampAt sm f.pos, key := v.keys.getD i 0, nan := v.nans.getD i false }
    | none => none

/-- The words of a contribution (R401, R402). -/
def State.contribution (s : State) (b : Source) (x : Sess) (v : Vec) (sm : Sample) : List W64 :=
  let ls := sourceLanes b x v sm
  let origin := s.unit 0
  match ls, decide (b.n = 1 ∧ b.op ∈ [1, 2, 3, 5]) with
  | [l], true => singleWords b v.ft origin v.locked l
  | _, _ =>
    let i : RItem :=
      { ft := v.ft, rid := b.rid, op := b.op, final := b.final, n := b.n, sat := false, locked := v.locked, unknown := false,
        group := truncPlace 6 s.self, depth := 6, cover := 0, contrib := 1, missing := 0, nan := (ls.filter (·.nan)).length,
        payload := leafPayload b origin (Config.freeWord s.fresh) ls }
    summaryWords i false false false

/-- A session's contribution is built and sent; its key goes to the session's rank rule. -/
def State.contribute (s : State) (n : Nat) (x : Sess) (v : Vec) (sm : Sample) : State :=
  match Tab.get s.tws.sources n with
  | none => s
  | some b =>
    if !s.flag Reg.TWS_CTRL_EN || s.isFenced 0xB then s
    else
      let ws := s.contribution b x v sm
      let s1 := ({ s with fresh := s.fresh + 1 }.led 0x0A 0 .inn 1).sendSess n 0x11 x.vecClass 0 ws
      match (sourceLanes b x v sm).head? with
      | some l => s1.rankKey n v.ft (if l.nan then none else some l.key) v.locked
      | none => s1

/-! ### Vectors (R313 to R317, R321) -/

/-- Build one session's vector of a sample, with its vector record and contribution. -/
def State.buildReel (s : State) (n : Nat) (sm : Sample) (bad : Bool) : State :=
  match s.sess n with
  | none => s
  | some x =>
    let r := s.buildVec x 0 (reelRaw s x sm) bad
    let v := r.1
    let x1 : Sess := { r.2 with pend := r.2.pend ++ [{ ft := sm.ft, vecs := [v] }], storeN := r.2.storeN + b2n bad }
    let s1 := s.setSess n x1
    let s2 := if bad then s1.raise fSTORE 0 (s.unit 8) n else s1
    let s3 := if x.exports then s2.sendSess n 0x10 x1.vecClass 0 (vectorRecord x1 n v) else s2
    (s3.contribute n x1 v sm).gotWork n

/-- A sample arrives at Carder (R321, R379). -/
def State.carderSample (s : State) (set_ : Nat) (sm : Sample) (bad : Nat → Bool) : State :=
  let s1 := s.led 3 0 .inn 1
  if s.carderFenced then s1.ledDrop 3 0 rsnFENCED 1
  else
    let all := s.readersOf set_ sm.ft
    let room := all.filter fun n => match s.sess n with | some x => decide (x.pend.length < s.pendLimit) | none => false
    let skipped := all.filter fun n => !room.contains n
    let s2 := skipped.foldl (fun s n => s.modSess n fun x => { x with skipN := x.skipN + 1 }) s1
    let s3 := if room.isEmpty then s2.led 3 0 .out 1 else if room.length = 1 then s2 else s2.led 3 0 .copy (room.length - 1)
    all.foldl State.stopCheck (room.foldl (fun s n => s.buildReel n sm (bad n)) s3)

/-! ### The read-out ends (R230 to R234) -/

/-- Pass the sample of one set on: to Carder and its dump schedule, or into the cut that asked for it. -/
def State.passSample (s : State) (r : Readout) (q : RdSet) (vals : List (Nat × Nat × W64)) (bad : Nat → Bool) : State :=
  let sm := s.sampleOf r q vals
  let s := { s with fresh := s.fresh + q.sels.length }
  let x := s.rset q.set_
  if q.opening then (if q.stale then s else s.setRset q.set_ (x.opened r q.sels vals sm))
  else match r.cut with
  | some k =>
    let s1 := s.led 1 0 .out 1
    (match s1.tws.cut with
    | some c => if c.req.lnum = k then { s1 with tws := { s1.tws with cut := some { c with dumps := c.dumps ++ [(q.set_, q.sels, sm)] } } } else s1
    | none => s1)
  | none =>
    let s1 := if q.stale then s else s.setRset q.set_ (x.after r q.sels vals sm)
    let s2 := (s1.led 1 0 .out 1).bump (Reg.REEL_SETSTAT_SAMPLES.at q.set_)
    (s2.periodic q.set_ q.sels sm).carderSample q.set_ sm bad

/-- The counter whose read failed its parity check twice, in read order. -/
def failedRead (r : Readout) (vals : List (Nat × Nat × W64)) : Option Nat :=
  (ringReads r.sets).find? fun id => vals.any fun e => e.1 == id && e.2.1 == 2

/-- The oldest read-out ends. `vals` gives each ring counter read, by its raw selector: 0 good, 1 off, 2 parity failed, and the value; an entry 0x10000 + session with 1 marks a parity error in that session's previous keys. -/
def State.readoutDone (s : State) (vals : List (Nat × Nat × W64)) : State :=
  match s.reel.reads with
  | [] => s
  | r :: rest =>
    if s.stopped then s
    else
      let s1 := s.setReads rest
      let bad := fun (n : Nat) => vals.any fun e => e.1 == 0x10000 + n && e.2.1 == 1
      match failedRead r vals with
      | some id =>
        let n := (r.sets.filter fun q => !q.opening).length
        (if n = 0 then s1 else s1.ledDrop 1 0 rsnPOISON n).raise fPOISON 0 (s.unit 6) (rawInfo id)
      | none => r.sets.foldl (fun s q => s.passSample r q vals bad) s1

/-- REEL_READOUT_DONE (R230). -/
def execReelReadoutDone (vals : List (Nat × Nat × W64)) (s : State) : Host.Outcome State Fault Refusal := act s (s.readoutDone vals)

end Sys2Proof.Machine
end

