-- ==== Sys2Proof/Machine/Trace.lean ====
section
/-! DEFINITION. The Trace unit (R260 to R294): items, comparators and gates, the local buffers and the Flyer, triggers, draining, and the Hub's archive. -/

namespace Sys2Proof.Machine

/-! ### Sources -/

def State.nTrace (s : State) : Nat := min 32 (s.fget Reg.TRC_SIZES_SOURCES)
/-- The Trace unit or its Flyer is fenced, or the block has stopped (R511, R515). -/
def State.traceOff (s : State) : Bool := s.build.isHub || s.stopped || s.isFenced 7 || s.isFenced 0x15
def State.gateOpen (s : State) (i : Nat) : Bool := s.flag (Reg.TRC_SRCSTAT_GATE.at i)

/-- The sync interval of R75 in ticks. -/
def State.syncIvl (s : State) : Nat := 500000 * 2 ^ s.fget Reg.WHL_CTRL_SYNC_IVL

/-- Every trace stream needs a sync point before its next packet (R74, R92). -/
def State.traceResync (s : State) : State :=
  { s with trc := { s.trc with srcs := Tab.mapV (fun _ x => { x with lastSync := none }) s.trc.srcs } }

def bufBytes (x : TrSrc) : Nat := sumN (x.buf.map pktBytes)

/-- The payload words that an item of each type carries, for the types a source may deliver (R261, R266). -/
def itemLen (typ : Nat) : Option Nat :=
  match typ with
  | 1 => some 3
  | 2 => some 1
  | 3 => some 1
  | 4 => some 2
  | 5 => some 1
  | 6 => some 2
  | 7 => some 0
  | _ => none

def itemOk (ws : List W64) : Bool :=
  match ws with
  | [] => false
  | h :: t => (match itemLen (bits h 3 0) with | some n => bits h 11 9 == n && t.length == n | none => false)

/-- The packet that an item becomes: SOURCE, LOCKED and CT filled in, and the full FT of a SYNC (R261, R266). -/
def State.itemPacket (s : State) (i : Nat) (ws : List W64) : List W64 :=
  let h := ws.headD 0
  let typ := bits h 3 0
  let info := bits h 23 16
  if typ = 1 then
    pktHeader 1 i 3 s.locked (info % 4 + 4) s.ct :: BitVec.ofNat 64 s.ft :: ws.drop 2
  else pktHeader typ i (bits h 11 9) s.locked info s.ct :: ws.drop 1

/-- A SYNC that the unit writes: with an instruction address, or with free words where it has none (R267, R271, R283). -/
def State.unitSync (s : State) (i : Nat) (addr : Option W64) (ctx : Option W64) (wake fromSrc locked : Bool) (ft : Nat) : List W64 × State :=
  let f1 := s.freeWord
  let f2 := f1.2.freeWord
  ([pktHeader 1 i 3 locked (b2n addr.isSome + b2 wake 1 + b2 fromSrc 2) (ft % 2 ^ 40), BitVec.ofNat 64 ft, addr.getD f1.1, ctx.getD f2.1], f2.2)

/-! ### Local buffers (R264, R280, R281) -/

/-- Drop a packet of a source under TRACE_PRIO, and count it for its next DROP packet. -/
def State.dropPrio (s : State) (i : Nat) : State :=
  let x := s.trSrc i
  let s1 := ((s.led 2 i .inn 1).ledDrop 2 i 0xC 1).bump (Reg.TRC_SRCSTAT_DROPPED.at i)
  s1.setTrSrc i { x with dropN := x.dropN + 1, dropCt := if x.dropN = 0 then s.ct else x.dropCt }

/-- Put a packet into the local buffer of a source, or drop it where it finds no room. -/
def State.bufPut (s : State) (i : Nat) (ws : List W64) : State :=
  let x := s.trSrc i
  if bufBytes x + pktBytes ws ≤ 4096 then (s.led 2 i .inn 1).setTrSrc i { x with buf := x.buf ++ [ws] }
  else s.dropPrio i

/-- The DROP packet of a source. -/
def State.dropPacket (s : State) (i : Nat) (x : TrSrc) : List W64 :=
  [pktHeader 8 i 1 s.locked 0xC x.dropCt, BitVec.ofNat 64 (min x.dropN 0xFFFFFFFF)]

/-- A source that has dropped packets and has room for 16 bytes takes its DROP packet and is asked for a SYNC (R281). -/
def State.placeDrop (s : State) (i : Nat) : State :=
  let x := s.trSrc i
  if x.dropN ≠ 0 ∧ !x.awaitSync ∧ bufBytes x + 16 ≤ 4096 then
    ((s.led 2 i .inn 1).setTrSrc i { x with buf := x.buf ++ [s.dropPacket i x], dropN := 0, awaitSync := true }).emit (.syncReq i)
  else s

/-- Whether a source takes packets now: it still counts drops, or waits for its SYNC answer (R281). -/
def State.trcTakes (s : State) (i : Nat) (isSync : Bool) : Bool :=
  let x := s.trSrc i
  if x.awaitSync then isSync else x.dropN == 0

/-- The SYNC answer ends the wait, after a DROP packet with what was dropped meanwhile. -/
def State.syncAnswer (s : State) (i : Nat) : State :=
  let x := s.trSrc i
  if !x.awaitSync then s
  else if x.dropN ≠ 0 ∧ bufBytes x + 48 ≤ 4096 then
    (s.led 2 i .inn 1).setTrSrc i { x with buf := x.buf ++ [s.dropPacket i x], dropN := 0, awaitSync := false }
  else s.setTrSrc i { x with awaitSync := false }

/-- A packet of a source, on its way to the local buffer. -/
def State.offerPacket (s : State) (i : Nat) (ws : List W64) : State :=
  let sync := pktType ws == 1
  let s1 := s.placeDrop i
  if s1.trcTakes i sync then (if sync then s1.syncAnswer i else s1).bufPut i ws else s1.dropPrio i

/-! ### Comparators (R269, R270) -/

/-- The address that a comparator of a KIND sees in an item. -/
def itemAddr (kind : Nat) (ws : List W64) : Option Nat :=
  let h := ws.headD 0
  let w := fun i => (ws.getD i 0).toNat
  match bits h 3 0 with
  | 1 => if kind = 0 ∧ bit h 16 then some (w 2) else none
  | 3 => if kind = 0 then some (w 1) else none
  | 6 => if kind = 0 then some (w 1) else none
  | 4 => if kind = 3 ∨ (kind = 1 ∧ !(bit h 18)) ∨ (kind = 2 ∧ bit h 18) then some (w 1) else none
  | _ => none

def State.cmpAddr (s : State) (c : Nat) : Nat := s.fget (Reg.TRC_CMP_ADDR.at c)
def State.cmpRange (s : State) (c : Nat) : Bool := c % 2 == 0 && s.flag (Reg.TRC_CMP_CTRL_RANGE.at c)
/-- The action of a comparator; the odd one of a range takes none. -/
def State.cmpAction (s : State) (c : Nat) : Nat :=
  if c % 2 = 1 ∧ s.cmpRange (c - 1) then 0 else s.fget (Reg.TRC_CMP_CTRL_ACTION.at c)

def State.cmpNames (s : State) (c i : Nat) : Bool := bit (s.regGet (Reg.TRC_CMP_SRC_SRC.at c).addr) i

/-- Comparator `c` matches an item of source `i`. -/
def State.cmpMatch (s : State) (c i : Nat) (ws : List W64) : Bool :=
  s.cmpNames c i && (match itemAddr (s.fget (Reg.TRC_CMP_CTRL_KIND.at c)) ws with
    | some a =>
      if s.cmpRange c then decide (s.cmpAddr c ≤ a) && decide (a < s.cmpAddr (c + 1))
      else a / 2 ^ s.fget (Reg.TRC_CMP_CTRL_IGN.at c) == s.cmpAddr c / 2 ^ s.fget (Reg.TRC_CMP_CTRL_IGN.at c)
    | none => false)

/-- The comparators of an action that match an item. -/
def State.cmpsOf (s : State) (action i : Nat) (ws : List W64) : List Nat :=
  (List.range 16).filter fun c => s.cmpAction c == action && s.cmpMatch c i ws

def State.gatePacket (s : State) (i c : Nat) (opened : Bool) : List W64 :=
  [pktHeader 0xA i 0 s.locked (fld 4 0 c + b2 opened 4) s.ct]

/-! ### Items (R261, R270 to R272) -/

/-- START comparators open the gate of the item's source. -/
def State.gateStart (s : State) (i : Nat) (ws : List W64) : State :=
  match s.cmpsOf 1 i ws with
  | [] => s
  | c :: _ =>
    if s.gateOpen i then s
    else
      let kind := s.fget (Reg.TRC_CMP_CTRL_KIND.at c)
      let a : Option W64 := if kind = 0 then (itemAddr 0 ws).map (BitVec.ofNat 64) else none
      let p := s.unitSync i a none false false s.locked s.ft
      ((p.2.fset (Reg.TRC_SRCSTAT_GATE.at i) 1).offerPacket i (s.gatePacket i c true)).offerPacket i p.1

/-- STOP comparators close it. -/
def State.gateStop (s : State) (i : Nat) (ws : List W64) : State :=
  match s.cmpsOf 2 i ws with
  | [] => s
  | c :: _ => if s.gateOpen i then (s.offerPacket i (s.gatePacket i c false)).fset (Reg.TRC_SRCSTAT_GATE.at i) 0 else s

/-- A well-formed item of an enabled source. -/
def State.takeItem (s : State) (i : Nat) (ws : List W64) : State :=
  let pkt := s.itemPacket i ws
  if pktType pkt = 7 then (s.fset (Reg.TRC_SRCSTAT_POWERED.at i) 0).offerPacket i pkt
  else
    let s1 := (s.fset (Reg.TRC_SRCSTAT_POWERED.at i) 1).gateStart i ws
    let s2 := if s1.gateOpen i then s1.offerPacket i pkt else s1.bump (Reg.TRC_SRCSTAT_FILTERED.at i)
    (s.cmpsOf 3 i ws).foldl (fun s' c => s'.traceTrigger 0 c s.ft) (s2.gateStop i ws)

/-- An item crosses into the island (R261, R263). Sources that are not enabled deliver nothing; items that arrive after the freeze are dropped under FROZEN (R277). -/
def State.traceItem (s : State) (i : Nat) (ws : List W64) : State :=
  let late := s.trcState == tFROZEN && (match s.trc.cfg with | some c => bit c.srcMask i | none => false)
  if s.traceOff || !decide (i < s.nTrace) || !(s.srcEnabled i || late) then s
  else if !(itemOk ws) then (s.bump (Reg.TRC_SRCSTAT_MALFORMED.at i)).hostProto 7 i
  else if late then (s.led 2 i .inn 1).dropFrozen i 1
  else s.takeItem i ws

/-- TRACE_ITEM (R261). -/
def execTraceItem (src : Nat) (words : List W64) (s : State) : Host.Outcome State Fault Refusal := act s (s.traceItem src words)

/-- A source's power domain switches off after its POWER_DOWN item (R282). -/
def State.tracePowerDown (s : State) (i : Nat) : State :=
  if s.traceOff || !decide (i < s.nTrace) then s
  else if s.srcEnabled i then s.takeItem i [7#64] else s.fset (Reg.TRC_SRCSTAT_POWERED.at i) 0

/-- TRACE_POWER_DOWN (R282). -/
def execTracePowerDown (src : Nat) (s : State) : Host.Outcome State Fault Refusal := act s (s.tracePowerDown src)

/-- A source wakes: a SYNC with WAKE comes before any other packet; with no SYNC of the source's own it carries no address, and the source is asked for one (R283). -/
def State.traceWake (s : State) (i : Nat) (ws : List W64) : State :=
  if s.traceOff || !decide (i < s.nTrace) then s
  else
    let s1 := s.fset (Reg.TRC_SRCSTAT_POWERED.at i) 1
    if !(s1.srcEnabled i) then s1
    else if itemOk ws && pktType ws == 1 then
      let p := s1.unitSync i (some (ws.getD 2 0)) (some (ws.getD 3 0)) true true s1.locked s1.ft
      p.2.offerPacket i p.1
    else
      let p := s1.unitSync i none none true false s1.locked s1.ft
      let s2 := (p.2.offerPacket i p.1).emit (.syncReq i)
      if ws.isEmpty then s2 else s2.traceItem i ws

/-- TRACE_SOURCE_WAKE (R283). -/
def execTraceSourceWake (src : Nat) (words : List W64) (s : State) : Host.Outcome State Fault Refusal := act s (s.traceWake src words)

/-! ### The Flyer (R264, R267, R268, R280) -/

/-- Undrained bytes of the circular buffer. -/
def State.undrained (s : State) : Nat := s.fget Reg.TRC_WRCNT_COUNT - s.fget Reg.TRC_DRAINCNT_COUNT

/-- The packet at the head of a source's local buffer may move now; in STREAM its priority's share of the free space stays free. -/
def State.mayMove (s : State) (i : Nat) : Bool :=
  match (s.trSrc i).buf with
  | [] => false
  | ws :: _ =>
    decide (s.trcState ≠ tSTREAM) ||
      decide (s.undrained + pktBytes ws + (7 - s.fget (Reg.TRC_SRC_PRIO.at i)) * 65536 ≤ trcBuffer)

/-- The source that the Flyer serves next: the highest priority, in turn among equals. -/
def State.flyerPick (s : State) : Option Nat :=
  let order := (List.range 32).map fun k => (s.trc.turn + k) % 32
  ([7, 6, 5, 4, 3, 2, 1, 0] : List Nat).findSome? fun p =>
    order.find? fun i => s.fget (Reg.TRC_SRC_PRIO.at i) == p && s.mayMove i

/-- The full FT of a packet's stamp. -/
def State.pktFt (s : State) (ws : List W64) : Nat := reconstruct (bits (ws.headD 0) 63 24) s.ft

/-- A time SYNC before a packet that would follow the source's last SYNC by more than the sync interval. -/
def State.timeSync (s : State) (i : Nat) (ws : List W64) : State :=
  let x := s.trSrc i
  let ft := s.pktFt ws
  let due := match x.lastSync with | some l => decide (ft > l + s.syncIvl) | none => true
  if due && pktType ws != 1 then
    let p := s.unitSync i none none false false (bit (ws.headD 0) 12) ft
    (p.2.putPacket p.1).setTrSrc i { x with lastSync := some ft }
  else s

/-- Note a moved packet for the source's sync requests (R268). -/
def State.noteMoved (s : State) (i : Nat) (ws : List W64) : State :=
  let x := s.trSrc i
  let lim := 2 ^ (s.fget Reg.TRC_CTRL_DSYNC + 8)
  if pktType ws = 1 then
    s.setTrSrc i { x with lastSync := some (s.pktFt ws), moved := if bit (ws.headD 0) 16 then 0 else x.moved + pktBytes ws }
  else
    let s1 := s.setTrSrc i { x with moved := x.moved + pktBytes ws }
    if x.moved < lim ∧ lim ≤ x.moved + pktBytes ws then s1.emit (.syncReq i) else s1

/-- Move the head packet of a source into the circular buffer. -/
def State.movePacket (s : State) (i : Nat) : State :=
  let x := s.trSrc i
  match x.buf with
  | [] => s
  | ws :: rest =>
    let s1 := (s.setTrSrc i { x with buf := rest }).timeSync i ws
    (((s1.putPacket ws).led 2 i .out 1).noteMoved i ws).placeDrop i

/-- FLYER_MOVE (R264). -/
def State.flyerMove (s : State) : State :=
  if s.traceOff || !decide (s.trcState ∈ [tARMED, tPOST, tSTREAM]) then s
  else match s.flyerPick with
    | some i => ({ s.movePacket i with trc := { (s.movePacket i).trc with turn := (i + 1) % 32 } }).checkTarget
    | none => s

/-- FLYER_MOVE (R264). -/
def execFlyerMove (s : State) : Host.Outcome State Fault Refusal := act s s.flyerMove

/-! ### Draining (R286 to R290) -/

/-- The raw bytes of the circular buffer from one write count to another. -/
def State.rawTrace (s : State) (from_ upTo : Nat) : List Byte :=
  match s.trc.pkts with
  | [] => []
  | e :: _ => (((s.trc.pkts.flatMap fun p => wordsBytes p.2)).drop (from_ - e.1)).take (upTo - from_)

def State.sinceArm (s : State) : Nat := s.fget Reg.TRC_WRCNT_COUNT

/-- The last transfer of a list frees the raw bytes. -/
def lastFrees (raw : Nat) : List Xfer → List Xfer
  | [] => []
  | [x] => [{ x with use_ := .trace raw }]
  | x :: l => x :: lastFrees raw l

/-- Drain one run of raw bytes: raw packets or a segment to the host buffer, or a segment to the parent's archive. -/
def State.drainRun (s : State) (c : TrcCfg) (n : Nat) : State :=
  let pos := s.trc.segPos
  let raw := s.rawTrace pos (pos + n)
  let next := fun (s : State) (host : Nat) =>
    { s with trc := { s.trc with segPos := pos + n, segFt := s.now, hostPos := s.trc.hostPos + host } }
  let mir : Option W64 := if c.mirror then some (BitVec.ofNat 64 c.mirAddr) else none
  let slice := s.fget Reg.TRC_STATUS_OWNER
  let toHost := fun (s : State) (bs : List Byte) =>
    (next s bs.length).addXfers (lastFrees n (ringXfers 4 (.trace 0) slice (BitVec.ofNat 64 c.base) c.log2 s.trc.hostPos bs mir))
  if c.dest = 1 ∧ !(s.assisted 7) then toHost s raw
  else
    let g := s.segment s.ft s.trc.segSeq (pos - (if s.trcState = tSTREAM then 0 else s.fget Reg.TRC_OLDCNT_COUNT)) raw
    let s1 := { g.2 with trc := { g.2.trc with segSeq := (g.2.trc.segSeq + 1) % 2 ^ 32 } }
    if c.dest = 1 then toHost s1 g.1
    else ((next s1 0).fadd Reg.TRC_DRAINCNT_COUNT n).sendUp 0x23 1 0 false (bytesWords g.1) []

/-- The unit drains now: in STREAM, or once after a freeze with AUTO_DRAIN. -/
def State.draining (s : State) : Bool := s.trcState == tSTREAM || s.trc.autoDue

/-- All drained: an automatic drain ends. -/
def State.drainEnd (s : State) : State :=
  if s.trc.autoDue ∧ s.trc.segPos ≥ s.sinceArm then { s with trc := { s.trc with autoDue := false } } else s

/-- A segment closes at 65,536 raw bytes or at the sync interval (R289). -/
def State.segmentClose (s : State) : State :=
  match s.trc.cfg with
  | some c =>
    let n := min 65536 (s.sinceArm - s.trc.segPos)
    if s.traceOff || !s.draining || c.dest == 0 || decide (n = 0) || s.trc.releasing.isSome then s
    else if n = 65536 ∨ s.now ≥ s.trc.segFt + s.syncIvl ∨ s.trc.autoDue then (s.drainRun c n).drainEnd
    else s
  | none => s

/-- SEGMENT_CLOSE (R289). -/
def execSegmentClose (s : State) : Host.Outcome State Fault Refusal := act s s.segmentClose

/-- Drain everything that is left. -/
def State.drainAll : Nat → State → TrcCfg → State
  | 0, s, _ => s
  | fuel + 1, s, c =>
    let n := min 65536 (s.sinceArm - s.trc.segPos)
    if n = 0 then s else (s.drainRun c n).drainAll fuel c

def State.traceXfers (s : State) : Bool :=
  s.meter.queue.any fun x => match x.use_ with | .trace _ => true | _ => false

/-- A release ends: IDLE, no owner, nothing valid. -/
def State.releaseEnd (s : State) (cmd : Option Running) : State :=
  let s1 := (((s.fset Reg.TRC_STATUS_VALID 0).fset Reg.TRC_STATUS_OWNED 0).fset Reg.TRC_STATUS_OWNER 0).fset Reg.TRC_STATUS_STATE tIDLE
  let s2 := { s1 with trc := { s1.trc with cfg := none, releasing := none, autoDue := false, pkts := [] } }
  match cmd with
  | some r => s2.completeOk r 0
  | none => s2

/-- A release that waits for its last drained byte ends with it (R286). -/
def State.releaseCheck (s : State) : State :=
  match s.trc.releasing with
  | some cmd => if s.traceXfers then s else s.releaseEnd cmd
  | none => s

/-- The sources stop and the local buffers move into the circular buffer. -/
def State.stopSources (s : State) : State :=
  (List.range 32).foldl (fun s i =>
    let s1 := if s.srcEnabled i then s.emit (.pin (.traceEnable i) false) else s
    ((List.range (s1.trSrc i).buf.length).foldl (fun s _ => s.movePacket i) s1)) s

/-- TRC_RELEASE (R286); with no command it is the release of SLC_UNBIND (R274). -/
def State.traceRelease (s : State) (cmd : Option Running) : State :=
  let st := s.trcState
  let s1 := if st = tARMED ∨ st = tPOST ∨ st = tSTREAM then s.stopSources else s
  match s.trc.cfg with
  | some c =>
    if st = tSTREAM then
      let s2 := { s1 with trc := { s1.trc with releasing := some cmd } }
      (s2.drainAll (s2.sinceArm / 8 + 1) c).releaseCheck
    else s1.releaseEnd cmd
  | none => s1.releaseEnd cmd

/-- A transfer of the drain has ended: its raw bytes are free (R289). -/
def State.traceMoved (s : State) (raw : Nat) : State := (s.fadd Reg.TRC_DRAINCNT_COUNT raw).releaseCheck

/-! ### Trace commands (R284 to R287) -/

/-- Another slice owns the unit. -/
def State.trcNotOwner (s : State) (n : Nat) : Bool := s.flag Reg.TRC_STATUS_OWNED && s.fget Reg.TRC_STATUS_OWNER != n

def trcCfgOf (bs : List Byte) : TrcCfg :=
  let w := wordAt bs
  { base := (w 0).toNat, log2 := bits (w 1) 4 0, mode := bit (w 1) 8, dest := bits (w 1) 10 9, pre := bits (w 1) 15 11,
    mirror := bit (w 1) 16, autoDrain := bit (w 1) 17, mirAddr := (w 2).toNat, srcMask := BitVec.ofNat 32 (bits (w 3) 31 0) }

/-- The field checks of TRC_CONFIG. -/
def State.trcCfgBad (s : State) (bs : List Byte) (c : TrcCfg) : Bool :=
  let w := wordAt bs
  bits (w 1) 7 5 != 0 || bits (w 1) 63 18 != 0 || bits (w 3) 63 32 != 0 || c.dest == 3 || (c.mode && c.dest == 0) || decide (c.pre > 16)
    || (c.dest == 1 && (decide (c.log2 < 12) || decide (c.log2 > 30) || decide (c.base % 4096 ≠ 0)))
    || (c.mirror && decide (c.mirAddr % 8 ≠ 0)) || decide (c.srcMask.toNat ≥ 2 ^ s.nTrace)

def State.trcConfig (s : State) (r : Running) : State :=
  let len := r.d.len.toNat
  s.checked r { zero := decide (len = 0), tooLong := decide (len < 32), reads := true } fun s =>
    if s.build.isHub then s.fail r stNO_RESOURCE
    else
      let bs := s.operand r
      let c := trcCfgOf bs
      s.guarded r [(s.trcNotOwner r.slice || s.trcState != tIDLE, stSTATE), (s.trcCfgBad bs c, stBAD_FIELD)] fun s =>
        let s1 := (s.fset Reg.TRC_STATUS_OWNED 1).fset Reg.TRC_STATUS_OWNER r.slice
        { s1 with trc := { s1.trc with cfg := some c } }.completeOk r 0

/-- TRC_CONFIG (R284). -/
def execTrcConfig (src : Src) (d : Desc) (b : Bus) (s : State) : Host.Outcome State Fault Refusal :=
  act s (s.command (.trcConfig src d b) src d b 0x40 .h false State.trcConfig)

/-- The gate that a source has at TRC_ARM: open unless a START comparator names it. -/
def State.armGate (s : State) (i : Nat) : Bool := !((List.range 16).any fun c => s.cmpAction c == 1 && s.cmpNames c i)

/-- TRC_ARM's effect (R271, R273). -/
def State.arm (s : State) (c : TrcCfg) : State :=
  let s0 := { s with trc := { s.trc with pkts := [], srcs := [], segSeq := 0, segPos := 0, segFt := s.now, hostPos := 0, autoDue := false } }
  let s1 := (((s0.fset Reg.TRC_WRCNT_COUNT 0).fset Reg.TRC_DRAINCNT_COUNT 0).fset Reg.TRC_STATUS_VALID 0).fset Reg.TRC_STATUS_STATE (if c.mode then tSTREAM else tARMED)
  (List.range 32).foldl (fun s i =>
    if bit c.srcMask i then (s.fsetB (Reg.TRC_SRCSTAT_GATE.at i) (s.armGate i)).emit (.pin (.traceEnable i) true) else s) s1

def State.trcArm (s : State) (r : Running) : State :=
  s.checked r {} fun s =>
    if s.build.isHub then s.fail r stNO_RESOURCE
    else match s.trc.cfg with
      | none => s.fail r stSTATE
      | some c =>
        s.guarded r [(s.trcNotOwner r.slice || !decide (s.trcState ∈ [tIDLE, tFROZEN]), stSTATE), (s.traceOff, stFENCED)] fun s =>
          (s.arm c).completeOk r 0

/-- TRC_ARM (R273). -/
def execTrcArm (src : Src) (d : Desc) (b : Bus) (s : State) : Host.Outcome State Fault Refusal :=
  act s (s.command (.trcArm src d b) src d b 0x41 .h false State.trcArm)

/-- Segments of a drain (R288): until the bytes or the room end, or a raw byte carries poison. -/
def drainSegs : Nat → State → Nat → Nat → Nat → Nat → Option Nat → List Byte → Nat → List Byte × State × Bool
  | 0, s, _, _, _, _, _, acc, _ => (acc, s, false)
  | fuel + 1, s, old, pos, end_, room, poison, acc, seq =>
    let n := min 65536 (min (end_ - pos) (room - 48)) / 8 * 8
    if n < 8 then (acc, s, false)
    else if (match poison with | some k => decide (k < pos + n - old) | none => false) then (acc, s, true)
    else
      let g := s.segment s.ft seq (pos - old) (s.rawTrace pos (pos + n))
      drainSegs fuel g.2 old (pos + n) end_ (room - g.1.length) poison (acc ++ g.1) ((seq + 1) % 2 ^ 32)

/-- TRC_DRAIN on a Leaf (R287, R288): a poisoned raw byte, counted from the first byte drained, is given by the command's surroundings. -/
def State.trcDrain (s : State) (r : Running) : State :=
  let a := r.d.arg0.toNat
  let len := r.d.len.toNat
  s.checked r { args := a % 8 == 0, zero := decide (len = 0) } fun s =>
    let s := s.fnSwitch 7
    let assisted := s.assisted 7
    let old := s.fget Reg.TRC_OLDCNT_COUNT
    let held := s.sinceArm - old
    s.guarded r [(decide (len < (if assisted then 56 else 8)), stLEN_OVER),
        (s.trcNotOwner r.slice || s.trcState != tFROZEN || !s.flag Reg.TRC_STATUS_VALID, stSTATE),
        (decide (a ≥ held), stLEN_OVER)] fun s =>
      if !assisted then
        let n := min len (held - a) / 8 * 8
        s.finish r (s.rawTrace (old + a) (old + a + n)) n
      else
        let poison := match r.b.rd with | .poison => some (a + r.b.data.length) | _ => none
        let g := drainSegs (held / 8 + 1) s old (old + a) (old + held) len poison [] s.trc.segSeq
        if g.2.2 then (g.2.1.putResult r g.1).1.complete r stPOISON g.1.length r.d.session.toNat
        else g.2.1.finish r g.1 g.1.length

/-! ### The Hub's archive (R291 to R293) -/

/-- Bytes that a record takes in the archive region. -/
def ArchRec.size (a : ArchRec) : Nat := 32 + ceilDiv a.data.length 64 * 64
def archUsed (l : List ArchRec) : Nat := sumN (l.map ArchRec.size)

/-- Oldest records give way until `n` bytes fit (R292). Fuel is the number of records. -/
def archRoom (cap n : Nat) : Nat → List ArchRec → List ArchRec
  | 0, l => l
  | fuel + 1, l => if archUsed l + n ≤ cap then l else archRoom cap n fuel (l.drop 1)

def State.archShow (s : State) : State :=
  match s.trc.archive with
  | [] => s.fset Reg.TRC_ARCHOLD_OLDEST 0
  | a :: _ => s.fset Reg.TRC_ARCHOLD_OLDEST a.seq.toNat

/-- An ARCHIVE message of a child (R291, R292). -/
def State.takeArchive (s : State) (m : Msg) : State :=
  let bs := wordsBytes m.words
  let kind := if m.tc = 1 then 0 else 1
  let w := wordAt bs
  let len := if kind = 0 then 32 + ceilDiv (bits (w 3) 31 0) 8 * 8 else bs.length
  let data := bs.take len
  let oseq := bits (w 1) 31 0
  let set_ := if kind = 0 then 0 else bits (w 1) 35 32
  let origin := s.childAddr m.port
  let s1 := (s.rxPass m.port m.seqs.length).led 0xF 0 .inn data.length
  if s.trc.archive.any fun a => a.origin == origin && a.kind == kind && a.set == set_ && a.oseq == oseq && a.hdrFt == (w 0).toNat then
    s1.led 0xF 0 .dup data.length
  else
    let seq : W32 := BitVec.ofNat 32 (s.fget Reg.TRC_ARCHSEQ_NEWEST + 1)
    let a : ArchRec := { ft := s.ft, origin, kind, seq, oseq, set := set_, hdrFt := (w 0).toNat, data }
    let cap := s.fget Reg.TRC_ARCHSIZE_SIZE
    let held := if s.flag Reg.TRC_ARCHCTRL_WRAP then archRoom cap a.size s.trc.archive.length s.trc.archive else s.trc.archive
    if archUsed held + a.size ≤ cap then
      let s2 := { s1 with trc := { s1.trc with archive := held ++ [a] } }
      ((s2.fset Reg.TRC_ARCHSEQ_NEWEST seq.toNat).led 0xF 0 .out data.length).archShow
    else s1.ledDrop 0xF 0 0xF data.length

/-- ARCHIVE (R291). -/
def execArchive (p : Nat) (f : Frame) (s : State) : Host.Outcome State Fault Refusal :=
  act s (match s.rx p 0x23 f with
  | (s1, some m) => if s1.isFenced 7 || s1.stopped then s1.ledDrop 8 p rsnFENCED m.seqs.length else s1.takeArchive m
  | (s1, none) => s1)

/-- A record as it is delivered: header, payload and padding. -/
def archBytes (a : ArchRec) (compressed err : Bool) (data : List Byte) : List Byte :=
  wordsBytes [BitVec.ofNat 64 a.ft, BitVec.ofNat 64 (a.origin.toNat + fld 4 48 a.kind + b2 compressed 52 + b2 err 53),
    BitVec.ofNat 64 (a.seq.toNat + fld 32 32 data.length), BitVec.ofNat 64 (fld 32 0 a.oseq + fld 4 32 a.set)] ++ padTo 64 data

/-- The room a record needs (R649). -/
def ArchRec.need (a : ArchRec) (expandIt : Bool) : Nat :=
  if expandIt ∧ a.kind = 0 then max a.size (32 + ceilDiv (bits (wordAt a.data 1) 48 32) 64 * 64) else a.size

/-- Records delivered while they fit (R293). `bad` is the index of a record whose HBM read returns poison. -/
def archCopy (expandIt : Bool) (bad : Option Nat) : Nat → State → List ArchRec → Nat → List Byte → List Byte × State
  | _, s, [], _, acc => (acc, s)
  | k, s, a :: l, room, acc =>
    if a.need expandIt > room then (acc, s)
    else if expandIt ∧ a.kind = 0 then
      let e := s.expandSegment (bad == some k) a.data
      let bs := match e.1 with | .ok out => archBytes a false false out | .error _ => archBytes a true true a.data
      archCopy expandIt bad (k + 1) e.2 l (room - bs.length) (acc ++ bs)
    else
      let bs := archBytes a (a.kind == 0) false a.data
      archCopy expandIt bad (k + 1) s l (room - bs.length) (acc ++ bs)

/-- TRC_DRAIN on a Hub (R293). -/
def State.trcDrainArchive (s : State) (r : Running) : State :=
  s.checked r { zero := decide (r.d.len = 0) } fun s =>
    let s := s.fnSwitch 7
    let expandIt := !s.assisted 7
    let newest := s.fget Reg.TRC_ARCHSEQ_NEWEST
    let from_ := match s.trc.archive.findIdx? fun a => a.seq == r.d.arg0 with | some i => s.trc.archive.drop i | none => s.trc.archive
    match from_ with
    | [] => s.completeOk r 0
    | a :: _ =>
      if seqLt newest r.d.arg0.toNat then s.completeOk r 0
      else if a.need expandIt > r.d.len.toNat then s.fail r stLEN_OVER
      else
        let bad := match r.b.rd with | .poison => some r.b.data.length | _ => none
        let g := archCopy expandIt bad 0 s from_ r.d.len.toNat []
        g.2.finish r g.1 g.1.length

/-- TRC_DRAIN (R287): on a Leaf the retained data, on a Hub the archive. -/
def State.trcDrainCmd (s : State) (r : Running) : State := if s.build.isHub then s.trcDrainArchive r else s.trcDrain r

/-- TRC_DRAIN (R287). -/
def execTrcDrain (src : Src) (d : Desc) (b : Bus) (s : State) : Host.Outcome State Fault Refusal :=
  act s (s.command (.trcDrain src d b) src d b 0x42 .h false State.trcDrainCmd)

/-- TRC_DRAIN_ARCHIVE (R293). -/
def execTrcDrainArchive (src : Src) (d : Desc) (b : Bus) (s : State) : Host.Outcome State Fault Refusal :=
  act s (s.command (.trcDrainArchive src d b) src d b 0x42 .h false State.trcDrainCmd)

def State.trcReleaseCmd (s : State) (r : Running) : State :=
  s.checked r {} fun s =>
    if s.build.isHub then s.fail r stNO_RESOURCE
    else s.guarded r [(s.trcNotOwner r.slice || s.trc.releasing.isSome, stSTATE)] fun s => s.traceRelease (some r)

/-- TRC_RELEASE (R286). -/
def execTrcRelease (src : Src) (d : Desc) (b : Bus) (s : State) : Host.Outcome State Fault Refusal :=
  act s (s.command (.trcRelease src d b) src d b 0x43 .h false State.trcReleaseCmd)

/-! ### Freeze and trigger (R275, R279) -/

/-- The freeze that the driver writes (R279). -/
def State.freezeNow (s : State) : State :=
  if s.traceOff then s
  else if s.trcState ∈ [tARMED, tPOST, tSTREAM] then s.traceFreeze else s

/-- TRC_FREEZE (R279). -/
def execTrcFreeze (a : Acc) (s : State) : Host.Outcome State Fault Refusal := act s (s.regAccess (.trcFreeze a) a 7 State.freezeNow)

/-- The trigger that the driver writes (R275). -/
def State.trigNow (s : State) : State := if s.traceOff then s else s.traceTrigger 1 0 s.ft

/-- TRC_TRIG (R275). -/
def execTrcTrig (a : Acc) (s : State) : Host.Outcome State Fault Refusal := act s (s.regAccess (.trcTrig a) a 7 State.trigNow)

/-- The timer of `TRC_TRIGFT` fires (R275). -/
def State.trigFt (s : State) : State :=
  match s.timerDue .trcTrig with
  | some t =>
    let s1 := s.disarm .trcTrig
    if s.traceOff then s1 else s1.traceTrigger 5 0 t
  | none => s

/-- TRC_TRIGFT_REACHED (R275). -/
def execTrcTrigftReached (s : State) : Host.Outcome State Fault Refusal := act s s.trigFt

/-- A trace trigger broadcast: word 0 beyond the header carries the FT of the trigger instant. A Hub relays it (R42, R275). -/
def State.takeTrigger (s : State) (m : Msg) : State :=
  match s.takeBcast m with
  | (s1, some (_, ws)) => if s1.traceOff then s1 else s1.traceTrigger 4 0 (ws.getD 0 0).toNat
  | (s1, none) => s1

/-- TRIGGER (R275). -/
def execTrigger (p : Nat) (f : Frame) (s : State) : Host.Outcome State Fault Refusal :=
  act s (match s.rx p 0x1E f with
  | (s1, some m) => s1.takeTrigger m
  | (s1, none) => s1)

/-! ### Resets (R274) -/

/-- A unit reset of Trace on a Leaf. -/
def State.traceReset (s : State) : State :=
  let s1 := (List.range 32).foldl (fun s i =>
    let x := s.trSrc i
    let s1 := if s.srcEnabled i then s.emit (.pin (.traceEnable i) false) else s
    (if x.buf.isEmpty then s1 else s1.ledDrop 2 i rsnRESET x.buf.length)) s
  let s2 := { s1 with trc := { s1.trc with srcs := [] } }
  match s2.trc.releasing with
  | some cmd => s2.releaseEnd cmd
  | none => s2.releaseEnd none

end Sys2Proof.Machine
end

