-- ==== Sys2Proof/Machine/Health.lean ====
section
/-! DEFINITION. Expulsion budgets (R485 to R489, R494), the table of expelled host units (R535), and the health entries of host units with their scores and retirement (R559 to R563). -/

namespace Sys2Proof.Machine

def minuteTicks : Nat := 60 * 4000000000
def hourTicks : Nat := 60 * minuteTicks
def State.budget (s : State) (p : Nat) : Budget := Tab.getD s.ply.budgets p {}
def State.setBudget (s : State) (p : Nat) (b : Budget) : State := { s with ply := { s.ply with budgets := Tab.set s.ply.budgets p b } }

/-! ### Expulsion and the budget (R485 to R491) -/

/-- A host unit enters the table of expelled units (R535). -/
def State.unitExpelled (s : State) (unit job idx : Nat) : State :=
  if s.snag.unitExp.any (fun e => e.1 == unit) || decide (s.snag.unitExp.length ≥ 64) then s
  else ({ s with snag := { s.snag with unitExp := s.snag.unitExp ++ [(unit, job, idx)] } }).advise 3 (s.unit unit) (job + 256 * idx) true

/-- A host unit is restored (R492, R535). -/
def State.unitRestored (s : State) (unit : Nat) : State :=
  match s.snag.unitExp.find? (·.1 == unit) with
  | some e => ({ s with snag := { s.snag with unitExp := s.snag.unitExp.filter (·.1 != unit) } }).advise 4 (s.unit unit) (e.2.1 + 256 * e.2.2) true
  | none => s

/-- The partition, at this block, whose budget a loser is charged to (R486). -/
def State.budgetPart (s : State) (h : Hank) : Nat :=
  if s.build.isHub then (match s.bestRoute (hPlace h) with | some p => s.portPart p | none => 0)
  else (s.hostPart (hSub h)).getD 0

/-- Add tokens to a budget (R487, R496). -/
def State.addTokens (s : State) (p n : Nat) : State :=
  let t := s.fget (Reg.PLY_BUD_TOKENS.at p) + n
  let s1 := (s.fset (Reg.PLY_BUD_TOKENS.at p) t).led 0xE p .inn n
  if t ≥ s.fget Reg.PLY_BUDCFG_CAP then s1.setBudget p { s1.budget p with fellFt := none } else s1

/-- Spend one token. -/
def State.spendToken (s : State) (p : Nat) : State :=
  let t := s.fget (Reg.PLY_BUD_TOKENS.at p)
  let s1 := ((s.fset (Reg.PLY_BUD_TOKENS.at p) (t - 1)).bump (Reg.PLY_BUD_SPENT.at p)).led 0xE p .out 1
  if t = s.fget Reg.PLY_BUDCFG_CAP then s1.setBudget p { s1.budget p with fellFt := some s.ft } else s1

/-- An EXPULSION_STORM record (R494). -/
def State.stormRecord (s : State) (p idx : Nat) : Rec :=
  slubRec s.ft (s.unit 0) 0 0xA idx (b2 s.locked 3 + b2 true 10) 0 (s.unit 0) p

/-- A loser proposed for expulsion (R485, R488). `idx` is its replica index, where it is a replica; `slice` the slice of its job. The answer says whether it is expelled. -/
def State.propose (s : State) (p : Nat) (hold : Bool) (idx : Option Nat) (slice : Option Nat) (info : Nat) : State × Bool :=
  let suspect := fun (s : State) => (s.bump Reg.PLY_EXPSTAT_SUSPECTED, false)
  if hold then suspect s
  else
    let s1 := s.setBudget p { s.budget p with loserFt := s.now }
    if s.flag (Reg.PLY_BUD_STORM.at p) then suspect s1
    else if s.fget (Reg.PLY_BUD_TOKENS.at p) = 0 then
      let f := s1.freeWord
      let r := s1.stormRecord p (idx.getD (f.1.toNat % 32))
      let s2 := (f.2.fset (Reg.PLY_BUD_STORM.at p) 1).raise fVOTE 0 (s.unit 0) info
      let s3 := (s2.pushVerdict 0 0xA r).faultIrq
      suspect (match slice with | some n => if n = 0 then s3 else s3.pushVerdict n 0xA r | none => s3)
    else ((s1.spendToken p).bump Reg.PLY_EXPSTAT_EXPELLED, true)

/-- A record to a slice that the build has. -/
def State.pushTo (s : State) (slice kind : Nat) (r : Rec) : State := if slice < nSlices s.build then s.pushVerdict slice kind r else s

/-! ### Health (R559, R560) -/

def State.health (s : State) (u : Nat) : Health := Tab.getD s.stp.health u {}
def State.setHealth (s : State) (u : Nat) (h : Health) : State := { s with stp := { s.stp with health := Tab.set s.stp.health u h } }

/-- The unit score (R560). -/
def State.score (s : State) (h : Health) : Nat :=
  255 - min 255 ((s.fget Reg.STP_HWEIGHT_W_FAIL * h.fail + s.fget Reg.STP_HWEIGHT_W_TCHK * h.tchk + s.fget Reg.STP_HWEIGHT_W_VLOSS * h.vloss
    + s.fget Reg.STP_HWEIGHT_W_OVD * h.ovd) / 256)

/-- The least unit score. -/
def State.dieScore (s : State) : Nat := (s.stp.health.map fun e => s.score e.2).foldl min 255

/-- The counters of a health entry. -/
inductive HealthCol where | fail | tchk | vloss | ovd
  deriving DecidableEq, Repr

def Health.add (h : Health) : HealthCol → Health
  | .fail => { h with fail := min 0xFFFF (h.fail + 256) }
  | .tchk => { h with tchk := min 0xFFFF (h.tchk + 256) }
  | .vloss => { h with vloss := min 0xFFFF (h.vloss + 256) }
  | .ovd => { h with ovd := min 0xFFFF (h.ovd + 256) }

/-- INFO of the advisories of a retirement: bit 13, RETIRED (R562); in the table of expelled units it stands as job 0 and index 32. -/
abbrev retiredInfo := 8192

/-- Auto-retire (R562). -/
def State.retireCheck (s : State) (u : Nat) : State :=
  let h := s.health u
  if s.flag Reg.STP_CTRL_AUTORETIRE ∧ s.score h < s.fget Reg.STP_RETIRE_THR ∧ !h.retired ∧ !h.held then
    let q := s.propose ((s.hostPart u).getD 0) false none none 0
    if q.2 then
      let s1 := (q.1.setHealth u { h with retired := true, suspect := false }).unitExpelled u 0 32
      if s1.flag Reg.STP_CTRL_RET_FENCE then s1.askFence 4 1 u else s1
    else q.1.setHealth u { h with suspect := true }
  else s

/-- An event of R559 about a host unit of a Leaf. -/
def State.healthEvent (s : State) (u : Nat) (c : HealthCol) : State :=
  if s.build.isHub then s else (s.setHealth u ((s.health u).add c)).retireCheck u

/-- Halve every counter (R559). -/
def State.healthHalving (s : State) : State :=
  let h := s.fget Reg.STP_HHALF_HOURS
  if s.build.isHub || decide (h = 0) || !s.running || decide (s.ft < s.stp.halveFt + h * hourTicks) then s
  else { s with stp := { s.stp with
    halveFt := s.stp.halveFt + h * hourTicks
    health := Tab.mapV (fun _ (x : Health) => { x with fail := x.fail / 2, tchk := x.tchk / 2, vloss := x.vloss / 2, ovd := x.ovd / 2 }) s.stp.health } }

/-- HEALTH_HALVING (R559). -/
def execHealthHalving (s : State) : Host.Outcome State Fault Refusal := act s s.healthHalving

/-- A unit that is RETIRED or SUSPECT is restored (R563). -/
def State.unitRestore (s : State) (u : Nat) : State :=
  let h := s.health u
  if !s.build.isHub ∧ 0x100 ≤ u ∧ (h.retired ∨ h.suspect) then
    let s1 := { s with snag := { s.snag with unitExp := s.snag.unitExp.filter (·.1 != u) } }
    (s1.advise 4 (s.unit u) retiredInfo true).setHealth u { h with retired := false, suspect := false, held := true, fail := 0, tchk := 0, vloss := 0, ovd := 0 }
  else s

/-- STP_UCMD_RESTORE (R563). -/
def execStpUcmdRestore (a : Acc) (s : State) : Host.Outcome State Fault Refusal :=
  act s (s.regAccess (.stpUcmdRestore a) a 0x11 fun s => s.unitRestore (s.selGet a.port Reg.STP_USEL_UNIT))

end Sys2Proof.Machine
end

