-- ==== Sys2Proof/Machine/Ply.lean ====
section
/-! DEFINITION. Ply (R463 to R497): jobs and policies, digests, rounds and their decision, attribution, expulsion and its budgets, and the operator's overrides. -/

namespace Sys2Proof.Machine

abbrev rAGREE := 0
abbrev rMAJORITY := 1
abbrev rSPLIT := 2
abbrev rUNRESOLVED := 3
abbrev rNO_QUORUM := 4
abbrev rEND := 5


def nJobs (b : Build) : Nat := if b.isHub then 256 else 16
def nRepls (b : Build) : Nat := if b.isHub then 0 else 64

def State.setJobs (s : State) (l : Tab Job) : State := { s with ply := { s.ply with jobs := l } }
def State.setJob (s : State) (n : Nat) (j : Job) : State := s.setJobs (Tab.set s.ply.jobs n j)
def State.modJob (s : State) (n : Nat) (f : Job → Job) : State :=
  match Tab.get s.ply.jobs n with | some j => s.setJob n (f j) | none => s
def State.setRepls (s : State) (l : Tab ReplEntry) : State := { s with ply := { s.ply with repls := l } }
def State.setRepl (s : State) (n : Nat) (e : ReplEntry) : State := s.setRepls (Tab.set s.ply.repls n e)
def State.setLeafAttrs (s : State) (l : List LeafAttr) : State := { s with ply := { s.ply with attrs := l } }

/-- Ply is fenced, or the block has stopped. -/
def State.plyOff (s : State) : Bool := s.stopped || s.isFenced 0xC

def setReplica (j : Job) (i : Nat) (f : Replica → Replica) : Job :=
  match j.replicas[i]? with | some r => { j with replicas := j.replicas.set i (f r) } | none => j

/-- A mask with the bits of a list. -/
def maskOf (l : List Nat) : Nat := l.foldl (fun m i => if m / 2 ^ i % 2 = 1 then m else m + 2 ^ i) 0

/-- INFO of a VOTE fault (R504). -/
def voteInfo (job step : Nat) : Nat := job + fld 32 8 step

/-- A die that Snag holds DEAD or EXPELLED (R476, R537). -/
def State.dieGone (s : State) (h : Hank) : Bool := s.snag.hard.any fun e => sameBlock e.1 h

/-! ### Outcomes (R480, R490) -/

def State.outcomeWords (s : State) (n : Nat) (j : Job) (step result lost present : Nat) (winner : W64) : List W64 :=
  let idx := fun (f : Replica → Bool) => maskOf ((j.replicas.zipIdx.filter fun e => f e.1).map (·.2))
  [BitVec.ofNat 64 s.ft, BitVec.ofNat 64 ((s.unit 0).toNat + fld 8 48 n), BitVec.ofNat 64 (fld 32 0 step + fld 3 32 result),
   BitVec.ofNat 64 (lost + fld 32 32 (idx (·.expelled))), BitVec.ofNat 64 (idx (·.suspect) + fld 32 32 present), winner, 0, 0]

/-- An outcome at a Leaf: its REPLICA entries of that job take it. FENCE is known here only when this Leaf is the vote point; otherwise whether the policy fences is a free bit. -/
def State.takeOutcome (s : State) (ws : List W64) : State :=
  let w := fun i => ws.getD i 0
  let vp : Hank := BitVec.ofNat 48 (bits (w 1) 47 0)
  let job := bits (w 1) 55 48
  s.ply.repls.foldl (fun s e =>
    let x := e.2
    if x.vp = vp ∧ x.job = job then
      let exp := bit (w 3) (32 + x.index)
      let s0 := s.setRepl e.1 { x with expelled := exp, unanswered := 0 }
      let s1 := if bit (w 3) x.index then s0.healthEvent (hSub x.unit) .vloss else s0
      if exp ∧ !x.expelled then
        let s2 := s1.unitExpelled (hSub x.unit) job x.index
        let k := if sameBlock vp s.self then ((match Tab.get s.ply.jobs job with | some j => j.policy.fence | none => false), s2) else s2.freeBit
        if k.1 then k.2.askFence 2 1 (hSub x.unit) else k.2
      else if !exp ∧ x.expelled then s1.unitRestored (hSub x.unit)
      else s1
    else s) s

/-- One copy of an outcome to each distinct Leaf that holds a replica. -/
def State.sendOutcome (s : State) (j : Job) (ws : List W64) : State :=
  ((j.replicas.map fun r => withSub r.addr 0).eraseDups).foldl (fun s h =>
    match s.sendRouted 0x15 6 h ws with
    | some s' => s'
    | none => s.takeOutcome ws) s

/-! ### Deciding losers (R482, R485, R493) -/

/-- The outcome of R482 from a loser's evidence; the second value is CHKFAIL. -/
def attrOutcome (a : Answer) (c2Equal subsEqual : Bool) : Nat × Bool :=
  let stable := a.stable && !a.poison
  if !a.pass && stable && c2Equal then (4, false)
  else if !stable || a.memerr then (1, !a.pass)
  else if a.pass && c2Equal then (2, false)
  else if subsEqual then (1, !a.pass)
  else (3, !a.pass)

/-- A VOTE_LOSS record (R493). -/
def State.lossRecord (s : State) (n step i outcome : Nat) (subj : Hank) (expelled suspect attrib chk unresolved : Bool) (ft : Nat) : Rec :=
  slubRec ft subj 0 4 step
    (b2 s.locked 3 + b2 true 10 + b2 expelled 11 + b2 suspect 12 + b2 attrib 13 + b2 chk 14 + b2 unresolved 15) 0 (s.unit 0)
    (n + fld 5 8 i + fld 3 13 outcome)

/-- One loser, its outcome decided. -/
def State.settleLoser (s : State) (n step ft : Nat) (attrib : Bool) (l : Nat × Nat × Bool) : State :=
  match Tab.get s.ply.jobs n with
  | none => s
  | some j =>
    match j.replicas[l.1]? with
    | none => s
    | some r =>
      let s0 := s.bump Reg.PLY_STAT_LOSSES
      let p := s.budgetPart r.addr
      let g := if bit j.policy.mask l.2.1 then
          (let q := s0.propose p (decide (r.hold > 0)) (some l.1) (some j.slice) (voteInfo n step)
           (q.1.modJob n fun j => setReplica j l.1 fun r => if q.2 then { r with expelled := true, suspect := false } else { r with suspect := true }, q.2))
        else (s0, false)
      let now := ((Tab.get g.1.ply.jobs n).bind fun j => j.replicas[l.1]?).getD r
      g.1.pushVerdict j.slice 4 (s.lossRecord n step l.1 l.2.1 r.addr g.2 now.suspect attrib l.2.2 false ft)

/-- The end of a decided round: its losers in ascending order, the outcome message, and one round less on every hold. -/
def State.endRound (s : State) (n : Nat) (step ft result : Nat) (losers : List (Nat × Nat × Bool)) (present : Nat) (winner : W64) (attrib : Bool) : State :=
  let s1 := losers.foldl (fun s l => s.settleLoser n step ft attrib l) s
  let s2 := if result = rUNRESOLVED then
      (match Tab.get s1.ply.jobs n with
      | some j => (s1.raise fVOTE 0 (s.unit 0) (voteInfo n step)).pushVerdict j.slice 4
          (s.lossRecord n step 0 0 (s.unit 0) false false attrib false true ft)
      | none => s1)
    else s1
  let s3 := s2.modJob n fun j =>
    { j with lastStep := step, lastResult := result, replicas := j.replicas.map fun (r : Replica) => { r with hold := r.hold - 1 } }
  match Tab.get s3.ply.jobs n with
  | some j => s3.sendOutcome j (s3.outcomeWords n j step result (maskOf (losers.map (·.1))) present winner)
  | none => s3

/-! ### Attribution at the vote point (R481 to R484) -/

/-- Bits whose sub-digests differ. -/
def subDiff (a b : Digest) : Nat :=
  maskOf ((List.range 16).filter fun k => a.subs.getD k 0 != b.subs.getD k 0)

def State.modAttrs (s : State) (n : Nat) (f : List Attribution → List Attribution) : State := s.modJob n fun j => { j with attrs := f j.attrs }

def digestOf (got : List Digest) (i : Nat) : Option Digest := got.find? (·.index == i)

def askOf (a : Attribution) (i : Nat) (loser : Bool) : Option (Nat × W16 × Bool) := a.asks.find? fun q => q.1 == i && q.2.2 == loser
def answerOf (a : Attribution) (i : Nat) (mask : W16) : Option Answer := a.answers.find? fun x => x.index == i && x.mask == mask

/-- Re-read sub-digests equal a replica's on the classes of the mask. -/
def rereadEqual (x : Answer) (d : Digest) : Bool :=
  (List.range 16).all fun k => !(bit x.mask k) || x.subs.getD k 0 == d.subs.getD k 0

/-- The outcome of one loser against a reference, with TIMEOUT for a missing answer. -/
def lossOf (a : Attribution) (i ref : Nat) : Nat × Nat × Bool :=
  match askOf a i true with
  | none => (i, 5, false)
  | some q =>
    match answerOf a i q.2.1, answerOf a ref q.2.1, digestOf a.got ref with
    | some x, some y, some d => let o := attrOutcome x (x.c2 == y.c2) (rereadEqual x d); (i, o.1, o.2)
    | _, _, _ => (i, 5, false)

/-- A replica of a SPLIT is implicated by its own evidence, or by none in time (R484). -/
def implicated (a : Attribution) (d : Digest) : Bool :=
  match askOf a d.index true with
  | none => true
  | some q =>
    match answerOf a d.index q.2.1 with
    | some x => !x.pass || !x.stable || x.poison || x.memerr || !(rereadEqual x d)
    | none => true

def sameClass (a b : Digest) : Bool := a.digest == b.digest && a.nseen == b.nseen && a.subs == b.subs

/-- The attribution ends: every answer is in, or its limit has come. -/
def State.attrEnd (s : State) (n : Nat) (a : Attribution) : State :=
  let s := s.modAttrs n fun l => l.filter (· != a)
  match a.cmd with
  | some r =>
    let o := lossOf a (a.losers.headD 0) (a.ref.getD 0)
    s.complete r stOK (o.2.1 + 8 * b2n o.2.2) r.d.session.toNat
  | none =>
    if a.result = rSPLIT then
      let free := a.got.filter fun d => !(implicated a d)
      match free with
      | [] => s.endRound n a.step a.ft rUNRESOLVED [] a.present.toNat 0 true
      | d :: ds =>
        let bad := a.got.filter fun d => implicated a d
        if ds.all (sameClass d) then
          let ref := (free.map (·.index)).foldl min d.index
          s.endRound n a.step a.ft rSPLIT ((bad.map fun d => lossOf a d.index ref)) a.present.toNat 0 true
        else s.endRound n a.step a.ft rUNRESOLVED [] a.present.toNat 0 true
    else s.endRound n a.step a.ft a.result (a.losers.map fun i => lossOf a i (a.ref.getD 0)) a.present.toNat a.winner true

/-- An attribution request (assumption: its payload). -/
def askWords (vp : Hank) (n : Nat) (unit : Hank) (i : Nat) (loser : Bool) (step : Nat) (mask : W16) : List W64 :=
  [BitVec.ofNat 64 (vp.toNat + fld 8 48 n), BitVec.ofNat 64 (unit.toNat + fld 5 48 i + b2 loser 53), BitVec.ofNat 64 (fld 32 0 step + fld 16 32 mask.toNat)]

/-! ### Attribution at a replica's Leaf (R481) -/

def LeafAttr.tag (s : State) (a : LeafAttr) : Nat := match Tab.get s.ply.repls a.entry with | some e => e.tag | none => 0

/-- Blocks whose index class the mask names. -/
def blocksOf (nblk : Nat) (mask : W16) : List Nat := (List.range nblk).filter fun b => bit mask (b % 16)

def mix (b cv : Nat) : Nat := (b * 2 ^ 32 + cv) * 0x9E3779B97F4A7C15 % 2 ^ 64

/-- Fold one record into sub-digests. -/
def foldSub (subs : List W32) (b cv : Nat) : List W32 :=
  listSet subs (b % 16) (subs.getD (b % 16) 0 + BitVec.ofNat 32 (mix b cv / 2 ^ 32))

def zeroSubs : List W32 := List.replicate 16 0

/-- Vector `v` of the self-test and the value its check should give (R470). -/
def testVector (v : Nat) : List Byte := (List.range 256).map fun i => BitVec.ofNat 8 (37 * v + 11 * i)
def testValues : List Nat := (List.range 4).map fun v => crcOf polyC (testVector v)

/-- A Leaf's attribution begins its step: 0 re-read, 1 second polynomial, 2 self-test. -/
def State.attrPhase (s : State) (a : LeafAttr) (phase : Nat) : State × LeafAttr :=
  match Tab.get s.ply.repls a.entry with
  | none => (s, a)
  | some e =>
    let blocks := blocksOf e.nblk a.mask
    match phase with
    | 0 => (s.emit (.tap 0 0 e.tag [BitVec.ofNat 64 (blocks.headD 0)]), { a with phase := 0, todo := blocks, subs := zeroSubs })
    | 1 => (s.addXfers [{ cls := 3, use_ := .recheck a.entry, slice := e.slice, addr := e.base, data := [], left := 2 * blocks.length * 2 ^ e.log2, waited := false }],
        { a with phase := 1, todo := [] })
    | _ => (s.emit (.tap 1 0 e.tag []), { a with phase := 2 })

def State.putLeafAttr (s : State) (a : LeafAttr) : State :=
  s.setLeafAttrs (s.ply.attrs.map fun x => if x.entry = a.entry ∧ x.phase ≠ 3 then a else x)

/-- The first waiting attribution of an entry starts when none of that entry runs. -/
def State.startAttr (s : State) (entry : Nat) : State :=
  if s.ply.attrs.any fun x => x.entry == entry && x.phase != 3 then s
  else match s.ply.attrs.find? (·.entry == entry) with
    | none => s
    | some a =>
      let g := s.attrPhase a (if a.loser ∧ a.mask ≠ 0 then 0 else 1)
      let i := (s.ply.attrs.findIdx? (· == a)).getD 0
      g.1.setLeafAttrs (g.1.ply.attrs.set i g.2)

/-- Words of an attribution answer. -/
def ansWords (e : ReplEntry) (a : LeafAttr) : List W64 :=
  let flags := b2 a.pass 48 + fld 2 49 a.status + b2 a.memerr 51
  askWords e.vp e.job e.unit e.index a.loser a.step a.mask |>.set 2 (BitVec.ofNat 64 (fld 32 0 a.step + fld 16 32 a.mask.toNat + flags)) |>.append
    (a.c2 :: bytesWords (a.subs.flatMap fun x => toBytes 4 x.toNat))

/-- A request arrives: from the vote point, or from this Leaf itself. -/
def State.takeAsk (s : State) (ws : List W64) : State :=
  let w := fun i => ws.getD i 0
  let vp : Hank := BitVec.ofNat 48 (bits (w 0) 47 0)
  match s.ply.repls.find? fun e => e.2.vp == vp && e.2.job == bits (w 0) 55 48 && e.2.index == bits (w 1) 52 48 with
  | none => s
  | some e =>
    let a : LeafAttr :=
      { entry := e.1, step := bits (w 2) 31 0, mask := BitVec.ofNat 16 (bits (w 2) 47 32), loser := bit (w 1) 53, todo := [],
        subs := zeroSubs, memerr := false, pass := true, phase := 3, c2 := 0, status := 0 }
    (s.setLeafAttrs (s.ply.attrs ++ [a])).startAttr e.1

/-- Send an attribution request. -/
def State.sendAsk (s : State) (n step : Nat) (r : Replica) (q : Nat × W16 × Bool) : State :=
  let ws := askWords (s.unit 0) n r.addr q.1 q.2.2 step q.2.1
  match s.sendRouted 0x16 6 (withSub r.addr 0) ws with
  | some s' => s'
  | none => s.takeAsk ws

/-- Start an attribution. -/
def State.attribute (s : State) (n : Nat) (j : Job) (a : Attribution) : State :=
  let s1 := s.modAttrs n fun l => l ++ [a]
  a.asks.foldl (fun s q => match j.replicas[q.1]? with | some r => s.sendAsk n a.step r q | none => s) s1

/-- An answer at the vote point. -/
def State.takeAnswer (s : State) (ws : List W64) : State :=
  let w := fun i => ws.getD i 0
  let n := bits (w 0) 55 48
  let bs := wordsBytes (ws.drop 4)
  let x : Answer :=
    { index := bits (w 1) 52 48, mask := BitVec.ofNat 16 (bits (w 2) 47 32), pass := bit (w 2) 48, stable := bit (w 2) 49,
      poison := bit (w 2) 50, memerr := bit (w 2) 51, c2 := w 3, subs := (List.range 16).map fun k => w32At bs k }
  let step := bits (w 2) 31 0
  match Tab.get s.ply.jobs n with
  | none => s
  | some j =>
    match j.attrs.find? fun a => a.step == step && a.asks.any fun q => q.1 == x.index && q.2.1 == x.mask with
    | none => s
    | some a =>
      let b := { a with answers := a.answers.filter (fun y => !(y.index == x.index && y.mask == x.mask)) ++ [x] }
      let s1 := s.modAttrs n fun l => l.map fun y => if y = a then b else y
      if b.asks.all fun q => (answerOf b q.1 q.2.1).isSome then s1.attrEnd n b else s1

/-- A Leaf's attribution ends: its answer goes to the vote point. -/
def State.answerAttr (s : State) (a : LeafAttr) : State :=
  let s1 := s.setLeafAttrs (s.ply.attrs.filter fun x => !(x.entry == a.entry && x.phase != 3))
  match Tab.get s.ply.repls a.entry with
  | none => s1
  | some e =>
    let s2 := (match s1.sendRouted 0x17 6 e.vp (ansWords e a) with
      | some s' => s'
      | none => s1.takeAnswer (ansWords e a))
    s2.startAttr a.entry

/-- A recheck answer: the next block is asked for, or the second polynomial begins. -/
def State.recheckAnswer (s : State) (tag : Nat) (cv : W32) (memerr : Bool) : State :=
  match s.ply.attrs.find? fun a => a.phase == 0 && LeafAttr.tag s a == tag with
  | none => s
  | some a =>
    match a.todo with
    | [] => s
    | b :: rest =>
      let a1 := { a with todo := rest, subs := foldSub a.subs b cv.toNat, memerr := a.memerr || memerr }
      match rest with
      | c :: _ => (s.putLeafAttr a1).emit (.tap 0 0 tag [BitVec.ofNat 64 c])
      | [] => let g := s.attrPhase a1 1; g.1.putLeafAttr g.2

/-- RECHECK_ANSWER (R470). -/
def execRecheckAnswer (tag : Nat) (cv : W32) (memerr : Bool) (s : State) : Host.Outcome State Fault Refusal :=
  act s (if s.plyOff then s else s.recheckAnswer tag cv memerr)

/-- The CVU has read every block concerned twice. `status` holds whether the two reads agree in bit 0 and whether any returned poison in bit 1. -/
def State.secondDone (s : State) (entry : Nat) (c2 : W64) (status : Nat) : State :=
  match s.ply.attrs.find? fun a => a.entry == entry && a.phase == 1 with
  | none => s
  | some a =>
    if s.meter.queue.any fun x => x.use_ == .recheck entry then s
    else
      let a1 := { a with c2, status := status % 4 }
      if a.loser then (let g := s.attrPhase a1 2; g.1.putLeafAttr g.2) else s.answerAttr a1

/-- SECOND_POLYNOMIAL_DONE (R481). -/
def execSecondPolynomialDone (entry : Nat) (c2 : W64) (status : Nat) (s : State) : Host.Outcome State Fault Refusal :=
  act s (if s.plyOff then s else s.secondDone entry c2 status)

/-- The self-test is answered: a failure raises TCHECK at F0 naming the unit (R482). -/
def State.selftest (s : State) (tag : Nat) (cvs : List W32) : State :=
  match s.ply.attrs.find? fun a => a.phase == 2 && LeafAttr.tag s a == tag with
  | none => s
  | some a =>
    let pass := cvs.map (·.toNat) == testValues
    let unit := match Tab.get s.ply.repls a.entry with | some e => e.unit | none => s.unit 0
    let s1 := if pass then s else (s.raise fTCHECK 0 unit 0).healthEvent (hSub unit) .tchk
    s1.answerAttr { a with pass }

/-- SELFTEST_ANSWER (R470). -/
def execSelftestAnswer (tag : Nat) (cvs : List W32) (s : State) : Host.Outcome State Fault Refusal :=
  act s (if s.plyOff then s else s.selftest tag cvs)

/-! ### Rounds (R475 to R479) -/

/-- The present digests of a round, by index (R476). -/
def State.presentOf (s : State) (j : Job) (r : Round) : List Digest :=
  (j.replicas.zipIdx).filterMap fun e =>
    if e.1.expelled || s.dieGone e.1.addr then none else (r.got.find? (·.index == e.2)).bind fun d => if d.incomplete then none else some d

/-- The largest class of a list of digests. -/
def bestClass (l : List Digest) : List Digest :=
  l.foldl (fun b d => let c := l.filter (sameClass d); if c.length > b.length then c else b) []

/-- R477: the result, and the digests of the losers. -/
def verdictOf (l : List Digest) : Nat × List Digest :=
  let b := bestClass l
  if l.length < 2 then (rNO_QUORUM, [])
  else if b.length = l.length then (rAGREE, [])
  else if 2 * b.length > l.length then (rMAJORITY, l.filter fun d => !(b.any fun x => sameClass x d))
  else (rSPLIT, [])

/-- Absences of members (R478). -/
def State.countAbsent (s : State) (n : Nat) (j : Job) (present : List Nat) (step : Nat) : State :=
  (j.replicas.zipIdx).foldl (fun s e =>
    if e.1.expelled then s
    else
      let k := if present.contains e.2 then 0 else e.1.absent + 1
      let s1 := s.modJob n fun j => setReplica j e.2 fun r => { r with absent := k }
      if k ≠ 0 ∧ k = j.policy.missLim then s1.raise fVOTE 0 e.1.addr (voteInfo n step) else s1) s

/-- The classes that differ between any two present replicas of a SPLIT. -/
def splitMask (l : List Digest) : Nat :=
  maskOf ((List.range 16).filter fun k => l.any fun d => d.subs.getD k 0 != ((l.headD d).subs.getD k 0))

/-- Decide a closed round. -/
def State.decideRound (s : State) (n : Nat) (j : Job) (r : Round) : State :=
  let l := s.presentOf j r
  let v := verdictOf l
  let best := bestClass l
  let present := maskOf (l.map (·.index))
  let cls : Option Digest := if v.1 = rAGREE ∨ v.1 = rMAJORITY then best.head? else none
  let winner := match cls with | some d => d.digest | none => 0
  let dec : Decided := { step := r.step, units := r.got.map (·.unit), result := v.1, ft := s.ft, cls }
  let s1 := ((s.bump Reg.PLY_STAT_ROUNDS).led 0xB 0 .out r.got.length).countAbsent n j (l.map (·.index)) r.step
  let s2 := s1.modJob n fun j => { j with decided := dec :: j.decided, lastStep := r.step, lastResult := v.1 }
  let go := fun (asks : List (Nat × W16 × Bool)) (losers : List Nat) (ref : Option Nat) =>
    s2.attribute n j { step := r.step, ft := s.ft, since := s.now, result := v.1, got := l, present := BitVec.ofNat 32 present, winner, losers, ref, asks, answers := [], cmd := none }
  if v.1 = rMAJORITY then
    let refd := best.headD { unit := 0, index := 0, incomplete := false, step := 0, nseen := 0, digest := 0, subs := [], words := [] }
    if j.policy.attrLim = 0 then s2.endRound n r.step s.ft v.1 (v.2.map fun d => (d.index, 0, false)) present winner false
    else
      let masks := v.2.map fun d => (d.index, (BitVec.ofNat 16 (subDiff d refd) : W16))
      go ((masks.map fun e => (e.1, e.2, true)) ++ ((masks.map (·.2)).eraseDups.map fun m => (refd.index, m, false))) (v.2.map (·.index)) (some refd.index)
  else if v.1 = rSPLIT then
    if j.policy.attrLim = 0 then s2.endRound n r.step s.ft rUNRESOLVED [] present 0 false
    else go (l.map fun d => (d.index, BitVec.ofNat 16 (splitMask l), true)) [] none
  else s2.endRound n r.step s.ft v.1 [] present winner false

/-- A round closes: decided, or in host-assisted mode written to the job's round buffer (R475, R495). -/
def State.closeRound (s : State) (n : Nat) (r : Round) : State :=
  match Tab.get s.ply.jobs n with
  | none => s
  | some j =>
    let j1 := { j with rounds := j.rounds.filter (·.step != r.step), closed := some r }
    let s1 := s.setJob n j1
    if s.build.isHub ∧ s.assisted 3 then
      let bs := r.got.flatMap fun d => wordsBytes d.words
      let s2 := s1.ringWrite j.slice j.rbase j.rlog2 j.rbytes bs
      let s3 := if j.mirror then s2.emit (.dma j.slice j.mir (toBytes 8 (j.rbytes + bs.length))) else s2
      (s3.setJob n { j1 with rbytes := j.rbytes + bs.length, decided := { step := r.step, units := r.got.map (·.unit), result := rNO_QUORUM, ft := s.ft, cls := none } :: j1.decided }).led 0xB 0 .out r.got.length
    else s1.decideRound n j1 r

/-- A late digest of a decided round (R479). -/
def State.lateDigest (s : State) (n : Nat) (j : Job) (x : Decided) (d : Digest) : State :=
  let s1 := ((s.bump Reg.PLY_DIGSTAT_LATE).led 0xB 0 .out 1).setJob n { j with decided := j.decided.map fun y => if y.step = x.step then { y with units := y.units ++ [d.unit] } else y }
  match x.cls with
  | some c =>
    if sameClass c d || d.incomplete then s1
    else
      let a : Attribution :=
        { step := x.step, ft := s.ft, since := s.now, result := x.result, got := [c, d], present := BitVec.ofNat 32 (maskOf [c.index, d.index]), winner := c.digest,
          losers := [d.index], ref := some c.index,
          asks := [(d.index, BitVec.ofNat 16 (subDiff d c), true), (c.index, BitVec.ofNat 16 (subDiff d c), false)], answers := [], cmd := none }
      if j.policy.attrLim = 0 then s1.endRound n x.step s.ft x.result [(d.index, 0, false)] a.present.toNat c.digest false
      else s1.attribute n j a
  | none => s1

/-- Every member has sent a digest. -/
def Round.full (r : Round) (j : Job) : Bool := (j.replicas.zipIdx).all fun e => e.1.expelled || r.got.any fun d => d.index == e.2

/-- Put a digest into its open round, which closes when it is full. -/
def State.intoRound (s : State) (n : Nat) (r : Round) (d : Digest) : State :=
  let r1 := { r with got := r.got ++ [d] }
  let s1 := s.modJob n fun j => { j with rounds := j.rounds.map fun x => if x.step = r.step then r1 else x }
  match Tab.get s1.ply.jobs n with
  | some j => if r1.full j then s1.closeRound n r1 else s1
  | none => s1

/-- The oldest open round closes (R475). -/
def oldestRound : List Round → Option Round
  | [] => none
  | r :: l => some (l.foldl (fun m x => if x.openFt < m.openFt then x else m) r)

/-- A digest accepted at the vote point. -/
def State.takeDigest (s : State) (n : Nat) (d : Digest) : State :=
  let pass := fun (s : State) => (s.led 0xB 0 .inn 1).led 0xB 0 .out 1
  match Tab.get s.ply.jobs n with
  | none => pass s
  | some j =>
    if (j.replicas[d.index]?).map (·.addr) != some d.unit then pass s
    else if ((j.replicas[d.index]?).map (·.expelled)).getD false then pass s
    else match j.rounds.find? (·.step == d.step), j.decided.find? (·.step == d.step) with
      | some r, _ =>
        if r.got.any fun x => x.unit == d.unit then (s.led 0xB 0 .inn 1).led 0xB 0 .dup 1 else (s.led 0xB 0 .inn 1).intoRound n r d
      | none, some x =>
        if x.units.contains d.unit then (s.led 0xB 0 .inn 1).led 0xB 0 .dup 1 else (s.led 0xB 0 .inn 1).lateDigest n j x d
      | none, none =>
        if d.step % j.nextPolicy.every ≠ 0 ∨ !s.flag Reg.PLY_CTRL_EN then pass s
        else
          let s0 := (if s.build.isHub then s.fnSwitch 3 else s).led 0xB 0 .inn 1
          let s1 := if j.rounds.length ≥ 2 then (match oldestRound j.rounds with | some r => s0.closeRound n r | none => s0) else s0
          let r : Round := { step := d.step, openFt := s.now, got := [] }
          (s1.modJob n fun j => { j with rounds := j.rounds ++ [r], policy := j.nextPolicy }).intoRound n r d

/-- A digest message (R474). -/
def readDigest (ws : List W64) : Digest :=
  let w := fun i => ws.getD i 0
  let bs := wordsBytes ((ws.drop 5).take 8)
  { unit := BitVec.ofNat 48 (bits (w 2) 47 0), index := bits (w 2) 52 48, incomplete := bit (w 2) 53, step := bits (w 3) 31 0, nseen := bits (w 3) 55 32,
    digest := w 4, subs := (List.range 16).map fun k => w32At bs k, words := ws }

/-- A routed message of Ply: forwarded, or taken here. -/
def State.plyMsg (s : State) (m : Msg) (take : State → List W64 → State) : State :=
  match s.forward m with
  | some s' => s'
  | none => if s.plyOff then s.ledDrop 8 m.port rsnFENCED m.seqs.length else take (s.rxPass m.port m.seqs.length) m.words

/-- DIGEST (R475). -/
def execDigest (p : Nat) (f : Frame) (s : State) : Host.Outcome State Fault Refusal :=
  act s (match s.rx p 0x14 f with
  | (s1, some m) => s1.plyMsg m fun s ws => s.takeDigest (bits (ws.getD 1 0) 55 48) (readDigest ws)
  | (s1, none) => s1)

/-- OUTCOME (R490). -/
def execOutcome (p : Nat) (f : Frame) (s : State) : Host.Outcome State Fault Refusal :=
  act s (match s.rx p 0x15 f with
  | (s1, some m) => s1.plyMsg m State.takeOutcome
  | (s1, none) => s1)

/-- ATTRIB_REQ (R481). -/
def execAttribReq (p : Nat) (f : Frame) (s : State) : Host.Outcome State Fault Refusal :=
  act s (match s.rx p 0x16 f with
  | (s1, some m) => s1.plyMsg m State.takeAsk
  | (s1, none) => s1)

/-- ATTRIB_ANS (R482). -/
def execAttribAns (p : Nat) (f : Frame) (s : State) : Host.Outcome State Fault Refusal :=
  act s (match s.rx p 0x17 f with
  | (s1, some m) => s1.plyMsg m State.takeAnswer
  | (s1, none) => s1)

/-- The deadline of a round passes (R475). -/
def State.roundDeadline (s : State) (n : Nat) : State :=
  match Tab.get s.ply.jobs n with
  | none => s
  | some j =>
    match oldestRound j.rounds with
    | some r => if s.plyOff || j.policy.wait == 0 || decide (s.now < r.openFt + j.policy.wait * ms) then s else s.closeRound n r
    | none => s

/-- ROUND_DEADLINE (R475). -/
def execRoundDeadline (job : Nat) (s : State) : Host.Outcome State Fault Refusal := act s (s.roundDeadline job)

/-- The limit of an attribution passes (R482, R484). -/
def State.attrTimeout (s : State) (n : Nat) : State :=
  match Tab.get s.ply.jobs n with
  | none => s
  | some j =>
    match j.attrs with
    | a :: _ => if s.plyOff || decide (s.now < a.since + j.policy.attrLim * ms) then s else s.attrEnd n a
    | [] => s

/-- ATTRIBUTION_TIMEOUT (R482). -/
def execAttributionTimeout (job : Nat) (s : State) : Host.Outcome State Fault Refusal := act s (s.attrTimeout job)

/-! ### Digests at a Leaf (R469 to R474) -/

def digestWords (ft : Nat) (e : ReplEntry) (incomplete locked : Bool) : List W64 :=
  [BitVec.ofNat 64 ft, BitVec.ofNat 64 (e.vp.toNat + fld 8 48 e.job),
   BitVec.ofNat 64 (e.unit.toNat + fld 5 48 e.index + b2 incomplete 53 + b2 locked 54),
   BitVec.ofNat 64 (fld 32 0 e.step + fld 24 32 e.nseen), e.digest] ++
  bytesWords (e.subs.flatMap fun x => toBytes 4 x.toNat) ++ [0, 0, 0]

/-- The voting interval a Leaf goes by: the job's own at its vote point, else the default (R466, R467). -/
def State.votedStep (s : State) (e : ReplEntry) : Bool :=
  let every := if sameBlock e.vp s.self then (match Tab.get s.ply.jobs e.job with | some j => j.policy.every | none => 8) else 8
  e.step % every == 0

/-- Four voted steps without an outcome raise VOTE at F0, once (R466). -/
def State.countUnanswered (s : State) (k : Nat) (e : ReplEntry) : State :=
  if !(s.votedStep e) then s
  else
    let n := e.unanswered + 1
    let s1 := match Tab.get s.ply.repls k with | some x => s.setRepl k { x with unanswered := n, raised := x.raised || decide (n ≥ 4) } | none => s
    if n ≥ 4 ∧ !e.raised then s1.raise fVOTE 0 e.vp (voteInfo e.job e.step) else s1

/-- The open digest of an entry closes and goes to the vote point (R473). -/
def State.closeDigest (s : State) (k : Nat) (e : ReplEntry) (incomplete : Bool) : State :=
  let ws := digestWords s.ft e incomplete s.locked
  let s1 := (s.setRepl k { e with opened := false }).countUnanswered k e
  let s2 := if incomplete then s1.bump Reg.PLY_DIGSTAT_INCOMPLETE else s1
  match ((s2.led 0xB 0 .inn 1).led 0xB 0 .out 1).sendRouted 0x14 6 e.vp ws with
  | some s' => s'
  | none => s2.takeDigest e.job (readDigest ws)

/-- Fold one record (R472). -/
def ReplEntry.fold (e : ReplEntry) (b cv : Nat) : ReplEntry :=
  { e with digest := e.digest + BitVec.ofNat 64 (mix b cv), subs := foldSub e.subs b cv, nseen := e.nseen + 1 }

def ReplEntry.openAt (e : ReplEntry) (step : Nat) : ReplEntry := { e with opened := true, step, digest := 0, subs := zeroSubs, nseen := 0 }

/-- A tap record (R471 to R473). -/
def State.tapRecord (s : State) (ws : List W64) : State :=
  let w := fun i => ws.getD i 0
  let step := bits (w 1) 63 32
  if s.build.isHub || s.plyOff || !s.flag Reg.PLY_CTRL_EN then s
  else match s.ply.repls.find? fun e => e.2.tag == bits (w 0) 15 0 with
    | none => s.bump Reg.PLY_TAPERR_UNKNOWN
    | some (k, e0) =>
      let e := { e0 with high := some (match e0.high with | some h => max h step | none => step) }
      let s := s.setRepl k e
      if e.opened ∧ step < e.step then s.bump Reg.PLY_TAPERR_STALE
      else
        let s1 := if e.opened ∧ e.step < step then s.closeDigest k e true else s
        match Tab.get s1.ply.repls k with
        | none => s1
        | some e1 =>
          let e2 := (if e1.opened then e1 else e1.openAt step).fold (bits (w 0) 39 16) (bits (w 1) 31 0)
          let s2 := s1.setRepl k e2
          if e2.nseen ≥ e2.nblk then s2.closeDigest k e2 false else s2

/-- TAP_RECORD (R472). -/
def execTapRecord (src : Nat) (words : List W64) (s : State) : Host.Outcome State Fault Refusal :=
  act s (let _ := src; s.tapRecord words)

/-! ### Budgets (R487, R488) -/

/-- A token is due. -/
def State.budgetRefill (s : State) (p : Nat) : State :=
  let refill := s.fget Reg.PLY_BUDCFG_REFILL
  match (s.budget p).fellFt with
  | some f =>
    if p ≥ nParts s.build ∨ refill = 0 ∨ s.ft < f + refill * minuteTicks ∨ s.fget (Reg.PLY_BUD_TOKENS.at p) ≥ s.fget Reg.PLY_BUDCFG_CAP then s
    else (s.setBudget p { s.budget p with fellFt := some (f + refill * minuteTicks) }).addTokens p 1
  | none => s

/-- BUDGET_REFILL (R487). -/
def execBudgetRefill (part : Nat) (s : State) : Host.Outcome State Fault Refusal := act s (s.budgetRefill part)

/-- STORM clears after quiet minutes. -/
def State.stormQuiet (s : State) (p : Nat) : State :=
  let q := s.fget Reg.PLY_BUDCFG_QUIET
  if p < nParts s.build ∧ s.flag (Reg.PLY_BUD_STORM.at p) ∧ q ≠ 0 ∧ s.now ≥ (s.budget p).loserFt + q * minuteTicks then s.fset (Reg.PLY_BUD_STORM.at p) 0
  else s

/-- STORM_QUIET_EXPIRY (R488). -/
def execStormQuietExpiry (part : Nat) (s : State) : Host.Outcome State Fault Refusal := act s (s.stormQuiet part)

/-! ### JOB_DECLARE, VOTE_POLICY and JOB_END (R464 to R468) -/

/-- The first bad replica of a VOTER list (R465). -/
def State.badReplica (s : State) (l : List W64) : Option Nat :=
  (l.zipIdx).findIdx? fun e =>
    let h : Hank := BitVec.ofNat 48 e.1.toNat
    bits e.1 63 48 != 0 || decide (hTier h ≠ 0) || decide (hSub h < 0x100) || !(placeMatch (tierDepth s.tier) (hPlace s.self) (hPlace h)) || (l.take e.2).contains e.1

def State.declareVoter (s : State) (r : Running) (bs : List Byte) : State :=
  let w := wordAt bs
  let n := r.d.count.toNat
  let l := (List.range n).map fun i => w (8 + i)
  let other := (w 0).toNat / 2 != 0 || w 1 != 0 || w 2 != 0 || w 3 != 0 || w 4 != 0
  let ring := decide ((w 5).toNat % 4096 ≠ 0) || decide (bits (w 6) 4 0 < 12) || decide (bits (w 6) 4 0 > 30) || bits (w 6) 63 6 != 0 || decide ((w 7).toNat % 8 ≠ 0)
  s.guarded r [(other || ring || decide (n < 2) || decide (n > 32), stBAD_FIELD)] fun s =>
    match s.badReplica l with
    | some i => s.complete r stBAD_FIELD i r.d.session.toNat
    | none =>
      match Tab.lowestFree s.ply.jobs (nJobs s.build) with
      | none => s.fail r stNO_RESOURCE
      | some k =>
        let j : Job := { slice := r.slice, replicas := l.map fun x => { addr := BitVec.ofNat 48 x.toNat }, rbase := w 5, rlog2 := bits (w 6) 4 0, mirror := bit (w 6) 5, mir := w 7 }
        (s.setJob k j).completeOk r k

def State.declareReplica (s : State) (r : Running) (bs : List Byte) : State :=
  let w := wordAt bs
  let vp : Hank := BitVec.ofNat 48 (bits (w 1) 47 0)
  let unit : Hank := BitVec.ofNat 48 (bits (w 2) 47 0)
  let rsv := bits (w 0) 15 1 != 0 || bits (w 0) 63 56 != 0 || bits (w 1) 63 56 != 0 || bits (w 2) 63 53 != 0 || bits (w 4) 63 5 != 0
    || w 5 != 0 || w 6 != 0 || w 7 != 0 || decide ((w 3).toNat % 4096 ≠ 0) || decide (bits (w 4) 4 0 < 12) || decide (bits (w 4) 4 0 > 26) || r.d.count != 0
  let covers := vp == s.unit 0 || (decide (1 ≤ hTier vp) && decide (hTier vp ≤ 6) && hSub vp == 0 && placeMatch (tierDepth (hTier vp)) (hPlace vp) (hPlace s.self))
  let tag := bits (w 0) 31 16
  s.guarded r [(s.build.isHub || rsv, stBAD_FIELD), (bits (w 0) 55 32 == 0, stLEN_ZERO),
      (!(sameBlock unit s.self) || decide (hSub unit < 0x100) || !covers || s.ply.repls.any (fun e => e.2.tag == tag), stBAD_FIELD)] fun s =>
    match Tab.lowestFree s.ply.repls (nRepls s.build) with
    | none => s.fail r stNO_RESOURCE
    | some k =>
      let e : ReplEntry := { slice := r.slice, tag, nblk := bits (w 0) 55 32, vp, job := bits (w 1) 55 48, unit, index := bits (w 2) 52 48, base := w 3, log2 := bits (w 4) 4 0 }
      (s.setRepl k e).completeOk r k

def State.jobDeclare (s : State) (r : Running) : State :=
  let bs := s.operand r
  let voter := bit (wordAt bs 0) 0
  let len := r.d.len.toNat
  s.checked r { args := r.d.arg0 == 0 && r.d.arg1 == 0, zero := decide (len = 0) || (voter && r.d.count == 0), tooLong := decide (len < 64 + (if voter then 8 * r.d.count.toNat else 0)), reads := true } fun s =>
    if voter then s.declareVoter r bs else s.declareReplica r bs

/-- JOB_DECLARE (R464). -/
def execJobDeclare (src : Src) (d : Desc) (b : Bus) (s : State) : Host.Outcome State Fault Refusal :=
  act s (s.command (.jobDeclare src d b) src d b 0x30 .h false State.jobDeclare)

/-- The job a command names, of its own slice. -/
def State.ownJob (s : State) (r : Running) (n : Nat) : Option Job := (Tab.get s.ply.jobs n).bind fun j => if j.slice = r.slice then some j else none

def State.votePolicy (s : State) (r : Running) : State :=
  let len := r.d.len.toNat
  s.checked r { zero := decide (len = 0), tooLong := decide (len < 32), reads := true } fun s =>
    let w := wordAt (s.operand r)
    let n := bits (w 0) 7 0
    let p : Policy := { every := bits (w 0) 31 16, wait := bits (w 0) 47 32, missLim := bits (w 0) 55 48, mask := BitVec.ofNat 6 (bits (w 0) 61 56), attrLim := bits (w 1) 15 0, fence := bit (w 1) 16 }
    let bad := bits (w 0) 15 8 != 0 || bits (w 0) 63 62 != 0 || bits (w 1) 63 17 != 0 || w 2 != 0 || w 3 != 0 || p.every == 0
    s.guarded r [(bad || (s.ownJob r n).isNone, stBAD_FIELD)] fun s => (s.modJob n fun j => { j with nextPolicy := p }).completeOk r 0

/-- VOTE_POLICY (R467). -/
def execVotePolicy (src : Src) (d : Desc) (b : Bus) (s : State) : Host.Outcome State Fault Refusal :=
  act s (s.command (.votePolicy src d b) src d b 0x32 .h false State.votePolicy)

/-- A VOTER job ends (R468). -/
def State.endJob (s : State) (n : Nat) (j : Job) : State :=
  let s1 := s.led 0xB 0 .out (sumN (j.rounds.map fun r => r.got.length))
  let s2 := j.attrs.foldl (fun s a => match a.cmd with | some r => s.complete r stOK 5 r.d.session.toNat | none => s) s1
  (s2.sendOutcome j (s2.outcomeWords n j j.lastStep rEND 0 0 0)).setJobs (Tab.del s2.ply.jobs n)

def State.jobEnd (s : State) (r : Running) : State :=
  let n := r.d.arg0.toNat
  s.checked r { args := r.d.arg1 == 0 } fun s =>
    let own := (Tab.get s.ply.repls n).any fun e => e.slice == r.slice
    s.guarded r [((s.ownJob r n).isNone && !own, stBAD_FIELD)] fun s =>
      let s1 := match s.ownJob r n with | some j => s.endJob n j | none => s
      let s2 := if own then (s1.setRepls (Tab.del s1.ply.repls n)).setLeafAttrs (s1.ply.attrs.filter (·.entry != n)) else s1
      s2.completeOk r 0

/-- JOB_END (R468). -/
def execJobEnd (src : Src) (d : Desc) (b : Bus) (s : State) : Host.Outcome State Fault Refusal :=
  act s (s.command (.jobEnd src d b) src d b 0x34 .h false State.jobEnd)

/-! ### EXPEL_OVERRIDE (R492) -/

structure Override where
  job : Nat
  index : Nat
  part : Nat
  count : Nat

/-- Read the override block with the ACTION that its row names, and run the action on the job. -/
def State.override_ (s : State) (r : Running) (action : Nat) (body : State → Job → Replica → Override → State) : State :=
  let len := r.d.len.toNat
  s.checked r { zero := decide (len = 0), tooLong := decide (len < 16), reads := true } fun s =>
    let w := wordAt (s.operand r)
    let o : Override := { job := bits (w 0) 15 8, index := bits (w 0) 20 16, part := bits (w 0) 27 24, count := bits (w 0) 47 32 }
    let rsv := bits (w 0) 7 3 != 0 || bits (w 0) 23 21 != 0 || bits (w 0) 31 28 != 0 || bits (w 0) 63 48 != 0 || w 1 != 0
    match rsv || bits (w 0) 2 0 != action, s.ownJob r o.job with
    | true, _ => s.fail r stBAD_FIELD
    | false, none => s.fail r stBAD_FIELD
    | false, some j => (match j.replicas[o.index]? with | none => s.fail r stBAD_FIELD | some x => body s j x o)

/-- The VP's own Snag hears of a restore of a unit of its own die. -/
def State.restoreLocal (s : State) (h : Hank) : State := if !s.build.isHub && sameBlock h s.self then s.unitRestored (hSub h) else s

def State.ovRestore (s : State) (r : Running) : State :=
  s.override_ r 0 fun s _ x o =>
    s.guarded r [(!x.expelled && !x.suspect, stSTATE)] fun s =>
      let s1 := s.modJob o.job fun j => setReplica j o.index fun r => { r with expelled := false, suspect := false }
      let s2 := { s1 with ply := { s1.ply with repls := Tab.mapV (fun _ (e : ReplEntry) => if sameBlock e.vp s.self ∧ e.job = o.job ∧ e.index = o.index then { e with expelled := false } else e) s1.ply.repls } }
      (s2.restoreLocal x.addr).completeOk r 0

/-- EXPEL_OVERRIDE RESTORE (R492). -/
def execExpelOverrideRestore (src : Src) (d : Desc) (b : Bus) (s : State) : Host.Outcome State Fault Refusal :=
  act s (s.command (.expelOverrideRestore src d b) src d b 0x33 .h false State.ovRestore)

def State.ovExpel (s : State) (r : Running) : State :=
  s.override_ r 1 fun s _ x o =>
    let p := s.budgetPart x.addr
    s.guarded r [(s.fget (Reg.PLY_BUD_TOKENS.at p) == 0, stNO_RESOURCE), (x.expelled, stSTATE)] fun s =>
      (((s.spendToken p).bump Reg.PLY_EXPSTAT_EXPELLED).modJob o.job fun j => setReplica j o.index fun r => { r with expelled := true, suspect := false }).completeOk r 0

/-- EXPEL_OVERRIDE EXPEL (R492). -/
def execExpelOverrideExpel (src : Src) (d : Desc) (b : Bus) (s : State) : Host.Outcome State Fault Refusal :=
  act s (s.command (.expelOverrideExpel src d b) src d b 0x33 .h false State.ovExpel)

def State.ovHold (s : State) (r : Running) : State :=
  s.override_ r 2 fun s _ _ o => (s.modJob o.job fun j => setReplica j o.index fun r => { r with hold := o.count }).completeOk r 0

/-- EXPEL_OVERRIDE HOLD (R492). -/
def execExpelOverrideHold (src : Src) (d : Desc) (b : Bus) (s : State) : Host.Outcome State Fault Refusal :=
  act s (s.command (.expelOverrideHold src d b) src d b 0x33 .h false State.ovHold)

def State.ovGrant (s : State) (r : Running) : State :=
  s.override_ r 3 fun s _ _ o =>
    s.guarded r [(decide (o.part ≥ nParts s.build), stBAD_FIELD)] fun s =>
      let n := min o.count (s.fget Reg.PLY_BUDCFG_CAP - s.fget (Reg.PLY_BUD_TOKENS.at o.part))
      (if n = 0 then s else s.addTokens o.part n).completeOk r n

/-- EXPEL_OVERRIDE GRANT (R492). -/
def execExpelOverrideGrant (src : Src) (d : Desc) (b : Bus) (s : State) : Host.Outcome State Fault Refusal :=
  act s (s.command (.expelOverrideGrant src d b) src d b 0x33 .h false State.ovGrant)

def State.ovClear (s : State) (r : Running) : State :=
  s.override_ r 4 fun s _ _ o =>
    s.guarded r [(!s.flag (Reg.PLY_BUD_STORM.at o.part) || decide (o.part ≥ nParts s.build), stSTATE)] fun s =>
      (s.fset (Reg.PLY_BUD_STORM.at o.part) 0).completeOk r 0

/-- EXPEL_OVERRIDE CLEAR_STORM (R492). -/
def execExpelOverrideClearStorm (src : Src) (d : Desc) (b : Bus) (s : State) : Host.Outcome State Fault Refusal :=
  act s (s.command (.expelOverrideClearStorm src d b) src d b 0x33 .h false State.ovClear)

def State.ovAttribute (s : State) (r : Running) : State :=
  s.override_ r 5 fun s j _ o =>
    let ref := o.count % 32
    s.guarded r [(!s.assisted 3, stMODE)] fun s =>
      match j.closed with
      | none => s.fail r stSTATE
      | some x =>
        match digestOf x.got o.index, digestOf x.got ref with
        | some a, some c =>
          if j.policy.attrLim = 0 then s.completeOk r 0
          else
            let m : W16 := BitVec.ofNat 16 (subDiff a c)
            s.attribute o.job j
              { step := x.step, ft := s.ft, since := s.now, result := rMAJORITY, got := [a, c], present := BitVec.ofNat 32 (maskOf [o.index, ref]),
                winner := c.digest, losers := [o.index], ref := some ref, asks := [(o.index, m, true), (ref, m, false)], answers := [], cmd := some r }
        | _, _ => s.fail r stSTATE

/-- EXPEL_OVERRIDE ATTRIBUTE (R492). -/
def execExpelOverrideAttribute (src : Src) (d : Desc) (b : Bus) (s : State) : Host.Outcome State Fault Refusal :=
  act s (s.command (.expelOverrideAttribute src d b) src d b 0x33 .h false State.ovAttribute)

end Sys2Proof.Machine
end

