-- ==== Sys2Proof/Machine/Staple.lean ====
section
/-! DEFINITION. Staple (R540 to R565): pattern packages, safe points, the running of tests through the meter, results, deferrals and the health record. -/

namespace Sys2Proof.Machine

def State.stapleOff (s : State) : Bool := s.build.isHub || s.stopped || s.isFenced 0x11

def tkey (slot test : Nat) : Nat := slot * 256 + test
def State.tstate (s : State) (k : Nat) : TestState := Tab.getD s.stp.tests k {}
def State.setTstate (s : State) (k : Nat) (x : TestState) : State := { s with stp := { s.stp with tests := Tab.set s.stp.tests k x } }
def State.setRun (s : State) (r : Option Run) : State := { s with stp := { s.stp with run := r } }

/-- A held test. -/
def State.stest (s : State) (slot test : Nat) : Option STest := (Tab.get s.stp.pkgs slot).bind fun p => p.tests[test]?

/-- Every held test with its slot and index. -/
def State.heldTests (s : State) : List (Nat × Nat × STest) :=
  s.stp.pkgs.flatMap fun e => (e.2.tests.zipIdx).map fun t => (e.1, t.2, t.1)

/-- When a test is or was due (R549). -/
def State.dueFt (s : State) (slot test : Nat) (t : STest) : Nat :=
  let x := s.tstate (tkey slot test)
  match x.lastRun with
  | some l => l + t.interval * hourTicks
  | none => x.loadFt

def State.isDue (s : State) (slot test : Nat) (t : STest) : Bool := decide (s.dueFt slot test t ≤ s.ft)

/-! ### Packages (R542 to R546) -/

/-- The operations of a program: OP, VAL, ADDR and whether its reserved bits are 0. -/
def opsOf (bs : List Byte) (off len : Nat) : List (Nat × W32 × W64 × Bool) :=
  (List.range (len / 16)).map fun i =>
    let w0 := wordAt (bs.drop (off + 16 * i)) 0
    let w1 := wordAt (bs.drop (off + 16 * i)) 1
    (bits w0 3 0, BitVec.ofNat 32 (bits w0 63 32), w1, bits w0 31 4 == 0)

/-- An address lies in a window that the integrator opened to tests. -/
def State.inWindow (s : State) (a : Nat) : Bool :=
  (List.range 8).any fun w =>
    let n := s.fget (Reg.STP_WIN_LOG2.at w)
    n != 0 && a / 2 ^ n == 4096 * s.fget (Reg.STP_WIN_BASE.at w) / 2 ^ n

/-- A program is allowed (R545, check 6), up to and including its END. -/
def State.progOk (s : State) : List (Nat × W32 × W64 × Bool) → Bool
  | [] => false
  | (op, _, addr, rsv) :: l =>
    if !rsv || decide (op > 4) then false
    else if op = 0 then true
    else (op == 3 || (addr.toNat % 4 == 0 && s.inWindow addr.toNat)) && s.progOk l

/-- The body of a package with its table (R543). -/
structure PkgView where
  body : List Byte
  ntest : Nat

def PkgView.word (v : PkgView) (t i : Nat) : W64 := wordAt (v.body.drop (32 * t)) i

/-- Check 4 of one test: reserved bits and programs inside the body. -/
def PkgView.inside (v : PkgView) (t : Nat) : Bool :=
  let w := v.word t
  bits (w 0) 15 11 == 0 && bits (w 1) 31 0 % 16 == 0 && decide (bits (w 1) 31 0 + bits (w 1) 63 32 ≤ v.body.length)
    && decide (bits (w 2) 31 0 + bits (w 2) 63 32 ≤ v.body.length)

/-- Check 5 of one test. -/
def PkgView.fields (v : PkgView) (t : Nat) : Bool :=
  let w := v.word t
  decide (0x100 ≤ bits (w 0) 10 0) && bits (w 0) 31 16 != 0 && bits (w 3) 31 0 != 0 && bits (w 3) 63 32 != 0

def PkgView.progs (v : PkgView) (t : Nat) : List (Nat × W32 × W64 × Bool) × List (Nat × W32 × W64 × Bool) :=
  let w := v.word t
  (opsOf v.body (bits (w 1) 31 0) (bits (w 1) 63 32), opsOf v.body (bits (w 2) 31 0) (bits (w 2) 63 32))

def PkgView.test (v : PkgView) (t : Nat) : STest :=
  let w := v.word t
  let strip := fun (l : List (Nat × W32 × W64 × Bool)) => l.map fun o => (o.1, o.2.1, o.2.2.1)
  { unit := bits (w 0) 10 0, interval := bits (w 0) 31 16, expect := BitVec.ofNat 32 (bits (w 0) 63 32), dur := bits (w 3) 31 0, rdur := bits (w 3) 63 32,
    prog := strip (v.progs t).1, rest := strip (v.progs t).2 }

/-- The signature of a package against the key of the image in force (R542). -/
def State.pkgSigned (s : State) (bs : List Byte) : Bool :=
  let n := 64 + bits (wordAt bs 3) 31 0
  bits (wordAt bs 2) 15 0 == s.fget Reg.STP_KEYID_KEYID && (match s.boot.image with
    | some i => signatureOk (beNat (i.stapleKey.take 48)) (beNat (i.stapleKey.drop 48)) ((bs.drop n).take 96) (bs.take n)
    | none => false)

/-- Checks 1 to 6 of R545: the code and index of the first that fails. -/
def State.pkgBad (s : State) (bs : List Byte) : Option (Nat × Nat) :=
  let w := wordAt bs
  let body := bits (w 3) 31 0
  let v : PkgView := { body := (bs.drop 64).take body, ntest := bits (w 2) 24 16 }
  let ts := List.range v.ntest
  if bits (w 0) 31 0 ≠ 0x53545A50 ∨ bits (w 0) 47 32 ≠ 1 then some (1, 0)
  else if bs.length < 160 + body ∨ !(s.pkgSigned bs) then some (2, 0)
  else if bits (w 2) 63 32 ≠ s.fget Reg.STP_HOSTID_HOSTID then some (3, 0)
  else if bits (w 0) 63 48 ≠ 0 ∨ bits (w 1) 31 0 = 0 ∨ v.ntest = 0 ∨ v.ntest > 256 ∨ bits (w 2) 31 25 ≠ 0 ∨ bits (w 3) 63 32 ≠ 0 ∨ body % 16 ≠ 0 ∨
      w 4 ≠ 0 ∨ w 5 ≠ 0 ∨ w 6 ≠ 0 ∨ w 7 ≠ 0 ∨ body < 32 * v.ntest then some (4, 0)
  else match ts.find? fun t => !(v.inside t) with
    | some t => some (4, t)
    | none =>
      match ts.find? fun t => !(v.fields t) with
      | some t => some (5, t)
      | none => (ts.find? fun t => !(s.progOk (v.progs t).1 && s.progOk (v.progs t).2)).map fun t => (6, t)

def pkgOf (bs : List Byte) : Package :=
  let w := wordAt bs
  let body := bits (w 3) 31 0
  let v : PkgView := { body := (bs.drop 64).take body, ntest := bits (w 2) 24 16 }
  { pkgid := BitVec.ofNat 32 (bits (w 1) 31 0), ver := BitVec.ofNat 32 (bits (w 1) 63 32), bytes := bs.take (160 + body), tests := (List.range v.ntest).map v.test }

/-- Bytes that a package takes in the store. -/
def Package.size (p : Package) : Nat := p.bytes.length - 96

/-- The packages as they will stand after the changes that wait. -/
def State.pkgsNext (s : State) : Tab Package :=
  s.stp.changes.foldl (fun t c => match c.2 with | some p => Tab.set t c.1 p | none => Tab.del t c.1) s.stp.pkgs

/-- Store or remove a package in a slot (R546): a test of the same unit and index keeps its state. -/
def State.applyChange (s : State) (c : Nat × Option Package) : State :=
  let old := Tab.get s.stp.pkgs c.1
  let others := s.stp.tests.filter fun e => e.1 / 256 != c.1
  match c.2 with
  | none =>
    let s1 := { s with stp := { s.stp with pkgs := Tab.del s.stp.pkgs c.1, tests := others } }
    (match old with
    | some p => s1.logAdd 6 s.ft { w0 := BitVec.ofNat 64 (p.pkgid.toNat + p.ver.toNat * 2 ^ 32), w1 := BitVec.ofNat 64 (c.1 + 4), w2 := 0, w3 := 0 }
    | none => s1)
  | some p =>
    let kept := (p.tests.zipIdx).map fun t =>
      let k := tkey c.1 t.2
      let same := match old with | some q => (match q.tests[t.2]? with | some u => u.unit == t.1.unit | none => false) | none => false
      (k, if same then s.tstate k else { loadFt := s.ft })
    let s1 := { s with stp := { s.stp with pkgs := Tab.set s.stp.pkgs c.1 p, tests := kept.foldl (fun (t : Tab TestState) (e : Nat × TestState) => Tab.set t e.1 e.2) others } }
    s1.logAdd 6 s.ft { w0 := BitVec.ofNat 64 (p.pkgid.toNat + p.ver.toNat * 2 ^ 32), w1 := BitVec.ofNat 64 c.1, w2 := 0, w3 := 0 }

/-- The changes that no running test holds up take place, and their commands complete. -/
def State.applyChanges (s : State) : State :=
  let busy := fun (k : Nat) => match s.stp.run with | some r => r.slot == k | none => false
  let now := s.stp.changes.filter fun c => !(busy c.1)
  let cmds := s.stp.changeCmds.filter fun c => !(busy c.2)
  let s1 := { s with stp := { s.stp with changes := s.stp.changes.filter fun c => busy c.1, changeCmds := s.stp.changeCmds.filter fun c => busy c.2 } }
  cmds.foldl (fun s c => s.completeOk c.1 c.2) (now.foldl State.applyChange s1)

def State.addChange (s : State) (r : Running) (slot : Nat) (p : Option Package) : State :=
  ({ s with stp := { s.stp with changes := s.stp.changes ++ [(slot, p)], changeCmds := s.stp.changeCmds ++ [(r, slot)] } }).applyChanges

def State.stpStore (s : State) (r : Running) : State :=
  let len := r.d.len.toNat
  s.checked r { args := decide (r.d.arg0.toNat / 2 = 0) && r.d.arg1 == 0, zero := decide (len = 0), tooLong := decide (len < 160), reads := true } fun s =>
    if s.build.isHub then s.fail r stNO_RESOURCE
    else
      let bs := s.operand r
      match s.pkgBad bs with
      | some e => s.complete r stBAD_FIELD (e.1 * 2 ^ 20 + e.2) r.d.session.toNat
      | none =>
        let p := pkgOf bs
        let held := s.pkgsNext
        let old := held.find? fun e => e.2.pkgid == p.pkgid
        let slot := match old with | some e => some e.1 | none => Tab.lowestFree held 4
        let room := sumN ((held.filter fun e => e.2.pkgid != p.pkgid).map fun e => e.2.size) + p.size
        s.guarded r [((match old with | some e => decide (p.ver.toNat ≤ e.2.ver.toNat) | none => false), stSTATE),
            (slot.isNone || decide (room > 262144), stNO_RESOURCE)] fun s =>
          s.addChange r (slot.getD 0) (some p)

def State.stpRemove (s : State) (r : Running) : State :=
  s.checked r { args := decide (r.d.arg0.toNat / 2 = 0) && decide (bits r.d.arg1 63 32 = 0) } fun s =>
    if s.build.isHub then s.fail r stNO_RESOURCE
    else match s.pkgsNext.find? fun e => e.2.pkgid.toNat == bits r.d.arg1 31 0 with
      | some e => s.addChange r e.1 none
      | none => s.fail r stSTATE

/-- The descriptor with bit 0 of ARG0 as a row of an opcode gives it. -/
def arg0Bit (d : Desc) (v : Bool) : Desc :=
  { d with arg0 := if v then d.arg0 ||| 1#32 else d.arg0 &&& ~~~1#32 }

/-- STP_LOAD with REMOVE 0 (R545). -/
def execStpLoad (src : Src) (d : Desc) (b : Bus) (s : State) : Host.Outcome State Fault Refusal :=
  act s (s.command (.stpLoad src d b) src (arg0Bit d false) b 0x70 .m false State.stpStore)

/-- STP_LOAD with REMOVE 1 (R546). -/
def execStpLoadRemove (src : Src) (d : Desc) (b : Bus) (s : State) : Host.Outcome State Fault Refusal :=
  act s (s.command (.stpLoadRemove src d b) src (arg0Bit d true) b 0x70 .m false State.stpRemove)

/-! ### Safe points (R548, R557) -/

def SafePoint.stop (p : SafePoint) : Nat := p.start + 4 * p.len
def SafePoint.covers (s : State) (p : SafePoint) (u : Nat) : Bool :=
  p.mask == 0 || (match s.hostPart u with | some n => bit p.mask n | none => false)

def State.setPoints (s : State) (l : List SafePoint) : State := { s with stp := { s.stp with points := l } }

/-- The event timer stands at the earliest pending start. -/
def State.armSafe (s : State) : State × Bool :=
  let s1 := s.disarm (.safePoint 0)
  match (s.stp.points.filter fun p => !p.opened).map (·.start) with
  | [] => (s1, true)
  | t :: l => s1.armTimer (l.foldl min t) (.safePoint 0)

def State.safePoint (s : State) (r : Running) : State :=
  let len := r.d.arg0.toNat
  let t := r.d.arg1.toNat
  let count := r.d.count.toNat
  s.checked r {} fun s =>
    if s.build.isHub then s.fail r stNO_RESOURCE
    else
      let p : SafePoint := { start := t, len, mask := BitVec.ofNat 8 count, opened := false, ran := [] }
      let s1 := (s.setPoints (s.stp.points ++ [p])).armSafe
      s.guarded r [(decide (len = 0), stLEN_ZERO), (decide (count / 256 ≠ 0), stBAD_FIELD), (s.late t, stLATE),
          (decide (s.stp.points.length ≥ 8) || !s1.2, stNO_RESOURCE)] fun _ =>
        (s1.1.bump Reg.STP_SPSTAT_DECLARED).completeOk r 0

/-- SAFE_POINT (R548). -/
def execSafePoint (src : Src) (d : Desc) (b : Bus) (s : State) : Host.Outcome State Fault Refusal :=
  act s (s.command (.safePoint src d b) src d b 0x71 .h false State.safePoint)

/-! ### Running tests (R550 to R555) -/

/-- The open safe points that cover a unit. -/
def State.coverPoints (s : State) (u : Nat) : List SafePoint := s.stp.points.filter fun p => p.opened && p.covers s u

/-- A test meets R550 now, the order apart. -/
def State.mayRun (s : State) (slot test : Nat) (t : STest) : Bool :=
  let until_ := ((s.coverPoints t.unit).map SafePoint.stop).foldl max 0
  s.isDue slot test t && !(s.coverPoints t.unit).isEmpty && !(s.health t.unit).retired && !s.stopped
    && !(match s.hostPart t.unit with | some n => s.partFenced n | none => false)
    && decide (s.ft + (t.dur + t.rdur) * us ≤ until_) && s.flag Reg.STP_CTRL_EN

/-- The first test in the order of R550. -/
def State.pickTest (s : State) : Option (Nat × Nat × STest) :=
  let ord := fun (c : Nat × Nat × STest) => s.dueFt c.1 c.2.1 c.2.2
  (s.heldTests.filter fun c => s.mayRun c.1 c.2.1 c.2.2).foldl (fun b c =>
    match b with
    | none => some c
    | some x => if ord c < ord x then some c else b) none

/-- The operation at which the run stands. -/
def State.curOp (s : State) (r : Run) : Nat × W32 × W64 :=
  match s.stest r.slot r.test with
  | some t => ((if r.restoring then t.rest else t.prog)[r.pc]?).getD (0, 0, 0)
  | none => (0, 0, 0)

/-- The operation at `pc` begins: a transfer joins the meter's queue, or a wait runs. -/
def State.startOp (s : State) : State :=
  match s.stp.run with
  | none => s
  | some r =>
    let o := s.curOp r
    let s1 := s.setRun (some { r with opFt := s.now })
    let x := fun (d : List Byte) => s1.addXfers [{ cls := 3, use_ := .test, slice := 0, addr := o.2.2, data := d, left := 4, waited := false }]
    match o.1 with
    | 1 => x (toBytes 4 o.2.1.toNat)
    | 2 => x []
    | 4 => x []
    | _ => s1

/-- Start a test. -/
def State.startTest (s : State) (slot test : Nat) (t : STest) : State :=
  let r : Run := { slot, test, ft := s.ft, since := s.now, restoring := false, restFt := 0, pc := 0, sig := 0xFFFFFFFF, sigDone := false, result := 0, abandoned := false, opFt := s.now, ending := false }
  let s1 := (s.setPoints (s.stp.points.map fun (p : SafePoint) => if p.opened then { p with ran := tkey slot test :: p.ran } else p)).setRun (some r)
  (s1.emit (.testRun slot test false t.unit)).startOp

/-- The decision at a safe-point start and at a test's end (R550, R564). -/
def State.decideTest (s : State) : State :=
  let s := s.fnSwitch 5
  if s.stapleOff || s.stp.run.isSome || s.assisted 5 then s
  else match s.pickTest with
    | some c => s.startTest c.1 c.2.1 c.2.2
    | none => s

/-- A transfer of the running program is issued and has not completed. -/
def State.testFlying (s : State) : Bool := s.meter.queue.any fun x => x.use_ == .test && x.flying
def State.dropTestXfers (s : State) : State :=
  { s with meter := { s.meter with queue := s.meter.queue.filter fun x => x.use_ != .test } }

/-- The restore program starts. -/
def State.startRestore (s : State) : State :=
  match s.stp.run with
  | none => s
  | some r =>
    let unit := match s.stest r.slot r.test with | some t => t.unit | none => 0
    ((s.setRun (some { r with restoring := true, restFt := s.now, pc := 0, ending := false })).emit (.testRun r.slot r.test true unit)).startOp

/-- The 32-byte record of a run (R555). -/
def State.runRecord (s : State) (r : Run) (result : Nat) : Rec :=
  let t := s.stest r.slot r.test
  let unit := match t with | some t => t.unit | none => 0
  let p := Tab.get s.stp.pkgs r.slot
  { w0 := BitVec.ofNat 64 r.ft,
    w1 := BitVec.ofNat 64 (unit + fld 8 16 r.test + fld 2 24 r.slot + fld 3 26 result + b2 s.locked 29 + (match p with | some p => p.ver.toNat * 2 ^ 32 | none => 0)),
    w2 := BitVec.ofNat 64 ((if r.sigDone then r.sig ^^^ 0xFFFFFFFF else 0) + (match t with | some t => t.expect.toNat * 2 ^ 32 | none => 0)),
    w3 := BitVec.ofNat 64 (min ((s.ft - r.ft) / us) 0xFFFFFFFF + (match p with | some p => p.pkgid.toNat * 2 ^ 32 | none => 0)) }

/-- Queue a result record (R555) and raise its FTEST fault (R554). -/
def State.runReport (s : State) (x : Rec) : State :=
  let result := bits x.w1 28 26
  let s1 := s.led 5 65 .inn 1
  let s2 := if s1.qFits 65 1 then { s1 with stp := { s1.stp with results := s1.stp.results ++ [x] } }
    else (s1.ledDrop 5 65 0xF 1).bump Reg.STP_RQSTAT_LOST
  let lvl := if result = 4 then 1 else if (result = 1 ∨ result = 2) ∧ s.flag Reg.STP_CTRL_FAIL_LVL then 1 else 0
  if result = 0 then s2
  else s2.raise fFTEST lvl (s.unit (bits x.w1 10 0)) (result + fld 8 8 (bits x.w1 23 16) + fld 2 16 (bits x.w1 25 24) + fld 32 32 (bits x.w2 31 0))

/-- An OVERDUE record (R558). -/
def State.overdueRecord (s : State) (ft unit slot test defer : Nat) (clear : Bool) : Rec :=
  slubRec ft (s.unit unit) 0 9 defer (b2 s.locked 3 + b2 clear 6 + b2 true 10) 0 (s.unit 0) (test + fld 2 8 slot)

def State.sendOverdue (s : State) (r : Rec) : State := (s.pushTo (s.fget Reg.STP_CTRL_VSLICE) 9 r).faultIrq

/-- The effects of a completed run (R553, R557 to R559). -/
def State.runCompleted (s : State) (r : Run) (result : Nat) (t : STest) : State :=
  let k := tkey r.slot r.test
  let x := s.tstate k
  let s1 := if x.overdue then s.sendOverdue (s.overdueRecord r.ft t.unit r.slot r.test x.defer true) else s
  let s2 := s1.setTstate k { x with lastRun := some r.ft, defer := 0, overdue := false }
  let h := s2.health t.unit
  let bad := result != 0
  let s3 := s2.setHealth t.unit { h with runs := min 0xFFFF (h.runs + 1), fails := if bad then min 0xFFFF (h.fails + 1) else h.fails, held := h.held && bad }
  if bad then s3.healthEvent t.unit .fail else s3

/-- A run ends. -/
def State.runEnd (s : State) : State :=
  match s.stp.run with
  | none => s
  | some r =>
    let result := if r.abandoned then 5 else r.result
    let s1 := (s.setRun none).runReport (s.runRecord r result)
    let s2 := match s.stest r.slot r.test with
      | some t => if result = 3 ∨ result = 5 then s1 else s1.runCompleted r result t
      | none => s1
    s2.applyChanges.decideTest

/-- The next operation. -/
def State.nextOp (s : State) (r : Run) : State := (s.setRun (some { r with pc := r.pc + 1 })).startOp

/-- A test transfer has completed: with the value read, or failed (R544, R551, R553). -/
def State.testMoved (s : State) (ok : Bool) (v : W32) : State :=
  match s.stp.run with
  | none => s
  | some r =>
    let o := s.curOp r
    let r1 := if ok then r else { r with result := 3 }
    let s1 := s.setRun (some r1)
    if r.ending then (if r.restoring then s1.runEnd else s1.startRestore)
    else if !ok then (if r.restoring then s1.runEnd else s1.startRestore)
    else if o.1 = 4 ∧ v ≠ o.2.1 then s1.startOp
    else if o.1 = 2 ∧ !r.restoring then s.nextOp { r with sig := crcBytes polyC r.sig (toBytes 4 v.toNat) }
    else s.nextOp r

/-- A WAIT runs out. -/
def State.testWait (s : State) : State :=
  match s.stp.run with
  | none => s
  | some r =>
    let o := s.curOp r
    if s.stapleOff || o.1 != 3 || decide (s.now < r.opFt + 4 * o.2.1.toNat) then s else s.nextOp r

/-- TEST_WAIT_EXPIRY (R544). -/
def execTestWaitExpiry (s : State) : Host.Outcome State Fault Refusal := act s s.testWait

/-- The test program reaches END: the signature decides between PASS and FAIL. -/
def State.testEnd (s : State) : State :=
  match s.stp.run with
  | none => s
  | some r =>
    match s.stest r.slot r.test with
    | none => s
    | some t =>
      if s.stapleOff || r.restoring || r.ending || (s.curOp r).1 != 0 then s
      else (s.setRun (some { r with sigDone := true, result := if r.sig ^^^ 0xFFFFFFFF = t.expect.toNat then 0 else 1 })).startRestore

/-- TEST_PROGRAM_END (R553). -/
def execTestProgramEnd (s : State) : Host.Outcome State Fault Refusal := act s s.testEnd

/-- The restore program reaches END. -/
def State.restoreEnd (s : State) : State :=
  match s.stp.run with
  | none => s
  | some r => if s.stapleOff || !r.restoring || r.ending || (s.curOp r).1 != 0 then s else s.runEnd

/-- RESTORE_PROGRAM_END (R553). -/
def execRestoreProgramEnd (s : State) : Host.Outcome State Fault Refusal := act s s.restoreEnd

/-- DUR passes: the transfer in flight completes, nothing more issues, and the restore program runs. -/
def State.testDur (s : State) : State :=
  match s.stp.run with
  | none => s
  | some r =>
    match s.stest r.slot r.test with
    | none => s
    | some t =>
      if s.stapleOff || r.restoring || r.ending || decide (s.now < r.since + t.dur * us) then s
      else
        let s1 := s.setRun (some { r with result := 2, ending := s.testFlying })
        if s.testFlying then s1 else s1.dropTestXfers.startRestore

/-- TEST_DUR_EXPIRY (R551). -/
def execTestDurExpiry (s : State) : Host.Outcome State Fault Refusal := act s s.testDur

/-- RDUR passes: the run stops with the unit in an unknown state. -/
def State.restoreDur (s : State) : State :=
  match s.stp.run with
  | none => s
  | some r =>
    match s.stest r.slot r.test with
    | none => s
    | some t =>
      if s.stapleOff || !r.restoring || r.ending || decide (s.now < r.restFt + t.rdur * us) then s
      else
        let s1 := s.setRun (some { r with result := if r.result ≤ 2 then 4 else r.result, ending := s.testFlying })
        if s.testFlying then s1 else s1.dropTestXfers.runEnd

/-- RESTORE_DUR_EXPIRY (R551). -/
def execRestoreDurExpiry (s : State) : Host.Outcome State Fault Refusal := act s s.restoreDur

/-! ### Events of safe points and due times -/

/-- The start of the earliest pending safe point is reached. -/
def State.safeStart (s : State) : State :=
  match s.timerDue (.safePoint 0) with
  | none => s
  | some _ =>
    if s.stapleOff then s
    else
      let s1 := s.setPoints (s.stp.points.map fun (p : SafePoint) => if p.start ≤ s.ft then { p with opened := true } else p)
      s1.armSafe.1.decideTest

/-- SAFE_POINT_START (R550). -/
def execSafePointStart (s : State) : Host.Outcome State Fault Refusal := act s s.safeStart

/-- One deferral for each due test that a safe point covered and that did not start in it (R557). -/
def State.deferAll (s : State) (p : SafePoint) : State :=
  s.heldTests.foldl (fun s c =>
    let k := tkey c.1 c.2.1
    if s.isDue c.1 c.2.1 c.2.2 && p.covers s c.2.2.unit && !(p.ran.contains k) then
      s.setTstate k { s.tstate k with defer := min 0xFFFF ((s.tstate k).defer + 1) }
    else s) s

/-- Safe points whose end has come. -/
def State.safeEnd (s : State) : State :=
  let gone := s.stp.points.filter fun p => p.opened && decide (p.stop ≤ s.ft)
  if s.stapleOff || gone.isEmpty then s
  else (gone.foldl State.deferAll s).setPoints (s.stp.points.filter fun p => !(p.opened && decide (p.stop ≤ s.ft)))

/-- SAFE_POINT_END (R557). -/
def execSafePointEnd (s : State) : Host.Outcome State Fault Refusal := act s s.safeEnd

/-- A due test passes `STP_MAXDEF` hours without a completed run. -/
def State.overdueLimit (s : State) (slot test : Nat) : State :=
  match s.stest slot test with
  | none => s
  | some t =>
    let k := tkey slot test
    let x := s.tstate k
    let h := s.fget Reg.STP_MAXDEF_HOURS
    let at_ := s.dueFt slot test t + h * hourTicks
    if s.stapleOff || h == 0 || x.overdue || decide (s.ft < at_) then s
    else ((s.setTstate k { x with overdue := true }).sendOverdue (s.overdueRecord at_ t.unit slot test x.defer false)).healthEvent t.unit .ovd

/-- OVERDUE_LIMIT (R558). -/
def execOverdueLimit (slot test : Nat) (s : State) : Host.Outcome State Fault Refusal := act s (s.overdueLimit slot test)

/-- The driver starts a test (R564). -/
def State.stpGo (s : State) : State :=
  let slot := s.fget Reg.STP_RUN_SLOT
  let test := s.fget Reg.STP_RUN_TEST
  match s.stest slot test with
  | some t =>
    if s.assisted 5 && s.stp.run.isNone && !s.stapleOff && s.mayRun slot test t then (s.fset Reg.STP_STATUS_RUN_ERR 0).startTest slot test t
    else s.fset Reg.STP_STATUS_RUN_ERR 1
  | none => s.fset Reg.STP_STATUS_RUN_ERR 1

/-- A write of `STP_RUN`: TEST and SLOT are held, and GO starts. -/
def State.stpRunWrite (s : State) (a : Acc) (v : W32) : State :=
  let w := s.mwWrite Reg.STP_RUN_TEST.addr 0x7FF a v
  if s.build.isHub then s
  else
    let s1 := s.regSet Reg.STP_RUN_TEST.addr (w &&& 0x3FF#32)
    if bit w 10 then s1.stpGo else s1

/-- STP_RUN (R564). -/
def execStpRun (a : Acc) (v : W32) (s : State) : Host.Outcome State Fault Refusal :=
  act s (s.regAccess (.stpRun a v) a 0x11 fun s => s.stpRunWrite a v)

/-! ### STP_RESULTS and the health record (R556, R561) -/

def State.stpResults (s : State) (r : Running) : State :=
  let len := r.d.len.toNat
  s.checked r { args := decide (r.d.arg0.toNat / 2 = 0), zero := decide (len = 0), tooLong := decide (len < 32) } fun s =>
    if s.build.isHub then s.fail r stNO_RESOURCE
    else
      let n := min s.stp.results.length (len / 32)
      let out := s.stp.results.take n
      let s1 := { s with stp := { s.stp with results := s.stp.results.drop n } }
      (if n = 0 then s1 else s1.led 5 65 .out n).finish r (out.flatMap recBytes) (32 * n)

/-- STP_RESULTS with ARG0[0] = 0 (R556). -/
def execStpResults (src : Src) (d : Desc) (b : Bus) (s : State) : Host.Outcome State Fault Refusal :=
  act s (s.command (.stpResults src d b) src (arg0Bit d false) b 0x72 .hm false State.stpResults)

def Health.any (h : Health) : Bool := h.fail != 0 || h.tchk != 0 || h.vloss != 0 || h.ovd != 0

/-- The units that the health record lists. -/
def State.healthUnits (s : State) : List Nat :=
  (List.range 0x700).map (· + 0x100) |>.filter fun u => (s.health u).any || s.heldTests.any fun c => c.2.2.unit == u

def State.unitTests (s : State) (u : Nat) : List (Nat × Nat × STest) := s.heldTests.filter fun c => c.2.2.unit == u

/-- Least LASTRUN over a unit's tests, 0 when one has never completed; none where the unit has no test. -/
def State.untested (s : State) (u : Nat) : Option Nat :=
  match (s.unitTests u).map fun c => ((s.tstate (tkey c.1 c.2.1)).lastRun).getD 0 with
  | [] => none
  | x :: l => some (l.foldl min x)

def State.unitDefer (s : State) (u : Nat) : Nat :=
  min 0xFFFF (sumN (((s.unitTests u).filter fun c => s.isDue c.1 c.2.1 c.2.2).map fun c => (s.tstate (tkey c.1 c.2.1)).defer))

/-- Tests now past `STP_MAXDEF`. -/
def State.overdueCount (s : State) : Nat :=
  let h := s.fget Reg.STP_MAXDEF_HOURS
  if h = 0 then 0 else (s.heldTests.filter fun c => decide (s.dueFt c.1 c.2.1 c.2.2 + h * hourTicks ≤ s.ft)).length

/-- One entry of the health record; UNTESTED of a unit with no test is a free word. -/
def State.healthEntry (s : State) (u : Nat) (free : W64) : List W64 :=
  let h := s.health u
  let due := ((s.unitTests u).filter fun c => s.isDue c.1 c.2.1 c.2.2).length
  [BitVec.ofNat 64 (u + b2 h.retired 11 + b2 h.suspect 12 + b2 h.held 13 + fld 8 16 (s.score h) + fld 16 32 due + fld 16 48 (s.unitDefer u)),
   (match s.untested u with | some f => BitVec.ofNat 64 f | none => free),
   BitVec.ofNat 64 (h.runs + fld 16 16 h.fails),
   BitVec.ofNat 64 (h.fail + fld 16 16 h.tchk + fld 16 32 h.vloss + fld 16 48 h.ovd)]

def State.stpHealth (s : State) (r : Running) : State :=
  let len := r.d.len.toNat
  s.checked r { args := decide (r.d.arg0.toNat / 2 = 0), zero := decide (len = 0), tooLong := decide (len < 32) } fun s =>
    if s.build.isHub then s.fail r stNO_RESOURCE
    else
      let us_ := s.healthUnits.take ((len - 32) / 32)
      let f := s.freeWord
      let least := match us_.filterMap fun u => s.untested u with
        | [] => f.1
        | x :: l => BitVec.ofNat 64 (l.foldl min x)
      let hdr := [BitVec.ofNat 64 s.ft, BitVec.ofNat 64 ((s.unit 0).toNat + fld 8 48 s.dieScore),
        BitVec.ofNat 64 (fld 16 0 us_.length + fld 16 16 s.overdueCount), least]
      let bs := wordsBytes (hdr ++ us_.flatMap fun u => s.healthEntry u f.1)
      f.2.finish r bs bs.length

/-- STP_RESULTS with ARG0[0] = 1 (R561). -/
def execStpHealthRead (src : Src) (d : Desc) (b : Bus) (s : State) : Host.Outcome State Fault Refusal :=
  act s (s.command (.stpHealthRead src d b) src (arg0Bit d true) b 0x72 .hm false State.stpHealth)

/-! ### Resets and bring-up (R547, R548, R558) -/

/-- A unit reset of Staple: safe points go, and a run is abandoned after its restore program. -/
def State.stapleReset (s : State) : State :=
  let s1 := (s.setPoints []).disarm (.safePoint 0)
  match s1.stp.run with
  | none => s1
  | some r =>
    if r.restoring then s1.setRun (some { r with abandoned := true })
    else if s1.testFlying then s1.setRun (some { r with abandoned := true, ending := true })
    else (s1.setRun (some { r with abandoned := true })).dropTestXfers.startRestore

/-- What a block reset leaves of Staple: a run that it strikes is recorded at the end of the next bring-up. -/
def State.stapleKept (s : State) : Staple :=
  { s.stp with
    points := [], run := none, changes := [], changeCmds := [], results := [],
    struck := (match s.stp.run with | some r => some (s.runRecord r 5) | none => s.stp.struck) }

/-- The package check at the end of bring-up, and the recording of a run that a reset struck. -/
def State.stapleCheck (s : State) : State :=
  if s.build.isHub then s
  else
    let s0 := { s with stp := { s.stp with halveFt := s.ft } }
    let s1 := s0.stp.pkgs.foldl (fun s e =>
      if s.pkgSigned e.2.bytes then s
      else ({ s with stp := { s.stp with pkgs := Tab.del s.stp.pkgs e.1, tests := s.stp.tests.filter fun x => x.1 / 256 != e.1 } }).raise fCONFIG 0 (s.unit 0x11) e.1) s0
    match s1.stp.struck with
    | some x => { s1 with stp := { s1.stp with struck := none } }.runReport x
    | none => s1

end Sys2Proof.Machine
end

