-- ==== Sys2Proof/Machine/Live.lean ====
section
/-! DEFINITION. Liveness (R516 to R538): heartbeats, ALIVE, the watchdog and thermal limits, peer reports, claims, the die states of a tray Hub with their records, the hard-failure table, and the rows of Snag's registers. -/

namespace Sys2Proof.Machine

/-- Snag takes no further work while fenced or stopped (R511, R515). -/
def State.snagOff (s : State) : Bool := s.stopped || s.isFenced 2

/-! ### Heartbeats sent (R522, R524, R588) -/

/-- PROG and PROG_VALID. The highest STEP of an entry that has seen none is free, and so is what the code 3 that R524 leaves out selects (assumption 1). -/
def State.progress (s : State) : Nat × Bool :=
  let f := (Config.freeWord s.fresh).toNat
  match s.fget Reg.SNG_PROGSEL_SRC with
  | 0 => (0, false)
  | 1 => (match Tab.get s.ply.repls (s.fget Reg.SNG_PROGSEL_ENTRY) with
    | some e => (e.high.getD (f % 2 ^ 32), true)
    | none => (f % 2 ^ 32, true))
  | 2 => (s.snag.steps.toNat, true)
  | _ => (f % 2 ^ 32, Config.freeBit s.fresh)

/-- Payload word 0 of a heartbeat on port `p`. -/
def State.heartWord (s : State) (p : Nat) : W64 :=
  if s.isPeer p then BitVec.ofNat 64 (b2n s.rootActive + fld 16 16 (s.fget Reg.STR_TIER_ROLE_EPOCH))
  else if s.build.isHub then 0
  else
    let g := s.progress
    BitVec.ofNat 64 (fld 32 0 g.1 + b2 g.2 32 + b2 (s.fget Reg.STR_HOMING_CUR_PARENT == 1) 33 + fld 7 34 s.snag.unitExp.length)

/-- Send a heartbeat on a port that is UP; its FT is filled at departure. -/
def State.heartbeat (s : State) (p : Nat) : State :=
  if s.portUp p then { s with fresh := s.fresh + 1 }.send p 0x01 7 0 false [s.heartWord p, 0] [] else s
def State.heartbeats (s : State) : State := ports.foldl State.heartbeat s

/-- HEARTBEAT_SEND (R588). -/
def execHeartbeatSend (s : State) : Host.Outcome State Fault Refusal := act s (if s.stopped then s else s.heartbeats)

/-! ### The root's role (R28) -/

/-- An active root that observes an active peer: the lower epoch, or position B on equal epochs, becomes standby. -/
def State.roleClash (s : State) : State :=
  let mine := s.fget Reg.STR_TIER_ROLE_EPOCH
  let peer := s.str.peerEpoch
  let lower := decide (mine ≠ peer) && decide ((peer + 65536 - mine) % 65536 < 32768)
  if s.rootActive && s.str.peerActive && (lower || (mine == peer && s.tier == 6)) then
    (s.fset Reg.STR_TIER_ROOT_ACTIVE 0).raise fLINK 0 (s.unit (portSub 32)) 0
  else s

/-- The peer's heartbeat shows its role. -/
def State.peerRole (s : State) (w : W64) : State :=
  ({ s with str := { s.str with peerActive := bit w 0, peerEpoch := bits w 31 16 } }).roleClash.takeover

/-! ### The hard-failure table (R537) -/

/-- A die-state record is taken by a Hub's table; only a restore takes an EXPELLED entry back. -/
def State.hardTable (s : State) (r : Rec) : State :=
  if !s.build.isHub then s
  else
    let leaf : Hank := BitVec.ofNat 48 (bits r.w1 47 0)
    let flags := bits r.w2 47 32
    let clear := flags / 64 % 2 == 1
    let expelled := flags / 2048 % 2 == 1
    let put := fun (l : List (Hank × Nat)) => { s with snag := { s.snag with hard := l } }
    let others := s.snag.hard.filter fun e => !(sameBlock e.1 leaf)
    let mine := s.snag.hard.find? fun e => sameBlock e.1 leaf
    if recKind r = 5 ∧ !clear then
      (match mine with
      | some e => put (others ++ [(leaf, if expelled || e.2 == 5 then 5 else 4)])
      | none =>
        if s.snag.hard.length < 1024 then put (others ++ [(leaf, if expelled then 5 else 4)])
        else (s.bump Reg.SNG_HARD_REFUSED).raise fCONFIG 0 (s.unit 2) 0)
    else match mine with
      | some e => if e.2 = 4 ∨ (expelled && clear) then put others else s
      | none => s

/-! ### Die entries (R520, R528 to R533) -/

def State.die (s : State) (p : Nat) : Die := Tab.getD s.snag.dies p {}
def State.setDie (s : State) (p : Nat) (e : Die) : State := { s with snag := { s.snag with dies := Tab.set s.snag.dies p e } }

/-- The evaluator of the Leaf on a down-port (R526). -/
def State.evaluates (s : State) (p : Nat) : Bool := s.tier == 1 && decide (p < 32) && s.routeActive p

def State.deadIvl (s : State) : Nat := (if s.fget Reg.SNG_DEAD_US = 0 then 1000 else s.fget Reg.SNG_DEAD_US) * us
def State.silentIvl (s : State) : Nat := max 60 (s.fget Reg.SNG_SILENT_US) * us
def State.stallIvl (s : State) : Nat := s.fget Reg.SNG_STALL_US * us
def State.aliveWired (s : State) (p : Nat) : Bool := bit (BitVec.ofNat 32 (s.fget Reg.SNG_ALIVEW_WIRED)) p

/-- The state that R528 gives an entry, and whether the heartbeat is stale while a state stands. -/
def Die.rule (e : Die) (now silent dead stall : Nat) (wired : Bool) : Nat × Bool :=
  let last := max (if e.anyHb then e.tHb else 0) (max (if e.anyAlive then e.tAlive else 0) (if e.peersReported then e.tPeer else 0))
  let after := fun (has : Bool) (t : Nat) => has && (!e.anyHb || decide (t > e.tHb))
  if e.expelled then (5, false)
  else if !e.anyHb && !e.anyAlive && !e.peersReported then (0, false)
  else if e.anyHb && decide (now - e.tHb < silent) then
    (if e.progValid && decide (stall > 0) && decide (now - e.tProg ≥ stall) then 2 else 1, false)
  else if decide (now - last ≥ dead) && (wired || e.peersReported) then (4, false)
  else if after e.anyAlive e.tAlive || after e.peersReported e.tPeer then (3, false)
  else (e.state, true)

def dieKind (st : Nat) : Nat := if st = 2 then 7 else if st = 3 then 6 else 5

/-- Write a die-state record and its DIESTATE message (R533, R534). SCORE of a Leaf that never sent a heartbeat is free. -/
def State.dieRecord (s : State) (p st : Nat) (clear suspect : Bool) : State :=
  let e := s.die p
  let dead := s.deadIvl
  let score := if e.anyHb then min 0x7FFFFFFF ((s.ft - e.tHb) / us) else (Config.freeWord s.fresh).toNat % 2 ^ 31
  let hard := decide (st ≥ 4)
  let aux := b2n (s.aliveWired p) + b2 (e.anyAlive && decide (s.ft - e.tAlive < dead)) 1
    + b2 (e.peersReported && decide (s.ft - e.tPeer < dead)) 2 + b2 (e.progValid && decide (0 < s.stallIvl)) 3
  let flags := b2 s.locked 3 + b2 clear 6 + b2 true 10 + b2 (st == 5) 11 + b2 suspect 12 + b2 hard 13
  let r := slubRec s.ft (s.childAddr p) 0 (dieKind st) score flags 0 (s.unit 0) aux
  let s1 := { s with fresh := s.fresh + 1 }.pushTo (s.fget Reg.SNG_CTRL_VSLICE) (dieKind st) r
  let s2 := ((s1.sendUp 0x1B 6 0 false (recWords r) []).hardTable r)
  if hard then s2.faultIrq else s2

/-- Advisories to the claimants whose claim the death upholds (R530). -/
def State.upheld (s : State) (p : Nat) : State :=
  let e := s.die p
  let live := e.claims.filter fun c => decide (s.ft ≤ c.2 + 10 * s.deadIvl)
  (live.foldl (fun s c => s.advise 2 (s.childAddr p) c.1.toNat false) s).setDie p { e with claims := [] }

/-- An entry changes state: the record of the exit, the proposal of R531 for DEAD, and the record of the entry. -/
def State.dieChange (s : State) (p : Nat) (e : Die) (st : Nat) : State :=
  let s1 := s.setDie p { e with state := st, changes := e.changes + 1 }
  let s2 := if e.state ≥ 2 then s1.dieRecord p e.state true e.suspect else s1
  if st = 4 then
    let r := if s.flag Reg.SNG_CTRL_EXPEL_DEAD then s2.propose (s2.portPart p) false none none 0 else (s2, false)
    let e2 := r.1.die p
    let tried := s.flag Reg.SNG_CTRL_EXPEL_DEAD
    let e3 := if r.2 then { e2 with state := 5, expelled := true } else { e2 with suspect := e2.suspect || tried }
    (((r.1.setDie p e3).dieRecord p e3.state false e3.suspect)).upheld p
  else if st ≥ 2 then s2.dieRecord p st false e.suspect
  else s2

/-- The update of R528, with the NOEVIDENCE advisory of R529. -/
def State.updateDie (s : State) (p : Nat) : State :=
  if !s.evaluates p || s.snagOff then s
  else
    let e := s.die p
    let r := e.rule s.ft s.silentIvl s.deadIvl s.stallIvl (s.aliveWired p)
    let e1 := { e with silent := r.2 }
    if r.1 ≠ e.state then s.dieChange p e1 r.1
    else if r.2 && !s.aliveWired p && !e.peersReported && !e.noEvidence && decide (s.ft - e.tHb ≥ s.deadIvl) then
      (s.setDie p { e1 with noEvidence := true }).advise 5 (s.childAddr p) 0 false
    else s.setDie p e1

/-- DIE_STATE_TICK (R528). -/
def execDieStateTick (s : State) : Host.Outcome State Fault Refusal := act s ((List.range 32).foldl State.updateDie s)

/-- A heartbeat of a Leaf is evidence (R521, R522). -/
def State.heartEvidence (s : State) (p : Nat) (w : W64) : State :=
  if s.tier ≠ 1 ∨ 32 ≤ p then s
  else
    let e := s.die p
    let prog := bits w 31 0
    let valid := bit w 32
    let e1 := { e with tHb := s.ft, anyHb := true, noEvidence := false, progValid := valid }
    let e2 := if valid then { e1 with prog, progSeen := true, tProg := if e.progSeen && e.prog == prog then e.tProg else s.ft } else e1
    (s.setDie p e2).updateDie p

/-- HEARTBEAT (R588). -/
def execHeartbeat (p : Nat) (f : Frame) (s : State) : Host.Outcome State Fault Refusal :=
  act s (match s.rx p 0x01 f with
    | (s1, none) => s1
    | (s1, some m) =>
      let w := m.words.getD 0 0
      let s2 := (s1.rxPass p m.seqs.length).modPort p fun x => { x with
        rxSyncFt := some (m.words.getD 1 0).toNat
        upFt := if s.now > x.lastHb + 21 * us then s.now else x.upFt
        lastHb := s.now }
      if s2.isPeer p then s2.peerRole w else s2.heartEvidence p w)

/-- ALIVE_IN_EDGE (R521). -/
def execAliveInEdge (p : Nat) (s : State) : Host.Outcome State Fault Refusal :=
  act s (if s.tier = 1 ∧ p < 32 ∧ s.aliveWired p then
      (s.setDie p { s.die p with tAlive := s.ft, anyAlive := true }).updateDie p else s)

/-! ### Peer reports and claims (R523, R527, R530) -/

/-- The ACTIVE down-port of a tray Hub that a subject's route match gives. -/
def State.evalPort (s : State) (subj : Hank) : Option Nat :=
  if s.tier ≠ 1 then none
  else (s.bestRoute (hPlace subj)).bind fun p => if s.evaluates p && s.routeMatch p (hPlace subj) then some p else none

def State.takePeerSeen (s : State) (p : Nat) (ws : List W64) : State :=
  let e := s.die p
  (s.setDie p { e with tPeer := max e.tPeer (ws.getD 0 0).toNat, peersReported := true }).updateDie p

/-- A claim at its evaluator. -/
def State.takeClaim (s : State) (p : Nat) (ws : List W64) : State :=
  let e := s.die p
  let by_ : Hank := BitVec.ofNat 48 (ws.getD 1 0).toNat
  let s1 := (s.setDie p { e with claims := e.claims ++ [(by_, s.ft)] }).bump Reg.SNG_DSTAT_CLAIMS
  if e.state = 1 ∨ e.state = 2 then
    (s1.bump Reg.SNG_DSTAT_DISAGREE).advise 1 (s.childAddr p) (by_.toNat + e.state * 2 ^ 48) false
  else s1

/-- A PEER_SEEN or CLAIM arrives: the evaluator takes it, any other block routes it (R527). -/
def State.evidenceMsg (s : State) (p typ : Nat) (f : Frame) (take : State → Nat → List W64 → State) : State :=
  match s.rx p typ f with
  | (s1, none) => s1
  | (s1, some m) =>
    match s1.evalPort m.dest with
    | some q => take (s1.rxPass p m.seqs.length) q m.words
    | none => match s1.forward m with
      | some s2 => s2
      | none => s1.rxPass p m.seqs.length

/-- PEER_SEEN (R527). -/
def execPeerSeen (p : Nat) (f : Frame) (s : State) : Host.Outcome State Fault Refusal := act s (s.evidenceMsg p 0x19 f State.takePeerSeen)
/-- CLAIM (R530). -/
def execClaim (p : Nat) (f : Frame) (s : State) : Host.Outcome State Fault Refusal := act s (s.evidenceMsg p 0x1A f State.takeClaim)

/-- Send an evidence message about a Leaf from this block. -/
def State.sendEvidence (s : State) (typ : Nat) (subj : Hank) (ws : List W64) (take : State → Nat → List W64 → State) : State :=
  match s.evalPort subj with
  | some q => take s q ws
  | none => (s.sendRouted typ 6 subj ws).getD s

/-- Held PEER_SEEN messages leave while the tokens of the standing reservation cover them, charged as R624 charges a session's bucket (assumption 94). Fuel is their number. -/
def State.drainPeer : Nat → State → State
  | 0, s => s
  | fuel + 1, s =>
    match s.snag.peerHeld with
    | [] => s
    | i :: rest =>
      let charge := msgCharge i.2
      let full := 65536 * s.fget Reg.SNG_RES_BURST
      if (min charge full : Int) ≤ full - s.snag.peerDebt then
        let s1 : State := { s with snag := { s.snag with peerHeld := rest, peerDebt := s.snag.peerDebt + charge } }
        ((s1.sendRouted 0x19 6 i.1 i.2).getD s1).drainPeer fuel
      else s

/-- The interval between PEER_SEEN messages (R523). -/
def State.peerIvl (s : State) : Nat :=
  let ivl := if s.fget Reg.SNG_PEERIVL_US = 0 then 100 else s.fget Reg.SNG_PEERIVL_US
  let dead := if s.fget Reg.SNG_DEAD_US = 0 then 1000 else s.fget Reg.SNG_DEAD_US
  (if 4 * ivl > dead then dead / 4 else ivl) * us

/-- PEER_RX_PULSE (R523). -/
def execPeerRxPulse (n : Nat) (s : State) : Host.Outcome State Fault Refusal :=
  act s (if s.build.isHub ∨ 32 ≤ n then s
    else { s with snag := { s.snag with peerBits := s.snag.peerBits ||| (1#32 <<< n) } })

/-- The end of a peer interval: one message for each valid peer whose input pulsed, shaped by the standing reservation's bucket (R523, R525). -/
def State.peerSeenSend (s : State) : State :=
  if s.build.isHub || s.snagOff || decide (s.now < s.snag.peerNext) then s
  else
    let due := (List.range 32).filter fun n => bit s.snag.peerBits n && s.flag (Reg.SNG_PEER_VALID.at n)
    let s1 : State := { s with snag := { s.snag with peerBits := 0, peerNext := s.now + s.peerIvl } }
    let msgs := due.map fun n =>
      let peer : Hank := BitVec.ofNat 48 (s.fget (Reg.SNG_PEER_PEER.at n))
      (peer, [BitVec.ofNat 64 s.ft, BitVec.ofNat 64 peer.toNat, BitVec.ofNat 64 s.self.toNat])
    ({ s1 with snag := { s1.snag with peerHeld := s1.snag.peerHeld ++ msgs } }).drainPeer (s1.snag.peerHeld.length + msgs.length)

/-- PEER_SEEN_SEND (R523). -/
def execPeerSeenSend (s : State) : Host.Outcome State Fault Refusal := act s s.peerSeenSend

/-- STEP_PULSE (R524). -/
def execStepPulse (s : State) : Host.Outcome State Fault Refusal :=
  act s (if s.build.isHub then s else { s with snag := { s.snag with steps := s.snag.steps + 1 } })

/-- The high word of SNG_CLAIM is written: the claim goes out. -/
def State.sendClaim (s : State) (a : Acc) (v : W32) : State :=
  let s1 := s.writeHigh 0x2090 0xFFFF a v
  let subj : Hank := BitVec.ofNat 48 (s1.fget Reg.SNG_CLAIM_SUBJECT)
  if namesNothing subj || s1.snagOff then s1
  else s1.sendEvidence 0x1A subj [BitVec.ofNat 64 subj.toNat, BitVec.ofNat 64 s1.self.toNat] State.takeClaim

/-- SNG_CLAIM (R530). -/
def execSngClaim (a : Acc) (v : W32) (s : State) : Host.Outcome State Fault Refusal :=
  act s (s.regAccess (.sngClaim a v) a 2 (State.sendClaim · a v))

/-- Restore an EXPELLED Leaf (R532). -/
def State.dieRestore (s : State) (p : Nat) : State :=
  let e := s.die p
  if s.tier ≠ 1 ∨ !s.routeValid p ∨ e.state ≠ 5 then s
  else (s.setDie p { e with state := 0, expelled := false, suspect := false, changes := e.changes + 1 }).dieRecord p 5 true false

/-- SNG_DCMD_RESTORE (R532). -/
def execSngDcmdRestore (a : Acc) (s : State) : Host.Outcome State Fault Refusal :=
  act s (s.regAccess (.sngDcmdRestore a) a 2 fun s => s.dieRestore (s.selGet a.port Reg.SNG_DSEL_PORT))

/-- DIESTATE at a Hub (R537). -/
def State.takeDiestate (s : State) (m : Msg) : State :=
  let s1 := s.rxPass m.port m.seqs.length
  ((s1.hardTable (recOfWords m.words)).holdCustody m).sendUp 0x1B 6 0 m.replay m.words m.covers

/-- DIESTATE (R537). -/
def execDiestate (p : Nat) (f : Frame) (s : State) : Host.Outcome State Fault Refusal :=
  act s (match s.rx p 0x1B f with
    | (s1, none) => s1
    | (s1, some m) => s1.takeDiestate m)

/-! ### Handover of die entries (R526, R595) -/

def dieWord (e : Die) : W64 := BitVec.ofNat 64 (fld 3 0 e.state + b2 e.suspect 3 + b2 e.expelled 4)
/-- The tray Hub that is a Leaf's primary parent. -/
def primaryTray (leaf : Hank) : Hank := BitVec.ofNat 48 (leaf.toNat / 2 ^ 19 * 2 ^ 19 + 0x0800)

def State.routeHandover (s : State) (dest : Hank) (ws : List W64) : State := (s.sendRouted 0x0F 6 dest ws).getD s

/-- An adopting tray Hub asks for the entry of a Leaf. -/
def State.askHandover (s : State) (p : Nat) : State :=
  if s.tier ≠ 1 then s
  else
    let leaf := s.childAddr p
    ({ s with str := { s.str with handovers := Tab.set s.str.handovers p s.now } }).routeHandover (primaryTray leaf) [BitVec.ofNat 64 leaf.toNat]

/-- The alternate parent gives the entry back at a return. -/
def State.giveBack (s : State) (p : Nat) : State :=
  if s.tier ≠ 1 then s
  else
    let leaf := s.childAddr p
    s.routeHandover (primaryTray leaf) [BitVec.ofNat 64 (leaf.toNat + 2 * 2 ^ 48), dieWord (s.die p)]

def takenDie (e : Die) (w : W64) : Die := { e with state := bits w 2 0, suspect := bit w 3, expelled := bit w 4 }

/-- A HANDOVER for this block. The address to which an answer goes is in no field of the request: it is free (assumption 43). -/
def State.takeHandover (s : State) (ws : List W64) : State :=
  let w := ws.getD 0 0
  let leaf : Hank := BitVec.ofNat 48 (bits w 47 0)
  match s.portOfPlace (hPlace leaf) with
  | none => s
  | some p =>
    if s.tier ≠ 1 then s
    else match bits w 50 48 with
    | 0 =>
      let s1 := (s.fset (Reg.STR_ROUTE_ACTIVE.at p) 0).fset (Reg.STR_PSTAT_HOMED.at p) 0
      let d := s1.freeWord
      d.2.routeHandover (BitVec.ofNat 48 d.1.toNat) [BitVec.ofNat 64 (leaf.toNat + 2 ^ 48), dieWord (s.die p)]
    | 1 =>
      if (Tab.get s.str.handovers p).isSome then
        { s.setDie p (takenDie (s.die p) (ws.getD 1 0)) with str := { s.str with handovers := Tab.del s.str.handovers p } }
      else s
    | 2 => s.setDie p (takenDie (s.die p) (ws.getD 1 0))
    | _ => s

/-- HANDOVER (R595). -/
def execHandover (p : Nat) (f : Frame) (s : State) : Host.Outcome State Fault Refusal :=
  act s (match s.rx p 0x0F f with
    | (s1, none) => s1
    | (s1, some m) => match s1.forward m with
      | some s2 => s2
      | none => (s1.rxPass p m.seqs.length).takeHandover m.words)

/-- HANDOVER_TIMEOUT (R595). -/
def execHandoverTimeout (p : Nat) (s : State) : Host.Outcome State Fault Refusal :=
  act s (match Tab.get s.str.handovers p with
    | some t => if s.now < t + 100 * us then s
        else { s.setDie p { s.die p with state := 0, suspect := false, expelled := false } with str := { s.str with handovers := Tab.del s.str.handovers p } }
    | none => s)

/-! ### ALIVE, watchdog, temperature (R516 to R519) -/

/-- ALIVE_TOGGLE (R516). -/
def execAliveToggle (s : State) : Host.Outcome State Fault Refusal :=
  act s (if s.flag Reg.SNG_STATUS_ALIVE_RUN && s.whl.clock && decide (s.snag.aliveNext ≤ s.whl.cyc) then
      { s with snag := { s.snag with aliveLevel := !s.snag.aliveLevel, aliveNext := s.snag.aliveNext + 10000 } }.emit (.pin .alive (!s.snag.aliveLevel))
    else s)

/-- The self-timed units of a build: every unit but the Whorl, the Spindles included. -/
def probedUnits (b : Build) : List Nat :=
  ((List.range 0x40).filter fun u => decide (2 ≤ u) && unitExists b u) ++ (List.range (nSpindles b)).map (0x40 + ·)

/-- WATCHDOG_PROBE (R518). -/
def execWatchdogProbe (s : State) : Host.Outcome State Fault Refusal :=
  act s (if s.stopped || s.fget Reg.SNG_WDOG_LIM == 0 then s
    else (probedUnits s.build).foldl (fun s u =>
      let seen := (Tab.get s.snag.probes u).getD s.now
      { s with snag := { s.snag with probes := Tab.set s.snag.probes u seen } }.emit (.probe u)) s)

/-- WATCHDOG_EXPIRY (R518): a unit that was probed has not answered for LIM µs. -/
def execWatchdogExpiry (unit : Nat) (s : State) : Host.Outcome State Fault Refusal :=
  let lim := s.fget Reg.SNG_WDOG_LIM
  act s (match Tab.get s.snag.probes unit with
    | some t => if s.stopped ∨ lim = 0 ∨ s.now < t + lim * us then s else s.raise fHANG 3 (s.unit unit) lim
    | none => s)

/-- THERMAL_CROSSING (R519). -/
def execThermalCrossing (temp : Int) (s : State) : Host.Outcome State Fault Refusal :=
  let info := (temp % 65536).toNat
  let warn := decide (temp > s.fget Reg.SNG_THERM_WARN) && !s.snag.warmWarn
  let trip := decide (temp > s.fget Reg.SNG_THERM_TRIP) && !s.snag.warmTrip
  let s1 : State := { s with snag := { s.snag with warmWarn := s.snag.warmWarn || warn, warmTrip := s.snag.warmTrip || trip } }
  let s2 := if warn then s1.raise fTHERMAL 0 (s.unit 0) info else s1
  act s (if trip then s2.raise fTHERMAL 3 (s.unit 0) info else s2)

/-- THERMAL_FALL (R519). -/
def execThermalFall (temp : Int) (s : State) : Host.Outcome State Fault Refusal :=
  let low := fun (lim : Nat) => decide (temp ≤ (lim : Int) - 5)
  act s { s with snag := { s.snag with
    warmWarn := s.snag.warmWarn && !low (s.fget Reg.SNG_THERM_WARN)
    warmTrip := s.snag.warmTrip && !low (s.fget Reg.SNG_THERM_TRIP) } }

/-! ### The stop and the fences as they reach the lanes (R54, R515) -/

/-- The lanes of every port are held idle. -/
def State.allIdle (s : State) : State :=
  (ports.filter fun p => s.pState p != 0).foldl (fun s p => ((s.leaveUp p 0).cutLost p).emit (.lanes p true)) s

/-- F3_LANE_IDLE (R515). -/
def execF3LaneIdle (s : State) : Host.Outcome State Fault Refusal :=
  act s (match s.snag.stopFt with
    | some t => if s.now < t + 2 * us then s else s.allIdle
    | none => s)

/-- PARTITION_FENCE_IDLE (R54). -/
def execPartitionFenceIdle (part : Nat) (s : State) : Host.Outcome State Fault Refusal :=
  act s (match Tab.get s.snag.partIdle part with
    | some t => if s.now < t then s
        else
          let s1 := (s.partPorts part).foldl (fun s p => (s.linkDown p 4).emit (.lanes p true)) s
          { s1 with snag := { s1.snag with partIdle := Tab.del s1.snag.partIdle part } }
    | none => s)

/-- A child receives FENCE (R55, R598): from the parent in use, or the one it attaches to, it enters the fenced state; another parent's FENCE bars that port (assumption 44). -/
def State.takeFenceMsg (s : State) (p : Nat) : State :=
  let attaching : Bool := match s.str.homing with | .attaching q _ => q == p | _ => false
  if s.curUp == some p || attaching then
    let s1 := s.noParent
    { s1 with str := { s1.str with childFenced := some p, homing := .settled, lostPort := some (s.str.lostPort.getD p) } }
  else { s with str := { s.str with barred := p :: s.str.barred } }

/-- FENCE (R55). -/
def execFence (p : Nat) (f : Frame) (s : State) : Host.Outcome State Fault Refusal :=
  act s (match s.rx p 0x0B f with
    | (s1, none) => s1
    | (s1, some m) => (s1.rxPass p m.seqs.length).takeFenceMsg p)

/-! ### Fault records of children, and Snag's registers (R501, R505, R506, R510) -/

/-- FAULT (R506): the record enters the fault queue with REMOTE set. -/
def execFault (p : Nat) (f : Frame) (s : State) : Host.Outcome State Fault Refusal :=
  act s (match s.rx p 0x18 f with
    | (s1, none) => s1
    | (s1, some m) =>
      let r := recOfWords m.words
      (s1.rxPass p m.seqs.length).fqPush { r with w1 := r.w1 ||| (1#64 <<< 15) } (decide (bits r.w1 12 11 ≥ 1)))

/-- Acknowledge classes (R501): a native write alone clears W1C bits (R168). -/
def State.unackWrite (s : State) (a : Acc) (v : W32) : State :=
  if a.bitAlias ≠ 0 then s
  else
    let gone := bits v 15 0
    let s1 := s.fset Reg.SNG_UNACK_CLASS ((BitVec.ofNat 16 (s.fget Reg.SNG_UNACK_CLASS)) &&& ~~~(BitVec.ofNat 16 gone)).toNat
    { s1 with snag := { s1.snag with last := s1.snag.last.filter fun e => !(bit (BitVec.ofNat 16 gone) (e.1 - 1)) } }

/-- SNG_UNACK_WRITE (R501). -/
def execSngUnackWrite (a : Acc) (v : W32) (s : State) : Host.Outcome State Fault Refusal :=
  act s (s.regAccess (.sngUnackWrite a v) a 2 (State.unackWrite · a v))

/-- A write of SNG_FPOP: POP written 1 removes the oldest record. -/
def State.fpopWrite (s : State) (a : Acc) (v : W32) : State :=
  if a.bitAlias ≠ 0 ∨ !(bit v 0) ∨ s.snag.fq.isEmpty then s
  else { s with snag := { s.snag with fq := s.snag.fq.drop 1 } }.led 5 64 .out 1

/-- SNG_FPOP (R505). -/
def execSngFpop (a : Acc) (v : W32) (s : State) : Host.Outcome State Fault Refusal :=
  act s (s.regAccess (.sngFpop a v) a 2 fun s => s.fpopWrite a v)

/-- A driver's fence request (R510). -/
def State.fenceWrite (s : State) (a : Acc) (v : W32) : State :=
  if a.bitAlias ≠ 0 ∨ !(bit v 17) then s
  else
    let unit := bits v 10 0
    let part := bits v 14 11
    match bits v 16 15 with
    | 1 => if unitExists s.build unit then s.askFence 3 1 unit else s.bump Reg.HIF_ERR_UNMAPPED
    | 2 => if part < nParts s.build then s.askFence 3 2 part else s.bump Reg.HIF_ERR_UNMAPPED
    | 3 => s.askFence 3 3 0
    | _ => s.bump Reg.HIF_ERR_UNMAPPED

/-- SNG_FENCE (R510). -/
def execSngFence (a : Acc) (v : W32) (s : State) : Host.Outcome State Fault Refusal :=
  act s (s.regAccess (.sngFence a v) a 2 (State.fenceWrite · a v))

end Sys2Proof.Machine
end

