-- ==== Sys2Proof/Machine/Gen.lean ====
section
/-! DEFINITION. The generators of the Whorl (R106 to R109): arming, boundaries, triggers, pulses and quiet windows, and what a forward step of FT passes over (R92). -/

namespace Sys2Proof.Machine

def State.gen (s : State) (g : Nat) : Gen := Tab.getD s.whl.gens g {}
def State.setGen (s : State) (g : Nat) (x : Gen) : State := { s with whl := { s.whl with gens := Tab.set s.whl.gens g x } }

/-! ### Arming (R107) -/

def calendarPeriods : List Nat := [4000000, 2000000, 1000000, 500000, 250000]

/-- The checks of R107. -/
def genOk (x : GenSet) : Bool :=
  match x.kind with
  | 0 => true
  | 1 => x.period != 0 && decide (x.offset + x.length ≤ x.period) && decide (4000 ≤ x.length)
  | 2 => decide (x.period ∈ calendarPeriods) && decide (x.offset + x.length ≤ x.period) && (x.length == 0 || decide (4000 ≤ x.length))
  | _ => false

/-- The shadow fields of a generator. -/
def State.shadow (s : State) (g : Nat) : GenSet :=
  let w := fun (o : Nat) => (s.regGet (0x1200 + 32 * g + o)).toNat
  { kind := w 0 % 4, period := w 4, offset := w 8, length := w 12, apply := w 16 + 2 ^ 32 * w 20 }

/-- A quiet window opens or closes (R109, R253): the host-die signal of generators 8 to 11 of a Leaf, and the meter's regime for a generator that GENMASK names. -/
def State.quietDrive (s : State) (g : Nat) (on : Bool) : State :=
  if (s.gen g).quiet = on then s
  else
    let s1 := s.setGen g { s.gen g with quiet := on }
    let s2 := if !s.build.isHub && decide (8 ≤ g) then s1.emit (.pin (.quiet (g - 8)) on) else s1
    if s.build.isHub then s2
    else if on then (if s.fget Reg.REEL_QUIET_GENMASK / 2 ^ g % 2 = 1 then s2.quietSet (Tab.set s2.hif.quietOpen g ()) else s2)
    else s2.quietSet (Tab.del s2.hif.quietOpen g)

/-- The set in force changes: the boundary at `b` comes next, or the generator stops. -/
def State.genStart (s : State) (g : Nat) (x : GenSet) (b : Nat) : State :=
  let s1 := s.quietDrive g false
  if x.kind = 0 then (s1.setGen g { s1.gen g with run := none, pend := none }).fset (Reg.WHL_GEN_RUNNING.at g) 0
  else
    (s1.setGen g { s1.gen g with
      run := some x, pend := none, nextOpen := b + x.offset
      nextMain := if x.kind = 1 then b + x.offset + x.length else b
      nextClose := b + x.offset + x.length }).fset (Reg.WHL_GEN_RUNNING.at g) 1

/-- The first boundary after an instant (R108). -/
def GenSet.firstAfter (x : GenSet) (ft : Nat) : Nat :=
  if ft < x.apply ∨ x.period = 0 then x.apply else x.apply + ((ft - x.apply) / x.period + 1) * x.period

/-- ARM (R107). -/
def State.genArm (s : State) (g : Nat) : State :=
  let x := s.shadow g
  if !genOk x then s.fset (Reg.WHL_GEN_ERR.at g) 1
  else
    let s1 := s.fset (Reg.WHL_GEN_ERR.at g) 0
    if x.apply ≤ s.ft then s1.genStart g x (x.firstAfter s.ft)
    else s1.setGen g { s1.gen g with pend := some x }

/-- A write of GENn_CTRL: KIND takes what the write gives it, and ARM written 1 arms. -/
def State.genWrite (s : State) (a : Acc) (n : Nat) (v : W32) : State :=
  if 12 ≤ n then s
  else
    let key := 0x1200 + 32 * n
    let w := s.mwWrite key 7 a v
    let s1 := s.regSet key (mergeBits 3 (s.regGet key) w)
    if bit w 2 then s1.genArm n else s1

/-- GEN_ARM (R107): a write of GENn_CTRL that sets ARM. -/
def execGenArm (a : Acc) (n : Nat) (v : W32) (s : State) : Host.Outcome State Fault Refusal :=
  act s (s.regAccess (.genArm a n v) a 1 fun s => s.genWrite a n v)

/-- GEN_APPLY (R107): FT has reached APPLY of the pending set. -/
def execGenApply (n : Nat) (s : State) : Host.Outcome State Fault Refusal :=
  act s (match (s.gen n).pend with
    | some x => if s.ft < x.apply then s else s.genStart n x x.apply
    | none => s)

/-! ### Instants (R106, R108) -/

/-- The running set of a generator of a kind. -/
def State.genRuns (s : State) (g kind : Nat) : Option GenSet :=
  match (s.gen g).run with
  | some x => if x.kind = kind ∧ g < 12 then some x else none
  | none => none

/-- SAMPLE_TRIGGER (R108): the trigger of a sample generator; sets strobe and sessions turn over (R223, R297). -/
def execSampleTrigger (g : Nat) (s : State) : Host.Outcome State Fault Refusal :=
  act s (match s.genRuns g 1 with
    | some x =>
      if s.ft < (s.gen g).nextMain then s
      else
        let s1 := s.setGen g { s.gen g with nextMain := (s.gen g).nextMain + x.period }
        (s1.strobe (s1.setsOf g false) false none).sessTrigger g s1.ft
    | none => s)

/-- SAMPLE_WINDOW_OPEN (R229). -/
def execSampleWindowOpen (g : Nat) (s : State) : Host.Outcome State Fault Refusal :=
  act s (match s.genRuns g 1 with
    | some x =>
      if s.ft < (s.gen g).nextOpen then s
      else
        let s1 := s.setGen g { s.gen g with nextOpen := (s.gen g).nextOpen + x.period }
        s1.strobe (s1.setsOf g true) true none
    | none => s)

/-- SLOT_PULSE (R109). -/
def execSlotPulse (g : Nat) (s : State) : Host.Outcome State Fault Refusal :=
  act s (match s.genRuns g 2 with
    | some x =>
      if s.ft < (s.gen g).nextMain then s
      else
        let s1 := s.setGen g { s.gen g with nextMain := (s.gen g).nextMain + x.period }
        if !s.build.isHub && decide (8 ≤ g) then s1.emit (.pulse (.slot (g - 8))) else s1
    | none => s)

/-- QUIET_WINDOW_OPEN (R106). A LENGTH of 0 has no quiet window. -/
def execQuietWindowOpen (g : Nat) (s : State) : Host.Outcome State Fault Refusal :=
  act s (match s.genRuns g 2 with
    | some x =>
      if x.length = 0 ∨ s.ft < (s.gen g).nextOpen then s
      else (s.setGen g { s.gen g with nextOpen := (s.gen g).nextOpen + x.period }).quietDrive g true
    | none => s)

/-- QUIET_WINDOW_CLOSE (R106). -/
def execQuietWindowClose (g : Nat) (s : State) : Host.Outcome State Fault Refusal :=
  act s (match s.genRuns g 2 with
    | some x =>
      if x.length = 0 ∨ s.ft < (s.gen g).nextClose then s
      else (s.setGen g { s.gen g with nextClose := (s.gen g).nextClose + x.period }).quietDrive g false
    | none => s)

/-! ### Steps (R92) -/

/-- What a step from `old` to `new` passes over in one generator: a boundary with an instant passed fires none of its instants; its triggers and pulses are counted in SKIPPED (assumption 45). -/
def State.genSkip (s : State) (old new g : Nat) : State :=
  let y := s.gen g
  match y.run with
  | none => s
  | some x =>
    let main := if x.kind = 1 then x.offset + x.length else 0
    let win := x.kind == 1 || decide (0 < x.length)
    let bo := y.nextOpen - x.offset
    let bm := y.nextMain - main
    let bc := y.nextClose - (x.offset + x.length)
    let quiet := x.kind == 2 && decide (0 < x.length)
    let b := min bm (min (if win then bo else bm) (if quiet then bc else bm))
    let passed := fun (t : Nat) => decide (old < t) && decide (t < new)
    let dead := (bm == b && passed y.nextMain) || (win && bo == b && passed y.nextOpen) || (quiet && bc == b && passed y.nextClose)
    let first := b + x.period + (if x.kind = 1 then x.offset else 0)
    let more := if first < new then (new - 1 - first) / x.period + 1 else 0
    let n := more + b2n (dead && bm == b)
    let b' := b + (more + 1) * x.period
    if more = 0 ∧ !dead then s
    else
      let s1 := s.setGen g { y with
        nextOpen := max y.nextOpen (b' + x.offset)
        nextMain := max y.nextMain (b' + main)
        nextClose := max y.nextClose (b' + x.offset + x.length) }
      (s1.fadd (Reg.WHL_GEN_SKIPPED.at g) n).quietDrive g false

/-- FT moves by `d` in 2^-40 ticks. A forward move passes over instants; streams take a sync point (R74, R92). The stamps of the timing port and of a Pdelay_Req that waits for its answer move along, and no refill instant is made up (assumption 49). -/
def State.shiftFt (s : State) (d : Int) : State :=
  let old := s.ft
  let s1 : State := { s with whl := { s.whl with acc := min ((s.whl.acc : Int) + d).toNat (ftMax * 2 ^ 40) } }
  let s2 := if s1.ft > old then (List.range 12).foldl (fun s g => s.genSkip old s1.ft g) s1 else s1
  let moved : Int := (s1.ft : Int) - old
  let along := fun (t : Nat) => ((t : Int) + moved).toNat
  let s3 : State := { s2 with
    whl := { s2.whl with reqs := s2.whl.reqs.map fun e => (e.1, (e.2.1, e.2.2 + moved * 64)), lastPps := s2.whl.lastPps.map along, lineDue := s2.whl.lineDue.map fun e => (e.1, along e.2) }
    drf := { s2.drf with refillFt := s2.ft / 256 } }
  s3.traceResync.heartbeats

/-- A forward step (R92). -/
def State.stepFt (s : State) (d : Int) : State := (s.bump Reg.WHL_STATUS_STEPS).shiftFt d

end Sys2Proof.Machine
end

