-- ==== Sys2Proof/Machine/Boot.lean ====
section
/-! DEFINITION. The end of bring-up (R698, R699). -/

namespace Sys2Proof.Machine

/-- A held record's CHECK is good (R660). -/
def recGood (r : Rec × Rec) : Bool :=
  let chk := r.1.w3.toNat / 2 ^ 32
  let hdr := { r.1 with w3 := BitVec.ofNat 64 (r.1.w3.toNat % 2 ^ 32) }
  chk == crcOf polyC (wordsBytes (recWords hdr ++ recWords r.2))

/-- The log check of R660. Whether an overflow record reads back poisoned is free (assumption 46). -/
def State.checkLog (s : State) : State :=
  let ovf := (s.skn.ovf.zipIdx.filter fun e => recGood e.1 && !(Config.freeBit (s.fresh + e.2))).map (·.1)
  let recs := s.skn.recs.filter recGood
  let bad := s.skn.ovf.length + s.skn.recs.length - ovf.length - recs.length
  let s1 : State := { s with fresh := s.fresh + s.skn.ovf.length, skn := { s.skn with ovf, recs } }
  (s1.fset Reg.SKN_BOOT_BADCHK bad).led 0x10 0 .inn (ovf.length + recs.length)

/-- A root takes its role at the end of bring-up (R28). -/
def State.rootRole (s : State) : State :=
  if !s.isRoot then s
  else if s.str.peerActive || s.tier == 6 then s.takeover
  else (s.fset Reg.STR_TIER_ROOT_ACTIVE 1).fadd Reg.STR_TIER_ROLE_EPOCH 1

/-- The end of bring-up, in the order of R699; from here on HIF_CTRL accepts writes. -/
def State.endBringup (s : State) : State :=
  let s2 := s.checkLog.bump Reg.SKN_BOOT_BOOT
  let s3 := s2.fset Reg.LEA_EPOCH_FT s2.ft
  let s4 := (List.range (nParts s.build)).foldl (fun s p => s.addTokens p (s.fget Reg.PLY_BUDCFG_CAP)) s3
  let s5 := s4.stapleCheck
  let s6 := s5.logAdd 3 s5.ft
    { w0 := BitVec.ofNat 64 (s5.fget Reg.ID_IMGID_IMGID), w1 := BitVec.ofNat 64 (s5.fget Reg.SNG_RSTCAUSE_CAUSE)
      w2 := BitVec.ofNat 64 (s5.fget Reg.SKN_BOOT_BADCHK), w3 := 0 }
  let s7 : State := { s6.fset Reg.SNG_STATUS_ALIVE_RUN 1 with
    snag := { (s6.fset Reg.SNG_STATUS_ALIVE_RUN 1).snag with aliveLevel := true, aliveNext := s6.whl.cyc + 10000 } }
  let s8 := (s7.emit (.pin .alive true)).fset Reg.ID_STATUS_RUN 1
  (s8.fset Reg.SNG_RSTCAUSE_STATE 5).rootRole

/-- Bring-up waits for a time source or its limit (steps 6 to 8 of R698). -/
def State.awaitsTime (s : State) : Bool := s.bootStep == 4 && !s.running

/-- BRINGUP_TIMEOUT (R698, R699): 10 s after step 5 with no time source. -/
def execBringupTimeout (s : State) : Host.Outcome State Fault Refusal :=
  act s (if s.awaitsTime && decide (s.boot.linksFt + 40000000000 ≤ s.now) then
      let e := s.endBringup
      let f := e.freeWord
      f.2.raise fTIME 0 (s.unit 0) f.1.toNat
    else s)

end Sys2Proof.Machine
end

