-- ==== Sys2Proof/Machine/Whorl.lean ====
section
/-! DEFINITION. The Whorl's discipline (R70 to R104): measurements, the servo, steps and slews, holdover, change of parent, the timing port of a root, and the rows of its registers and commands. -/

namespace Sys2Proof.Machine

/-! ### Rates (R89 to R93) -/

def setWhl (s : State) (f : Whorl → Whorl) : State := { s with whl := f s.whl }

/-- `n / d` clamped to ±200 ppm. -/
def clampPpm (n : Int) (d : Nat) : Int × Nat := if n * 5000 > d then (1, 5000) else if n * 5000 < -(d : Int) then (-1, 5000) else (n, d)

/-- The rate 4.0 × (1 + n/d), in 2^-40 ticks; where it falls between two codes the choice is free. -/
def State.rateOf (s : State) (n : Int) (d : Nat) : Nat × State :=
  let c := clampPpm n d
  let r := s.freeDiv (2 ^ 42 * c.1) c.2
  ((2 ^ 42 + r.1).toNat, r.2)

/-- Put WHL_RATE: the base rate, and 100 ppm beyond it while a slew runs (R91). -/
def State.applyRate (s : State) : State :=
  if s.whl.slew = 0 then s.fset Reg.WHL_RATE_RATE s.whl.base
  else
    let d := s.freeDiv (2 ^ 42) 10000
    d.2.fset Reg.WHL_RATE_RATE (if s.whl.slew > 0 then s.whl.base - d.1.toNat else s.whl.base + d.1.toNat)

/-- The servo's correction `c`, in 2^-23 ns per interval, as a rate. -/
def State.corrRate (s : State) (c : Int) : Nat × State :=
  let l := s.whl.syncLog
  if l ≤ 0 then s.rateOf (-(c * 2 ^ (-l).toNat)) (2 ^ 23 * 1000000000) else s.rateOf (-c) (2 ^ 23 * 1000000000 * 2 ^ l.toNat)

/-- Put a base rate, with the state that computing it led to. -/
def setBase (r : Nat × State) : State := (setWhl r.2 fun w => { w with base := r.1 }).applyRate

/-- The last disciplined rate (R90). -/
def State.lastRate (s : State) : State := setBase (s.corrRate s.whl.integ)

/-- The rate that the driver sets in host-assisted mode (R93): nominal × (1 + ADJ × 2^-40). -/
def State.hostRate (s : State) : State := setBase (s.rateOf (sext 32 (s.fget Reg.WHL_ADJ_ADJ)) (2 ^ 40))

def State.startSlew (s : State) (d : Int) : State := (setWhl s fun w => { w with slew := d }).applyRate
def State.endSlew (s : State) : State := setWhl s fun w => { w with slew := 0 }

/-! ### States (R88) -/

abbrev wFREERUN := 0
abbrev wACQUIRE := 1
abbrev wLOCKED := 2
abbrev wHOLDOVER := 3
def State.wState (s : State) : Nat := s.fget Reg.WHL_STATUS_STATE
def State.setWState (s : State) (n : Nat) : State :=
  let s1 := s.fset Reg.WHL_STATUS_STATE n
  { s1 with whl := { s1.whl with holdFt := if n = wHOLDOVER then (if s.wState = wHOLDOVER then s.whl.holdFt else some s.now) else none } }

/-- The lock threshold in 2^-8 ns. -/
def State.lockThr (s : State) : Nat := 64 * 2 ^ s.fget Reg.WHL_SERVO_LOCK_THR
/-- The step threshold in 2^-8 ns (R91). -/
def State.stepThr (s : State) : Nat := 256 * 2 ^ s.fget Reg.WHL_SERVO_STEP_THR

/-- Enter ACQUIRE: the counts of R88 start again. -/
def State.acquire (s : State) : State := setWhl (s.setWState wACQUIRE) fun w => { w with good := 0, bad := 0 }

/-- The state after an offset `o` in 2^-8 ns. -/
def State.track (s : State) (o : Int) : State :=
  let s0 := if s.wState = wFREERUN ∨ s.wState = wHOLDOVER then s.acquire else s
  let thr := s.lockThr
  let good := if o.natAbs ≤ thr then s0.whl.good + 1 else 0
  let bad := if o.natAbs > 4 * thr then s0.whl.bad + 1 else 0
  let s1 := setWhl s0 fun w => { w with good, bad }
  if s1.wState = wLOCKED ∧ bad ≥ 4 then s1.acquire
  else if s1.wState = wACQUIRE ∧ good ≥ 16 then (s1.setWState wLOCKED).fset Reg.WHL_STATUS_DEGRADED 0
  else s1

/-- TIME at F0 naming the block, with an offset or step in ticks (R504). -/
def State.timeFault (s : State) (ticks : Int) : State := s.raise fTIME 0 (s.unit 0) (ticks % 2 ^ 64).toNat
/-- TIME where the spec gives no offset or step: INFO is free. -/
def State.timeFaultFree (s : State) : State := let f := s.freeWord; f.2.raise fTIME 0 (s.unit 0) f.1.toNat

/-- The law of R89 and the large offsets of R91. -/
def State.servo (s : State) (o : Int) : State :=
  if o.natAbs > s.stepThr then
    let t := s.freeDiv (-o) 64
    if o < 0 ∧ s.flag Reg.WHL_CTRL_FWD_STEP ∧ !s.whl.noStep then
      ((t.2.timeFault t.1).endSlew.applyRate).stepFt (-o * 2 ^ 34)
    else
      let starts := decide (s.whl.slew = 0) || (decide (s.whl.slew < 0) != decide (o < 0))
      let s1 := if starts then t.2.timeFault (-t.1) else t.2
      (s1.lastRate).startSlew (o * 2 ^ 34)
  else
    let integ := s.whl.integ + o * 2 ^ 15 / 2 ^ s.fget Reg.WHL_SERVO_KI_SHIFT
    let corr := o * 2 ^ 15 / 2 ^ s.fget Reg.WHL_SERVO_KP_SHIFT + integ
    let s1 := setWhl s fun w => { w with integ, slew := 0 }
    setBase (s1.corrRate corr)

/-- A valid Sync, or an edge taken as one, gives the offset `o` (R88 to R93): before the end of bring-up FT is set to the parent's time and bring-up ends. -/
def State.validSync (s : State) (o : Int) : State :=
  let s := s.fnSwitch 0
  if !s.running then
    let s1 := (s.shiftFt (-o * 2 ^ 34)).track o
    if s1.awaitsTime then s1.endBringup else s1
  else
    let s1 := s.track o
    if s1.assisted 0 then (s1.bump Reg.WHL_MEAS_SEQ).hostRate else s1.servo o

/-! ### PTP messages received (R79, R83, R84) -/

/-- The up-port that gives time: the current parent's, or the peer link of a standby root (R78, R103). -/
def State.timePort (s : State) : Option Nat := if s.isRoot then (if s.rootActive then none else some 32) else s.curUp

/-- Receipt of a PTP message of a kind: one that is not of its direction is dropped as an unused message. -/
def State.ptpRx (s : State) (p : Nat) (f : Frame) (mtype : Nat) (fromParent : Bool) (body : State → Msg → State) : State :=
  match s.rx p 0x04 f with
  | (s1, none) => s1
  | (s1, some m) =>
    let up := isUp p && !(s.isPeer p && s.rootActive)
    let n := m.seqs.length
    if ptpType m.words ≠ mtype ∨ up ≠ fromParent then (s1.ledDrop 8 p 7 n).bump (Reg.STR_PUNAUTH_COUNT.at p)
    else body (s1.rxPass p n) m

def satI (w : Nat) (v : Int) : Nat := signed w (clampI (-(2 ^ (w - 1) : Nat)) ((2 ^ (w - 1) : Nat) - 1) v)

/-- The offset of a Sync on up-port `k`, where a path delay is held (R84). -/
def State.takeSync (s : State) (p stamp : Nat) (m : Msg) : State :=
  let k := p - 32
  if s.flag Reg.WHL_CTRL_FORCE_HOLD || (Tab.getD s.whl.delays k []).isEmpty then s
  else
    let x := s.freeDiv (s.ballIn p stamp * 256 - ptpOrigin m.words) 256
    let o := x.1 - sext 32 (s.fget (Reg.WHL_UPMPD_MPD.at k)) - sext 32 (s.fget (Reg.WHL_ASYM_ASYM.at k))
    let shown := satI 32 o
    let s1 := setWhl (x.2.fset (Reg.WHL_UPOFF_OFFSET.at k) shown) fun w => { w with
      offs := Tab.set w.offs k (sext 32 shown), lastSync := some s.now }
    if s.timePort ≠ some p then s1
    else
      let s2 := setWhl s1 fun w => { w with syncLog := ptpLog m.words }
      ((s2.fset Reg.WHL_STATUS_SOURCE 1).fset Reg.WHL_STATUS_TIME_PORT k).validSync o

/-- SYNC (R89). -/
def execSync (p : Nat) (f : Frame) (stamp : Nat) (s : State) : Host.Outcome State Fault Refusal :=
  act s (s.ptpRx p f ptpSYNC true fun s m => s.takeSync p stamp m)

/-- Send a PTP message in TC7. -/
def State.sendPtp (s : State) (p : Nat) (words : List W64) (t2 : Int) : State :=
  let s1 := { s with str := { s.str with msgs := s.str.msgs + 1 } }
  s1.sendFrames p 7 ((mkFrames 0x04 7 s.str.msgs 0 false words []).map fun f => { f with t2 })

/-- The source identity of PTP messages is free (assumption 42). -/
def State.ident (s : State) : Nat × State := let f := s.freeWord; (f.1.toNat, f.2)

/-- PDELAY_REQ (R83): answered with a one-step Pdelay_Resp. The parent's mark of R133, which the child decides and no message carries, is free once the child can hold 16 measurements (assumption 47). -/
def execPdelayReq (p : Nat) (f : Frame) (stamp : Nat) (s : State) : Host.Outcome State Fault Refusal :=
  act s (s.ptpRx p f ptpPDELAY_REQ false fun s m =>
    let i := s.ident
    let n := (s.port p).pdReqs + 1
    let s1 := i.2.modPort p fun x => { x with pdReqs := n }
    let b := s1.freeBit
    let s2 := if n = 17 then b.2.fsetB (Reg.STR_PSTAT_RESERVABLE.at p) b.1 else s1
    s2.sendPtp p (pdelayRespMsg i.1 (ptpSeq m.words) (ptpField m.words 20 10)) (s.ballIn p stamp))

/-- The child's judgement of a link, once 16 measurements are held (R133). -/
def State.judgeLink (s : State) (p : Nat) : State :=
  let k := p - 32
  if !s.portUp p || (s.port p).judged || decide ((Tab.getD s.whl.delays k []).length < 16) then s
  else
    let far := sext 32 (s.fget (Reg.WHL_UPMPD_MPD.at k)) + (sext 32 (s.fget (Reg.WHL_ASYM_ASYM.at k))).natAbs
    let s1 := s.modPort p fun x => { x with judged := true }
    if far > 12800 then (s1.fset (Reg.STR_PSTAT_RESERVABLE.at p) 0).raise fCONFIG 0 (s.unit (portSub p)) 0
    else s1.fset (Reg.STR_PSTAT_RESERVABLE.at p) 1

/-- A path-delay measurement completes (R84). -/
def State.takeDelay (s : State) (p stamp : Nat) (m : Msg) : State :=
  let k := p - 32
  match Tab.get s.whl.reqs k with
  | none => s
  | some (q, t1) =>
    if q ≠ ptpSeq m.words then s
    else
      let d := (s.ballIn p stamp - t1) * 256 - ptpCorr m.words
      let held := Tab.getD s.whl.delays k []
      let s0 := setWhl s fun w => { w with reqs := Tab.del w.reqs k }
      if held.length ≥ 16 ∧ (16 * d - held.foldl (· + ·) 0).natAbs > 2 * 2 ^ 17 * 16 then s0
      else
        let l := d :: held.take 15
        let avg := s0.freeDiv (l.foldl (· + ·) 0) (l.length * 512)
        let s1 := setWhl (avg.2.fset (Reg.WHL_UPMPD_MPD.at k) (satI 32 avg.1)) fun w => { w with delays := Tab.set w.delays k l }
        let s2 := if s.assisted 0 ∧ s.timePort = some p then s1.bump Reg.WHL_MEAS_SEQ else s1
        s2.judgeLink p

/-- PDELAY_RESP (R84). -/
def execPdelayResp (p : Nat) (f : Frame) (stamp : Nat) (s : State) : Host.Outcome State Fault Refusal :=
  act s (s.ptpRx p f ptpPDELAY_RESP true fun s m => s.takeDelay p stamp m)

/-- TAI − UTC in force now. -/
def State.utcNow (s : State) : Int := match s.whl.leap with | some l => l.offsetAt (s.ft / secondsPerTick) | none => 0

/-- ANNOUNCE (R104): its offset is checked against the block's own table, where one is loaded. -/
def execAnnounce (p : Nat) (f : Frame) (s : State) : Host.Outcome State Fault Refusal :=
  act s (s.ptpRx p f ptpANNOUNCE true fun s m =>
    let utc := sext 16 (ptpField m.words 44 2)
    let flags := ptpField m.words 7 1
    let s1 := if s.timePort = some p then
        setWhl s fun w => { w with ann := some (ptpField m.words 48 1, utc, flags % 2 == 1, flags / 2 % 2 == 1) } else s
    match s.whl.leap with
    | none => s1
    | some _ => if utc = s.utcNow then s1.fset Reg.WHL_UTC_MISMATCH 0 else (s1.fset Reg.WHL_UTC_MISMATCH 1).timeFaultFree)

/-! ### PTP messages sent (R79, R95) -/

/-- The ports to which this block is master: its down-ports, and the peer link of the active root. -/
def State.slavePorts (s : State) : List Nat :=
  (if s.build.isHub then (List.range 32).filter s.portUp else []) ++ (if s.rootActive && s.portUp 32 then [32] else [])

def State.syncRate (s : State) : Nat := max 4 (min 10 (s.fget Reg.WHL_PTP_SYNC_RATE))

/-- SYNC_SEND (R79). -/
def execSyncSend (s : State) : Host.Outcome State Fault Refusal :=
  act s (if s.stopped then s
    else s.slavePorts.foldl (fun s p =>
      let i := s.ident
      (setWhl i.2 fun w => { w with syncSeq := (w.syncSeq + 1) % 65536 }).sendPtp p (syncMsg i.1 s.whl.syncSeq (-(s.syncRate : Int))) 0) s)

/-- Send a Pdelay_Req on an up-port. -/
def State.askDelay (s : State) (p : Nat) : State :=
  if s.portUp p && !(s.isPeer p && s.rootActive) then
    let i := s.ident
    (setWhl i.2 fun w => { w with pdSeq := (w.pdSeq + 1) % 65536 }).sendPtp p (pdelayReqMsg i.1 s.whl.pdSeq) 0
  else s

/-- PDELAY_REQ_SEND (R95). -/
def execPdelayReqSend (k : Nat) (s : State) : Host.Outcome State Fault Refusal :=
  act s (if s.stopped ∨ 4 ≤ k then s else s.askDelay (32 + k))

/-- A leap of one second at the end of the UTC day in which `tai` lies: up, down (IEEE 1588 flags). -/
def leapFlags (leap : Option Leap) (tai : Nat) : Bool × Bool :=
  match leap with
  | none => (false, false)
  | some l =>
    let off := l.offsetAt tai
    let mid := (((tai : Int) - off) / 86400 + 1) * 86400
    (l.entries.any fun e => decide (e.2 = off + 1) && decide ((e.1 : Int) = mid + e.2),
     l.entries.any fun e => decide (e.2 = off - 1) && decide ((e.1 : Int) = mid + e.2))

/-- clockClass of the active root (R100). -/
def State.rootClass (s : State) : Nat :=
  if s.assisted 0 then 248
  else if s.flag Reg.WHL_REF_PPS_PRESENT && s.flag Reg.WHL_REF_TOD_VALID then 6
  else if s.flag Reg.WHL_STATUS_DEGRADED && !s.flag Reg.WHL_REF_REF10M_PRESENT then 248
  else 7

/-- What an Announce carries: the root's own values, or those last received; class 248 before any (assumption 42). -/
def State.announceInfo (s : State) : Nat × Int × Bool × Bool :=
  let own := leapFlags s.whl.leap (s.ft / secondsPerTick)
  if s.isRoot && s.rootActive then (s.rootClass, s.utcNow, own.1, own.2)
  else match s.whl.ann with
    | some a => a
    | none => (248, s.utcNow, own.1, own.2)

/-- ANNOUNCE_SEND (R79). -/
def execAnnounceSend (s : State) : Host.Outcome State Fault Refusal :=
  act s (if s.stopped then s
    else s.slavePorts.foldl (fun s p =>
      let i := s.ident
      let g := i.2.freeWord
      let x := s.announceInfo
      (setWhl g.2 fun w => { w with annSeq := (w.annSeq + 1) % 65536 }).sendPtp p
        (announceMsg i.1 s.whl.annSeq (-(min 3 (s.fget Reg.WHL_PTP_ANN_RATE) : Nat)) x.2.2.1 x.2.2.2 x.2.1 x.1 g.1.toNat) 0) s)

/-! ### Holdover, and the change of parent (R88, R90, R96, R97) -/

/-- Enter HOLDOVER at the last disciplined rate; in host-assisted mode the rate stays as the driver set it (R94). -/
def State.holdover (s : State) : State :=
  let s1 := setWhl (s.setWState wHOLDOVER) fun w => { w with good := 0, bad := 0 }
  if s.assisted 0 then s1 else s1.endSlew.lastRate

/-- Ticks in one Sync interval. -/
def State.syncTicks (s : State) : Nat :=
  if s.whl.syncLog ≥ 0 then 4000000000 * 2 ^ s.whl.syncLog.toNat else 4000000000 / 2 ^ (-s.whl.syncLog).toNat

/-- HOLDOVER_ENTRY (R88). -/
def execHoldoverEntry (s : State) : Host.Outcome State Fault Refusal :=
  act s (match s.whl.lastSync with
    | some t => if (s.wState = wACQUIRE ∨ s.wState = wLOCKED) ∧ t + 4 * s.syncTicks ≤ s.now then s.holdover else s
    | none => s)

/-- HOLDOVER_LIMIT (R97). -/
def execHoldoverLimit (s : State) : Host.Outcome State Fault Refusal :=
  act s (match s.whl.lastSync with
    | some t =>
      if s.wState = wHOLDOVER ∧ !s.flag Reg.WHL_STATUS_DEGRADED ∧ s.fget Reg.WHL_HOLD_STAB * (s.now - t) > s.fget Reg.WHL_HOLD_LIMIT * 4000000000 then
        (s.fset Reg.WHL_STATUS_DEGRADED 1).timeFaultFree
      else s
    | none => s)

/-- The child takes time from another up-port (R95, R96). -/
def State.timeSwitch (s : State) (p : Nat) : State :=
  let k := p - 32
  let s0 := if (Tab.getD s.whl.delays k []).isEmpty then s.askDelay p else s
  let s1 := s0.fset Reg.WHL_STATUS_TIME_PORT k
  let s2 := if s.assisted 0 then s1 else s1.endSlew.lastRate
  match Tab.get s.whl.offs k with
  | none => s2.acquire
  | some o => if o.natAbs ≤ 4 * s.lockThr then s2 else if s.assisted 0 then s2.acquire else s2.acquire.startSlew (o * 2 ^ 34)

/-- FT_MAX (R71). -/
def execFtMax (s : State) : Host.Outcome State Fault Refusal :=
  act s (if s.ft = ftMax ∧ !s.whl.ftMaxed then (setWhl s fun w => { w with ftMaxed := true }).timeFaultFree else s)

/-! ### The timing port (R100 to R103) -/

/-- The active root leaves source priority 1: HOLDOVER, with the frequency of the 10 MHz input, a free value within the clamp, or the last disciplined rate (assumption 48). -/
def State.leavePps (s : State) : State :=
  if !s.rootActive then s
  else
    let s1 := if s.wState = wACQUIRE ∨ s.wState = wLOCKED then s.holdover else s
    if s.assisted 0 ∨ s.flag Reg.WHL_REF_PPS_PRESENT then s1
    else if s.flag Reg.WHL_REF_REF10M_PRESENT then
      let f := s1.freeWord
      let s2 := f.2.fset Reg.WHL_STATUS_SOURCE 2
      setBase (s2.rateOf (f.1.toNat % 401 - 200 : Int) 1000000)
    else (s1.fset Reg.WHL_STATUS_SOURCE 0).lastRate

/-- PPS_PRESENT_EXPIRY (R125). -/
def execPpsPresentExpiry (s : State) : Host.Outcome State Fault Refusal :=
  act s (match s.whl.lastPps with
    | some t =>
      if s.build.isHub ∧ s.flag Reg.WHL_REF_PPS_PRESENT ∧ t + 4400000000 ≤ s.ft then (s.fset Reg.WHL_REF_PPS_PRESENT 0).leavePps else s
    | none => s)

/-- REF10M_CHANGE (R100). -/
def execRef10mChange (present : Bool) (s : State) : Host.Outcome State Fault Refusal :=
  act s (if !s.build.isHub || !s.flag Reg.WHL_PPS_IN_EN then s
    else
      let s1 := s.fsetB Reg.WHL_REF_REF10M_PRESENT present
      if s.flag Reg.WHL_REF_PPS_PRESENT then s1 else s1.leavePps)

/-- The label of an edge: the running label, or that of the lines once three of them agree against it (R102). A line that ended less than 100 ms before the edge is invalid. Answers the label and whether it was adopted. -/
def State.labelEdge (s : State) (stamp : Nat) : Option Nat × Bool × State :=
  let run := s.whl.edgeLabel.map (· + 1)
  let keep := fun (l : Option Nat) (s : State) => setWhl s fun w => { w with edgeLabel := l, lineDue := none }
  match s.whl.lineDue with
  | none => (run, false, keep run s)
  | some (l, ended) =>
    if stamp < ended + 400000000 then
      let s1 := ((s.bump Reg.WHL_REF_TOD_ERRS).fset Reg.WHL_REF_TOD_VALID 0)
      (run, false, keep run (setWhl s1 fun w => { w with disagree := 0 }))
    else
      let n := if run = none ∨ run = some l then 0 else s.whl.disagree + 1
      let adopt := decide (n ≥ 3)
      let lab := if run = none ∨ adopt then some l else run
      (lab, adopt, keep lab (setWhl s fun w => { w with lineLabel := some l, disagree := if adopt then 0 else n }))

/-- A 1PPS edge (R100, R103). -/
def State.ppsEdge (s : State) (stamp : Nat) : State :=
  if !s.build.isHub || !s.flag Reg.WHL_PPS_IN_EN then s
  else
    let r := ((setWhl s fun w => { w with lastPps := some stamp }).fset Reg.WHL_REF_PPS_PRESENT 1).labelEdge stamp
    let s1 := r.2.2
    let takes := s.rootActive || (s.isRoot && s.awaitsTime && !s.str.peerActive)
    match r.1 with
    | none => s1
    | some l =>
      if !takes then s1
      else
        let o : Int := (stamp : Int) * 64 - s.fget Reg.WHL_PPSLAT_IN_LAT - (l : Int) * 4000000000 * 64
        let s2 := setWhl (s1.fset Reg.WHL_STATUS_SOURCE 2) fun w => { w with syncLog := 0, lastSync := some s.now }
        let s3 := s2.validSync o
        if r.2.1 && s3.work.length == s2.work.length then s3.timeFaultFree else s3

/-- PPS_EDGE (R100). -/
def execPpsEdge (stamp : Nat) (s : State) : Host.Outcome State Fault Refusal := act s (s.ppsEdge stamp)

/-- Days from 2000-01-01 to a civil date, by search-free arithmetic; the caller checks the date by converting back. -/
def daysOf (y m d : Nat) : Int :=
  let y' : Int := if m ≤ 2 then (y : Int) - 1 else y
  let mp : Int := if m > 2 then (m : Int) - 3 else (m : Int) + 9
  let era := y' / 400
  let yoe := y' % 400
  era * 146097 + yoe * 365 + yoe / 4 - yoe / 100 + (153 * mp + 2) / 5 + d - 1 - 730425

def digits (bs : List Byte) : Option Nat :=
  bs.foldl (fun a b => match a with
    | some n => if 48 ≤ b.toNat ∧ b.toNat ≤ 57 then some (n * 10 + (b.toNat - 48)) else none
    | none => none) (some 0)
def hexDigit (n : Nat) : Byte := if n < 10 then BitVec.ofNat 8 (48 + n) else BitVec.ofNat 8 (55 + n)

/-- The scale and the label fields of a line of R101 whose form and check digits are right: scale byte, year, month, day, hour, minute, second. -/
def readLine (bs : List Byte) : Option (Byte × List Nat) :=
  let at_ := fun (i : Nat) => (bs.getD i 0).toNat
  let x := ((bs.drop 3).take 22).foldl (· ^^^ ·) 0#8
  let form := bs.length == 30 && bs.take 4 == [84#8, 90#8, 84#8, 44#8] && at_ 5 == 44 && at_ 10 == 45 && at_ 13 == 45 && at_ 16 == 84
    && at_ 19 == 58 && at_ 22 == 58 && at_ 25 == 42 && bs.getD 26 0 == hexDigit (x.toNat / 16) && bs.getD 27 0 == hexDigit (x.toNat % 16)
    && at_ 28 == 13 && at_ 29 == 10
  let num := fun (i n : Nat) => digits ((bs.drop i).take n)
  if !form then none
  else match num 6 4, num 11 2, num 14 2, num 17 2, num 20 2, num 23 2 with
    | some y, some mo, some d, some h, some mi, some sec => some (bs.getD 4 0, [y, mo, d, h, mi, sec])
    | _, _, _, _, _, _ => none

/-- The TAI second of a label, if the calendar has it: a TAI label counts no leap seconds, a UTC label is found through the table (R101, R102). -/
def labelTai (leap : Option Leap) (scale : Byte) (l : List Nat) : Option Nat :=
  match l with
  | [y, mo, d, h, mi, sec] =>
    let u := daysOf y mo d * 86400 + h * 3600 + mi * 60 + sec
    let ok := fun (lp : Option Leap) (t : Int) =>
      let c := toCalendar lp (t.toNat * secondsPerTick)
      decide (0 ≤ t) && c.date == { year := y, month := mo, day := d } && c.hour == h && c.minute == mi && c.second == sec
    if scale = 84#8 then (if ok none u then some u.toNat else none)
    else if scale = 85#8 then
      let offs : List Int := match leap with | some t => t.base :: t.entries.map (·.2) | none => [0]
      ((offs.map fun o => u + o).find? (ok leap)).map Int.toNat
    else none
  | _ => none

/-- TOD_LINE (R102). -/
def execTodLine (bytes : List Byte) (s : State) : Host.Outcome State Fault Refusal :=
  act s (if !s.build.isHub || !s.flag Reg.WHL_TOD_EN || decide (s.fget Reg.WHL_TOD_BAUD > 4) then s
    else
      let bad := setWhl ((s.bump Reg.WHL_REF_TOD_ERRS).fset Reg.WHL_REF_TOD_VALID 0) fun w => { w with disagree := 0 }
      match (readLine bytes).bind fun r => labelTai s.whl.leap r.1 r.2 with
      | none => bad
      | some l =>
        if s.whl.lineLabel = none ∨ s.whl.lineLabel = some (l - 1) then
          setWhl (s.fset Reg.WHL_REF_TOD_VALID 1) fun w => { w with lineDue := some (l, s.ft) }
        else bad)

/-- PPS_OUT_EDGE (R112): FT, advanced by OUT_LAT, has just passed a whole second. -/
def execPpsOutEdge (s : State) : Host.Outcome State Fault Refusal :=
  act s (if s.build.isHub && s.flag Reg.WHL_PPS_OUT_EN && s.whl.clock
      && decide ((s.ft + ceilDiv (s.fget Reg.WHL_PPSLAT_OUT_LAT) 64) % 4000000000 < 5) then s.emit (.pulse .pps) else s)

/-! ### Registers (R87, R93, R94) -/

/-- WHL_ADJ as it reads: in hardware mode the servo's current correction, in 2^-40. -/
def State.adjWord (s : State) : W32 :=
  if s.assisted 0 then s.regGet Reg.WHL_ADJ_ADJ.addr
  else BitVec.ofInt 32 (((s.freeDiv ((s.fget Reg.WHL_RATE_RATE : Int) - 2 ^ 42) 4)).1)

/-- A write of WHL_ADJ: in host-assisted mode the rate follows it. -/
def State.adjWrite (s : State) (a : Acc) (v : W32) : State :=
  let s1 := s.regSet Reg.WHL_ADJ_ADJ.addr (writtenWord .rw 0xFFFFFFFF a.bitAlias s.adjWord v)
  if s.assisted 0 then s1.hostRate else s1

/-- WHL_ADJ_WRITE (R93). -/
def execWhlAdjWrite (a : Acc) (v : W32) (s : State) : Host.Outcome State Fault Refusal :=
  act s (s.regAccess (.whlAdjWrite a v) a 1 fun s => s.adjWrite a v)

/-- The effect of WHL_STEP (R93). -/
def State.whlStep (s : State) (v : W32) : State :=
  let d := sext 32 v.toNat
  if !s.assisted 0 ∨ d = 0 then s
  else if d > 0 then s.stepFt (d * 2 ^ 40)
  else if s.running then s.startSlew (s.whl.slew - d * 2 ^ 40)
  else s.shiftFt (d * 2 ^ 40)

/-- WHL_STEP (R93): an alias write to a WO field has no effect (R168). -/
def execWhlStep (a : Acc) (v : W32) (s : State) : Host.Outcome State Fault Refusal :=
  act s (s.regAccess (.whlStep a v) a 1 fun s => if a.bitAlias = 0 then s.whlStep v else s)

/-- A write of WHL_ASYMk. -/
def State.asymWrite (s : State) (a : Acc) (k : Nat) (v : W32) : State :=
  if k < (if s.build.isHub then 4 else 2) then
    let key := (Reg.WHL_ASYM_ASYM.at k).addr
    s.regSet key (s.rwWrite key 0xFFFFFFFF a v)
  else s

/-- WHL_ASYM_WRITE (R87): the next offset computation takes it. -/
def execWhlAsymWrite (a : Acc) (k : Nat) (v : W32) (s : State) : Host.Outcome State Fault Refusal :=
  act s (s.regAccess (.whlAsymWrite a k v) a 1 fun s => s.asymWrite a k v)

/-! ### Commands (R113 to R117, R205) -/

/-- TIME_READ (R205). -/
def execTimeRead (src : Src) (d : Desc) (b : Bus) (s : State) : Host.Outcome State Fault Refusal :=
  act s (s.command (.timeRead src d b) src d b 0x60 .hm false fun s r => s.checked r {} fun s => s.completeOk r s.wState)

/-- The table of an operand. -/
def readLeap (bs : List Byte) : Leap :=
  let h := wordAt bs 0
  { header := h, base := sext 16 (bits h 15 0), expiry := bits h 63 32
    entries := (List.range (bits h 23 16)).map fun i => (bits (wordAt bs (i + 1)) 31 0, sext 16 (bits (wordAt bs (i + 1)) 47 32)) }

/-- T_eff rises and each entry changes the offset by one second. -/
def leapChain : Int → Option Nat → List (Nat × Int) → Bool
  | _, _, [] => true
  | off, t, e :: l =>
    (match t with | some x => decide (x < e.1) | none => true) && (e.2 == off + 1 || e.2 == off - 1) && leapChain e.2 (some e.1) l

/-- The checks of R114. -/
def leapOk (bs : List Byte) : Bool :=
  let h := wordAt bs 0
  let t := readLeap bs
  decide (bits h 23 16 ≤ 64) && bits h 31 24 == 0 && leapChain t.base none t.entries
    && (List.range (bits h 23 16)).all fun i => bits (wordAt bs (i + 1)) 63 48 == 0

def State.leapLoad (s : State) (r : Running) : State :=
  let bs := s.operand r
  let len := r.d.len.toNat
  let n := bits (wordAt bs 0) 23 16
  s.checked r { zero := decide (len = 0), tooLong := decide (len < 8) || decide (len < 8 + 8 * n), reads := true } fun s =>
    if !leapOk bs then (s.raise fCONFIG 0 (s.unit 1) 0).fail r stBAD_FIELD
    else
      let t := readLeap bs
      let s1 := ((setWhl s fun w => { w with leap := some t }).fset Reg.WHL_UTC_ENTRIES n).fset Reg.WHL_UTC_LOADED 1
      let s2 := s1.logAdd 5 s1.ft { w0 := t.header, w1 := BitVec.ofNat 64 (signed 16 s1.utcNow), w2 := 0, w3 := 0 }
      s2.completeOk r n

/-- LEAP_LOAD (R115). -/
def execLeapLoad (src : Src) (d : Desc) (b : Bus) (s : State) : Host.Outcome State Fault Refusal :=
  act s (s.command (.leapLoad src d b) src d b 0x61 .m false State.leapLoad)

end Sys2Proof.Machine
end

