-- ==== Sys2Proof/Machine/Strand.lean ====
section
/-! DEFINITION. Strand (R566 to R606) and the tree it carries (R22 to R60): link-up, credits and retry, failover and return, adoption, mirror, and the two-phase start. -/

namespace Sys2Proof.Machine

/-! ### Replay (R579, R594) -/

def State.setStr (s : State) (f : Strand → Strand) : State := { s with str := f s.str }

/-- A frame as it is replayed: REPLAY in its header and, for a Twister input, in its item FLAGS (R403). -/
def replayed (x : TxFrame) : TxFrame :=
  { x with replay := true, seq := 0
           payload := if x.typ = 0x11 ∧ x.first then x.payload.set 1 (x.payload.getD 1 0 ||| (1#64 <<< 24)) else x.payload }

/-- Class order, TC7 first, and the order given within a class. -/
def byClass (l : List TxFrame) : List TxFrame := ([7, 6, 5, 4, 3, 2, 1, 0] : List Nat).flatMap fun c => l.filter (·.tc == c)

/-- Held link-control frames of a lost port are dropped under NO_PARENT at its transmit point; the others are answered. -/
def State.takeHeld (s : State) (p : Nat) : State × List TxFrame :=
  let pt := s.port p
  let all := pt.held ++ pt.rtx
  let gone := all.filter fun x => linkControl x.typ
  let s1 := s.setPort p { pt with held := [], rtx := [], resend := [] }
  ((if gone.isEmpty then s1 else s1.ledDrop 7 p 8 gone.length).endFrames gone |>.rtxShow p, all.filter fun x => !linkControl x.typ)

/-- Pass the held frames of port `q` to port `p` for replay (R594, R604). -/
def State.replayFrom (s : State) (p q : Nat) : State :=
  match s.takeHeld q with
  | (s1, fs) =>
    let n := fs.length
    let s2 := if q = p ∨ n = 0 then s1 else (s1.led 7 q .out n).led 7 p .inn n
    (s2.modPort p fun x => { x with held := byClass (x.held ++ fs.map replayed) }).rtxShow p

/-- Link-control frames that never departed leave the egress queues of a port that has gone down. -/
def State.purgeControl (s : State) (p : Nat) : State :=
  (List.range 8).foldl (fun s c =>
    let l := (s.port p).egress.getD c []
    let gone := l.filter fun x => linkControl x.typ
    if gone.isEmpty then s else
      let s1 := s.modPort p fun x => { x with egress := listSet x.egress c (l.filter fun x => !linkControl x.typ) }
      ((s1.ledDrop 6 (draftPt p c) 8 gone.length).led 5 (egressQ p c) .out (cellsSum gone)).endFrames gone) s

/-- Frames that wait in the egress queues of port `q`, none of which has departed there, move to port `p` ahead of what it holds. -/
def State.moveQueued (s : State) (p q : Nat) : State :=
  if p = q then s
  else
    let s1 := (List.range 8).foldl (fun s c =>
      let l := (s.port q).egress.getD c []
      let go := l.filter fun x => !linkControl x.typ
      if go.isEmpty then s else
        let s1 := s.modPort q fun x => { x with egress := listSet x.egress c (l.filter fun x => linkControl x.typ) }
        let s2 := (s1.led 6 (draftPt q c) .out go.length).led 5 (egressQ q c) .out (cellsSum go)
        let s3 := s2.modPort p fun x => { x with egress := listSet x.egress c (go ++ x.egress.getD c []) }
        (s3.led 6 (draftPt p c) .inn go.length).led 5 (egressQ p c) .inn (cellsSum go)) s
    let st := (s1.port q).stalled
    (s1.modPort q fun x => { x with stalled := [] }).modPort p fun x => { x with stalled := x.stalled ++ st }

/-! ### Parents (R47, R592 to R598) -/

def State.childUps (s : State) : List Nat := s.primaryUp :: s.altUp.toList

/-- The child takes port `p` as the port of its current parent (R64). -/
def State.homeTo (s : State) (p : Nat) : State :=
  let s1 := s.childUps.foldl (fun s q => s.fset (Reg.STR_PSTAT_HOMED.at q) (b2n (q == p))) s
  s1.fset Reg.STR_HOMING_CUR_PARENT (b2n (p != s.primaryUp))

/-- ATTACHED with ACCEPT 1 (R593, R594, R597): the new parent, its time, and the replay; at a return the frames sent to the alternate wait for RETURN_REPLAY. -/
def State.attachedTo (s : State) (p : Nat) : State :=
  let waits : Bool := match s.str.returnFt with | some t => decide (s.now < t + 64 * us) | none => false
  let failed : Bool := match s.str.lostPort with | some q => q != p | none => false
  let s1 := (s.homeTo p).setStr fun x => { x with
    homing := .settled, lostPort := none, noParentFt := none, returnFt := if waits then x.returnFt else none }
  let s2 := if failed then s1.bump Reg.STR_HOMING_FAILOVERS else s1
  let s3 := (s2.timeSwitch p).heartbeat p
  s.childUps.foldl (fun s q => if waits && q != p then s.moveQueued p q else (s.replayFrom p q).moveQueued p q) s3

/-- ATTACHED at a child (R593). -/
def State.takeAttached (s : State) (m : Msg) : State :=
  match s.str.homing with
  | .attaching q _ =>
    if q = m.port then (if bit (m.words.getD 0 0) 0 then s.attachedTo q else s.noParent) else s
  | .settled => s

/-- ATTACHED (R593). -/
def execAttached (p : Nat) (f : Frame) (s : State) : Host.Outcome State Fault Refusal :=
  act s (match s.rx p 0x07 f with
    | (s1, none) => s1
    | (s1, some m) => (s1.rxPass p m.seqs.length).takeAttached m)

/-- ATTACH_RETRY (R593): 10 µs without an answer leave the child with no parent; every 100 µs the ATTACH is repeated. -/
def execAttachRetry (s : State) : Host.Outcome State Fault Refusal :=
  act s (match s.str.homing with
    | .attaching q t =>
      if s.stopped ∨ s.now < t + 10 * us then s
      else
        let s1 := s.noParent
        if s.now < t + 100 * us ∨ !s.portUp q then s1 else s1.sendAttach q
    | .settled => s)

/-- PARENT_LOSS (R592, R28): 21 µs of silence from the current parent, or at a root from its peer. -/
def execParentLoss (s : State) : Host.Outcome State Fault Refusal :=
  let silent := fun (p : Nat) => s.portUp p && decide ((s.port p).lastRxFt + 21 * us ≤ s.now)
  act s (if s.stopped then s
    else if s.isRoot then
      (if silent 32 then (s.setStr fun x => { x with peerActive := false }).takeover else s)
    else match s.curUp with
      | some p => if silent p && s.str.homing == .settled && s.fget Reg.STR_HOMING_CUR_PARENT != 3 then s.loseParent p else s
      | none => s)

/-- NO_PARENT_EXPIRY (R155): 64 µs without a parent, and what is held is dropped; of a port that was not lost the link-control frames stay. -/
def execNoParentExpiry (s : State) : Host.Outcome State Fault Refusal :=
  act s (match s.str.noParentFt with
    | some t =>
      if s.fget Reg.STR_HOMING_CUR_PARENT ≠ 2 ∨ s.now < t + 64 * us then s
      else s.childUps.foldl (fun s p =>
        let pt := s.port p
        let lost := s.str.lostPort == some p
        let items := (pt.held ++ pt.rtx).filter fun x => lost || !linkControl x.typ
        let keep := fun (l : List TxFrame) => l.filter fun x => linkControl x.typ
        let kept := fun (l : List TxFrame) => if lost then [] else keep l
        let s1 := s.setPort p { pt with
          held := kept pt.held
          rtx := kept pt.rtx
          resend := if lost then [] else pt.resend
          stalled := pt.stalled.filter fun l => l.any fun x => linkControl x.typ }
        let s2 := ((if items.isEmpty then s1 else s1.ledDrop 7 p 8 items.length).endFrames items).rtxShow p
        let s3 := (pt.stalled.filter fun l => l.all fun x => !linkControl x.typ).foldl
          (fun s l => s.dropAtDraft p ((l.head?.map (·.tc)).getD 0) 8 l) s2
        (List.range 8).foldl (fun s c =>
          let l := (s.port p).egress.getD c []
          let gone := l.filter fun x => !linkControl x.typ
          if gone.isEmpty then s else
            let s1 := s.modPort p fun x => { x with egress := listSet x.egress c (keep l) }
            ((s1.ledDrop 6 (draftPt p c) 8 gone.length).led 5 (egressQ p c) .out (cellsSum gone)).endFrames gone) s3) s
    | none => s)

/-- Put a frame ahead of the messages of its class of which no frame has departed. -/
def State.enqueueFirst (s : State) (p typ : Nat) (words : List W64) : State :=
  let fs := mkFrames typ 7 s.str.msgs 0 false words []
  let s1 := (s.setStr fun x => { x with msgs := x.msgs + 1 }).modPort p fun x =>
    let l := x.egress.getD 7 []
    { x with egress := listSet x.egress 7 (l.takeWhile (fun y => !y.first) ++ fs ++ l.dropWhile (fun y => !y.first)) }
  (s1.led 6 (draftPt p 7) .inn fs.length).led 5 (egressQ p 7) .inn (cellsSum fs)

/-- The primary link has been clean for STR_RETURN ms (R597). -/
def State.mayReturn (s : State) : Bool :=
  let p := s.primaryUp
  let pt := s.port p
  let need := (max 1 (s.fget Reg.STR_RETURN_MS)) * ms
  s.flag Reg.STR_CTRL_AUTORETURN && s.fget Reg.STR_HOMING_CUR_PARENT == 1 && s.str.homing == .settled && s.str.childFenced.isNone
    && s.portUp p && s.flag (Reg.STR_PSTAT_ADMITTED.at p) && !(s.str.barred.contains p)
    && decide (pt.upFt + need ≤ s.now) && decide (s.now ≤ pt.lastHb + 21 * us)

/-- AUTORETURN (R597). -/
def execAutoreturn (s : State) : Host.Outcome State Fault Refusal :=
  act s (if s.stopped || s.isRoot || !s.mayReturn then s
    else match s.altUp with
      | some a => ((s.enqueueFirst a 0x08 []).setStr fun x => { x with returnFt := some s.now }).sendAttach s.primaryUp
      | none => s)

/-- RETURN_REPLAY (R597): 64 µs after DETACH. -/
def execReturnReplay (s : State) : Host.Outcome State Fault Refusal :=
  act s (match s.str.returnFt, s.altUp with
    | some t, some a =>
      if s.now < t + 64 * us ∨ s.fget Reg.STR_HOMING_CUR_PARENT ≠ 0 then s
      else (s.replayFrom s.primaryUp a).setStr fun x => { x with returnFt := none }
    | _, _ => s)

/-! ### Link-up (R577 to R579) -/

/-- Retransmit capacity in KiB (R586). -/
def rtxCapacity (lanes rate : Nat) : Nat := if rate = 0 then 775 else if lanes = 4 then 3100 else 1550

/-- A class bucket starts full at link-up (R624). -/
def State.fillBuckets (s : State) (p : Nat) : State :=
  (List.range 4).foldl (fun s c =>
    let b := s.bucket p c
    let b2 : Bucket := { b with tokens := b.burst * 65536 }
    if b.rate = 0 then s else { s with drf := { s.drf with buckets := Tab.set s.drf.buckets (p + 64 * c) b2 } }) s

/-- A child's up-port reaches UP (R55, R593, R598): the first parent, an ATTACH where none is held, or nothing. -/
def State.upLinkUp (s : State) (p : Nat) : State :=
  let fencedElsewhere : Bool := match s.str.childFenced with | some q => q != p | none => false
  let s1 := s.setStr fun x => { x with
    barred := x.barred.filter (· != p), childFenced := if x.childFenced = some p then none else x.childFenced }
  if fencedElsewhere || s1.str.homing != .settled then s1
  else match s1.fget Reg.STR_HOMING_CUR_PARENT with
    | 3 => if p = s1.primaryUp then (s1.homeTo p).fset Reg.WHL_STATUS_TIME_PORT (p - 32)
        else if s1.altUp = some p then s1.sendAttach p else s1
    | 2 => if s1.childUps.contains p then s1.sendAttach p else s1
    | _ => s1

/-- A down-port reaches UP: the primary child of a port that has never been up is homed here (R67). -/
def State.downLinkUp (s : State) (p : Nat) (first : Bool) : State :=
  if s.routeValid p ∧ !s.flag (Reg.STR_ROUTE_ALT.at p) ∧ first then
    (s.fset (Reg.STR_ROUTE_ACTIVE.at p) 1).fset (Reg.STR_PSTAT_HOMED.at p) 1
  else s

/-- Both ends have sent INIT and received a valid one: the port enters UP (R577, R579, R588). -/
def State.enterUp (s : State) (p : Nat) : State :=
  let lanes := s.fget (Reg.STR_PCFG_LANES.at p)
  let rate := s.fget (Reg.STR_PCFG_RATE.at p)
  let s1 := (((s.fset (Reg.STR_PSTAT_STATE.at p) 3).fset (Reg.STR_PSTAT_ADMITTED.at p) 1).bump (Reg.STR_PSTAT_LINKUPS.at p)).showUp p true
  let s2 := ((s1.fset (Reg.STR_PTXSEQ_SEQ.at p) 1).fset (Reg.STR_PRXSEQ_SEQ.at p) 1).fset (Reg.STR_PRTXCAP_KIB.at p) (rtxCapacity lanes rate)
  let s3 := (s2.modPort p fun x => { x with upFt := s.now, lastRxFt := s.now, lastHb := s.now, rxSyncFt := none }).fillBuckets p
  let s4 := (s3.heartbeat p).judgeLink p
  if s4.isPeer p then s4
  else if isUp p then (s4.askDelay p).upLinkUp p
  else s4.downLinkUp p ((s.port p).upFt == 0)

/-- Enter UP once both INITs have passed. -/
def State.initDone (s : State) (p : Nat) : State :=
  let pt := s.port p
  if s.pState p = 2 ∧ pt.initSent ∧ pt.initGot then s.enterUp p else s

/-- LINK_SIGNAL_DETECT (R577). -/
def execLinkSignalDetect (p : Nat) (s : State) : Host.Outcome State Fault Refusal :=
  act s (if !hasPort s.build p ∨ !s.flag (Reg.STR_PCTRL_EN.at p) ∨ s.pState p ≠ 0 ∨ s.bootStep < 4 ∨ s.stopped ∨ s.portFenced p then s
    else (s.fset (Reg.STR_PSTAT_STATE.at p) 1).emit (.train p))

/-- The words of an INIT (R577). -/
def State.initWords (s : State) (p : Nat) : List W64 :=
  [BitVec.ofNat 64 (s.self.toNat + fld 3 48 s.tier + fld 6 51 p),
   BitVec.ofNat 64 (fld 3 0 (s.fget (Reg.STR_PCFG_LANES.at p)) + fld 1 3 (s.fget (Reg.STR_PCFG_RATE.at p)))]

/-- LINK_TRAINED (R577, R579, R580): the latencies of R81 are measured, the port enters INIT, its pools are granted and INIT is queued. What the previous link-up left is held for replay. -/
def execLinkTrained (p txlat rxlat : Nat) (s : State) : Host.Outcome State Fault Refusal :=
  act s (if s.pState p ≠ 1 then s
    else
      let s0 := s.takeHeld p
      let s1 := (s0.1.purgeControl p).modPort p fun x => { x with
        held := byClass (s0.2.map replayed), lack := 0, lackFt := s.now, initSent := false, initGot := false
        rret := s.pool p, bret := s.pool p, sentCack := 0, sentLack := 0, custody := [], partials := [] }
      let s2 := ((s1.rtxShow p).fset (Reg.WHL_PLAT_TXLAT.at p) txlat).fset (Reg.WHL_PLAT_RXLAT.at p) rxlat
      let s3 := ((s2.fset (Reg.STR_PSTAT_STATE.at p) 2).fset (Reg.STR_PTXSEQ_SEQ.at p) 0).fset (Reg.STR_PRXSEQ_SEQ.at p) 0
      let fs := mkFrames 0x05 7 s3.str.msgs 0 false (s3.initWords p) []
      let s4 := (s3.setStr fun x => { x with msgs := x.msgs + 1 }).modPort p fun x => { x with
        egress := listSet x.egress 7 (fs ++ x.egress.getD 7 []) }
      (s4.led 6 (draftPt p 7) .inn fs.length).led 5 (egressQ p 7) .inn (cellsSum fs))

/-- The far end's INIT fits this end: the same configuration (R578) and, on a down-port, the child of the route entry (R37). -/
def State.initFits (s : State) (p : Nat) (ws : List W64) : Bool :=
  let w0 := ws.getD 0 0
  let w1 := ws.getD 1 0
  let child : Hank := BitVec.ofNat 48 (bits w0 47 0)
  bits w1 2 0 == s.fget (Reg.STR_PCFG_LANES.at p) && bits w1 3 3 == s.fget (Reg.STR_PCFG_RATE.at p) &&
    (isUp p || (s.routeValid p && s.routeMatch p (hPlace child) && bits w0 50 48 + s.fget (Reg.STR_ROUTE_DEPTH.at p) == 6))

/-- INIT at a port: admitted with its credits, or a CONFIG fault at F0 and the port stays in INIT. -/
def State.takeInit (s : State) (p : Nat) (f : Frame) (ws : List W64) : State :=
  let w0 := ws.getD 0 0
  if !s.initFits p ws then s.raise fCONFIG 0 (s.unit (portSub p)) 0
  else
    let r := f.rcred.toNat
    let b := f.bcred.toNat
    let s1 := (s.fset (Reg.STR_PCRED_RES.at p) r).fset (Reg.STR_PCRED_BE.at p) b
    let s2 := if r + b = 0 then s1 else s1.led 9 p .inn (r + b)
    (s2.modPort p fun x => { x with
      initGot := true, peer := BitVec.ofNat 48 (bits w0 47 0), peerTier := bits w0 50 48, peerIdx := bits w0 56 51 }).initDone p

/-- INIT (R577, R578). -/
def execInit (p : Nat) (f : Frame) (s : State) : Host.Outcome State Fault Refusal :=
  act s (match s.rx p 0x05 f with
    | (s1, none) => s1
    | (s1, some m) =>
      let s2 := s1.rxPass p m.seqs.length
      if s2.pState p = 2 ∧ !(s2.port p).initGot then s2.takeInit p f m.words else s2)

/-- LINK_DOWN (R569): a loss of lock (`cause` 0), or so many consecutive uncorrectable codewords, which count and take the link down from UNCORR_LIM on. -/
def execLinkDown (p cause : Nat) (s : State) : Host.Outcome State Fault Refusal :=
  let s1 := if cause = 0 then s else s.fadd (Reg.STR_PERR_UNCORR.at p) cause
  let lim := max 1 (s.fget (Reg.STR_PCTRL_UNCORR_LIM.at p))
  act s (if !hasPort s.build p ∨ s.pState p = 0 ∨ s.pState p = 4 then s
    else if cause ≠ 0 ∧ cause < lim then s1
    else s1.linkDown p 0)

/-- A write of STR_PCTRL (R606). -/
def State.pctrlWrite (s : State) (p : Nat) (a : Acc) (v : W32) : State :=
  if !hasPort s.build p then s
  else
    let key := (Reg.STR_PCTRL_EN.at p).addr
    let was := s.flag (Reg.STR_PCTRL_EN.at p)
    let retrain := bit (maskedWord a.bitAlias (s.regGet key) v) 1
    let s1 := s.regSet key (s.mwWrite key 0x3D a v)
    let on := s1.flag (Reg.STR_PCTRL_EN.at p)
    if was && !on then (if s1.pState p = 4 then s1 else (s1.linkDown p 0).emit (.lanes p true))
    else
      let s2 := if !was && on && decide (4 ≤ s1.bootStep) && !s1.stopped && !s1.portFenced p then s1.emit (.lanes p false) else s1
      if retrain && on && decide (1 ≤ s2.pState p) && decide (s2.pState p ≤ 3) then s2.linkDown p 0 else s2

/-- STR_PCTRL_EN (R606). -/
def execStrPctrlEn (a : Acc) (p : Nat) (v : W32) (s : State) : Host.Outcome State Fault Refusal :=
  act s (s.regAccess (.strPctrlEn a p v) a (0x80 + p) fun s => s.pctrlWrite p a v)

/-- STR_PCTRL_RETRAIN (R606): RETRAIN written 1. -/
def execStrPctrlRetrain (a : Acc) (p : Nat) (s : State) : Host.Outcome State Fault Refusal :=
  act s (s.regAccess (.strPctrlRetrain a p) a (0x80 + p) fun s => s.pctrlWrite p { a with bitAlias := 0 } 0x00020002#32)

/-! ### Credits, retry and departure (R581 to R585, R622) -/

/-- CTRL (R581). -/
def execCtrl (p : Nat) (f : Frame) (s : State) : Host.Outcome State Fault Refusal := act s (s.rx p 0x02 f).1
/-- NAK (R583). -/
def execNak (p : Nat) (f : Frame) (s : State) : Host.Outcome State Fault Refusal := act s (s.rx p 0x03 f).1

/-- A port that sends: in INIT or UP. -/
def State.portSends (s : State) (p : Nat) : Bool := hasPort s.build p && (s.pState p == 2 || s.pState p == 3)

/-- CTRL_SEND (R581): 1 µs without a frame, and LACK, CACK or credit returns that no frame has carried. -/
def execCtrlSend (p : Nat) (s : State) : Host.Outcome State Fault Refusal :=
  let pt := s.port p
  let news := decide (pt.sentLack ≠ s.fget (Reg.STR_PRXSEQ_SEQ.at p)) || decide (pt.sentCack ≠ s.cackOf p) || decide (pt.rret + pt.bret ≠ 0)
  act s (if s.portSends p && news && decide (pt.txFt + us ≤ s.now) && (s.pState p == 3 || pt.initSent) then s.modPort p fun x => { x with ctrlDue := true } else s)

/-- NAK_REPEAT (R582). -/
def execNakRepeat (p : Nat) (s : State) : Host.Outcome State Fault Refusal :=
  act s (if s.portSends p && (s.port p).nakWait && decide ((s.port p).lastNakFt + us ≤ s.now) then s.modPort p fun x => { x with nakDue := true } else s)

/-- RETRY_TIMEOUT (R583). -/
def execRetryTimeout (p : Nat) (s : State) : Host.Outcome State Fault Refusal :=
  let pt := s.port p
  act s (if s.portSends p && pt.rtx.any (fun x => !seqLt x.seq pt.lack) && decide (pt.lackFt + 2 * us ≤ s.now) then s.resendAll p else s)

/-- The frame that Draft selects fails its parity check in the pool: it is dropped there, with STORE at F0 (R616). Which cell failed is free (assumption 1). -/
def State.dropBadHead (s : State) (p : Nat) : State :=
  let pt := s.port p
  if s.pState p ≠ 3 ∨ s.lostHere p ∨ pt.nakDue ∨ pt.ctrlDue ∨ !pt.resend.isEmpty then s
  else match s.pickClass p with
    | some (c, x, false) =>
      let s1 := s.modPort p fun q => { q with egress := listSet q.egress c ((q.egress.getD c []).drop 1) }
      let s2 := (s1.ledDrop 6 (draftPt p c) rsnPOISON 1).ledDrop 5 (egressQ p c) rsnPOISON x.cells
      (s2.endFrames [x]).badCell (egressQ p c)
    | _ => s

/-- FRAME_DEPART (R622): `bad` says that the item read from the pool fails its parity check (R616). -/
def execFrameDepart (p stamp : Nat) (bad : Bool) (s : State) : Host.Outcome State Fault Refusal :=
  act s (if !hasPort s.build p || s.portFenced p && s.pState p != 3 then s
    else if bad then s.dropBadHead p
    else (s.depart p stamp).1.initDone p)

/-! ### Adoption (R37 to R41, R593, R597) -/

/-- The address of the primary parent of the child on a port: the child's place one field shorter, and the tier above (R43). -/
def State.primaryOf (s : State) (p : Nat) : Hank :=
  let d := s.fget (Reg.STR_ROUTE_DEPTH.at p) - 1
  BitVec.ofNat 48 (s.fget (Reg.STR_ROUTE_PREFIX.at p) / 2 ^ beyond d * 2 ^ beyond d * 2 ^ 14 + 2048 * (6 - d))

/-- The words of ADOPT and RELEASE (R38, R40): prefix in [47:0] and depth in [50:48]; the primary parent's address. -/
def State.adoptWords (s : State) (p : Nat) : List W64 :=
  [BitVec.ofNat 64 (s.fget (Reg.STR_ROUTE_PREFIX.at p) * 2 ^ 14 + fld 3 48 (s.fget (Reg.STR_ROUTE_DEPTH.at p))), BitVec.ofNat 64 (s.primaryOf p).toNat]

/-- Answer an ATTACH. -/
def State.answerAttach (s : State) (p : Nat) (ok : Bool) : State := s.send p 0x07 7 0 false [BitVec.ofNat 64 (b2n ok)] []

/-- ATTACH at a parent (R593, R597): the primary takes its child back; the alternate adopts it. -/
def State.takeAttach (s : State) (p : Nat) (w : W64) : State :=
  let alt := s.flag (Reg.STR_ROUTE_ALT.at p)
  let mark := fun (s : State) => (s.fset (Reg.STR_ROUTE_ACTIVE.at p) 1).fset (Reg.STR_PSTAT_HOMED.at p) 1
  if !s.routeValid p || (alt && bit w 48) then s.answerAttach p false
  else if alt then
    let s1 := ((mark s).sendUp 0x09 7 0 false ((mark s).adoptWords p) []).askHandover p
    (s1.answerAttach p true).takeover
  else (mark s).answerAttach p true

/-- ATTACH (R593). -/
def execAttach (p : Nat) (f : Frame) (s : State) : Host.Outcome State Fault Refusal :=
  act s (match s.rx p 0x06 f with
    | (s1, none) => s1
    | (s1, some m) => (s1.rxPass p m.seqs.length).takeAttach p (m.words.getD 0 0))

/-- DETACH (R597): the alternate parent gives the child up. -/
def execDetach (p : Nat) (f : Frame) (s : State) : Host.Outcome State Fault Refusal :=
  act s (match s.rx p 0x08 f with
    | (s1, none) => s1
    | (s1, some m) =>
      let s2 := s1.rxPass p m.seqs.length
      if s2.routeActive p ∧ s2.flag (Reg.STR_ROUTE_ALT.at p) then
        let s3 := (s2.fset (Reg.STR_ROUTE_ACTIVE.at p) 0).fset (Reg.STR_PSTAT_HOMED.at p) 0
        (s3.sendUp 0x0A 7 0 false (s3.adoptWords p) []).giveBack p
      else s2)

def setAdopt (s : State) (l : List Adopt) : State := s.setStr fun x => { x with adopt := l }
def sameEntry (a : Adopt) (pfx : Hank) (depth : Nat) : Bool := hPlace a.prefix_ == hPlace pfx && a.depth == depth

/-- Install or replace an adoption entry; a full table refuses it (R41). The answer says whether it stands. -/
def State.installAdopt (s : State) (p : Nat) (pfx : Hank) (depth : Nat) : State × Bool :=
  let others := s.str.adopt.filter fun a => !sameEntry a pfx depth
  if others.length < 1024 then (setAdopt s (others ++ [{ prefix_ := pfx, depth, port := p }]), true)
  else ((s.bump Reg.STR_ADOPT_STAT_REFUSED).raise fCONFIG 0 (s.unit (portSub p)) 0, false)

/-- A root keeps the other root's table in step over the peer link (R27, R39): kind 1 installs, 2 removes. -/
def State.mirrorEntry (s : State) (kind : Nat) (w : W64) : State :=
  if s.isRoot && s.portUp 32 then s.send 32 0x24 7 0 false [BitVec.ofNat 64 kind, w] [] else s

/-- ADOPT and RELEASE go no further than the Hub whose prefix covers the old primary parent (R38, R40). -/
def State.passAdopt (s : State) (m : Msg) : State :=
  let primary : Hank := BitVec.ofNat 48 (m.words.getD 1 0).toNat
  if placeMatch s.ownDepth (hPlace s.self) (hPlace primary) then s else s.sendUp m.typ 7 0 false m.words []

def adoptPrefix (w : W64) : Hank := BitVec.ofNat 48 (bits w 47 0)

/-- ADOPT (R38, R41). -/
def execAdopt (p : Nat) (f : Frame) (s : State) : Host.Outcome State Fault Refusal :=
  act s (match s.rx p 0x09 f with
    | (s1, none) => s1
    | (s1, some m) =>
      let w := m.words.getD 0 0
      let r := (s1.rxPass p m.seqs.length).installAdopt p (adoptPrefix w) (bits w 50 48)
      let s2 := if r.2 && p != 32 then r.1.mirrorEntry 1 w else r.1
      s2.passAdopt m)

/-- RELEASE (R40). -/
def execRelease (p : Nat) (f : Frame) (s : State) : Host.Outcome State Fault Refusal :=
  act s (match s.rx p 0x0A f with
    | (s1, none) => s1
    | (s1, some m) =>
      let w := m.words.getD 0 0
      let s2 := s1.rxPass p m.seqs.length
      let s3 := setAdopt s2 (s2.str.adopt.filter fun a => !sameEntry a (adoptPrefix w) (bits w 50 48))
      (if p = 32 then s3 else s3.mirrorEntry 2 w).passAdopt m)

/-- MIRROR (R27, R39): an adoption entry of the other root, or the words of its merged state and ledger positions, which the block keeps. -/
def execMirror (p : Nat) (f : Frame) (s : State) : Host.Outcome State Fault Refusal :=
  act s (match s.rx p 0x24 f with
    | (s1, none) => s1
    | (s1, some m) =>
      let s2 := s1.rxPass p m.seqs.length
      let w := m.words.getD 1 0
      match (m.words.getD 0 0).toNat with
      | 1 => (s2.installAdopt 32 (adoptPrefix w) (bits w 50 48)).1
      | 2 => setAdopt s2 (s2.str.adopt.filter fun a => !(sameEntry a (adoptPrefix w) (bits w 50 48) && a.port == 32))
      | _ => s2.setStr fun x => { x with mirror := m.words })

/-! ### Records that go no further, and frames that are refused (R574, R575) -/

/-- VERDICT at a Hub (R574). -/
def execVerdict (p : Nat) (f : Frame) (s : State) : Host.Outcome State Fault Refusal :=
  act s (match s.rx p 0x13 f with
    | (s1, none) => s1
    | (s1, some m) =>
      let r := recOfWords m.words
      (s1.rxPass p m.seqs.length).pushTo (s1.fget Reg.STR_CTRL_VSLICE) (recKind r) r)

/-- UNUSED_MSG_FRAME (R575): a frame whose type the port does not accept. -/
def execUnusedMsgFrame (p : Nat) (typ : Byte) (f : Frame) (s : State) : Host.Outcome State Fault Refusal :=
  let up := isUp p && !(s.isPeer p && s.rootActive)
  let fits := if up then decide (ptpType f.payload ∈ [ptpSYNC, ptpPDELAY_RESP, ptpANNOUNCE]) else ptpType f.payload == ptpPDELAY_REQ
  act s (if typ.toNat = 4 then (if fits then s else s.ptpRx p f 16 true fun s _ => s)
    else if s.accepts p typ.toNat then s else (s.rx p typ.toNat f).1)

/-! ### Two-phase start (R599 to R603) -/

def startWords (t job snum : Nat) (mask : BitVec 32) : List W64 :=
  [BitVec.ofNat 64 t, BitVec.ofNat 64 (fld 8 0 job + fld 24 8 snum), BitVec.ofNat 64 mask.toNat]

def popcount (m : BitVec 32) : Nat := sumN ((List.range 32).map fun i => b2n (bit m i))

def State.setStarts (s : State) (l : List Start) : State := s.setStr fun x => { x with starts := l }
def State.setLeafStarts (s : State) (l : List LeafStart) : State := s.setStr fun x => { x with leafStarts := l }
def State.leadIvl (s : State) : Nat := max 21 (s.fget Reg.STR_STARTCFG_LEAD) * us

/-- The timers of a start at a Leaf. -/
def startId (vote : Hank) (job : Nat) : Nat := vote.toNat * 256 + job

/-- The indices of a job's replicas that this Leaf holds, and the slices that declared them. -/
def State.heldIndices (s : State) (vote : Hank) (job : Nat) (mask : BitVec 32) : BitVec 32 × List Nat :=
  let es := (s.ply.repls.map (·.2)).filter fun e => sameBlock e.vp vote && e.job == job && bit mask e.index
  (es.foldl (fun (m : BitVec 32) e => m ||| (1#32 <<< e.index)) 0, (es.map (·.slice)).eraseDups)

/-- Forget a start at this Leaf. -/
def State.dropStart (s : State) (x : LeafStart) : State :=
  (((s.disarm (.startPrep (startId x.vote x.job))).disarm (.start (startId x.vote x.job)))).setLeafStarts (s.str.leafStarts.filter (· != x))

/-- START_MISSED, one record for each slice that declared an entry (R602). -/
def State.missStart (s : State) (x : LeafStart) : State :=
  x.slices.foldl (fun s n =>
    let r := slubRec s.ft (s.unit 0) 0 8 x.snum (b2 s.locked 3 + b2 true 10) 0 (s.unit 0) x.job
    (s.bump Reg.STR_STARTSTAT_MISSED).pushTo n 8 r) (s.dropStart x)

/-- A commit is held: the timer for T, or a missed start when none is free. -/
def State.commitStart (s : State) (x : LeafStart) : State :=
  let others := s.str.leafStarts.filter fun y => !(y.vote == x.vote && y.job == x.job)
  let r := s.armTimer x.t (.start (startId x.vote x.job))
  if r.2 then r.1.setLeafStarts (others ++ [{ x with commit := true }])
  else (r.1.setLeafStarts (others ++ [x])).missStart x

/-- A start is committed at its vote point (R601, R603). -/
def State.commitAt (s : State) (x : Start) : State :=
  let s1 := s.setStarts (s.str.starts.map fun y => if y.job = x.job then { x with committed := true } else y)
  if s.build.isHub then s1.broadcast 0x21 7 s1.ownDepth s1.self (startWords x.t x.job x.snum x.mask)
  else
    let h := s1.heldIndices s1.self x.job x.mask
    s1.commitStart { job := x.job, snum := x.snum, vote := s1.self, t := x.t, mask := h.1, slices := h.2, commit := false }

/-- JOB_START (R599). -/
def execJobStart (src : Src) (d : Desc) (b : Bus) (s : State) : Host.Outcome State Fault Refusal :=
  act s (s.command (.jobStart src d b) src d b 0x31 .h false fun s r =>
    let job := bits d.arg0 7 0
    let t := d.arg1.toNat
    s.checked r { args := bits d.arg0 31 8 == 0 } fun s =>
    s.guarded r [
      (!((Tab.get s.ply.jobs job).any fun j => j.slice == r.slice), stBAD_FIELD),
      (s.str.starts.any fun x => x.job == job, stSTATE),
      (decide (t < s.ft + s.fget Reg.STR_STARTCFG_MIN * us), stLATE),
      (decide (8 ≤ s.str.starts.length), stNO_RESOURCE)] fun s =>
    let snum := (s.str.snum + 1) % 2 ^ 24
    let reps := ((Tab.get s.ply.jobs job).map (·.replicas)).getD []
    let mask := (reps.zipIdx).foldl (fun (m : BitVec 32) e => if e.1.expelled then m else m ||| (1#32 <<< e.2)) 0
    let x : Start := { job, snum, t, mask, acks := if s.build.isHub then 0 else mask, committed := false, cmd := r }
    let s1 := s.setStr fun y => { y with snum, starts := y.starts ++ [x] }
    if !s.build.isHub then s1.commitAt x
    else
      let s2 := s1.broadcast 0x1F 7 s1.ownDepth s1.self (startWords t job snum mask)
      if mask = 0 then s2.commitAt x else s2)

/-- START_PREP at a Leaf (R600): the timer for T − 20 µs and the acknowledgement. -/
def State.takePrep (s : State) (vote : Hank) (ws : List W64) : State :=
  let t := (ws.getD 0 0).toNat
  let job := bits (ws.getD 1 0) 7 0
  let snum := bits (ws.getD 1 0) 31 8
  let h := s.heldIndices vote job (BitVec.ofNat 32 (ws.getD 2 0).toNat)
  if s.build.isHub || h.1 == 0 then s
  else
    let s0 := (s.str.leafStarts.filter fun y => y.vote == vote && y.job == job).foldl State.dropStart s
    let r := s0.armTimer (t - 20 * us) (.startPrep (startId vote job))
    if r.2 then
      let s1 := r.1.setLeafStarts (r.1.str.leafStarts ++ [{ job, snum, vote, t, mask := h.1, slices := h.2, commit := false }])
      (s1.sendRouted 0x20 7 vote [ws.getD 1 0 &&& 0xFFFFFFFF#64, BitVec.ofNat 64 h.1.toNat]).getD s1
    else r.1

/-- START_COMMIT at a Leaf (R602). -/
def State.takeCommit (s : State) (vote : Hank) (ws : List W64) : State :=
  let t := (ws.getD 0 0).toNat
  let job := bits (ws.getD 1 0) 7 0
  let snum := bits (ws.getD 1 0) 31 8
  let h := s.heldIndices vote job (BitVec.ofNat 32 (ws.getD 2 0).toNat)
  if s.build.isHub || h.1 == 0 then s
  else if t ≤ s.ft + 20 * us then s.bump Reg.STR_STARTSTAT_LATECOMMIT
  else s.commitStart { job, snum, vote, t, mask := h.1, slices := h.2, commit := false }

/-- START_ABORT at a Leaf (R602). -/
def State.takeAbort (s : State) (vote : Hank) (ws : List W64) : State :=
  let job := bits (ws.getD 1 0) 7 0
  let snum := bits (ws.getD 1 0) 31 8
  (s.str.leafStarts.filter fun y => y.vote == vote && y.job == job && y.snum == snum).foldl State.dropStart s

/-- A start message arrives: relayed once, and taken. -/
def State.startMsg (s : State) (p typ : Nat) (f : Frame) (take : State → Hank → List W64 → State) : State :=
  match s.rx p typ f with
  | (s1, none) => s1
  | (s1, some m) => match s1.takeBcast m with
    | (s2, none) => s2
    | (s2, some (orig, ws)) => take s2 orig ws

/-- START_PREP (R600). -/
def execStartPrep (p : Nat) (f : Frame) (s : State) : Host.Outcome State Fault Refusal := act s (s.startMsg p 0x1F f State.takePrep)
/-- START_COMMIT (R602). -/
def execStartCommit (p : Nat) (f : Frame) (s : State) : Host.Outcome State Fault Refusal := act s (s.startMsg p 0x21 f State.takeCommit)
/-- START_ABORT (R602). -/
def execStartAbort (p : Nat) (f : Frame) (s : State) : Host.Outcome State Fault Refusal := act s (s.startMsg p 0x22 f State.takeAbort)

/-- An acknowledgement at the vote point; when the mask is covered, START_COMMIT goes out (R601). -/
def State.takeAck (s : State) (ws : List W64) : State :=
  let job := bits (ws.getD 0 0) 7 0
  let snum := bits (ws.getD 0 0) 31 8
  match s.str.starts.find? fun x => x.job == job && x.snum == snum && !x.committed with
  | none => s
  | some x =>
    let y := { x with acks := x.acks ||| (BitVec.ofNat 32 (ws.getD 1 0).toNat &&& x.mask) }
    let s1 := s.setStarts (s.str.starts.map fun z => if z.job = job then y else z)
    if y.acks = x.mask then s1.commitAt y else s1

/-- START_ACK (R601). -/
def execStartAck (p : Nat) (f : Frame) (s : State) : Host.Outcome State Fault Refusal :=
  act s (match s.rx p 0x20 f with
    | (s1, none) => s1
    | (s1, some m) => match s1.forward m with
      | some s2 => s2
      | none => (s1.rxPass p m.seqs.length).takeAck m.words)

/-- JOB_START completes: outcome and members acknowledged (R601). -/
def State.endStart (s : State) (x : Start) (outcome : Nat) : State :=
  (s.setStarts (s.str.starts.filter (·.job != x.job))).completeOk x.cmd (outcome + fld 8 8 (popcount x.acks))

/-- START_DEADLINE (R601): START_ABORT where the acknowledgements do not cover the mask at T − LEAD. -/
def execStartDeadline (job : Nat) (s : State) : Host.Outcome State Fault Refusal :=
  act s (match s.str.starts.find? fun x => x.job == job && !x.committed with
    | some x =>
      if s.ft + s.leadIvl < x.t then s
      else ((s.broadcast 0x22 7 s.ownDepth s.self (startWords x.t x.job x.snum x.mask)).bump Reg.STR_STARTSTAT_ABORTS).endStart x 1
    | none => s)

/-- START_PREP_TIMER (R602): T − 20 µs, and a start without a commit is missed. -/
def execStartPrepTimer (s : State) : Host.Outcome State Fault Refusal :=
  act s ((s.str.leafStarts.filter fun x => (s.timerDue (.startPrep (startId x.vote x.job))).isSome).foldl (fun s x =>
    if x.commit then s.disarm (.startPrep (startId x.vote x.job)) else s.missStart x) s)

/-- START_TIMER (R602, R601): at T a Leaf pulses its start output, and a vote point's committed starts complete. -/
def execStartTimer (s : State) : Host.Outcome State Fault Refusal :=
  let due := s.str.leafStarts.filter fun x => x.commit && (s.timerDue (.start (startId x.vote x.job))).isSome
  let s1 := due.foldl (fun s x => ((s.dropStart x).emit (.pulse .start)).fset Reg.STR_LASTSTART_FT x.t) s
  act s ((s1.str.starts.filter fun x => x.committed && decide (x.t ≤ s.ft)).foldl (fun s x => s.endStart x 0) s1)

end Sys2Proof.Machine
end

