-- ==== Sys2Proof/Machine/Bobbin.lean ====
section
/-! DEFINITION. The rows of Bobbin and Draft (R607 to R629): queue descriptors, the scrub, token buckets, their refill and commits. -/

namespace Sys2Proof.Machine

/-! ### Queue descriptors (R612, R614, R620) -/

/-- The queue that a port's BOB_QSEL selects, if the build has it. -/
def State.selQueue (s : State) (p : PortId) : Option Nat :=
  let q := s.selGet p Reg.BOB_QSEL_QUEUE
  if q < nQueues s.build then some q else none

/-- A queue whose cells come from the common part under a descriptor that the driver may write. -/
def ownGuar (b : Build) (q : Nat) : Bool := (commonQueues b).contains q

/-- A write of GUAR for the selected queue. -/
def State.guarWrite (s : State) (a : Acc) (v : W32) : State :=
  match s.selQueue a.port with
  | none => s
  | some q =>
    if !ownGuar s.build q then s
    else
      let f := Reg.BOB_QGUAR_GUAR.at q
      let new := (maskedWord a.bitAlias (s.regGet f.addr) v).toNat
      let sum := sumN ((commonQueues s.build).map fun k => if k = q then new else s.qGuar k)
      if s.commonPart < sum then s.fset (Reg.BOB_QGUAR_ERR.at q) 1
      else (s.fset f new).fset (Reg.BOB_QGUAR_ERR.at q) 0

/-- BOB_QGUAR_WRITE (R612). -/
def execBobQguarWrite (a : Acc) (v : W32) (s : State) : Host.Outcome State Fault Refusal :=
  act s (s.regAccess (.bobQguarWrite a v) a 0xE fun s => s.guarWrite a v)

/-- A write of LIMIT for the selected queue. -/
def State.limitWrite (s : State) (a : Acc) (v : W32) : State :=
  match s.selQueue a.port with
  | none => s
  | some q =>
    if !ownGuar s.build q ∨ (64 ≤ q ∧ q ≤ 66) then s
    else
      let f := Reg.BOB_QLIM_LIMIT.at q
      s.fset f (min (nCells s.build) ((s.rwWrite f.addr 0x7FFFF a v).toNat % 2 ^ 19))

/-- BOB_QLIM_WRITE (R612, R614). -/
def execBobQlimWrite (a : Acc) (v : W32) (s : State) : Host.Outcome State Fault Refusal :=
  act s (s.regAccess (.bobQlimWrite a v) a 0xE fun s => s.limitWrite a v)

/-- A write of LEVEL for the selected queue. -/
def State.levelWrite (s : State) (a : Acc) (v : W32) : State :=
  match s.selQueue a.port with
  | none => s
  | some q =>
    if nSlices s.build ≤ q then s
    else
      let f := Reg.BOB_QLEVEL_LEVEL.at q
      let new := (maskedWord a.bitAlias (s.regGet f.addr) v).toNat
      let s1 := s.fset f new
      if 0 < new ∧ new ≤ (s.slice q).vq.length then s1.verdictIrq q else s1

/-- BOB_QLEVEL_WRITE (R620). -/
def execBobQlevelWrite (a : Acc) (v : W32) (s : State) : Host.Outcome State Fault Refusal :=
  act s (s.regAccess (.bobQlevelWrite a v) a 0xE fun s => s.levelWrite a v)

/-! ### The scrub (R617) -/

/-- Cells lost at the Bobbin point of a queue. -/
def State.lostCells (s : State) (q n : Nat) : State := if n = 0 then s else s.ledDrop 5 q rsnPOISON n

/-- Keep the first `k` items of an egress queue. -/
def State.cutEgress (s : State) (p c k : Nat) : State :=
  let l := (s.port p).egress.getD c []
  let gone := l.drop k
  if gone.isEmpty then s else
    let s1 := s.modPort p fun x => { x with egress := listSet x.egress c (l.take k) }
    ((s1.ledDrop 6 (draftPt p c) rsnPOISON gone.length).lostCells (egressQ p c) (cellsSum gone)).endFrames gone

/-- Keep the first `k` items of a queue taken on demand: a merge's state, or the batches of a CHILD session. -/
def State.cutDemand (s : State) (q k : Nat) : State :=
  let ms := s.tws.merges.filter fun m => m.queue == some q
  let s1 := if k ≥ 1 then s else ms.foldl (fun s m =>
    let s1 := { s with tws := { s.tws with merges := s.tws.merges.filter (· != m) } }
    ((m.covers.foldl State.custodyDone s1).ledDrop 0xA 0 rsnPOISON m.inputs).lostCells q m.cells) s
  s1.crd.foldl (fun s e =>
    if e.2.queue = some q then
      let y : Sess := { e.2 with pend := e.2.pend.take k }
      ({ s with crd := Tab.set s.crd e.1 y }).lostCells q (e.2.pendCells - y.pendCells)
    else s) s1

/-- Keep the items of queue `q` that lie before its broken link. -/
def State.cutQueue (s : State) (q k : Nat) : State :=
  if q < 64 then
    let x := s.slice q
    let s1 := if s.flag (Reg.SLC_CTRL_VDEST.at q) then s.fset (Reg.SLC_VRDTAIL_COUNT.at q) (s.fget (Reg.SLC_VRDTAIL_COUNT.at q) + 2 ^ 32 - (x.vq.length - k)) else s
    (s1.setSlice q { x with vq := x.vq.take k }).lostCells q (x.vq.length - k)
  else if q = 64 then ({ s with snag := { s.snag with fq := s.snag.fq.take k } }).lostCells q (s.snag.fq.length - k)
  else if q = 65 then ({ s with stp := { s.stp with results := s.stp.results.take k } }).lostCells q (s.stp.results.length - k)
  else if q = 66 then ({ s with reel := { s.reel with tags := s.reel.tags.take k } }).lostCells q (s.reel.tags.length - k)
  else if 128 ≤ q ∧ q < 416 then s.cutEgress ((q - 128) / 8) (q % 8) k
  else if q = 488 then ({ s with skn := { s.skn with staged := s.skn.staged.take k } }).lostCells q (s.skn.staged.length - k)
  else if 512 ≤ q then s.cutDemand q k
  else s

/-- SCRUB_DONE (R617): a parity error in the link memory or the free list raised STORE at F1, and the scrub that it began has ended. `broken` lists the queues in which the walk found a broken link, each with the number of whole items before it. -/
def execScrubDone (broken : List (Nat × Nat)) (s : State) : Host.Outcome State Fault Refusal :=
  let s1 := ((s.bump Reg.BOB_ERR_PARITY).bump Reg.BOB_ERR_SCRUBS).raise fSTORE 1 (s.unit 0xE) 0
  let s2 := broken.foldl (fun s e => s.cutQueue e.1 e.2) s1
  act s (ports.foldl (fun s p => s.retryStalled (s.port p).stalled.length p) s2)

/-! ### Token buckets (R623 to R626) -/

/-- What a refill of 64 ns adds at a rate in bytes a second, in 2^-16 byte. -/
def refillAdd (rate : Nat) : Nat := rate * 64 * 65536 / 1000000000

/-- A pending commit takes effect (R626); a bucket starts full at its first. -/
def State.applyCommit (s : State) (p : Nat) (set_ : List (Nat × Nat)) (ovh : Nat) : State :=
  let s1 : State := { s with drf := { s.drf with povh := Tab.set s.drf.povh p ovh, commits := Tab.del s.drf.commits p } }
  ((set_.zipIdx).foldl (fun (s : State) e =>
    let b := s.bucket p e.2
    let full := e.1.2 * 65536
    let b2 : Bucket := { tokens := if b.started then min b.tokens full else full, rate := e.1.1, burst := e.1.2, started := b.started || decide (e.1.1 ≠ 0) }
    { s with drf := { s.drf with buckets := Tab.set s.drf.buckets (p + 64 * e.2) b2 } }) s1).fset (Reg.DRF_BCTRL_COMMIT.at p) 0

/-- Refill the session buckets (R624). -/
def State.refillSess (s : State) (k : Nat) : State :=
  s.crd.foldl (fun s e =>
    match s.sess e.1 with
    | some x =>
      (match x.resv with
      | some r =>
        if r.held then
          (s.setSess e.1 { x with resv := some { r with tokens := min (r.burst * 65536 : Nat) (r.tokens + (k * refillAdd r.rate : Nat)) } }).drainSess x.shaped.length e.1
        else s
      | none => s)
    | none => s) s

/-- Refill the bucket of the standing reservation, and send what it covers (R525, R624). -/
def State.refillPeer (s : State) (k : Nat) : State :=
  if s.build.isHub then s
  else
    ({ s with snag := { s.snag with peerDebt := max 0 (s.snag.peerDebt - (k * refillAdd (1000000 * s.fget Reg.SNG_RES_RATE) : Nat)) } }).drainPeer s.snag.peerHeld.length

/-- BUCKET_REFILL (R624, R626): the refill instants reached since the last. -/
def execBucketRefill (s : State) : Host.Outcome State Fault Refusal :=
  let now := s.ft / 256
  let k := now - s.drf.refillFt
  act s (if k = 0 then s
    else
      let s1 := s.drf.commits.foldl (fun (s : State) (e : Nat × List (Nat × Nat) × Nat) => s.applyCommit e.1 e.2.1 e.2.2) s
      let s2 : State := { s1 with drf := { s1.drf with
        refillFt := now
        buckets := Tab.mapV (fun _ (b : Bucket) => { b with tokens := min (b.burst * 65536) (b.tokens + k * refillAdd (b.rate * 1000000)) }) s1.drf.buckets } }
      (s2.refillSess k).refillPeer k)

/-- The shadows of a port are marked pending, or the commit is refused. -/
def State.commitShadows (s : State) (p : Nat) : State :=
  if !hasPort s.build p then s
  else
    let ovh := s.fget (Reg.DRF_POVH_OVH.at p)
    let get := fun (c : Nat) => (s.fget (Reg.DRF_BRATE_RATE.at (p + 64 * c)), s.fget (Reg.DRF_BBURST_BURST.at (p + 64 * c)))
    let low := (List.range 4).map get
    let high := ([4, 5, 6, 7] : List Nat).map get
    if (low.any fun e => decide (0 < e.1) && decide (e.2 < 256 + ovh)) || (high.any fun e => decide (0 < e.1)) then
      s.fset (Reg.DRF_BCTRL_ERR.at p) 1
    else
      ({ s with drf := { s.drf with commits := Tab.set s.drf.commits p (low, ovh) } }).fset (Reg.DRF_BCTRL_COMMIT.at p) 1 |>.fset (Reg.DRF_BCTRL_ERR.at p) 0

/-- DRF_BCTRL_COMMIT (R625, R626): COMMIT written 1 for the selected port. -/
def execDrfBctrlCommit (a : Acc) (s : State) : Host.Outcome State Fault Refusal :=
  act s (s.regAccess (.drfBctrlCommit a) a 0xE fun s => s.commitShadows (s.selGet a.port Reg.DRF_SEL_PORT))

end Sys2Proof.Machine
end

