-- ==== Sys2Proof/Machine/CheckUnit.lean ====
section
/-! DEFINITION. The register path of the check-value unit (R630 to R638): context 0 lives in its registers. -/

namespace Sys2Proof.Machine

/-- The polynomial of a code (R630). -/
def cvuPoly (code : Nat) : Nat := if code = 0 then polyIeee else polyC

/-- Take bytes into context 0 (R637). -/
def State.cvuTake (s : State) (bs : List Byte) : State :=
  let run := crcBytes (cvuPoly (s.fget Reg.CVU_CTRL_POLY)) (s.fget Reg.CVU_RUN_RUN) bs
  (s.fset Reg.CVU_RUN_RUN run).fadd Reg.CVU_LEN_LEN bs.length

/-- Context 0 fails its parity check: BAD, the count, and STORE at F0 that names the unit and context 0 (R636). -/
def State.cvuParity (s : State) (bad : Bool) : State :=
  if bad then ((s.fset Reg.CVU_STAT_BAD 1).bump Reg.CVU_ERR_PARITY).raise fSTORE 0 (s.unit 0x10) 0 else s

/-- A write of CVU_CTRL: POLY is held, and INIT written 1 starts a value anew. -/
def State.cvuCtrl (s : State) (a : Acc) (v : W32) : State :=
  let w := s.mwWrite Reg.CVU_CTRL_POLY.addr 3 a v
  let s1 := s.fset Reg.CVU_CTRL_POLY (bits w 0 0)
  if bit w 1 then ((s1.fset Reg.CVU_RUN_RUN 0xFFFFFFFF).fset Reg.CVU_LEN_LEN 0).fset Reg.CVU_STAT_BAD 0 else s1

/-- CVU_INIT (R637). -/
def execCvuInit (a : Acc) (v : W32) (s : State) : Host.Outcome State Fault Refusal :=
  act s (s.regAccess (.cvuInit a v) a 0x10 fun s => s.cvuCtrl a v)

/-- CVU_POLY_WRITE (R638). -/
def execCvuPolyWrite (a : Acc) (v : W32) (s : State) : Host.Outcome State Fault Refusal :=
  act s (s.regAccess (.cvuPolyWrite a v) a 0x10 fun s => s.cvuCtrl a v)

/-- CVU_DATA (R637); `bad` says that context 0 failed its parity check as the bytes were taken (R636). -/
def execCvuData (a : Acc) (v : W32) (bad : Bool) (s : State) : Host.Outcome State Fault Refusal :=
  act s (s.regAccess (.cvuData a v bad) a 0x10 fun s => if a.bitAlias = 0 then (s.cvuTake (toBytes 4 v.toNat)).cvuParity bad else s)

/-- A write of CVU_TAIL takes the bytes its COUNT names. -/
def State.cvuTail (s : State) (v : W32) : State := s.cvuTake (toBytes (bits v 25 24) v.toNat)

/-- CVU_TAIL (R637). -/
def execCvuTail (a : Acc) (v : W32) (bad : Bool) (s : State) : Host.Outcome State Fault Refusal :=
  act s (s.regAccess (.cvuTail a v bad) a 0x10 fun s => if a.bitAlias = 0 then (s.cvuTail v).cvuParity bad else s)

/-- CVU_RUN_WRITE (R637). -/
def execCvuRunWrite (a : Acc) (v : W32) (s : State) : Host.Outcome State Fault Refusal :=
  act s (s.regAccess (.cvuRunWrite a v) a 0x10 fun s =>
    s.regSet Reg.CVU_RUN_RUN.addr (s.rwWrite Reg.CVU_RUN_RUN.addr 0xFFFFFFFF a v))

/-- CVU_LEN_WRITE (R637). -/
def execCvuLenWrite (a : Acc) (v : W32) (s : State) : Host.Outcome State Fault Refusal :=
  act s (s.regAccess (.cvuLenWrite a v) a 0x10 fun s =>
    s.regSet Reg.CVU_LEN_LEN.addr (s.rwWrite Reg.CVU_LEN_LEN.addr 0xFFFFFFFF a v))

end Sys2Proof.Machine
end

