-- ==== Sys2Proof/Machine/Log.lean ====
section
/-! DEFINITION. The Skein log's commands (R661 to R665): LOG_READ with its freeze, LOG_CLEAR, and the freeze limit. -/

namespace Sys2Proof.Machine

/-- The records that a read starting at `from_` finds, oldest first (R661). -/
def State.logFrom (s : State) (oldest : Bool) (from_ : Nat) : List (Rec × Rec) :=
  if oldest then s.logHeld else s.logHeld.dropWhile fun e => seqLt (recSeq e) from_

def logBytes (l : List (Rec × Rec)) : List Byte := l.flatMap fun e => recBytes e.1 ++ recBytes e.2

/-- The log is frozen (R662). -/
def State.frozen (s : State) : Bool := s.skn.read.isSome

/-- A LOG_READ is served. On a Leaf's host port its records pass the meter, and the log is frozen until the last is written; elsewhere the read is one step (assumption 40). -/
def State.logReadRun (s : State) (r : Running) : State :=
  let l := (s.logFrom (bit r.d.arg1 0) r.d.arg0.toNat).take (r.d.len.toNat / 64)
  let bs := logBytes l
  if s.build.isHub || r.isMgmt || bs.isEmpty then s.finish r bs l.length
  else
    ({ s with skn := { s.skn with read := some r, readFt := s.now, readLen := bs.length } }).addXfers
      [{ cls := 2, use_ := .log, slice := r.slice, addr := r.d.addr, data := bs, left := bs.length, waited := false }]

/-- A LOG_CLEAR is served (R664). The SEQ fields of a CLEAR record that cleared nothing, and the requester's MCTP endpoint, which no operand of the row carries, are free (assumption 41). -/
def State.logClearRun (s : State) (r : Running) : State :=
  let gone := if bit r.d.arg1 0 then s.logHeld else s.logHeld.takeWhile fun e => !(seqLt r.d.arg0.toNat (recSeq e))
  let n := gone.length
  let f := Config.freeWord s.fresh
  let f' := Config.freeWord (s.fresh + 1)
  let first := match gone.head? with | some e => recSeq e | none => bits f 63 32
  let last := match gone.getLast? with | some e => recSeq e | none => bits f 31 0
  let s1 : State := { s with
    fresh := s.fresh + 2
    skn := { s.skn with ovf := s.skn.ovf.drop n, recs := s.skn.recs.drop (n - s.skn.ovf.length) } }
  let s2 := (s1.led 0x10 0 .out n).logAdd 2 s.ft
    { w0 := BitVec.ofNat 64 (fld 32 0 n + fld 32 32 first), w1 := BitVec.ofNat 64 last
      w2 := BitVec.ofNat 64 (if s.build.isHub then bits f' 7 0 else 0), w3 := 0 }
  s2.completeOk r n

def State.logServe (s : State) (r : Running) : State := if r.opcode = 0x80 then s.logReadRun r else s.logClearRun r

/-- A command finds the log frozen, or behind others that wait, and waits its turn (R663). -/
def State.logTake (s : State) (r : Running) : State :=
  if s.frozen then { s with skn := { s.skn with waiting := s.skn.waiting ++ [r] } } else s.logServe r

/-- Serve the waiting commands in the order of their arrival, until one freezes the log. -/
def logServeF : Nat → State → State
  | 0, s => s
  | n + 1, s =>
    if s.frozen then s
    else match s.skn.waiting with
    | [] => s
    | r :: rest => logServeF n ({ s with skn := { s.skn with waiting := rest } }.logServe r)

/-- The read that runs ends: the freeze ends, staged records enter, and the waiting commands are served. A failed write ends it with ADDR_FAULT and the bytes written (R199). -/
def State.logReadEnd (s : State) (failedAt : Option Nat) : State :=
  match s.skn.read with
  | none => s
  | some r =>
    let n := s.skn.readLen / 64
    let s1 := s.logThaw
    let s2 := match failedAt with
      | none => s1.completeOk r n
      | some k => s1.complete r stADDR_FAULT k r.d.session.toNat
    logServeF (s2.skn.waiting.length) s2

def State.logRead (s : State) (r : Running) : State :=
  s.checked r { args := decide (r.d.arg1.toNat < 2), zero := decide (r.d.len = 0), tooLong := decide (r.d.len.toNat < 64) } (State.logTake · r)

/-- LOG_READ (R661 to R663). -/
def execLogRead (src : Src) (d : Desc) (b : Bus) (s : State) : Host.Outcome State Fault Refusal :=
  act s (s.command (.logRead src d b) src d b 0x80 .hm false State.logRead)

def State.logClear (s : State) (r : Running) : State :=
  s.checked r { args := decide (r.d.arg1.toNat < 2) } (State.logTake · r)

/-- LOG_CLEAR (R664). -/
def execLogClear (src : Src) (d : Desc) (b : Bus) (s : State) : Host.Outcome State Fault Refusal :=
  act s (s.command (.logClear src d b) src d b 0x81 .m false State.logClear)

/-- The freeze reaches its limit (R662): the read keeps the record in progress and drops what comes after it. -/
def State.logLimit (s : State) : State :=
  match s.skn.read with
  | none => s
  | some _ =>
    let lim := max 1 (s.fget Reg.SKN_FRZ_LIM)
    if s.now < s.skn.readFt + lim * us then s
    else match s.meter.queue.find? (fun y => y.use_ == XferUse.log) with
    | none => s
    | some x =>
      let sent := s.skn.readLen - x.left + (if x.flying then s.meter.busy.getD 0 else 0)
      let total := min s.skn.readLen (ceilDiv sent 64 * 64)
      let cut := s.skn.readLen - total
      let x1 := { x with left := x.left - cut, data := x.data.take (x.left - cut) }
      let s1 : State := { s with skn := { s.skn with readLen := total } }
      if x1.left = 0 ∧ !x.flying then
        ({ s1 with meter := { s1.meter with queue := s1.meter.queue.filter fun y => y.use_ != XferUse.log } }).logReadEnd none
      else { s1 with meter := { s1.meter with queue := s1.meter.queue.map fun y => if y.use_ == XferUse.log then x1 else y } }

/-- LOG_FREEZE_LIMIT (R662). -/
def execLogFreezeLimit (s : State) : Host.Outcome State Fault Refusal := act s s.logLimit

end Sys2Proof.Machine
end

