-- ==== Sys2Proof/Machine/Slices.lean ====
section
/-! DEFINITION. The host interface's own rows (R176 to R218, R253 to R256, R694, R695): slice commands, enabling and disabling, doorbells, the verdict window, fetching, the writes into rings, host transfers, and the staging buffer. -/

namespace Sys2Proof.Machine

/-! ### Words that registers and SLC_QUERY show (R206, R217) -/

def State.slcStatusWord (s : State) (n : Nat) : W32 :=
  BitVec.ofNat 32 (putBits (s.regGet (Reg.SLC_STATUS_ENABLED.at n).addr).toNat 2 1 (b2n (s.overQuota n)))
def State.slcQuotaWord (s : State) (n : Nat) : W32 :=
  BitVec.ofNat 32 (putBits (s.regGet (Reg.SLC_QUOTA_QUOTA.at n).addr).toNat 16 13 (s.openOf n))
def State.slcPasidWord (s : State) (n : Nat) : W32 :=
  BitVec.ofNat 32 (putBits (s.regGet (Reg.SLC_PASID_PASID.at n).addr).toNat 20 1 (b2n (s.bound n)))
/-- Sum of all quotas. -/
def State.quotaSum (s : State) : Nat := sumN ((List.range (nSlices s.build)).map fun n => s.fget (Reg.SLC_QUOTA_QUOTA.at n))

/-! ### SLC_BIND, SLC_RESIZE, SLC_UNBIND, SLC_QUERY (R180 to R183, R206) -/

/-- The slice that ARG0 names. -/
def Running.target (r : Running) : Nat := r.d.arg0.toNat

def State.slcBind (s : State) (r : Running) : State :=
  let n := r.target
  s.checked r { args := decide (n < nSlices s.build) && bits r.d.arg1 63 20 == 0 } fun s =>
    s.guarded r [(s.bound n, stSTATE)] fun s =>
      let s1 := (s.fset (Reg.SLC_PASID_PASID.at n) r.d.arg1.toNat).fset (Reg.SLC_PASID_BOUND.at n) 1
      let s2 := ([Reg.SLC_CMDHEAD_COUNT, Reg.SLC_CMDTAIL_COUNT, Reg.SLC_CPLHEAD_COUNT, Reg.SLC_CPLTAIL_COUNT, Reg.SLC_VRDHEAD_COUNT, Reg.SLC_VRDTAIL_COUNT]).foldl
        (fun s f => s.fset (f.at n) 0) (s1.fset (Reg.SLC_QUOTA_QUOTA.at n) 0)
      s2.completeOk r 0

/-- SLC_BIND (R180). -/
def execSlcBind (src : Src) (d : Desc) (b : Bus) (s : State) : Host.Outcome State Fault Refusal :=
  act s (s.command (.slcBind src d b) src d b 0x90 .h0 false State.slcBind)

def State.slcResize (s : State) (r : Running) : State :=
  let n := r.target
  let q := r.d.count.toNat
  let old := s.fget (Reg.SLC_QUOTA_QUOTA.at n)
  s.checked r { args := decide (n < nSlices s.build) } fun s =>
    s.guarded r [(decide (nSessions s.build < s.quotaSum - old + q), stNO_RESOURCE)] fun s =>
      (s.fset (Reg.SLC_QUOTA_QUOTA.at n) q).completeOk r old

/-- SLC_RESIZE (R182). -/
def execSlcResize (src : Src) (d : Desc) (b : Bus) (s : State) : Host.Outcome State Fault Refusal :=
  act s (s.command (.slcResize src d b) src d b 0x91 .h0m false State.slcResize)

/-- Stalled reads of a slice's window end without a record (R210, R619). -/
def State.failStalls (s : State) (n : Nat) (who : PortId × Nat → Bool) : State :=
  let x := s.slice n
  (x.stalls.filter who).foldl (fun s e =>
    (s.readOut e.1 (vwWord (mod32 (s.fget (Reg.SLC_VRDHEAD_COUNT.at n)) 1) false false true)).bump (Reg.SLC_VSTAT_UNDERRUNS.at n))
    (s.setSlice n { x with stalls := x.stalls.filter fun e => !who e })

/-- A quiesced slice is unbound: steps 2 to 5 of R183, the discarding of its models (R377) and sinks (R400), and the release of Trace (R274). -/
def State.unbindFinish (s : State) (r : Running) (n : Nat) : State :=
  let ss := s.openSess.filter fun e => e.2.slice == n
  let s1 := ss.foldl (fun s e => s.closeSession e.1) s
  let s2 := (s1.dst.models.filter fun e => e.2.slice == n).foldl (fun s e => s.discardModel e.1 e.2 []) s1
  let s3 := s2.setSinks (s2.tws.sinks.filter fun k => k.slice != n)
  let s4 := if s3.flag Reg.TRC_STATUS_OWNED ∧ s3.fget Reg.TRC_STATUS_OWNER = n then s3.traceRelease none else s3
  let x := s4.slice n
  let s5 := (s4.failStalls n fun _ => true)
  let s6 := if x.vq.isEmpty then s5 else (s5.ledDrop 5 n rsnRESET x.vq.length).ledDrop 0xD n rsnRESET x.vq.length
  let s7 := if x.cplWait.isEmpty then s6 else s6.ledDrop 0xD n rsnRESET x.cplWait.length
  let s8 := s7.setSlice n { s7.slice n with vq := [], cplWait := [], unbind := none, quiescing := false }
  let s9 := ((s8.fset (Reg.SLC_PASID_PASID.at n) 0).fset (Reg.SLC_PASID_BOUND.at n) 0).fset (Reg.SLC_QUOTA_QUOTA.at n) 0
  (s9.fset (Reg.SLC_STATUS_QUIESCED.at n) 1).completeOk r ss.length

/-- An SLC_UNBIND that waits for its slice goes on once nothing is in flight; completions that a failed write left behind do not hold it. -/
def State.unbindCheck (s : State) (n : Nat) : State :=
  let x := s.slice n
  match x.unbind with
  | some r => if x.running.isEmpty && x.fetched.isEmpty && (x.cplWait.isEmpty || !x.quiescing) then s.unbindFinish r n else s
  | none => s

def State.slcUnbind (s : State) (r : Running) : State :=
  let n := r.target
  s.checked r { args := decide (n < nSlices s.build) } fun s =>
    s.guarded r [(n == 0 || !s.bound n || (s.slice n).unbind.isSome, stSTATE)] fun s =>
      let s1 := if s.enabled n then s.disableSlice n else s
      (s1.setSlice n { s1.slice n with unbind := some r }).unbindCheck n

/-- SLC_UNBIND (R183). -/
def execSlcUnbind (src : Src) (d : Desc) (b : Bus) (s : State) : Host.Outcome State Fault Refusal :=
  act s (s.command (.slcUnbind src d b) src d b 0x92 .h0m false State.slcUnbind)

/-- One slice's entry of SLC_QUERY. -/
def State.slcEntry (s : State) (n : Nat) : List Byte :=
  let w := fun (f : RF) => s.regGet (f.at n).addr
  padTo 64 (([w Reg.SLC_CTRL_ENABLE, s.slcStatusWord n, s.slcPasidWord n, s.slcQuotaWord n, w Reg.SLC_RINGSZ_CMD,
    w Reg.SLC_CMDHEAD_COUNT, w Reg.SLC_CMDTAIL_COUNT, w Reg.SLC_CPLHEAD_COUNT, w Reg.SLC_CPLTAIL_COUNT,
    w Reg.SLC_VRDHEAD_COUNT, w Reg.SLC_VRDTAIL_COUNT, w Reg.SLC_VSTAT_DROPPED] : List W32).flatMap fun x => toBytes 4 x.toNat)

def State.slcQuery (s : State) (r : Running) : State :=
  let len := r.d.len.toNat
  s.checked r { zero := decide (len = 0), tooLong := decide (len < 64) } fun s =>
    let bs := (List.range (min (len / 64) (nSlices s.build))).flatMap s.slcEntry
    s.finish r bs bs.length

/-- SLC_QUERY (R206). -/
def execSlcQuery (src : Src) (d : Desc) (b : Bus) (s : State) : Host.Outcome State Fault Refusal :=
  act s (s.command (.slcQuery src d b) src d b 0x93 .hm false State.slcQuery)

/-! ### Enabling and disabling (R180, R181, R184, R185) -/

/-- Why a slice may not be enabled: its cause code. -/
def State.enableCause (s : State) (n : Nat) : Option Nat :=
  let size := fun (f : RF) => decide (6 ≤ s.fget (f.at n)) && decide (s.fget (f.at n) ≤ 16)
  let aligned := fun (f : RF) => s.fget (f.at n) % 4096 == 0
  if !s.bound n then some 6
  else if !(size Reg.SLC_RINGSZ_CMD && size Reg.SLC_RINGSZ_CPL && size Reg.SLC_RINGSZ_VRD) then some 1
  else if !(aligned Reg.SLC_CMDBASE_BASE && aligned Reg.SLC_CPLBASE_BASE && aligned Reg.SLC_VRDBASE_BASE && aligned Reg.SLC_VRDMIR_ADDR) then some 2
  else none

/-- A write of SLC_CTRL. VDEST changes only while the slice is disabled; the verdict tail then follows R188. -/
def State.slcCtrlWrite (s : State) (a : Acc) (v : W32) : State :=
  let n := s.selGet a.port Reg.SLC_SEL_SLICE
  if nSlices s.build ≤ n then s
  else
    let key := (Reg.SLC_CTRL_ENABLE.at n).addr
    let was := s.enabled n
    let new := s.mwWrite key 0x7FF a v
    let on := bit new 0
    let s1 := s.regSet key (mergeBits (if was then 0x7FC else 0x7FE) (s.regGet key) new)
    let s2 := if s.flag (Reg.SLC_CTRL_VDEST.at n) = s1.flag (Reg.SLC_CTRL_VDEST.at n) then s1
      else s1.fset (Reg.SLC_VRDTAIL_COUNT.at n) (s1.fget (Reg.SLC_VRDHEAD_COUNT.at n) + (if s1.flag (Reg.SLC_CTRL_VDEST.at n) then (s1.slice n).vq.length else 0))
    if was then (if on then s2 else (s2.disableSlice n).unbindCheck n)
    else if !on then s2
    else match s2.enableCause n with
      | some c => s2.ringErr n c
      | none =>
        let s3 := ((s2.fset (Reg.SLC_CTRL_ENABLE.at n) 1).fset (Reg.SLC_STATUS_ENABLED.at n) 1).fset (Reg.SLC_STATUS_QUIESCED.at n) 0
        s3.setSlice n { s3.slice n with quiescing := false }

/-- The value of a write of SLC_CTRL with its ENABLE bit made to be the one the row names, for the aliases that can carry it. -/
def enableWord (al : BitVec 2) (on : Bool) (v : W32) : W32 :=
  if al = 0 then (if on then v ||| 0x10001#32 else (v ||| 0x10000#32) &&& ~~~1#32)
  else if al = 1 ∧ on ∨ al = 2 ∧ !on then v ||| 1#32
  else v

/-- SLC_ENABLE (R180, R185). -/
def execSlcEnable (a : Acc) (v : W32) (s : State) : Host.Outcome State Fault Refusal :=
  act s (s.regAccess (.slcEnable a v) a 5 fun s => s.slcCtrlWrite a (enableWord a.bitAlias true v))

/-- SLC_DISABLE (R181). -/
def execSlcDisable (a : Acc) (v : W32) (s : State) : Host.Outcome State Fault Refusal :=
  act s (s.regAccess (.slcDisable a v) a 5 fun s => s.slcCtrlWrite a (enableWord a.bitAlias false v))

/-! ### Doorbells (R179, R186 to R189, R209) -/

/-- A doorbell write that reaches its slice: bound, with its PASID on a Leaf, and enabled. -/
def State.doorbell (s : State) (pasid : Option (BitVec 20)) (n : Nat) (body : State → State) : State :=
  if nSlices s.build ≤ n then s
  else
    let refused := s.bump Reg.HIF_ERR_DBELL
    if !s.bound n then refused
    else if !s.build.isHub && pasid.map BitVec.toNat != (if n = 0 then none else some (s.fget (Reg.SLC_PASID_PASID.at n))) then refused.hostProto 4 n
    else if !s.enabled n then refused
    else body s

/-- An invalid doorbell (R189). -/
def State.badDoorbell (s : State) (n : Nat) : State := ((s.ringErr n 3).bump Reg.HIF_ERR_DBELL).hostProto 4 n

/-- The three doorbells of a slice (R218): command tail, completion head, verdict head. -/
def State.ringCmdtail (s : State) (n : Nat) (v : W32) : State :=
  let k := mod32 v.toNat (s.fget (Reg.SLC_CMDHEAD_COUNT.at n))
  if s.cmdOcc n ≤ k ∧ k ≤ s.cmdSize n then s.fset (Reg.SLC_CMDTAIL_COUNT.at n) v.toNat else s.badDoorbell n
def State.ringCplhead (s : State) (n : Nat) (v : W32) : State :=
  if mod32 v.toNat (s.fget (Reg.SLC_CPLHEAD_COUNT.at n)) ≤ s.cplOcc n then s.fset (Reg.SLC_CPLHEAD_COUNT.at n) v.toNat else s.badDoorbell n

/-- DB_CMDTAIL (R187). -/
def execDbCmdtail (pasid : Option (BitVec 20)) (n : Nat) (v : W32) (s : State) : Host.Outcome State Fault Refusal :=
  act s (s.doorbell pasid n fun s => s.ringCmdtail n v)

/-- DB_CPLHEAD (R188). -/
def execDbCplhead (pasid : Option (BitVec 20)) (n : Nat) (v : W32) (s : State) : Host.Outcome State Fault Refusal :=
  act s (s.doorbell pasid n fun s => s.ringCplhead n v)

/-- Records consumed from the verdict window (R209). -/
def State.consumeVerdicts (s : State) (n k : Nat) : State :=
  let x := s.slice n
  if k = 0 then s
  else ((s.setSlice n { x with vq := x.vq.drop k, shown := (x.vq.take k).getLastD x.shown }).led 5 n .out k).led 0xD n .out k

def State.ringVrdhead (s : State) (n : Nat) (v : W32) : State :=
  let k := mod32 v.toNat (s.fget (Reg.SLC_VRDHEAD_COUNT.at n))
  if s.vrdOcc n < k then s.badDoorbell n
  else (if s.flag (Reg.SLC_CTRL_VDEST.at n) then s.consumeVerdicts n k else s).fset (Reg.SLC_VRDHEAD_COUNT.at n) v.toNat

/-- DB_VRDHEAD (R188, R209). -/
def execDbVrdhead (pasid : Option (BitVec 20)) (n : Nat) (v : W32) (s : State) : Host.Outcome State Fault Refusal :=
  act s (s.doorbell pasid n fun s => s.ringVrdhead n v)

/-! ### The verdict window (R209 to R212) -/

/-- A read of SLC_VWSTAT. -/
def State.readVwstat (s : State) (p : PortId) : State :=
  let n := s.selGet p Reg.SLC_SEL_SLICE
  if nSlices s.build ≤ n ∨ !s.flag (Reg.SLC_CTRL_VDEST.at n) then s.readOut p 0
  else
    let h := s.fget (Reg.SLC_VRDHEAD_COUNT.at n)
    let x := s.slice n
    if !x.vq.isEmpty then s.readOut p (vwWord h true false false)
    else if !s.flag (Reg.SLC_CTRL_VMODE.at n) then (s.readOut p (vwWord (mod32 h 1) false true false)).bump (Reg.SLC_VSTAT_UNDERRUNS.at n)
    else if s.fget (Reg.SLC_CTRL_STALL_LIM.at n) = 0 then (s.readOut p (vwWord (mod32 h 1) false false true)).bump (Reg.SLC_VSTAT_UNDERRUNS.at n)
    else s.setSlice n { x with stalls := x.stalls ++ [(p, s.now)] }

/-- SLC_VWSTAT_READ (R210). -/
def execSlcVwstatRead (a : Acc) (s : State) : Host.Outcome State Fault Refusal :=
  act s (s.readAccess (.slcVwstatRead a) a 5 fun s => s.readVwstat a.port)

/-- VERDICT_STALL_EXPIRY (R210): reads that have stalled for the limit, in units of 125 ns. -/
def execVerdictStallExpiry (n : Nat) (s : State) : Host.Outcome State Fault Refusal :=
  act s (s.failStalls n fun e => decide (e.2 + 500 * s.fget (Reg.SLC_CTRL_STALL_LIM.at n) ≤ s.now))

/-! ### Function modes (R214) -/

/-- HIF_FNMODE_WRITE (R214). -/
def State.fnmodeWrite (s : State) (a : Acc) (v : W32) : State :=
  let key := Reg.HIF_FNMODE_MODE.addr
  let s1 := s.regSet key (s.mwWrite key (if s.build.isHub then 0xFF else 0xF5) a v)
  s1.fset Reg.HIF_FNSTAT_PENDING (s1.fget Reg.HIF_FNMODE_MODE ^^^ s1.fget Reg.HIF_FNSTAT_MODE)

def execHifFnmodeWrite (a : Acc) (v : W32) (s : State) : Host.Outcome State Fault Refusal :=
  act s (s.regAccess (.hifFnmodeWrite a v) a 4 fun s => s.fnmodeWrite a v)

/-! ### Fetching (R190, R194) -/

/-- The codes of R205. -/
def assigned (opc : Nat) : Bool :=
  decide (opc ∈ [0x01, 0x02, 0x03, 0x04, 0x05, 0x06, 0x07, 0x10, 0x11, 0x12, 0x13, 0x20, 0x21, 0x22, 0x23, 0x2F, 0x30, 0x31, 0x32, 0x33, 0x34,
    0x40, 0x41, 0x42, 0x43, 0x50, 0x51, 0x52, 0x60, 0x61, 0x62, 0x70, 0x71, 0x72, 0x80, 0x81, 0x82, 0x83, 0x90, 0x91, 0x92, 0x93])

/-- Descriptors with an unassigned code complete with BAD_OPCODE in their turn (R198). Fuel is their number. -/
def State.flushBad : Nat → State → Nat → State
  | 0, s, _ => s
  | fuel + 1, s, n =>
    let x := s.slice n
    match x.fetched with
    | f :: rest =>
      if !assigned f.opcode && startable x [] f.d false && !s.stopped then
        let r : Running := { src := .slice n, opcode := f.opcode, dseq := f.dseq, d := f.d, b := f.b }
        ((s.setSlice n { x with fetched := rest, running := x.running ++ [r] }).fail r stBAD_OPCODE).flushBad fuel n
      else s
    | [] => s
def State.flush (s : State) (n : Nat) : State := s.flushBad (s.slice n).fetched.length n

/-- DESCRIPTOR_FETCH (R190, R194): the descriptor is counted as fetched and takes its place in ring order; its command's own row starts it. A failed read disables the slice. -/
def execDescriptorFetch (n : Nat) (res : FetchRes) (s : State) : Host.Outcome State Fault Refusal :=
  act s (if !s.canFetch n then s
    else match res with
    | .failed => ((s.disableSlice n).ringErr n 7).hostProto 4 n
    | .got opc d b =>
      let dseq := s.fget (Reg.SLC_CMDHEAD_COUNT.at n) % 65536
      let x := s.slice n
      ((s.countFetch n).setSlice n { x with fetched := x.fetched ++ [{ opcode := opc.toNat, d, b, dseq }] }).flush n)

/-! ### Writes into the rings (R191 to R195) -/

/-- COMPLETION_WRITE (R191 to R195). -/
def State.writeCompletion (s : State) (n : Nat) (ok : Bool) : State :=
  let x := s.slice n
  match x.cplWait with
  | [] => s
  | c :: rest =>
    if nSlices s.build ≤ n ∨ !(s.enabled n || x.quiescing) ∨ s.cplSize n ≤ s.cplOcc n then s
    else s.metered 16 fun s =>
      if !ok then
        let s1 := ((if s.enabled n then s.disableSlice n else s).ringErr n 4).hostProto 4 n
        ((s1.setSlice n { s1.slice n with quiescing := false }).checkQuiesced n).unbindCheck n
      else
        let tail := s.fget (Reg.SLC_CPLTAIL_COUNT.at n)
        let size := s.cplSize n
        let w := cplWords tail (1 - tail / size % 2) c
        let at_ := BitVec.ofNat 64 (s.fget (Reg.SLC_CPLBASE_BASE.at n) + 16 * (tail % size))
        let s1 := (s.emit (.dma n at_ (wordsBytes [w.1, w.2]))).setSlice n { x with cplWait := rest }
        let s2 := (s1.fadd (Reg.SLC_CPLTAIL_COUNT.at n) 1).led 0xD n .out 1
        let s3 := if c.irq then s2.irq (2 * n) (2 * n) else s2
        (((s3.checkQuiesced n).flush n)).unbindCheck n

def execCompletionWrite (n : Nat) (ok : Bool) (s : State) : Host.Outcome State Fault Refusal := act s (s.writeCompletion n ok)

/-- A write of a verdict record or of its mirror fails (R194). -/
def State.verdictFail (s : State) (n : Nat) : State :=
  ((s.disableSlice n).ringErr n 5).hostProto 4 n

/-- VERDICT_RECORD_WRITE (R191, R193): the oldest record of the verdict queue goes to its ring entry, and the mirror follows. `bad` says that the record fails its parity check when it is read (R616). -/
def State.writeVerdict (s : State) (n : Nat) (ok mirrorOk bad : Bool) : State :=
  let x := s.slice n
  match x.vq with
  | [] => s
  | r :: rest =>
    if nSlices s.build ≤ n ∨ s.flag (Reg.SLC_CTRL_VDEST.at n) ∨ !s.enabled n ∨ s.vrdSize n ≤ s.vrdOcc n then s
    else if bad then ((s.setSlice n { x with vq := rest }).ledDrop 5 n rsnPOISON 1).badCell n
    else s.metered 40 fun s =>
      if !ok then s.verdictFail n
      else
        let tail := s.fget (Reg.SLC_VRDTAIL_COUNT.at n)
        let at_ := BitVec.ofNat 64 (s.fget (Reg.SLC_VRDBASE_BASE.at n) + 32 * (tail % s.vrdSize n))
        let s1 := (s.emit (.dma n at_ (wordsBytes (recWords r)))).setSlice n { x with vq := rest }
        let s2 := ((s1.fadd (Reg.SLC_VRDTAIL_COUNT.at n) 1).led 0xD n .out 1).led 5 n .out 1
        if mirrorOk then s2.emit (.dma n (BitVec.ofNat 64 (s2.fget (Reg.SLC_VRDMIR_ADDR.at n))) (toBytes 8 (s2.fget (Reg.SLC_VRDTAIL_COUNT.at n))))
        else s2.verdictFail n

def execVerdictRecordWrite (n : Nat) (ok mirrorOk bad : Bool) (s : State) : Host.Outcome State Fault Refusal := act s (s.writeVerdict n ok mirrorOk bad)

/-! ### Host transfers of a Leaf (R253 to R256) -/

/-- The last burst of a transfer has ended. -/
def State.xferEnd (s : State) (x : Xfer) (ok : Bool) (v : W32) (done_ : Nat) : State :=
  match x.use_ with
  | .dump n => if s.dumpWriting n then s else s.bump Reg.REEL_DUMPSTAT_DUMPS
  | .trace raw => s.traceMoved raw
  | .test => s.testMoved ok v
  | .recheck _ => s
  | .log =>
    if !ok then
      ({ s with meter := { s.meter with queue := s.meter.queue.filter fun y => y.use_ != XferUse.log } }).logReadEnd (some done_)
    else if s.meter.queue.any fun y => y.use_ == XferUse.log then s
    else s.logReadEnd none

/-- HOST_TRANSFER_DONE (R256): the transfer outstanding on the initiator port ends; `v` is the value that a test's read returned. No rule says what a failed dump, drain or recheck transfer does: it counts as moved. -/
def State.transferDone (s : State) (ok : Bool) (v : W32) : State :=
  match s.meter.busy, s.meter.queue.findIdx? (·.flying) with
  | some n, some i =>
    match s.meter.queue[i]? with
    | none => s
    | some x =>
      let y := { x with addr := x.addr + BitVec.ofNat 64 n, data := x.data.drop n, left := x.left - n, flying := false }
      let final := y.left == 0 || (!ok && (x.use_ == XferUse.log || x.use_ == XferUse.test))
      let q := if final then s.meter.queue.eraseIdx i else s.meter.queue.set i y
      let s1 : State := { s with meter := { s.meter with busy := none, queue := q } }
      if final then s1.xferEnd x ok v (s.skn.readLen - x.left) else s1
  | _, _ => s

def execHostTransferDone (ok : Bool) (v : W32) (s : State) : Host.Outcome State Fault Refusal := act s (s.transferDone ok v)

/-! ### The staging buffer (R694, R695) -/

/-- STAGE_WRITE (R694). -/
def execStageWrite (off : Nat) (data : List Byte) (s : State) : Host.Outcome State Fault Refusal :=
  act s (if s.mgmtHolds then s.holdMgmt (.stageWrite off data)
    else if data.isEmpty ∨ 1024 < data.length ∨ stagingSize s.build < off + data.length then s.emit (.mgmtData 2 [])
    else (s.setStaging (stageWrite s.hif.staging off data)).emit (.mgmtData 0 []))

/-- STAGE_READ (R694). -/
def execStageRead (off len : Nat) (s : State) : Host.Outcome State Fault Refusal :=
  act s (if s.mgmtHolds then s.holdMgmt (.stageRead off len)
    else if len = 0 ∨ 1024 < len ∨ stagingSize s.build < off + len then s.emit (.mgmtData 2 [])
    else s.emit (.mgmtData 0 (stageRead s.hif.staging off len)))

end Sys2Proof.Machine
end

