-- ==== Sys2Proof/Machine/Tension.lean ====
section
/-! DEFINITION. Tension (R141 to R148): droop sensors and their levels, and the re-plan with its capacities, state, demotions and targets. -/

namespace Sys2Proof.Machine

/-! ### Droop (R141 to R143) -/

/-- Droop sensors of a build (R141). -/
def nSensors (b : Build) : Nat := if b.isHub then 16 else 2

def State.sensor (s : State) (n : Nat) : Sensor := Tab.getD s.tns.sensors n {}

/-- Set a sensor; `TNS_STATUS` shows the highest level over all sensors. -/
def State.setSensor (s : State) (n : Nat) (x : Sensor) : State :=
  let t := Tab.set s.tns.sensors n x
  { s with tns := { s.tns with sensors := t } }.fset Reg.TNS_STATUS_DROOP_LVL ((t.map fun (e : Nat × Sensor) => e.2.level).foldl max 0)

/-- The first Spindle of a sensor's domain: the subject of its DROOP faults. -/
def State.sensorUnit (s : State) (n : Nat) : Hank := s.unit (0x40 + (if s.build.isHub then 4 * n else n))

/-- The thresholds in force, in mV; TH2 at or above TH1 is treated as TH1 − 1 (R159). -/
def State.droopTh (s : State) : Int × Int :=
  let th1 := s.fget Reg.TNS_DROOP_TH1
  let th2 := s.fget Reg.TNS_DROOP_TH2
  ((th1 : Int), if th2 ≥ th1 then (th1 : Int) - 1 else (th2 : Int))

def State.droopCrossing (s : State) (n : Nat) (margin : Int) : State :=
  if n ≥ nSensors s.build then s
  else
    let x := s.sensor n
    let th := s.droopTh
    let lvl := max x.level (if margin < th.2 ∨ margin < 0 then 2 else if margin < th.1 then 1 else 0)
    let below := if margin < 0 then (match x.belowFt with | some t => some t | none => some s.ft) else x.belowFt
    let s1 := if x.level < 2 ∧ 2 ≤ lvl then s.bump Reg.TNS_DROOPCNT_LVL2 else s
    s1.setSensor n { level := lvl, margin, belowFt := below }

/-- DROOP_CROSSING (R141). -/
def execDroopCrossing (sensor : Nat) (margin : Int) (s : State) : Host.Outcome State Fault Refusal :=
  act s (s.droopCrossing sensor margin)

/-- A sensor drops one level (R142); level 3 lasts while the margin is below 0 mV. -/
def State.droopRelax (s : State) (n : Nat) : State :=
  let x := s.sensor n
  if n ≥ nSensors s.build ∨ x.level = 0 ∨ x.belowFt.isSome then s
  else s.setSensor n { x with level := x.level - 1 }

/-- DROOP_RELAX (R142). -/
def execDroopRelax (sensor : Nat) (s : State) : Host.Outcome State Fault Refusal := act s (s.droopRelax sensor)

/-- A stretch below 0 mV ends. One of at least 20 ns was a level-3 interval: it is counted, and DROOP at F0 carries its start and its length. -/
def State.droopEnd (s : State) (n : Nat) : State :=
  let x := s.sensor n
  match x.belowFt with
  | none => s
  | some t =>
    if n ≥ nSensors s.build then s
    else if s.ft < t + 80 then s.setSensor n { x with belowFt := none }
    else
      let d := s.freeDiv ((s.ft : Int) - t) 4
      let s1 := (d.2.setSensor n { x with level := 3, belowFt := none }).bump Reg.TNS_DROOPCNT_LVL3
      { s1 with work := s1.work ++ [.faultAt fDROOP 0 (s.sensorUnit n) (BitVec.ofNat 64 (d.1.toNat % 2 ^ 32)) t] }

/-- DROOP_INTERVAL_END (R141). -/
def execDroopIntervalEnd (sensor : Nat) (s : State) : Host.Outcome State Fault Refusal := act s (s.droopEnd sensor)

/-! ### Capacities at a scale s = sn ÷ sd (R131, R145) -/

/-- The burst budget of R131: q(s) × payload rate, down to a multiple of 32 bytes. `bound` is the hop bound in ns that q starts from. -/
def burstBudget (c bound sn sd : Nat) : Nat :=
  let rate := if c = 0 then 124 else if c = 1 then 248 else 496
  let fec := if c = 0 then 512 else if c = 1 then 256 else 128
  let q : Int := (rate : Int) * (((10 * (bound : Int)) - 800 - fec) * sd - 245 * sn) / (100 * (sd : Int)) - 512
  if q ≤ 0 then 0 else q.toNat / 32 * 32

/-- floor(4096 ÷ s). -/
def capAt (sn sd : Nat) : Nat := 4096 * sd / sn

/-- Every admitted reservation fits the capacities at a scale (R137, R145). -/
def State.fitsAt (s : State) (sn sd : Nat) : Bool :=
  let cap := capAt sn sd
  (ports.all fun p => !hasPort s.build p || (s.onPort p).isEmpty || s.portFits p 0 0 (burstBudget (s.portCfg p) 260 sn sd) cap)
    && ((List.range (nSpindles s.build)).all fun k => loadFits (s.spindleLoad k) cap)
    && (!s.build.isHub || s.mergeFits 0 cap)

/-! ### Needs of the bounds (R134 to R136) -/

/-- A bound's need at a scale, without its queue term, in 1/10 ns, as a numerator over `sd`. -/
def boundNeed (n sn sd : Nat) : Nat :=
  match n with
  | 0 => 3040 * sd + 2506 * sn
  | 1 => 5653 * sd + 10346 * sn
  | 2 => 32306 * sd + 22806 * sn
  | _ => 0

/-- The bound that a reserved session of this block comes under: the site ranking where it sources a reduction whose final point is a root, the Leaf verdict at a Leaf, the tray cross-die verdict of a CHILD session at a tray Hub. -/
def State.sessBound (s : State) (n : Nat) (x : Sess) : Option Nat :=
  match Tab.get s.tws.sources n with
  | some b => if b.final = 5 then some 2 else if s.build.isHub then none else some 0
  | none => if !s.build.isHub then some 0 else if x.isChild && s.tier == 1 then some 1 else none

/-- A session's bound is missed at a scale with no queue term left (R147). -/
def State.boundMissed (s : State) (n : Nat) (x : Sess) (sn sd : Nat) : Bool :=
  match s.sessBound n x with
  | some k =>
    let b := s.fget (Reg.TNS_BOUND_BOUND.at k)
    b != 0 && decide (10 * b * sd < boundNeed k sn sd)
  | none => false

/-! ### Demotion (R147) -/

/-- Demote one session: its reservation is released, with a MARGIN fault at F1 that names it. -/
def State.demote (s : State) (n scale : Nat) : State :=
  (s.releaseResv n).raise fMARGIN 1 (s.unit 0) (fld 16 0 scale + fld 12 16 n)

/-- The reserved sessions of this block, newest admission first. -/
def State.admittedByAge (s : State) : List Nat :=
  ((s.crd.filter fun e => e.2.admitted).map fun e => (e.1, (e.2.resv.map (·.ft)).getD 0)).foldr
    (fun e l => (l.takeWhile fun x => decide (x.2 > e.2)) ++ e :: (l.dropWhile fun x => decide (x.2 > e.2))) [] |>.map (·.1)

/-- Demote down the list until the admitted total fits at s_now. -/
def demoteUntil : List Nat → Nat → Nat → Nat → State → State
  | [], _, _, _, s => s
  | n :: l, scale, sn, sd, s => if s.fitsAt sn sd then s else demoteUntil l scale sn sd (s.demote n scale)

/-! ### Targets (R148) -/

/-- Every admitted reservation holds its bound with a target in place of the published value, at s = 1. -/
def State.targetFits (s : State) (n t : Nat) : Bool :=
  match n with
  | 3 => ports.all fun p => (s.onPort p).isEmpty || decide (s.portBursts p ≤ burstBudget (s.portCfg p) t 1 1)
  | 4 => s.str.paths.isEmpty || decide (38260 ≤ t)
  | _ => s.crd.all fun e => !e.2.admitted || s.sessBound e.1 e.2 != some n || decide (boundNeed n 1 1 ≤ 10 * t)

def State.target (s : State) (n : Nat) : State :=
  let t := s.fget (Reg.TNS_TARGET_TARGET.at n)
  if t = 0 ∨ t ≥ s.fget (Reg.TNS_BOUND_BOUND.at n) then s
  else if s.fget Reg.TNS_STATUS_MSTATE = 0 ∧ s.targetFits n t = true then
    (s.fset (Reg.TNS_BOUND_BOUND.at n) t).fset (Reg.TNS_TARGET_REFUSED.at n) 0
  else s.fset (Reg.TNS_TARGET_REFUSED.at n) 1

/-! ### The re-plan (R144, R145) -/

/-- Ticks of a day. -/
def dayTicks : Nat := 345600000000000

/-- Least-squares slope over daily means, newest first: numerator and denominator, fs a day. -/
def fitSlope (l : List Nat) : Int × Nat :=
  let n := l.length
  let sx := sumN (List.range n)
  let sxx := sumN ((List.range n).map fun i => i * i)
  let sxy := sumN (l.zipIdx.map fun e => e.1 * e.2)
  ((sx : Int) * sumN l - (n : Int) * sxy, n * sxx - sx * sx)

/-- Keep the measurement: the day's measurements become its mean when another day has begun. -/
def State.keepTwc (s : State) (twc : Nat) : State :=
  let day := s.ft / dayTicks
  if s.tns.today.isEmpty ∨ s.tns.dayFt / dayTicks = day then
    { s with tns := { s.tns with today := twc :: s.tns.today, dayFt := s.ft } }
  else
    let m := s.freeDiv (sumN s.tns.today : Nat) s.tns.today.length
    { m.2 with tns := { m.2.tns with days := (m.1.toNat :: s.tns.days).take 32, today := [twc], dayFt := s.ft } }

/-- A re-plan is due: it is on, and its interval has passed since the last one. -/
def State.replanDue (s : State) : Bool :=
  s.running && !s.stopped && s.flag Reg.TNS_CTRL_REPLAN_EN
    && (s.fget Reg.TNS_STATUS_REPLANS == 0 && s.tns.lastFt == 0
        || decide (s.tns.lastFt + 2 ^ s.fget Reg.TNS_CTRL_REPLAN_IVL * 4000000000 ≤ s.ft))

/-- One re-plan from a worst-case cycle t_wc in fs. -/
def State.replan (s : State) (twc : Nat) : State :=
  let s1 := s.keepTwc twc
  let slope := if s1.tns.days.length < 8 then ((s1.fget Reg.TNS_AGE_SLOPE : Int), 1) else fitSlope s1.tns.days
  let tp : Int := (twc : Int) * slope.2 + slope.1 * 2 ^ s1.fget Reg.TNS_CTRL_HORIZON
  let d := 700000 * slope.2
  let big : Bool := decide ((d : Int) < tp)
  let sn := if big then tp.toNat else 1
  let sd := if big then d else 1
  let nowN := max twc 700000
  let ps := s1.freeDiv twc 1000
  let pt := ps.2.freeDiv tp (1000 * slope.2)
  let sc := pt.2.freeDiv (4096 * (sn : Int)) sd
  let scale := sc.1.toNat
  let s2 := (((sc.2.fset Reg.TNS_CYCLE_TWC ps.1.toNat).fset Reg.TNS_CYCLE_TP pt.1.toNat).fset Reg.TNS_SCALE_S scale).bump Reg.TNS_STATUS_REPLANS
  let s3 := [1, 2, 3].foldl (fun (s : State) m => s.fset (Reg.TNS_CAP_CAP.at m) (capAt sn sd)) s2
  let s4 := [0, 1, 2].foldl (fun (s : State) c => s.fset (Reg.TNS_BURST_BUDGET.at c) (burstBudget c 260 sn sd)) s3
  let old := s.fget Reg.TNS_STATUS_MSTATE
  let new := if s4.fitsAt sn sd then b2n big else if s4.fitsAt nowN 700000 then 2 else 3
  let s5 := s4.fset Reg.TNS_STATUS_MSTATE new
  let s6 := if new ≠ old ∧ (new = 1 ∨ new = 2) then s5.raise fMARGIN 0 (s.unit 0) (fld 16 0 scale) else s5
  let s7 := if new = 3 then
      let a := demoteUntil s6.admittedByAge scale nowN 700000 s6
      (a.crd.filter fun e => e.2.admitted && a.boundMissed e.1 e.2 nowN 700000).foldl (fun s e => s.demote e.1 scale) a
    else s6
  let s8 := (List.range 8).foldl State.target s7
  { s8 with tns := { s8.tns with lastFt := s.ft } }

/-- REPLAN (R144 to R148). -/
def execReplan (twc : Nat) (s : State) : Host.Outcome State Fault Refusal := act s (if s.replanDue then s.replan twc else s)

end Sys2Proof.Machine
end

