-- ==== Sys2Proof/Machine/RegRead.lean ====
section
/-! DEFINITION. What a register read returns (R10, R163, R167, R171, R174, R704): selectors, banked registers, the words that show a unit's tables and counts, and the value of any register word. -/

namespace Sys2Proof.Machine

/-! ### Selectors (R174) -/

/-- The selector registers, each held once per port. -/
def isSelector (a : Nat) : Bool :=
  decide (a ∈ [0x28, 0x2060, 0x5000, 0x800C, 0xA040, 0xA080, 0xB040, 0xC080, 0xE020, 0xE100, 0x11030, 0x1200C])

/-- The word at which a register read or write of a port finds a selector. -/
def portKey (p : PortId) (a : Nat) : Nat := match p with | .host => a | .mgmt => if isSelector a then a + mgmtCopy else a

/-- Registers that show one instance of a table: the word's key for the instance selected on a port; none where nothing is selected. -/
def State.bankKey (s : State) (p : PortId) (a : Nat) : Option Nat :=
  let off := a % 4096
  let at_ := fun (n lim : Nat) => if n < lim then some (a + n * 2 ^ 20) else none
  match a / 4096 with
  | 0x5 => if 0x10 ≤ off then at_ (s.selGet p Reg.SLC_SEL_SLICE) (nSlices s.build) else some (portKey p a)
  | 0xB => if 0x50 ≤ off ∧ off < 0x90 then at_ (s.selGet p Reg.TWS_RKSEL_RULE) (nRules s.build) else some (portKey p a)
  | 0xE =>
    if 0x24 ≤ off ∧ off < 0x38 then at_ (s.selGet p Reg.BOB_QSEL_QUEUE) (nQueues s.build)
    else if 0x104 ≤ off ∧ off < 0x120 then
      let port := s.selGet p Reg.DRF_SEL_PORT
      if hasPort s.build port then
        some (a + (if off = 0x10C ∨ off = 0x110 then port else port + 64 * s.selGet p Reg.DRF_SEL_CLASS) * 2 ^ 20)
      else none
    else some (portKey p a)
  | _ => some (portKey p a)

/-! ### Words that show a unit's own state -/

/-- Low or high half of a 64-bit value. -/
def half (a : Nat) (v : Nat) : W32 := BitVec.ofNat 32 (if a % 8 = 0 then v else v / 2 ^ 32)

/-- A 32-bit word. -/
def W (v : Nat) : W32 := BitVec.ofNat 32 v

/-- The stored word with one field replaced. -/
def State.with_ (s : State) (f : RF) (v : Nat) : W32 := W (putBits (s.regGet f.addr).toNat f.lo f.w v)

/-- Whole microseconds since an instant, saturating. -/
def State.usSince (s : State) (t : Nat) : W32 := W (min 0xFFFFFFFF ((s.ft - t) / us))

/-- Page 0x01 (R119 to R121). -/
def State.readWhl (s : State) (a : Nat) : Option W32 :=
  match a % 4096 with
  | 0x04 => if s.assisted 0 then some (s.with_ Reg.WHL_STATUS_SOURCE 3) else none
  | 0x08 => some (W s.ft)
  | 0x0C => some (W (s.ft / 2 ^ 32))
  | 0x28 => some s.adjWord
  | 0x38 => some (match s.whl.holdFt with | some t => W (min 0xFFFFFFFF ((s.now - t) / ms)) | none => 0)
  | 0x40 =>
    let tai := s.ft / secondsPerTick
    some (match s.whl.leap with
    | some l => W (putBits (s.with_ Reg.WHL_UTC_CUR_OFFSET (signed 16 (l.offsetAt tai))).toNat 25 1 (b2n (decide (tai > l.expiry))))
    | none => s.regGet Reg.WHL_UTC_CUR_OFFSET.addr)
  | 0x44 => some (s.with_ Reg.WHL_EVT_ARMED ((if s.tws.cuts.isEmpty then 0 else 1) + sumN (s.whl.timers.map fun e => 2 ^ e.1)))
  | _ => none

/-- Page 0x02 (R538, R702). -/
def State.readSnag (s : State) (p : PortId) (a : Nat) : Option W32 :=
  let off := a % 4096
  let n := s.selGet p Reg.SNG_DSEL_PORT
  let d := Tab.get s.snag.dies n
  if 0x40 ≤ off ∧ off < 0x60 then
    some (match s.snag.fq with | r :: _ => w32At (recBytes r) ((off - 0x40) / 4) | [] => 0)
  else match off with
  | 0x10 => some (s.with_ Reg.SNG_FQSTAT_COUNT s.snag.fq.length)
  | 0x64 => some (match d with
    | some e => W (fld 3 0 e.state + b2 (s.evaluates n) 3 + b2 e.silent 4 + b2 e.suspect 5 + b2 (!e.claims.isEmpty) 6 + fld 16 16 e.changes)
    | none => W (b2 (s.evaluates n) 3))
  | 0x68 => some (match d with | some e => (if e.anyHb then s.usSince e.tHb else 0) | none => 0)
  | 0x6C => some (match d with | some e => (if e.anyHb || e.anyAlive || e.peersReported then s.usSince (max e.tHb (max e.tAlive e.tPeer)) else 0) | none => 0)
  | 0x70 => some (match d with | some e => W e.prog | none => 0)
  | 0x9C => some (s.with_ Reg.SNG_HARD_USED s.snag.hard.length)
  | 0xA4 => some (W s.snag.unitExp.length)
  | 0xB4 => some (s.with_ Reg.SNG_RSTSTAT_BUSY (b2n (!s.snag.resets.isEmpty || !s.snag.partResets.isEmpty)))
  | _ => none

/-- Page 0x03 (R676). -/
def State.readSkn (s : State) (a : Nat) : Option W32 :=
  let held := s.logHeld
  match a % 4096 with
  | 0x04 => some (W (fld 13 0 s.skn.recs.length + b2 s.frozen 13 + b2 s.skn.dump.isSome 14 + b2 s.skn.capture.isSome 15
      + fld 16 16 (s.fget Reg.SKN_STAT_LOST)))
  | 0x08 => some (s.skn.next - 1)
  | 0x0C => some (match held with | r :: _ => W (recSeq r) | [] => 0)
  | 0x18 => some (W s.skn.ovf.length)
  | 0x40 => some (match s.skn.dump with | some d => W d.bytes.length | none => 0)
  | _ => none

/-- Page 0x05 (R217). -/
def State.readSlc (s : State) (p : PortId) (a : Nat) : Option W32 :=
  let n := s.selGet p Reg.SLC_SEL_SLICE
  let off := a % 4096
  if off = 4 then some (W s.quotaSum)
  else if off < 0x10 then none
  else if nSlices s.build ≤ n then some 0
  else if 0x80 ≤ off ∧ off < 0xA0 then
    some (if s.flag (Reg.SLC_CTRL_VDEST.at n) then
      w32At (recBytes (match (s.slice n).vq with | r :: _ => r | [] => (s.slice n).shown)) ((off - 0x80) / 4) else 0)
  else match off with
  | 0x14 => some (s.slcStatusWord n)
  | 0x18 => some (s.slcPasidWord n)
  | 0x1C => some (s.slcQuotaWord n)
  | 0x60 =>
    let h := s.fget (Reg.SLC_VRDHEAD_COUNT.at n)
    some (if !s.flag (Reg.SLC_CTRL_VDEST.at n) then 0
      else if (s.slice n).vq.isEmpty then
        vwWord (mod32 h 1) false (!s.flag (Reg.SLC_CTRL_VMODE.at n)) (s.flag (Reg.SLC_CTRL_VMODE.at n))
      else vwWord h true false false)
  | _ => none

/-- Page 0x06 (R258). -/
def State.readReel (s : State) (a : Nat) : Option W32 :=
  let off := a % 4096
  if off = 4 then some (s.with_ Reg.REEL_STATUS_BUSY (b2n (!s.reel.reads.isEmpty)))
  else if 0x80 ≤ off ∧ off < 0xC0 then
    let n := (off - 0x80) / 4
    some (s.with_ (Reg.REEL_SETSTAT_SCHED.at n) (b2n (s.rset n).sched.isSome))
  else none

/-- Page 0x08 (R323). -/
def State.readCrd (s : State) (p : PortId) (a : Nat) : Option W32 :=
  let x := s.sess (s.selGet p Reg.CRD_SEL_SESSION)
  let show_ := fun (f : Sess → W32) => some (match x with | some y => f y | none => 0)
  match a % 4096 with
  | 0x00 => some (W (fld 13 0 s.openSess.length + fld 13 16 (s.openSess.filter fun e => decide (e.2.state ≥ ssRUNNING)).length))
  | 0x08 => some (W s.keysUsed)
  | 0x10 => show_ sstateWord
  | 0x14 => show_ fun y => W y.vectors
  | 0x18 => show_ snanWord
  | 0x1C => show_ smissWord
  | 0x20 => show_ (·.mask)
  | 0x24 => show_ fun y => W (fld 16 0 y.storeN)
  | _ => none

/-- Page 0x0A (R394). -/
def State.readDst (s : State) (p : PortId) (a : Nat) : Option W32 :=
  let k := s.selGet p Reg.DST_MSEL_SLOT
  let n := s.selGet p Reg.DST_SSEL_SESSION
  let m := Tab.get s.dst.models k
  let show_ := fun (f : Sess → W32) => some (match s.sess n with | some y => f y | none => 0)
  match a % 4096 with
  | 0x0C => some (W (putBits (s.with_ Reg.DST_STATUS_LOADING (b2n s.loadRuns)).toNat 16 11 s.dst.models.length))
  | 0x30 => some (half a s.hbmModels)
  | 0x34 => some (half a s.hbmModels)
  | 0x44 => some (s.mstatWord k)
  | 0x48 => some (s.mhandleWord k)
  | 0x4C => some (match m with | some x => W x.gen | none => 0)
  | 0x50 => some (half a (s.mspn k))
  | 0x54 => some (half a (s.mspn k))
  | 0x58 => some (match m with | some x => W (sumN (x.shares.map fun h => extentsOf (h.recs x))) | none => 0)
  | 0x84 => show_ fun y => W (fld 2 0 (s.sched n y) + b2 y.admitted 2 + fld 5 3 y.pend.length + fld 16 16 y.skipN)
  | 0x88 => show_ fun y => W (fld 8 0 ((y.debt.map (·.2)).foldl max 0))
  | 0x8C => show_ fun y => W (min 0xFFFFFFFF (s.blocked n y / us))
  | _ => none

/-- Page 0x0B (R434, R461). -/
def State.readTws (s : State) (p : PortId) (a : Nat) : Option W32 :=
  let k := s.selGet p Reg.TWS_RKSEL_RULE
  let x := s.rank k
  match a % 4096 with
  | 0x14 => some (s.with_ Reg.TWS_SINKS_USED s.tws.sinks.length)
  | 0x18 => some (W (fld 13 0 s.tws.merges.length + fld 11 16 s.tws.parts.length))
  | 0x28 => some (W (fld 24 0 ((s.tws.cut.map (·.req.lnum)).getD 0) + fld 4 24 s.tws.cuts.length + b2 s.cutComplete 28))
  | 0x2C => some (W s.tws.auth.length)
  | 0x34 => some (s.with_ Reg.TWS_SATSTAT_QUEUED s.tws.sats.length)
  | 0x74 => if nRules s.build ≤ k then some 0 else
    some (W (b2 x.strag 0 + b2 x.hi 1 + b2 x.lo 2 + b2 x.own 3 + b2 (decide (2 ^ s.fget (Reg.TWS_DROWN_SLOW.at k) ≤ x.w)) 4
      + fld 3 5 x.held.length + fld 16 16 (s.fget (Reg.TWS_RKSTAT_EXPIRED.at k))))
  | 0x88 => some (W x.shi)
  | 0x8C => some (W x.slo)
  | _ => none

/-- Page 0x0C (R497). -/
def State.readPly (s : State) (p : PortId) (a : Nat) : Option W32 :=
  let j := Tab.get s.ply.jobs (s.selGet p Reg.PLY_JSEL_JOB)
  let show_ := fun (f : Job → Nat) => some (match j with | some y => W (f y) | none => 0)
  let idx := fun (y : Job) (q : Replica → Bool) => maskOf ((y.replicas.zipIdx.filter fun e => q e.1).map (·.2))
  match a % 4096 with
  | 0x84 => show_ fun y => 1 + fld 6 8 y.slice + fld 6 16 (y.replicas.filter fun r => !r.expelled).length
      + fld 6 24 y.replicas.length + fld 2 30 y.rounds.length
  | 0x88 => show_ fun y => idx y (·.expelled)
  | 0x8C => show_ fun y => idx y (·.suspect)
  | 0x90 => show_ (·.lastStep)
  | 0x94 => show_ fun y => fld 3 0 y.lastResult + fld 8 8 (y.replicas.filter fun r => decide (r.hold ≠ 0)).length
  | 0x98 => show_ fun y => fld 16 0 y.policy.every + fld 16 16 y.policy.wait
  | _ => none

/-- EMODE of a queue (R618). -/
def State.qMode (s : State) (q : Nat) : Nat := if q < nSlices s.build then s.fget (Reg.SLC_CTRL_VMODE.at q) else 2

/-- Items held in a queue. -/
def State.qItems (s : State) (q : Nat) : Nat :=
  if 128 ≤ q ∧ q < 416 then ((s.port ((q - 128) / 8)).egress.getD (q % 8) []).length
  else if q < 512 then s.qCells q
  else (s.tws.merges.filter fun m => m.queue == some q).length
    + sumN ((s.crd.filter fun e => e.2.queue == some q).map fun e => (e.2.pend.flatMap (·.vecs)).length)

/-- Page 0x0E (R629). -/
def State.readBob (s : State) (p : PortId) (a : Nat) : Option W32 :=
  let q := s.selGet p Reg.BOB_QSEL_QUEUE
  let port := s.selGet p Reg.DRF_SEL_PORT
  let c := s.selGet p Reg.DRF_SEL_CLASS
  let onQ := fun (v : W32) => some (if q < nQueues s.build then v else 0)
  let onB := fun (v : W32) => some (if hasPort s.build port then v else 0)
  match a % 4096 with
  | 0x04 => some (W s.commonFree)
  | 0x0C => some (W s.sharesUsed)
  | 0x24 => if (128 ≤ q ∧ q < 416 ∧ q % 8 ≥ 4) ∨ (416 ≤ q ∧ q < 488) then onQ (W (s.qLimit q)) else none
  | 0x30 => onQ (W (fld 19 0 (s.qCells q) + fld 2 19 (s.qMode q)
      + b2 (s.tws.merges.any (·.queue == some q) || s.crd.any (·.2.queue == some q)) 21))
  | 0x34 => onQ (W (s.qItems q))
  | 0x114 => onB (W (fld 24 0 ((s.bucket port c).tokens / 65536)))
  | 0x118 => onB (W (fld 16 0 (s.bucket port c).rate + fld 16 16 (s.bucket port c).burst))
  | _ => none

/-- Page 0x11 (R565). -/
def State.readStp (s : State) (p : PortId) (a : Nat) : Option W32 :=
  let u := s.selGet p Reg.STP_USEL_UNIT
  let h := s.health u
  let off := a % 4096
  if 0xA0 ≤ off ∧ off < 0xE0 then
    some (match Tab.get s.stp.pkgs ((off - 0xA0) / 16), off % 16 with
    | some g, 0x0 => g.pkgid
    | some g, 0x4 => g.ver
    | some g, 0x8 => W (fld 9 0 g.tests.length + 512)
    | _, _ => 0)
  else match off with
  | 0x04 => some (W (b2 s.stp.run.isSome 0 + b2 (s.stp.points.any (·.opened)) 1 + fld 3 2 s.stp.pkgs.length
      + b2 (s.flag Reg.STP_STATUS_RUN_ERR) 5 + fld 11 16 s.heldTests.length))
  | 0x18 => some (W (fld 8 0 s.dieScore + fld 16 16 s.overdueCount))
  | 0x24 => some (s.with_ Reg.STP_SPSTAT_PENDING s.stp.points.length)
  | 0x28 => some (s.with_ Reg.STP_RQSTAT_COUNT s.stp.results.length)
  | 0x34 => some (W (fld 8 0 (s.score h) + b2 h.retired 8 + b2 h.suspect 9 + b2 h.held 10 + fld 16 16 (s.unitDefer u)))
  | 0x38 => some (half a ((s.untested u).getD 0))
  | 0x3C => some (half a ((s.untested u).getD 0))
  | _ => none

/-- UNIT of a ledger point's kind (R152, R161). -/
def pointCounts (kind : Nat) : Nat :=
  match kind with
  | 5 => 2
  | 6 => 1
  | 7 => 1
  | 8 => 1
  | 9 => 3
  | 0xE => 4
  | 0xF => 5
  | _ => 0

/-- Page 0x12 (R161, R713). -/
def State.readLea (s : State) (p : PortId) (a : Nat) : Option W32 :=
  let off := a % 4096
  let i := s.selGet p Reg.LEA_SEL_POINT
  let key := if i < s.fget Reg.LEA_POINTS_COUNT then (points s.build)[i]? else none
  let show_ := fun (f : Nat → Nat) => some (match key with | some k => W (f k) | none => 0)
  let led := fun (f : Ledger → Nat) => some (match key with
    | some k => half a (f (Tab.getD (if s.selGet p Reg.LEA_SEL_CUT = 1 then s.lea.cut else s.lea.pts) k {}))
    | none => 0)
  let slot := fun (k n : Nat) => (pointReasons (k / 65536)).getD n 0
  match off / 8 * 8 with
  | 0x100 => led (·.inn)
  | 0x108 => led (·.copy)
  | 0x110 => led (·.out)
  | 0x118 => led (·.dup)
  | 0x120 => led (·.d0)
  | 0x128 => led (·.d1)
  | 0x130 => led (·.d2)
  | 0x138 => led (·.d3)
  | 0x140 => led fun l => (l.held % 2 ^ 64).toNat
  | 0x10 =>
    if off = 0x10 then show_ fun k => fld 8 0 (k / 65536) + fld 4 8 (pointCounts (k / 65536)) + b2 (Tab.get s.lea.bad k).isSome 15 + fld 16 16 k
    else show_ fun k => slot k 0 + 2 ^ 8 * slot k 1 + 2 ^ 16 * slot k 2 + 2 ^ 24 * slot k 3
  | _ => none

/-- Node records in a Spindle's store; a Leaf's Spindles share one. -/
def State.storeRecords (s : State) (n : Nat) : Nat :=
  sumN (s.dst.models.map fun e => sumN ((e.2.shares.filter fun x => !s.build.isHub || x.dom == n).map fun x => x.recs e.2))

/-- Hardware contexts of the check-value unit in use (R632 to R634): the signature of a test that runs, from its first byte, and the reads of an attribution. The jobs of the other users begin and end within a step (assumption 100). -/
def State.cvuBusy (s : State) : Nat :=
  b2n (match s.stp.run with
    | some r => !r.restoring && !r.sigDone && (match s.stest r.slot r.test with | some t => (t.prog.take r.pc).any (·.1 == 2) | none => false)
    | none => false) +
  b2n (s.meter.queue.any fun x => x.flying && (match x.use_ with | .recheck _ => true | _ => false))

/-- Words of the other pages that show a unit's own state. -/
def State.readOther (s : State) (a : Nat) : Option W32 :=
  let n := a / 4096 - 0x40
  match a with
  | 0x900C => some (W (s.cacheUsed none).1)
  | 0x10004 => some (s.with_ Reg.CVU_STAT_CTX (if s.build.isHub then 16 else 8) + W (fld 5 16 s.cvuBusy))
  | 0x10018 => some (s.regGet Reg.CVU_RUN_RUN.addr ^^^ 0xFFFFFFFF#32)
  | 0xD010 => some (s.with_ Reg.STR_ADOPT_STAT_USED s.str.adopt.length)
  | 0xD020 => some (s.with_ Reg.STR_STARTSTAT_PENDING s.str.starts.length)
  | _ =>
    if a / 4096 < 0x40 ∨ 0x80 ≤ a / 4096 then none
    else match a % 4096 with
    | 0x04 => some (W (s.storeRecords n))
    | 0x08 => some (W (s.domUsed (if s.build.isHub then n else 0) []).2)
    | _ => none

/-- The word that a unit's own state gives a register, if any. -/
def State.unitWord (s : State) (p : PortId) (a : Nat) : Option W32 :=
  match a / 4096 with
  | 0x1 => s.readWhl a
  | 0x2 => s.readSnag p a
  | 0x3 => s.readSkn a
  | 0x5 => s.readSlc p a
  | 0x6 => s.readReel a
  | 0x8 => s.readCrd p a
  | 0xA => s.readDst p a
  | 0xB => s.readTws p a
  | 0xC => s.readPly p a
  | 0xE => s.readBob p a
  | 0x11 => s.readStp p a
  | 0x12 => s.readLea p a
  | _ => s.readOther a

/-! ### A register read -/

/-- Bits of a word that a build has: instances and pages it lacks have none (R704). -/
def State.hasBits (s : State) (a : Nat) : Nat :=
  let page := a / 4096
  if 0x40 ≤ page ∧ page < 0x80 ∧ nSpindles s.build ≤ page - 0x40 then 0
  else if 0x80 ≤ page ∧ page < 0xA4 ∧ !hasPort s.build (page - 0x80) then 0
  else match rowOf a with
  | some r => if s.build.isHub then r.hasHub else r.hasLeaf
  | none => 0

/-- What a read of a register returns at a port: the address is page × 4096 + a word offset below 0x400. -/
def State.readReg (s : State) (p : PortId) (a : Nat) : W32 :=
  BitVec.ofNat 32 (s.hasBits a) &&&
    (match s.unitWord p a with
    | some v => v
    | none => match s.bankKey p a with | some k => s.regGet k | none => 0)

/-- The page is assigned (R704). -/
def pageAssigned (page : Nat) : Bool :=
  decide (page < 0x13) || decide (0x40 ≤ page ∧ page < 0xA4)

end Sys2Proof.Machine
end

