-- ==== Sys2Proof/Machine/Dump.lean ====
section
/-! DEFINITION. Hang dumps (R666 to R673) and the debug port (R701): sections and chunks, the capture, DUMP on the management port, and the debug instructions. -/

namespace Sys2Proof.Machine

/-! ### Sections (R668, R669) -/

/-- A chunk before its header: section, first item, the unit it is read from, payload words. -/
structure Chunk where
  sec : Nat
  index : Nat
  unit : Nat
  words : List W64
  deriving DecidableEq, Repr

/-- Pages that a build has, in order. -/
def State.dumpPages (s : State) : List Nat :=
  List.range 0x13 ++ (List.range (nSpindles s.build)).map (· + 0x40) ++ ((ports.filter (hasPort s.build)).map (· + 0x80))

/-- The unit that answers for a page: pages number units, but for the slices, which are part of the host interface. -/
def pageUnit (page : Nat) : Nat := if page = 5 then 4 else page

/-- The 128 words of a page, two registers each, as the management port reads them. -/
def State.pageWords (s : State) (page : Nat) : List W64 :=
  (List.range 128).map fun i =>
    let a := page * 4096 + 8 * i
    BitVec.ofNat 64 ((s.readReg .mgmt a).toNat + (s.readReg .mgmt (a + 4)).toNat * 2 ^ 32)

def State.headerWords (s : State) (c : Capture) : List W64 :=
  [BitVec.ofNat 64 (s.self.toNat + fld 3 48 s.tier),
   BitVec.ofNat 64 (fld 8 0 (s.fget Reg.SKN_DUMPSTAT_NUM + 1) + fld 1 8 c.port + b2 c.auto 9 + fld 16 16 c.mask),
   BitVec.ofNat 64 c.start, BitVec.ofNat 64 (s.skn.next - 1).toNat,
   BitVec.ofNat 64 (s.fget Reg.SNG_STATUS_LEVEL + b2 s.stopped 2 + fld 8 8 (s.fget Reg.WHL_STATUS_STATE)),
   BitVec.ofNat 64 (s.fget Reg.SKN_BOOT_BOOT)]

/-- The 64 bytes of a ledger point. -/
def ledgerWords (l : Ledger) : List W64 := [l.inn, l.copy, l.out, l.dup, l.d0, l.d1, l.d2, l.d3].map (BitVec.ofNat 64)

/-- The four 32-bit words of a queue: LIMIT; GUAR and LEVEL; cells and EMODE; items. -/
def State.queueWords (s : State) (q : Nat) : List W64 :=
  [BitVec.ofNat 64 (fld 32 0 (s.qLimit q) + fld 16 32 (s.qGuar q) + fld 16 48 (s.fget (Reg.BOB_QLEVEL_LEVEL.at q))),
   BitVec.ofNat 64 (fld 19 0 (s.qCells q) + fld 2 19 (s.qMode q) + fld 32 32 (s.qItems q))]

/-- The 32-byte header of a frame held in a retransmit buffer (R570), with the port's acknowledgements as they stand. -/
def State.heldHeader (s : State) (p : Nat) (x : TxFrame) : List W64 :=
  let f : Frame :=
    { tc := BitVec.ofNat 3 x.tc, first := x.first, last := x.last, replay := x.replay, poison := x.poison, locked := s.locked,
      ct := BitVec.ofNat 40 x.sentFt, seq := BitVec.ofNat 32 x.seq, lack := BitVec.ofNat 32 (s.fget (Reg.STR_PRXSEQ_SEQ.at p)),
      cack := BitVec.ofNat 32 (s.cackOf p), rcred := 0, bcred := 0, dest := x.dest, payload := x.payload, crc := 0 }
  (bytesWords ((frameBytes x.typ f).take 32))

/-- The 48-byte header of an open merge. -/
def mergeHeader (m : Merge) : List W64 :=
  let i : RItem := m.item.getD
    { ft := m.ft, rid := m.rid, op := 0, final := 0, n := 0, sat := false, locked := false, unknown := false, group := m.group, depth := m.depth,
      cover := 0, contrib := 0, missing := 0, nan := 0, payload := [] }
  (summaryWords i false false m.raw).take 6

/-- Items in groups of `n`, each with the index of its first. Fuel is the item count. -/
def groupsOf {α : Type} (n : Nat) : Nat → Nat → List α → List (Nat × List α)
  | 0, _, _ => []
  | _, _, [] => []
  | f + 1, k, a :: l => (k, (a :: l).take n) :: groupsOf n f (k + n) ((a :: l).drop n)

def groups {α : Type} (n : Nat) (l : List α) : List (Nat × List α) := groupsOf n l.length 0 l

/-- The chunks of a section, in order. -/
def State.section_ (s : State) (c : Capture) (k : Nat) : List Chunk :=
  match k with
  | 0 => [⟨0, 0, 0, s.headerWords c⟩]
  | 1 => [⟨1, 0, 0, s.pageWords 0⟩]
  | 2 => s.dumpPages.map fun p => ⟨2, p, pageUnit p, s.pageWords p⟩
  | 3 => (groups 64 (points s.build)).map fun g =>
      ⟨3, g.1, 0x12, g.2.flatMap fun key => ledgerWords (Tab.getD s.lea.pts key {})⟩
  | 4 => (groups 256 (List.range (nQueues s.build))).map fun g => ⟨4, g.1, 0xE, g.2.flatMap s.queueWords⟩
  | 5 => [⟨5, 0, 2, s.snag.fq.flatMap recWords⟩]
  | 6 => (ports.filter (hasPort s.build)).map fun p =>
      ⟨6, p, 0x80 + p, (((s.port p).rtx ++ (s.port p).held).take 128).flatMap (s.heldHeader p)⟩
  | 7 => if s.build.isHub then (groups 64 s.tws.merges).map fun g => ⟨7, g.1, 0xB, g.2.flatMap mergeHeader⟩ else []
  | _ => []

/-- The sections that a mask selects; the header always. -/
def maskSections (mask : Nat) : List Nat := (List.range 8).filter fun k => k == 0 || mask / 2 ^ k % 2 == 1

def State.dumpChunks (s : State) (c : Capture) : List Chunk := (maskSections c.mask).flatMap (s.section_ c)

/-- The header and payload of a chunk (R668, R670). A unit that did not answer gives a zero payload. -/
def State.chunkWords (s : State) (first n : Nat) (trunc : Bool) (c : Chunk) : List W64 :=
  let silent := c.unit != 0 && (Tab.get s.skn.noResp c.unit).isSome
  let ws := if silent then c.words.map fun _ => 0 else c.words
  [BitVec.ofNat 64 first, BitVec.ofNat 64 (s.ct + fld 8 40 c.sec + fld 16 48 c.index),
   BitVec.ofNat 64 (fld 16 0 ws.length + b2 silent 16 + b2 trunc 17 + fld 32 32 n),
   BitVec.ofNat 64 (crcOf polyC (wordsBytes ws))] ++ ws

/-- Bytes of the dump store (R666). -/
def State.dumpRoom (s : State) : Nat := if s.build.isHub then s.fget Reg.SKN_DUMPSIZE_SIZE else 131072

/-- Chunks into the store, in order; the one that meets the store's end is cut short, and nothing follows it. -/
def State.packChunks (s : State) (start : Nat) : List Chunk → Nat → Nat → List W64 → List W64
  | [], _, _, acc => acc
  | c :: l, n, room, acc =>
    let first := if n = 0 then start else s.ft
    let need := 4 + c.words.length
    if need ≤ room then s.packChunks start l (n + 1) (room - need) (acc ++ s.chunkWords first n false c)
    else if room < 4 then acc
    else acc ++ s.chunkWords first n true { c with words := c.words.take (room - 4) }

/-! ### The capture (R666, R667) -/

/-- A capture ends: the dump is held, the registers of R676 show it, its DUMP record is written, and the command that asked completes. -/
def State.captureDone (s : State) : State :=
  match s.skn.capture with
  | none => s
  | some c =>
    if s.build.isHub && !s.boot.hbmReady then s
    else
      let bs := wordsBytes (s.packChunks c.start (s.dumpChunks c) 0 (s.dumpRoom / 8) [])
      let d := s.freeDiv ((s.ft : Int) - c.start) 4
      let ns := min 0xFFFFFFFF d.1.toNat
      let dump : Dump := { port := c.port, auto := c.auto, mask := c.mask, startFt := c.start, endFt := s.ft, bytes := bs, pos := 0 }
      let s1 : State := { d.2 with skn := { d.2.skn with dump := some dump, capture := none, dbgPos := 0 } }
      let s2 := (((s1.bump Reg.SKN_DUMPSTAT_NUM).fset Reg.SKN_DUMPSTAT_PORT c.port).fsetB Reg.SKN_DUMPSTAT_AUTO c.auto).fset Reg.SKN_DUMPSTAT_MASK c.mask
      let s3 := s2.fset Reg.SKN_SMEAR_NS ns
      let s4 := s3.logAdd 4 s3.ft
        { w0 := BitVec.ofNat 64 (s3.fget Reg.SKN_DUMPSTAT_NUM + fld 1 8 c.port + b2 c.auto 9 + fld 16 16 c.mask),
          w1 := BitVec.ofNat 64 bs.length, w2 := BitVec.ofNat 64 ns, w3 := 0 }
      match c.cmd with
      | some r => s4.completeOk r bs.length
      | none => s4

/-- DUMP_CAPTURE_DONE (R667). -/
def execDumpCaptureDone (s : State) : Host.Outcome State Fault Refusal := act s s.captureDone

/-- DUMP_UNIT_TIMEOUT (R670): the unit's chunks, from this one on, are written with NORESP. -/
def execDumpUnitTimeout (unit : Nat) (s : State) : Host.Outcome State Fault Refusal :=
  act s (if s.skn.capture.isSome then { s with skn := { s.skn with noResp := Tab.set s.skn.noResp unit () } } else s)

/-! ### DUMP on the management port (R672) -/

/-- ARG0 with an action in [1:0]. -/
def dumpAction (d : Desc) (k : Nat) : Desc := { d with arg0 := (d.arg0 &&& ~~~3#32) ||| BitVec.ofNat 32 k }

def State.dumpCapture (s : State) (r : Running) : State :=
  s.checked r { args := decide (r.d.arg0.toNat / 4 = 0) && decide (r.d.arg1.toNat / 256 = 0) } fun s =>
    s.guarded r [(!s.dumpFree, stSTATE)] fun s => s.dumpStart (r.d.arg1.toNat / 2 * 2 + 1) 0 false (some r)

/-- DUMP with action CAPTURE (R672); it completes at the end of the capture. -/
def execDumpCapture (src : Src) (d : Desc) (b : Bus) (s : State) : Host.Outcome State Fault Refusal :=
  act s (s.command (.dumpCapture src d b) src (dumpAction d 0) b 0x82 .m false State.dumpCapture)

def State.dumpRead (s : State) (r : Running) : State :=
  let off := r.d.arg1.toNat
  let len := r.d.len.toNat
  let size := (s.skn.dump.map (·.bytes.length)).getD 0
  s.checked r { args := decide (r.d.arg0.toNat / 4 = 0) && decide (off % 8 = 0), tooLong := decide (len < 8) || (s.skn.dump.isSome && decide (size ≤ off)) } fun s =>
    match s.skn.dump with
    | none => s.fail r stSTATE
    | some d =>
      let n := min len (size - off) / 8 * 8
      s.finish r ((d.bytes.drop off).take n) n

/-- DUMP with action READ (R672). -/
def execDumpRead (src : Src) (d : Desc) (b : Bus) (s : State) : Host.Outcome State Fault Refusal :=
  act s (s.command (.dumpRead src d b) src (dumpAction d 1) b 0x82 .m false State.dumpRead)

/-- The held dump is freed: by either port (R666). -/
def State.freeDump (s : State) : State := { s with skn := { s.skn with dump := none, dbgPos := 0 } }

def State.dumpRelease (s : State) (r : Running) : State :=
  s.checked r { args := decide (r.d.arg0.toNat / 4 = 0) && decide (r.d.arg1 = 0) } fun s =>
    match s.skn.dump with
    | none => s.fail r stSTATE
    | some d => if s.skn.capture.isSome then s.fail r stSTATE else s.freeDump.completeOk r d.bytes.length

/-- DUMP with action RELEASE (R672). -/
def execDumpRelease (src : Src) (d : Desc) (b : Bus) (s : State) : Host.Outcome State Fault Refusal :=
  act s (s.command (.dumpRelease src d b) src (dumpAction d 2) b 0x82 .m false State.dumpRelease)

/-! ### The debug port (R673, R701) -/

/-- What TZ_DUMPCTL captures at Capture-DR. -/
def State.dumpStatus (s : State) : W64 :=
  BitVec.ofNat 64 (b2 s.skn.dump.isSome 0 + b2 s.skn.capture.isSome 1 + b2 s.skn.refused 2 + fld 32 32 ((s.skn.dump.map (·.bytes.length)).getD 0))

def State.setRefused (s : State) (v : Bool) : State := { s with skn := { s.skn with refused := v } }

/-- TZ_DUMPCTL with CAPTURE (R673): the status shifts out, and the request acts at Update-DR. -/
def execTzDumpctlCapture (mask : W16) (s : State) : Host.Outcome State Fault Refusal :=
  let s1 := s.emit (.debug 64 s.dumpStatus)
  act s (if s.dumpFree then (s1.dumpStart (mask.toNat % 256 / 2 * 2 + 1) 1 false none).setRefused false else s1.setRefused true)

/-- TZ_DUMPCTL with RELEASE (R673). -/
def execTzDumpctlRelease (s : State) : Host.Outcome State Fault Refusal :=
  let s1 := (s.emit (.debug 64 s.dumpStatus)).setRefused false
  act s (if s.skn.capture.isSome then s1 else s1.freeDump)

/-- TZ_DUMPCTL with REWIND (R673). -/
def execTzDumpctlRewind (s : State) : Host.Outcome State Fault Refusal :=
  let s1 := (s.emit (.debug 64 s.dumpStatus)).setRefused false
  act s { s1 with skn := { s1.skn with dbgPos := 0 } }

/-- TZ_DUMPDATA (R673): the next 8 bytes of the held dump, 0 beyond its end. -/
def execTzDumpdata (s : State) : Host.Outcome State Fault Refusal :=
  let bs := (s.skn.dump.map (·.bytes)).getD []
  let s1 := s.emit (.debug 64 (if s.skn.dbgPos + 8 ≤ bs.length then wordAt (bs.drop s.skn.dbgPos) 0 else 0))
  act s { s1 with skn := { s1.skn with dbgPos := if s.skn.dbgPos + 8 ≤ bs.length then s.skn.dbgPos + 8 else s.skn.dbgPos } }

/-- IDCODE (R701): the 32-bit value of `ID_IDCODE`. -/
def execIdcode (s : State) : Host.Outcome State Fault Refusal :=
  act s (s.emit (.debug 32 (BitVec.ofNat 64 (s.readReg .mgmt Reg.ID_IDCODE_IDCODE.addr).toNat)))

/-- The one-bit bypass register, which captures 0 (IEEE 1149.1). -/
def State.bypassDr (s : State) : State := s.emit (.debug 1 0)

/-- A boundary-scan instruction: BYPASS on a Leaf, which has no pads; on a Hub the pads' cells lie outside the block's state, and nothing of the block changes. -/
def State.boundary_ (s : State) : State := if s.build.isHub then s else s.bypassDr

/-- EXTEST (R701). -/
def execExtest (s : State) : Host.Outcome State Fault Refusal := act s s.boundary_
/-- SAMPLE/PRELOAD (R701). -/
def execSamplePreload (s : State) : Host.Outcome State Fault Refusal := act s s.boundary_
/-- CLAMP (R701); on a Hub it selects the bypass register (IEEE 1149.1). -/
def execClamp (s : State) : Host.Outcome State Fault Refusal := act s s.bypassDr
/-- HIGHZ (R701); on a Hub it selects the bypass register (IEEE 1149.1). -/
def execHighz (s : State) : Host.Outcome State Fault Refusal := act s s.bypassDr
/-- BYPASS: code 0xFF, every unassigned code below 0x80 and the locked codes 0x80 to 0xFE (R673, R701). -/
def execBypass (_code : Byte) (s : State) : Host.Outcome State Fault Refusal := act s s.bypassDr

end Sys2Proof.Machine
end

