-- ==== Sys2Proof/Machine/Image.lean ====
section
/-! DEFINITION. Configuration images (R689 to R693), the resets of the whole block (R683 to R687, R698), the site table (R697). -/

namespace Sys2Proof.Machine

/-! ### Records of an image (R690) -/

/-- Bits of a register word that the tables mark IMG. -/
def imgBits (b : Build) (a : Nat) : Nat :=
  let page := a / 4096
  let off := a % 4096
  let all := 0xFFFFFFFF
  let hub := fun (m : Nat) => if b.isHub then m else 0
  let leaf := fun (m : Nat) => if b.isHub then 0 else m
  let words := fun (base n : Nat) => decide (base ≤ off) && decide (off < base + n) && off % 4 == 0
  match page with
  | 0x00 => if words 0x10 8 || off = 0x18 then all else if off = 0x1C || off = 0x24 then 0xFFFF else 0
  | 0x01 => if words 0x1C0 16 then all else if off = 0x3C4 then hub all else 0
  | 0x02 =>
    if off = 0x0C || off = 0x34 then all
    else if off = 0xA0 then hub all
    else if words 0x100 256 then leaf 0x800007FF
    else if words 0x200 256 then leaf (if off % 8 = 0 then all else 0x8000FFFF)
    else 0
  | 0x03 => if words 0x20 32 then hub all else 0
  | 0x06 =>
    if off = 0x08 then leaf 0x3F7F3FFF else if off = 0x10 then leaf 0xFFFF else if words 0x28 8 then leaf all else 0
  | 0x07 => if off = 0x38 then 0x3F else if words 0x40 16 then hub all else 0
  | 0x09 => if words 0x18 16 then hub all else 0
  | 0x0A => if words 0x20 16 then hub all else 0
  | 0x0C => if off = 0x08 then all else 0
  | 0x0D =>
    if off = 0x00 then 7
    else if off = 0x04 then 0x1F
    else if words 0x28 16 then hub all
    else if words 0x40 64 then (if b.isHub then all else if off < 0x60 then 0x87FF07FF else 0)
    else if words 0x100 256 then hub (if off % 8 = 0 then all else 0xA01F)
    else 0
  | 0x0E => if off = 0x08 then 0x7FFFF else 0
  | 0x0F => if off = 0x18 then all else if off = 0x1C then 0xFFFF else 0
  | 0x11 =>
    if off = 0x1C then leaf 0xFFFF else if off = 0x20 then leaf all
    else if words 0x60 64 then leaf (if off % 8 = 0 then 0xFFFFF03F else all) else 0
  | 0x12 => if off = 0x08 then 0xFFFF else 0
  | _ => if 0x80 ≤ page ∧ page < 0xA4 ∧ off = 0x04 then 0xF else 0

/-- Bits of a register word that a FIELD record may set: fields marked IMG, and fields marked RW or MW. -/
def State.recordBits (s : State) (a : Nat) : Nat :=
  match rowOf a with
  | some r =>
    if a % 4 ≠ 0 ∨ a ≥ 2 ^ 20 then 0
    else ((BitVec.ofNat 32 (imgBits s.build a) ||| BitVec.ofNat 32 r.wmask) &&& BitVec.ofNat 32 (s.hasBits a)).toNat
  | none => 0

/-- A register word as one record leaves it. -/
def addField (t : Tab (W32 × W32)) (e : Nat × W32 × W32) : Tab (W32 × W32) :=
  let old := (Tab.get t e.1).getD (0, 0)
  let m := e.2.2
  Tab.set t e.1 ((old.1 &&& ~~~m) ||| (e.2.1 &&& m), old.2 ||| m)

/-- Read the records in order, `skip` of which hold a key: the index of the first that fails check 4, or the FIELD records and the key's bytes. -/
def State.readRecords (s : State) (bs : List Byte) (nrec : Nat) :
    Nat → Nat → List (Nat × W32 × W32) → List Byte → Nat ⊕ (List (Nat × W32 × W32) × List Byte)
  | 0, _, fs, key => .inr (fs.reverse, key)
  | k + 1, skip, fs, key =>
    let i := nrec - (k + 1)
    if skip ≠ 0 then s.readRecords bs nrec k (skip - 1) fs key
    else
      let w0 := wordAt bs (8 + 2 * i)
      let w1 := wordAt bs (9 + 2 * i)
      let addr := bits w0 25 4
      if bits w0 3 0 = 1 then
        let mask := BitVec.ofNat 32 (bits w1 31 0)
        if bits w0 31 26 ≠ 0 ∨ bits w1 63 32 ≠ 0 ∨ s.recordBits addr = 0 ∨ mask &&& ~~~(BitVec.ofNat 32 (s.recordBits addr)) ≠ 0 then .inl i
        else s.readRecords bs nrec k 0 ((addr, BitVec.ofNat 32 (bits w0 63 32), mask) :: fs) key
      else if bits w0 3 0 = 2 then
        if w0.toNat ≠ 2 ∨ w1 ≠ 0 ∨ k < 6 then .inl i
        else s.readRecords bs nrec k 6 fs ((bs.drop (64 + 16 * (i + 1))).take 96)
      else .inl i

/-! ### Validation (R691) -/

/-- The block as the records of an image would set it: the ground of the consistency rules. -/
def State.trial (s : State) (fs : List (Nat × W32 × W32)) : State := { State.resetOf s.build with imgRegs := fs.foldl addField [] }

/-- A record sets some bit of a field. -/
def State.given (s : State) (f : RF) : Bool :=
  let has := fun (a lo w : Nat) => match Tab.get s.imgRegs a with
    | some e => decide (e.2.toNat / 2 ^ lo % 2 ^ w ≠ 0)
    | none => false
  if f.lo + f.w > 32 then has f.addr 0 32 || has (f.addr + 4) 0 32 else has f.addr f.lo f.w

/-- The HBM regions of R692, each with its base and size. -/
def hbmRegions : List (RF × RF) :=
  [(Reg.DST_HBMMBASE_BASE, Reg.DST_HBMMSIZE_SIZE), (Reg.SPN_HBMCBASE_BASE, Reg.SPN_HBMCSIZE_SIZE), (Reg.TRC_ARCHBASE_BASE, Reg.TRC_ARCHSIZE_SIZE),
   (Reg.STR_RTXBASE_BASE, Reg.STR_RTXSIZE_SIZE), (Reg.SKN_OVFBASE_BASE, Reg.SKN_OVFSIZE_SIZE), (Reg.SKN_DUMPBASE_BASE, Reg.SKN_DUMPSIZE_SIZE)]

def hbmBytes : Nat := 96000000000

/-- Two ranges of base and size share a byte. -/
def overlap (a b : Nat × Nat) : Bool := decide (a.1 < b.1 + b.2) && decide (b.1 < a.1 + a.2)

/-- Some pair of a list overlaps. -/
def anyOverlap : List (Nat × Nat) → Bool
  | [] => false
  | x :: l => l.any (overlap x) || anyOverlap l

/-- Every place field of a place beyond its first `depth` is 0 (R30, R36). -/
def placeFits (depth place : Nat) : Bool := place % 2 ^ beyond depth == 0

/-- R36: a valid route entry with a depth of 0 or 7 or a field beyond its depth, or two valid entries alike. -/
def State.routesBad (s : State) : Bool :=
  let vs := (List.range 32).filter s.routeValid
  let ent := fun (p : Nat) => (s.fget (Reg.STR_ROUTE_PREFIX.at p), s.fget (Reg.STR_ROUTE_DEPTH.at p))
  vs.any fun p => (ent p).2 == 0 || (ent p).2 == 7 || !placeFits (ent p).2 (ent p).1 || vs.any fun q => decide (p < q) && ent p == ent q

/-- R692 and R654, R666: the HBM regions that records give. -/
def State.regionsBad (s : State) : Bool :=
  let rs := ((hbmRegions.filter fun e => s.given e.1 && s.given e.2).map fun e => (s.fget e.1, s.fget e.2))
  let ports := (List.range 36).filter fun p => s.given (Reg.STR_PCFG_LANES.at p)
  let need := sumN (ports.map fun p => 1024 * (let lanes := s.fget (Reg.STR_PCFG_LANES.at p)
    let rate := s.fget (Reg.STR_PCFG_RATE.at p)
    if rate = 0 then 775 else if lanes = 4 then 3100 else 1550))
  rs.any (fun r => r.1 % 4096 != 0 || decide (r.1 + r.2 > hbmBytes)) || anyOverlap rs
    || (s.given Reg.STR_RTXSIZE_SIZE && decide (s.fget Reg.STR_RTXSIZE_SIZE < need))
    || (s.given Reg.SKN_OVFSIZE_SIZE && (s.fget Reg.SKN_OVFSIZE_SIZE % 64 != 0 || decide (s.fget Reg.SKN_OVFSIZE_SIZE < 262144)))
    || (s.given Reg.SKN_DUMPSIZE_SIZE && decide (s.fget Reg.SKN_DUMPSIZE_SIZE < 2097152))

/-- The partition range of entry `n` of a Leaf has LAST below FIRST (R66). -/
def State.rangesBad (s : State) : Bool :=
  (List.range 8).any fun n => s.flag (Reg.STR_PART_VALID.at n) && decide (s.fget (Reg.STR_PART_LAST.at n) < s.fget (Reg.STR_PART_FIRST.at n))

/-- Check 5: `s` is the trial block, `self` the header's own address. -/
def State.inconsistent (s : State) (self : Hank) : Bool :=
  let hub := s.build.isHub
  let t := s.tier
  (if hub then s.given Reg.STR_TIER_TIER && (t == 0 || t == 7) else t != 0)
    || ((!hub || s.given Reg.STR_TIER_TIER) && (self.toNat % 2 ^ 14 != 2048 * t || !placeFits (tierDepth t) (hPlace self)))
    || (if hub then s.routesBad || s.regionsBad else s.rangesBad || (s.given Reg.REEL_INTRU_HOSTBW && s.fget Reg.REEL_INTRU_HOSTBW == 0))

/-- Check 6: a required field has no record. -/
def State.missing (s : State) : Bool :=
  if s.build.isHub then !s.given Reg.STR_TIER_TIER || hbmRegions.any fun e => !s.given e.1 || !s.given e.2
  else !s.given Reg.REEL_INTRU_HOSTBW

/-- Checks 1 to 6 of R691 on the image's bytes: the code and record index of the first that fails, or the image. -/
def State.validate (s : State) (bs : List Byte) : (Nat × Nat) ⊕ Image :=
  let h := wordAt bs
  let keyid := bits (h 2) 15 0
  let nrec := bits (h 2) 31 16
  let body := 64 + 16 * nrec
  if bits (h 0) 31 0 ≠ 0x4D495A54 ∨ bits (h 0) 47 32 ≠ 1 ∨ bits (h 0) 49 48 ≠ b2n s.build.isHub ∨ bits (h 0) 63 50 ≠ 0 ∨ bits (h 2) 63 32 ≠ 0
    ∨ bits (h 3) 63 48 ≠ 0 ∨ h 4 ≠ 0 ∨ h 5 ≠ 0 ∨ h 6 ≠ 0 ∨ h 7 ≠ 0 then .inl (1, 0)
  else if !(match Tab.get s.boot.rom keyid with
      | some q => decide (body + 96 ≤ bs.length) && signatureOk q.1 q.2 ((bs.drop body).take 96) (bs.take body)
      | none => false) then .inl (2, 0)
  else if bs.length < 160 + 16 * nrec ∨ nrec = 0 ∨ nrec > 16374 then .inl (3, 0)
  else match s.readRecords bs nrec nrec 0 [] [] with
    | .inl i => .inl (4, i)
    | .inr (fields, stapleKey) =>
      let self : Hank := BitVec.ofNat 48 (bits (h 3) 47 0)
      let t := s.trial fields
      if t.inconsistent self then .inl (5, 0)
      else if t.missing then .inl (6, 0)
      else .inr { imgid := h 1, self, keyid, fields, stapleKey }

/-- An image is being verified or applied (R693). -/
def State.imageBusy (s : State) : Bool := s.boot.verify.isSome || s.bootStep == 3

/-- IMG_LOAD (R691, R693): verification takes the bytes as they stand in the staging buffer, and ends with IMAGE_VERIFY_DONE. -/
def State.imgLoad (s : State) (r : Running) : State :=
  let bs := s.operand r
  s.checked r { zero := decide (r.d.len.toNat = 0), reads := true } fun s =>
    s.guarded r [(s.imageBusy, stSTATE)] fun s =>
      let s1 : State := { s with boot := { s.boot with verify := some { r with b := { r.b with data := bs } } } }
      if s1.bootStep = 1 then s1.fset Reg.SNG_RSTCAUSE_STATE 2 else s1

/-- IMG_LOAD (R691). -/
def execImgLoad (src : Src) (d : Desc) (b : Bus) (s : State) : Host.Outcome State Fault Refusal :=
  act s (s.command (.imgLoad src d b) src d b 0x83 .m false State.imgLoad)

/-! ### Block resets (R682, R687, R698) -/

/-- The outputs that a reset drives low, and the lanes that it holds idle (R682). -/
def State.pinsLow (s : State) : State :=
  let fences := ((List.range 64).filter fun n => !s.build.isHub && s.fget Reg.SNG_FOUT_FENCED / 2 ^ n % 2 == 1).map fun n => Emission.pin (.fence n) false
  let gens := s.whl.gens.flatMap fun e => [Emission.pin (.slot e.1) false, .pin (.quiet e.1) false]
  let tr := (List.range 32).map fun i => Emission.pin (.traceEnable i) false
  let lanes := ((List.range 36).filter (hasPort s.build)).map fun p => Emission.lanes p true
  let l := [Emission.pin .alive false, .pin .start false] ++ fences ++ gens ++ (if s.build.isHub then [] else tr) ++ lanes
  l.foldl State.emit s

/-- What the Skein log's supply keeps through a block reset (R653, R666, R687). -/
def Skein.kept (x : Skein) : Skein :=
  { recs := x.recs, ovf := x.ovf, next := x.next, dump := x.dump, refused := x.refused, dbgPos := x.dbgPos }

/-- A page 0x03 word that a block reset keeps: all but SKN_CTRL (R676). -/
def sknKept (k : Nat) : Bool := wordOf k / 4096 == 3 && wordOf k != 0x3000

/-- A block reset with its cause, and the image that it keeps (R685 to R688, R693, R698). -/
def State.blockReset (s : State) (cause : Nat) (image : Option Image) : State :=
  let s0 := s.pinsLow.logThaw
  let t := State.resetOf s0.build
  let u : State := { t with
    pending := s0.pending
    fresh := s0.fresh
    out := s0.out
    regs := (s0.regs.filter fun e => sknKept e.1).foldl (fun r e => Tab.set r e.1 e.2) t.regs
    imgRegs := s0.imgRegs.filter fun e => sknKept e.1
    skn := s0.skn.kept
    stp := s0.stapleKept
    snag := { t.snag with unitExp := s0.snag.unitExp.filter fun e => e.2 == (0, 32) }
    hif := { t.hif with staging := s0.hif.staging }
    boot := { t.boot with rom := s0.boot.rom, image, hbmReady := s0.boot.hbmReady } }
  ((u.fset Reg.SNG_RSTCAUSE_IMGERR (s0.fget Reg.SNG_RSTCAUSE_IMGERR)).fset Reg.SNG_RSTCAUSE_CAUSE cause).fset Reg.SNG_RSTCAUSE_STATE 0

/-- POWER_ON (R678): nothing that the block held survives, but for its mask ROM. -/
def execPowerOn (s : State) : Host.Outcome State Fault Refusal :=
  act s { (State.resetOf s.build) with pending := s.pending, fresh := s.fresh, out := s.pinsLow.out, boot := { rom := s.boot.rom } }

/-- SUPPLY_DROP (R678). -/
def execSupplyDrop (s : State) : Host.Outcome State Fault Refusal := act s (s.blockReset 4 none)

/-- RESET_PIN (R685). -/
def execResetPin (s : State) : Host.Outcome State Fault Refusal := act s (s.blockReset 2 none)

/-- PCIE_RESET (R683): on a Hub, HIF_CTRL is cleared and every enabled slice is disabled. -/
def execPcieReset (s : State) : Host.Outcome State Fault Refusal :=
  act s (if !s.build.isHub then s
    else ((List.range (nSlices s.build)).filter s.enabled).foldl State.disableSlice (s.regSet Reg.HIF_CTRL_HOST_EN.addr 0))

/-- HBM_READY (R684). -/
def execHbmReady (s : State) : Host.Outcome State Fault Refusal :=
  act s (if !s.build.isHub then s else { s with boot := { s.boot with hbmReady := true } })

/-- ISLAND_CLOCK_LOCK (R680, R698 step 2): FT begins to count; an image kept through the reset goes straight to its application. -/
def execIslandClockLock (s : State) : Host.Outcome State Fault Refusal :=
  act s (if s.whl.clock then s
    else
      let s1 : State := { s with whl := { s.whl with clock := true } }
      if s1.bootStep = 0 then s1.fset Reg.SNG_RSTCAUSE_STATE (if s1.boot.image.isSome then 3 else 1) else s1)

/-- ISLAND_CLOCK_STOP (R516): FT and the generators stop, and ALIVE, derived from the clock, has no further edge. -/
def execIslandClockStop (s : State) : Host.Outcome State Fault Refusal :=
  act s { s with whl := { s.whl with clock := false } }

/-! ### The end of verification and of application -/

/-- IMAGE_VERIFY_DONE (R691, R693, R698 steps 3 and 4). -/
def execImageVerifyDone (s : State) : Host.Outcome State Fault Refusal :=
  act s (match s.boot.verify with
    | none => s
    | some r =>
      let s1 : State := { s with boot := { s.boot with verify := none } }
      match s1.validate r.b.data with
      | .inl (code, i) =>
        let s2 := ((s1.bump Reg.SNG_RSTCAUSE_IMGERR).raise fCONFIG 0 (s1.unit 0) code).complete r stBAD_FIELD (code * 2 ^ 20 + i) r.d.session.toNat
        if s2.bootStep = 2 then s2.fset Reg.SNG_RSTCAUSE_STATE 1 else s2
      | .inr img =>
        let s2 := s1.completeOk r 0
        if s2.bootStep = 2 then { s2 with boot := { s2.boot with image := some img } }.fset Reg.SNG_RSTCAUSE_STATE 3
        else s2.blockReset 3 (some img))

/-- Two masks name one down-port (R51), or two valid ranges one host unit (R52). -/
def State.partsOverlap (s : State) : Bool :=
  if s.build.isHub then
    (List.range 32).any fun p => decide (((List.range 16).filter fun n => bit (s.regGet (Reg.STR_PART_PORTS.at n).addr) p).length > 1)
  else
    anyOverlap (((List.range 8).filter fun n => s.flag (Reg.STR_PART_VALID.at n)).map fun n =>
      (s.fget (Reg.STR_PART_FIRST.at n), s.fget (Reg.STR_PART_LAST.at n) + 1 - s.fget (Reg.STR_PART_FIRST.at n)))

/-- Apply an image (R690, R698 step 5): its records and its header's values. -/
def State.applyImage (s : State) (img : Image) : State :=
  let t := img.fields.foldl addField s.imgRegs
  let s1 : State := { s with
    imgRegs := t
    regs := s.regs.map fun e => (e.1, imgMerge (Tab.get t (wordOf e.1)) e.2)
    boot := { s.boot with applied := true, linksFt := s.now } }
  let s2 := ((s1.fset Reg.ID_IMGID_IMGID img.imgid.toNat).fset Reg.ID_SELF_HANK img.self.toNat).fset Reg.ID_KEYID_KEYID img.keyid
  let s3 := (s2.fset Reg.ID_STATUS_IMAGE 1).fset Reg.SNG_RSTCAUSE_STATE 4
  let ps := (List.range 36).filter fun p => hasPort s3.build p && s3.flag (Reg.STR_PCTRL_EN.at p)
  let s4 := ps.foldl (fun s p => s.emit (.lanes p false)) s3
  if s4.partsOverlap then
    let f := s4.freeWord
    f.2.raise fCONFIG 0 (s4.unit 0) f.1.toNat
  else s4

/-- IMAGE_APPLY_DONE (R698 step 5): on a Hub, not before HBM is ready (R684). -/
def execImageApplyDone (s : State) : Host.Outcome State Fault Refusal :=
  act s (match s.boot.image with
    | some img => if s.bootStep = 3 ∧ (!s.build.isHub ∨ s.boot.hbmReady) then s.applyImage img else s
    | none => s)

/-! ### The site table (R697) -/

def State.siteLoad (s : State) (r : Running) : State :=
  let bs := s.operand r
  let w := wordAt bs
  let len := r.d.len.toNat
  s.checked r { zero := decide (len = 0), tooLong := decide (len < 32), reads := true } fun s =>
    s.guarded r [(bits (w 0) 31 8 != 0 || bits (w 1) 63 51 != 0 || bits (w 2) 63 48 != 0 || w 3 != 0 || bits (w 0) 7 0 != hSite s.self, stBAD_FIELD)] fun s =>
      let s1 := ((s.fset Reg.TWS_CLOSE0_NS (bits (w 1) 15 0)).fset Reg.TWS_STEP_NS (bits (w 1) 31 16)).fset Reg.TWS_AMEND_US (bits (w 1) 47 32)
      let s2 := (s1.fset Reg.WHL_CTRL_SYNC_IVL (bits (w 1) 50 48)).fset Reg.SNG_DEAD_US (bits (w 2) 15 0)
      let s3 := (s2.fset Reg.SNG_SILENT_US (bits (w 2) 31 16)).fset Reg.STR_STARTCFG_LEAD (bits (w 2) 47 32)
      (s3.fset Reg.ID_TABLEID_TABLEID (bits (w 0) 63 32)).completeOk r 0

/-- SITE_LOAD (R697). -/
def execSiteLoad (src : Src) (d : Desc) (b : Bus) (s : State) : Host.Outcome State Fault Refusal :=
  act s (s.command (.siteLoad src d b) src d b 0x62 .m false State.siteLoad)

end Sys2Proof.Machine
end

