-- ==== Sys2Proof/Machine/Reset.lean ====
section
/-! DEFINITION. Unit and partition resets (R685 to R688, R702) and the lifting of fences (R514). -/

namespace Sys2Proof.Machine

/-! ### Registers and queues -/

/-- Registers of the words from `lo` up to `hi` return to their reset values, but for the words that `keep` names (R687). -/
def State.resetWords (s : State) (lo hi : Nat) (keep : Nat → Bool) : State :=
  let stays := fun (k : Nat) => decide (wordOf k < lo) || decide (hi ≤ wordOf k) || keep (wordOf k)
  { s with regs := s.regs.filter fun e => stays e.1, staged := s.staged.filter fun e => stays e.1 }

def State.resetPage (s : State) (page : Nat) : State := s.resetWords (page * 4096) (page * 4096 + 4096) fun _ => false

/-- Drop `n` items at a point under RESET (R151). -/
def State.dropReset (s : State) (kind inst n : Nat) : State := if n = 0 then s else s.ledDrop kind inst rsnRESET n

/-- The verdict queue of a slice is dropped. -/
def State.dropVerdicts (s : State) (n : Nat) : State :=
  let x := s.slice n
  ((s.setSlice n { x with vq := [] }).dropReset 5 n x.vq.length).dropReset 0xD n x.vq.length

/-- The egress queues of a port are dropped at the Bobbin. -/
def State.dropEgress (s : State) (p : Nat) : State :=
  (List.range 8).foldl (fun s c =>
    let l := (s.port p).egress.getD c []
    if l.isEmpty then s
    else ((s.modPort p fun x => { x with egress := listSet x.egress c [] }).dropReset 5 (egressQ p c) (cellsSum l)).endFrames l) s

/-- The queues of the Reel's tags and of Staple's results are dropped. -/
def State.dropTags (s : State) : State := ({ s with reel := { s.reel with tags := [] } }).dropReset 5 66 s.reel.tags.length
def State.dropResults (s : State) : State := ({ s with stp := { s.stp with results := [] } }).dropReset 5 65 s.stp.results.length

/-! ### What each unit's reset clears -/

/-- Snag (R538): the die entries; fences, levels, the fault queue and SNG_UNACK stay. -/
def State.resetSnag (s : State) : State :=
  let keep : List RF := [Reg.SNG_STATUS_LEVEL, Reg.SNG_STATUS_STOPPED, Reg.SNG_STATUS_ALIVE_RUN, Reg.SNG_FSTAT_PARTS]
  let s1 := ({ s with snag := { s.snag with dies := [] } }).resetWords 0x2000 0x3000 fun k =>
    k == Reg.SNG_UNACK_CLASS.addr || k == Reg.SNG_FOUT_FENCED.addr || k == Reg.SNG_FOUT_FENCED.addr + 4 || decide (0x20B4 ≤ k ∧ k ≤ 0x20B8)
  keep.foldl (fun t f => t.fset f (s.fget f)) s1

/-- The host interface: rings, queues and the registers of its pages. -/
def State.resetHif (s : State) : State :=
  let s1 := (List.range (nSlices s.build)).foldl (fun s n =>
    let x := s.slice n
    ((s.failStalls n fun _ => true).dropVerdicts n).dropReset 0xD n x.cplWait.length) s
  ({ s1 with hif := { s1.hif with slices := [] } }.resetPage 4).resetPage 5

/-- The Reel (R235); the sets of REEL_BIND stay. -/
def State.resetReel (s : State) : State :=
  let s1 := s.resetReads.dropTags
  let r : Reel := { s1.reel with srcs := [], lfsr := 1, stats := [0, 0, 0, 0, 0, 0, 0, 0] }
  { s1 with reel := r }.resetWords 0x6000 0x7000 fun k => decide (0x6080 ≤ k ∧ k < 0x60C0)

/-- Trace on a Leaf (R274); on a Hub the archive's records stay. -/
def State.resetTrace (s : State) : State :=
  if s.build.isHub then s.resetWords 0x7000 0x8000 fun k => decide (0x7054 ≤ k ∧ k ≤ 0x7058)
  else s.traceReset.resetPage 7

/-- Change what every session keeps for its members. -/
def State.mapMembers (s : State) (f : Member → Member) : State :=
  { s with crd := Tab.mapV (fun _ (x : Sess) => { x with members := Tab.mapV (fun _ m => f m) x.members }) s.crd }

/-- The Carder (R299): its vectors and every session's previous keys. -/
def State.resetCarder (s : State) : State :=
  let s1 := s.crd.foldl (fun s e => s.dropPending e.1) s
  (s1.mapMembers fun m => { m with keys := none }).resetPage 8

/-- Twister (R421, R457). -/
def State.resetTwister (s : State) : State :=
  let s1 := s.resetMerges
  (({ s1 with tws := { s1.tws with ranks := [], sats := [] } }).mapMembers fun m => { m with cohortIn := false }).resetPage 0xB

/-- Ply: the digests of open rounds; budgets stay (R487). -/
def State.resetPly (s : State) : State :=
  let n := sumN (s.ply.jobs.map fun e => sumN (e.2.rounds.map fun r => r.got.length))
  let jobs : Tab Job := s.ply.jobs.map fun e => (e.1, { e.2 with rounds := [] })
  (({ s with ply := { s.ply with jobs } }).dropReset 0xB 0 n).resetWords 0xC000 0xD000 fun k => decide (0xC040 ≤ k ∧ k < 0xC080)

/-- The Bobbin pool: every queue but the fault queue and the log's. -/
def State.resetBobbin (s : State) : State :=
  let s1 := (List.range (nSlices s.build)).foldl State.dropVerdicts s
  let s2 := (ports.filter (hasPort s.build)).foldl State.dropEgress s1.dropTags.dropResults.resetMerges
  let s3 := s2.crd.foldl (fun s e => if e.2.queue.isSome then s.dropPending e.1 else s) s2
  let s4 := ports.foldl (fun s p => s.retryStalled (s.port p).stalled.length p) s3
  s4.resetWords 0xE000 0xE100 fun _ => false

/-- Draft: its buckets and the commits that pend. -/
def State.resetDraft (s : State) : State :=
  { s with drf := { s.drf with buckets := [], povh := [], commits := [] } }.resetWords 0xE100 0xF000 fun _ => false

/-- A Spindle (R356): the vectors whose record it would build, and the cached values of its trees. -/
def State.resetSpindle (s : State) (n : Nat) : State :=
  let s1 := (s.dst.evals.filter fun e => e.scorer == n).foldl (fun s e => s.dropEval e rsnRESET) s
  let s2 := (s1.dropCacheOf (if s.build.isHub then n else 0)).resetPage (0x40 + n)
  s2.fset (Reg.SPN_STAT_FENCED.at n) (b2n (s.isFenced (0x40 + n)))

/-- A Strand port: its link goes down, its retransmit buffer is dropped, and it trains again. -/
def State.resetPort (s : State) (p : Nat) : State :=
  let st := if s.pState p = 4 then 4 else 0
  let s1 := s.linkDown p st
  let gone := (s1.port p).rtx ++ (s1.port p).held
  let s2 := ((s1.modPort p fun x => { x with rtx := [], held := [] }).dropReset 7 p gone.length).endFrames gone
  let homed := s2.fget (Reg.STR_PSTAT_HOMED.at p)
  ((s2.resetPage (0x80 + p)).fset (Reg.STR_PSTAT_STATE.at p) st).fset (Reg.STR_PSTAT_HOMED.at p) homed

/-- What the reset of a sub-unit clears, at its start. -/
def State.unitEffects (s : State) (sub : Nat) : State :=
  match sub with
  | 0x2 => s.resetSnag
  | 0x4 => s.resetHif
  | 0x6 => s.resetReel
  | 0x7 => s.resetTrace
  | 0x8 => s.resetCarder
  | 0xA => s.resetWords 0xA000 0xB000 fun k => k == Reg.DST_GEN_GEN.addr
  | 0xB => s.resetTwister
  | 0xC => s.resetPly
  | 0xE => s.resetBobbin
  | 0xF => (s.resetWords 0xF000 0x10000 fun k => decide (0xF040 ≤ k ∧ k < 0xF0A0)).fset Reg.TNS_STATUS_DROOP_LVL (s.fget Reg.TNS_STATUS_DROOP_LVL)
  | 0x10 => s.resetWords 0x10000 0x10100 fun _ => false
  | 0x11 => s.stapleReset.dropResults.resetPage 0x11
  | 0x13 => s.resetDraft
  | 0x14 => s.resetWords 0x10100 0x11000 fun _ => false
  | 0x15 => if s.build.isHub then s else s.traceReset
  | _ =>
    if 0x40 ≤ sub ∧ sub < 0x80 then s.resetSpindle (sub - 0x40)
    else if 0x80 ≤ sub ∧ sub < 0xA4 then s.resetPort (sub - 0x80)
    else s

/-! ### Starting and ending (R686, R688, R514) -/

/-- A sub-unit that a unit reset may name. -/
def resettable (b : Build) (sub : Nat) : Bool := unitExists b sub && !(decide (sub ∈ [0, 1, 3, 0x12]))

/-- A unit reset is requested: ignored during an F3 stop, counted for a sub-unit that cannot be reset, merged with one that runs. -/
def State.startUnitReset (s : State) (sub : Nat) : State :=
  if s.stopped then s
  else if !resettable s.build sub then s.bump Reg.HIF_ERR_UNMAPPED
  else
    let s1 := if (Tab.get s.snag.resets sub).isSome then s else s.unitEffects sub
    { s1 with snag := { s1.snag with resets := Tab.set s1.snag.resets sub s.now } }

/-- A partition reset is requested. -/
def State.startPartReset (s : State) (n : Nat) : State :=
  if s.stopped then s
  else if nParts s.build ≤ n then s.bump Reg.HIF_ERR_UNMAPPED
  else
    let s1 := if (Tab.get s.snag.partResets n).isSome || !s.build.isHub then s else (s.partPorts n).foldl State.resetPort s
    { s1 with snag := { s1.snag with partResets := Tab.set s1.snag.partResets n s.now } }

/-- The lanes of a port are held no longer by a fence. -/
def State.freePort (s : State) (p : Nat) : State :=
  let s1 := if p < 32 then s.setFout p (s.isFenced (portSub p)) else s
  if s1.portFenced p || s1.pState p != 4 then s1
  else
    let s2 := s1.fset (Reg.STR_PSTAT_STATE.at p) 0
    if s2.flag (Reg.STR_PCTRL_EN.at p) && !s2.stopped then s2.emit (.lanes p false) else s2

/-- A host unit's outputs fall unless a fence of a wider scope covers it. -/
def State.freeHost (s : State) (u : Nat) : State := if s.hostCovered u || s.stopped then s else s.assertOutputs u false

/-- Lift the F1 fence of a sub-unit. -/
def State.liftUnit (s : State) (sub : Nat) : State :=
  if !s.isFenced sub then s
  else
    let s1 := { s with snag := { s.snag with unitFence := Tab.del s.snag.unitFence sub } }
    if 0x100 ≤ sub then s1.freeHost sub
    else if 0x80 ≤ sub ∧ sub < 0xA4 then s1.freePort (sub - 0x80)
    else if 0x40 ≤ sub ∧ sub < 0x80 then s1.fset (Reg.SPN_STAT_FENCED.at (sub - 0x40)) 0
    else s1

/-- Lift the F2 fence of a partition, and every unit fence inside it. -/
def State.liftPart (s : State) (n : Nat) : State :=
  let s1 := s.fset Reg.SNG_FSTAT_PARTS (putBits (s.fget Reg.SNG_FSTAT_PARTS) n 1 0)
  let s2 : State := { s1 with snag := { s1.snag with partIdle := Tab.del s1.snag.partIdle n } }
  let inside := fun (sub : Nat) => if s.build.isHub then decide (0x80 ≤ sub ∧ sub < 0xA0) && s.portPart (sub - 0x80) == n
    else decide (0x100 ≤ sub) && s.hostPart sub == some n
  let s3 := ((s2.snag.unitFence.map (·.1)).filter inside).foldl State.liftUnit s2
  if s.build.isHub then (s3.partPorts n).foldl State.freePort s3 else (s3.partUnits n).foldl State.freeHost s3

/-- UNIT_RESET (R686): SNG_RESET written with SCOPE 1 and GO. The register is write-only: an alias write does nothing. -/
def execUnitReset (a : Acc) (unit : BitVec 11) (s : State) : Host.Outcome State Fault Refusal :=
  act s (s.regAccess (.unitReset a unit) a 2 fun s => if a.bitAlias ≠ 0 then s else s.startUnitReset unit.toNat)

/-- PARTITION_RESET (R685): SNG_RESET written with SCOPE 2 and GO. -/
def execPartitionReset (a : Acc) (part : BitVec 4) (s : State) : Host.Outcome State Fault Refusal :=
  act s (s.regAccess (.partitionReset a part) a 2 fun s => if a.bitAlias ≠ 0 then s else s.startPartReset part.toNat)

/-- UNIT_RESET_END (R687, R514). -/
def execUnitResetEnd (unit : Nat) (s : State) : Host.Outcome State Fault Refusal :=
  act s (if (Tab.get s.snag.resets unit).isNone then s
    else ({ s with snag := { s.snag with resets := Tab.del s.snag.resets unit } }.liftUnit unit).bump Reg.SNG_RSTSTAT_COUNT)

/-- PARTITION_RESET_END (R514). -/
def execPartitionResetEnd (part : Nat) (s : State) : Host.Outcome State Fault Refusal :=
  act s (if (Tab.get s.snag.partResets part).isNone then s
    else ({ s with snag := { s.snag with partResets := Tab.del s.snag.partResets part } }.liftPart part).bump Reg.SNG_RSTSTAT_COUNT)

end Sys2Proof.Machine
end

