-- ==== Sys2Proof/Machine/RegWrite.lean ====
section
/-! DEFINITION. The write of any register (R162 to R171, R703 to R709): where an address leads on each port, and what the write does there. -/

namespace Sys2Proof.Machine

/-! ### Where a write goes -/

/-- What an address names: a register word with its alias, a doorbell block, or nothing. -/
inductive Target where
  | word (al : BitVec 2) (page off : Nat)
  | doorbell (slice off : Nat)
  | unmapped
  deriving DecidableEq, Repr

/-- A word of a page, if the page is assigned; the block decodes offset bits [9:2] (R163, R164). -/
def targetWord (al page off : Nat) : Target :=
  if pageAssigned page then .word (BitVec.ofNat 2 al) page (off / 4 % 256 * 4) else .unmapped

/-- The Leaf's folded window (R705 to R707); its slot 14 reaches the page of the host port's ID_LBANK. -/
def State.windowTarget (s : State) (w : Nat) : Target :=
  let slot := w / 1024 % 16
  let al := w / 16384 % 4
  if slot < 14 then targetWord al slot w
  else if slot = 14 then targetWord al (s.selGet .host Reg.ID_LBANK_PAGE) w
  else if al = 0 then .doorbell (w / 64 % 16) (w / 4 % 16 * 4)
  else .unmapped

/-- Where an address leads on a port: BAR0 on a Hub, the window on a Leaf, the unfolded address on the management port (R703, R705, R709). -/
def State.place (s : State) (p : PortId) (addr : Nat) : Target :=
  if p = .host ∧ !s.build.isHub then s.windowTarget (addr % 65536)
  else if addr / 2 ^ 22 ≠ 0 then .unmapped
  else targetWord (addr / 2 ^ 20) (addr / 4096 % 256) (addr % 4096)

/-! ### What a write does -/

/-- The low words of the 64-bit RW registers (R171). -/
def isLow64 (a : Nat) : Bool :=
  decide (a ∈ [0x2090, 0x5020, 0x5028, 0x5030, 0x5038, 0x6030, 0x7010]) || (decide (0x7200 ≤ a ∧ a < 0x7300) && a % 16 == 8)

/-- Bits of a word that a write sets in this build. -/
def State.writeBits (s : State) (a : Nat) (r : RegRow) : Nat := ((BitVec.ofNat 32 r.wmask) &&& (BitVec.ofNat 32 (s.hasBits a))).toNat

/-- A write that a register merely holds (R10, R12, R167, R168, R171); a native write of 1 clears a W1C bit. -/
def State.holdWrite (s : State) (acc : Acc) (a : Nat) (v : W32) : State :=
  match s.bankKey acc.port a, rowOf a with
  | some k, some r =>
    let m := s.writeBits a r
    let s1 := if acc.bitAlias = 0 ∧ r.w1c ≠ 0 then s.regSet k (s.regGet k &&& ~~~(v &&& BitVec.ofNat 32 r.w1c)) else s
    if m = 0 then s1
    else if isLow64 a then s1.writeLow k m acc v
    else if isLow64 (a - 4) then s1.writeHigh (k - 4) m acc v
    else s1.regSet k (writtenWord r.kind m acc.bitAlias (s1.regGet k) v)
  | _, _ => s

/-- The bits that a write makes 1 in a word of acts, which reads 0. -/
def acts (acc : Acc) (v : W32) : W32 := maskedWord acc.bitAlias 0 v

/-- A write of SNG_RESET (R702). -/
def State.resetWrite (s : State) (acc : Acc) (v : W32) : State :=
  if acc.bitAlias ≠ 0 ∨ !(bit v 17) then s
  else match bits v 16 15 with
    | 1 => s.startUnitReset (bits v 10 0)
    | 2 => s.startPartReset (bits v 14 11)
    | _ => s.bump Reg.HIF_ERR_UNMAPPED

/-- A write of TRC_CTRL: DSYNC is held, FREEZE and TRIG act (R275, R279, R294). -/
def State.trcCtrlWrite (s : State) (acc : Acc) (v : W32) : State :=
  let w := maskedWord acc.bitAlias (s.regGet Reg.TRC_CTRL_DSYNC.addr) v
  let s1 := s.fset Reg.TRC_CTRL_DSYNC (bits w 5 2)
  if s.build.isHub then s1
  else
    let s2 := if bit w 0 then s1.freezeNow else s1
    if bit w 1 then s2.trigNow else s2

/-- A write of TRC_TRIGFT: a timer is armed for its instant (R110, R275). -/
def State.trigFtWrite (s : State) (acc : Acc) (v : W32) : State :=
  let s1 := s.holdWrite acc 0x7014 v
  if s.build.isHub then s1 else ((s1.disarm .trcTrig).armTimer (s1.fget Reg.TRC_TRIGFT_FT) .trcTrig).1

/-- A write of REEL_TAGSEED: the LFSR takes the seed, 0 as 1 (R243, R258). -/
def State.seedWrite (s : State) (acc : Acc) (v : W32) : State :=
  let s1 := s.holdWrite acc 0x6024 v
  let w := s1.regGet 0x6024
  if s.build.isHub then s1 else { s1 with reel := { s1.reel with lfsr := if w = 0 then 1 else w } }

/-- Pages 0x01 to 0x05. -/
def State.writeLowPages (s : State) (acc : Acc) (a : Nat) (v : W32) : State :=
  let n := s.selGet acc.port Reg.SLC_SEL_SLICE
  match a with
  | 0x1028 => s.adjWrite acc v
  | 0x102C => if acc.bitAlias = 0 then s.whlStep v else s
  | 0x2008 => s.unackWrite acc v
  | 0x2014 => s.fpopWrite acc v
  | 0x2018 => s.fenceWrite acc v
  | 0x2074 => if bit (acts acc v) 0 then s.dieRestore (s.selGet acc.port Reg.SNG_DSEL_PORT) else s
  | 0x2094 => s.sendClaim acc v
  | 0x20B0 => s.resetWrite acc v
  | 0x4000 => if s.running then s.holdWrite acc a v else s
  | 0x4004 => s.fnmodeWrite acc v
  | 0x5010 => s.slcCtrlWrite acc v
  | _ =>
    if 0x11C0 ≤ a ∧ a < 0x11D0 then s.asymWrite acc ((a - 0x11C0) / 4) v
    else if 0x1200 ≤ a ∧ a < 0x1380 ∧ a % 32 = 0 then s.genWrite acc ((a - 0x1200) / 32) v
    else if 0x5020 ≤ a ∧ a < 0x5044 ∧ s.enabled n then s
    else s.holdWrite acc a v

/-- The other pages. -/
def State.writeHighPages (s : State) (acc : Acc) (a : Nat) (v : W32) : State :=
  match a with
  | 0x6000 => (s.holdWrite acc a v).tagAll
  | 0x6024 => s.seedWrite acc v
  | 0x6034 => (s.holdWrite acc a v).tagAll
  | 0x7000 => s.trcCtrlWrite acc v
  | 0x7014 => s.trigFtWrite acc v
  | 0xB050 => s.writeRank acc v
  | 0xB090 => if bit (acts acc v) 0 then s.pubSend else s
  | 0xE024 => s.limitWrite acc v
  | 0xE028 => s.guarWrite acc v
  | 0xE02C => s.levelWrite acc v
  | 0xE110 => if bit (acts acc v) 0 then s.commitShadows (s.selGet acc.port Reg.DRF_SEL_PORT) else s
  | 0x10000 => s.cvuCtrl acc v
  | 0x10010 => if acc.bitAlias = 0 then s.cvuTake (toBytes 4 v.toNat) else s
  | 0x10014 => if acc.bitAlias = 0 then s.cvuTail v else s
  | 0x1102C => s.stpRunWrite acc v
  | 0x11040 => if bit (acts acc v) 0 then s.unitRestore (s.selGet acc.port Reg.STP_USEL_UNIT) else s
  | _ =>
    if 0x6040 ≤ a ∧ a < 0x6080 ∧ s.flag (Reg.REEL_SETSTAT_BOUND.at ((a - 0x6040) / 4)) then s
    else if 0x7100 ≤ a ∧ a < 0x7300 ∧ !(decide (s.trcState ∈ [tIDLE, tFROZEN])) then s
    else if 0xB050 ≤ a ∧ a < 0xB090 ∧ s.rankOn (s.selGet acc.port Reg.TWS_RKSEL_RULE) then s
    else if 0x80000 ≤ a ∧ a < 0xA4000 ∧ a % 4096 = 0 then s.pctrlWrite (a / 4096 - 0x80) acc v
    else s.holdWrite acc a v

/-- A write of the register word at page × 4096 + offset. -/
def State.writeReg (s : State) (acc : Acc) (a : Nat) (v : W32) : State :=
  if a < 0x6000 then s.writeLowPages acc a v else s.writeHighPages acc a v

/-- A doorbell of the Leaf's window (R707, R218). -/
def State.windowBell (s : State) (a : Acc) (n off : Nat) (v : W32) : State :=
  if !a.full then s.refuseAccess Reg.HIF_ERR_PARTIAL 0
  else s.doorbell a.pasid n fun s =>
    if off = 0 then s.ringCmdtail n v else if off = 4 then s.ringCplhead n v else if off = 8 then s.ringVrdhead n v else s

/-- REGISTER_WRITE (R167): the alias is the one that the address carries. -/
def execRegisterWrite (a : Acc) (addr : BitVec 24) (v : W32) (s : State) : Host.Outcome State Fault Refusal :=
  act s (match s.place a.port addr.toNat with
    | .word al page off => s.regAccess (.registerWrite a addr v) a page fun s => s.writeReg { a with bitAlias := al } (page * 4096 + off) v
    | .doorbell n off => s.windowBell a n off v
    | .unmapped => s.regAccess (.registerWrite a addr v) a 0 fun s => s.bump Reg.HIF_ERR_UNMAPPED)

end Sys2Proof.Machine
end

