-- ==== Sys2Proof/Machine/Dispatch.lean ====
section
/-! DEFINITION. One arm for each command and event: a direct call of its meaning. -/

namespace Sys2Proof.Machine

/-- The effect of a command on everything but the queue. -/
def exec (i : Instr) (s : State) : Host.Outcome State Fault Refusal :=
  match i with
  | .sessOpen src d b => Sys2Proof.Machine.execSessOpen src d b s
  | .sessClose src d b => Sys2Proof.Machine.execSessClose src d b s
  | .sessAdmit src d b => Sys2Proof.Machine.execSessAdmit src d b s
  | .sessRelease src d b => Sys2Proof.Machine.execSessRelease src d b s
  | .sessStart src d b => Sys2Proof.Machine.execSessStart src d b s
  | .sessStop src d b => Sys2Proof.Machine.execSessStop src d b s
  | .sessQuery src d b => Sys2Proof.Machine.execSessQuery src d b s
  | .modelLoad src d b => Sys2Proof.Machine.execModelLoad src d b s
  | .modelEvict src d b => Sys2Proof.Machine.execModelEvict src d b s
  | .modelDiscard src d b => Sys2Proof.Machine.execModelDiscard src d b s
  | .modelBind src d b => Sys2Proof.Machine.execModelBind src d b s
  | .modelQuery src d b => Sys2Proof.Machine.execModelQuery src d b s
  | .redBind src d b => Sys2Proof.Machine.execRedBind src d b s
  | .redUnbind src d b => Sys2Proof.Machine.execRedUnbind src d b s
  | .snapArm src d b => Sys2Proof.Machine.execSnapArm src d b s
  | .snapRead src d b => Sys2Proof.Machine.execSnapRead src d b s
  | .satRecordRead src d b => Sys2Proof.Machine.execSatRecordRead src d b s
  | .snapCancel src d b => Sys2Proof.Machine.execSnapCancel src d b s
  | .snapAuth src d b => Sys2Proof.Machine.execSnapAuth src d b s
  | .jobDeclare src d b => Sys2Proof.Machine.execJobDeclare src d b s
  | .jobStart src d b => Sys2Proof.Machine.execJobStart src d b s
  | .votePolicy src d b => Sys2Proof.Machine.execVotePolicy src d b s
  | .expelOverrideRestore src d b => Sys2Proof.Machine.execExpelOverrideRestore src d b s
  | .expelOverrideExpel src d b => Sys2Proof.Machine.execExpelOverrideExpel src d b s
  | .expelOverrideHold src d b => Sys2Proof.Machine.execExpelOverrideHold src d b s
  | .expelOverrideGrant src d b => Sys2Proof.Machine.execExpelOverrideGrant src d b s
  | .expelOverrideClearStorm src d b => Sys2Proof.Machine.execExpelOverrideClearStorm src d b s
  | .expelOverrideAttribute src d b => Sys2Proof.Machine.execExpelOverrideAttribute src d b s
  | .jobEnd src d b => Sys2Proof.Machine.execJobEnd src d b s
  | .trcConfig src d b => Sys2Proof.Machine.execTrcConfig src d b s
  | .trcArm src d b => Sys2Proof.Machine.execTrcArm src d b s
  | .trcDrain src d b => Sys2Proof.Machine.execTrcDrain src d b s
  | .trcDrainArchive src d b => Sys2Proof.Machine.execTrcDrainArchive src d b s
  | .trcRelease src d b => Sys2Proof.Machine.execTrcRelease src d b s
  | .ctrSelect src d b => Sys2Proof.Machine.execCtrSelect src d b s
  | .ctrDump src d b => Sys2Proof.Machine.execCtrDump src d b s
  | .ctrDumpTags src d b => Sys2Proof.Machine.execCtrDumpTags src d b s
  | .ctrPeriodic src d b => Sys2Proof.Machine.execCtrPeriodic src d b s
  | .timeRead src d b => Sys2Proof.Machine.execTimeRead src d b s
  | .leapLoad src d b => Sys2Proof.Machine.execLeapLoad src d b s
  | .siteLoad src d b => Sys2Proof.Machine.execSiteLoad src d b s
  | .stpLoad src d b => Sys2Proof.Machine.execStpLoad src d b s
  | .stpLoadRemove src d b => Sys2Proof.Machine.execStpLoadRemove src d b s
  | .safePoint src d b => Sys2Proof.Machine.execSafePoint src d b s
  | .stpResults src d b => Sys2Proof.Machine.execStpResults src d b s
  | .stpHealthRead src d b => Sys2Proof.Machine.execStpHealthRead src d b s
  | .logRead src d b => Sys2Proof.Machine.execLogRead src d b s
  | .logClear src d b => Sys2Proof.Machine.execLogClear src d b s
  | .dumpCapture src d b => Sys2Proof.Machine.execDumpCapture src d b s
  | .dumpRead src d b => Sys2Proof.Machine.execDumpRead src d b s
  | .dumpRelease src d b => Sys2Proof.Machine.execDumpRelease src d b s
  | .imgLoad src d b => Sys2Proof.Machine.execImgLoad src d b s
  | .slcBind src d b => Sys2Proof.Machine.execSlcBind src d b s
  | .slcResize src d b => Sys2Proof.Machine.execSlcResize src d b s
  | .slcUnbind src d b => Sys2Proof.Machine.execSlcUnbind src d b s
  | .slcQuery src d b => Sys2Proof.Machine.execSlcQuery src d b s
  | .stageWrite off data => Sys2Proof.Machine.execStageWrite off data s
  | .stageRead off len => Sys2Proof.Machine.execStageRead off len s
  | .registerWrite a addr v => Sys2Proof.Machine.execRegisterWrite a addr v s
  | .slcEnable a v => Sys2Proof.Machine.execSlcEnable a v s
  | .slcDisable a v => Sys2Proof.Machine.execSlcDisable a v s
  | .dbCmdtail pasid slice v => Sys2Proof.Machine.execDbCmdtail pasid slice v s
  | .dbCplhead pasid slice v => Sys2Proof.Machine.execDbCplhead pasid slice v s
  | .dbVrdhead pasid slice v => Sys2Proof.Machine.execDbVrdhead pasid slice v s
  | .slcVwstatRead a => Sys2Proof.Machine.execSlcVwstatRead a s
  | .verdictStallExpiry slice => Sys2Proof.Machine.execVerdictStallExpiry slice s
  | .whlAdjWrite a v => Sys2Proof.Machine.execWhlAdjWrite a v s
  | .whlStep a v => Sys2Proof.Machine.execWhlStep a v s
  | .whlAsymWrite a k v => Sys2Proof.Machine.execWhlAsymWrite a k v s
  | .genArm a n v => Sys2Proof.Machine.execGenArm a n v s
  | .hifFnmodeWrite a v => Sys2Proof.Machine.execHifFnmodeWrite a v s
  | .sngUnackWrite a v => Sys2Proof.Machine.execSngUnackWrite a v s
  | .sngFpop a v => Sys2Proof.Machine.execSngFpop a v s
  | .sngFence a v => Sys2Proof.Machine.execSngFence a v s
  | .sngClaim a v => Sys2Proof.Machine.execSngClaim a v s
  | .sngDcmdRestore a => Sys2Proof.Machine.execSngDcmdRestore a s
  | .unitReset a unit => Sys2Proof.Machine.execUnitReset a unit s
  | .partitionReset a part => Sys2Proof.Machine.execPartitionReset a part s
  | .unitResetEnd unit => Sys2Proof.Machine.execUnitResetEnd unit s
  | .partitionResetEnd part => Sys2Proof.Machine.execPartitionResetEnd part s
  | .trcFreeze a => Sys2Proof.Machine.execTrcFreeze a s
  | .trcTrig a => Sys2Proof.Machine.execTrcTrig a s
  | .twsRkctrlEn a v => Sys2Proof.Machine.execTwsRkctrlEn a v s
  | .twsPubctrlSend a => Sys2Proof.Machine.execTwsPubctrlSend a s
  | .drfBctrlCommit a => Sys2Proof.Machine.execDrfBctrlCommit a s
  | .cvuInit a v => Sys2Proof.Machine.execCvuInit a v s
  | .cvuPolyWrite a v => Sys2Proof.Machine.execCvuPolyWrite a v s
  | .cvuData a v bad => Sys2Proof.Machine.execCvuData a v bad s
  | .cvuTail a v bad => Sys2Proof.Machine.execCvuTail a v bad s
  | .cvuRunWrite a v => Sys2Proof.Machine.execCvuRunWrite a v s
  | .cvuLenWrite a v => Sys2Proof.Machine.execCvuLenWrite a v s
  | .stpRun a v => Sys2Proof.Machine.execStpRun a v s
  | .stpUcmdRestore a => Sys2Proof.Machine.execStpUcmdRestore a s
  | .bobQguarWrite a v => Sys2Proof.Machine.execBobQguarWrite a v s
  | .bobQlimWrite a v => Sys2Proof.Machine.execBobQlimWrite a v s
  | .bobQlevelWrite a v => Sys2Proof.Machine.execBobQlevelWrite a v s
  | .strPctrlEn a p v => Sys2Proof.Machine.execStrPctrlEn a p v s
  | .strPctrlRetrain a p => Sys2Proof.Machine.execStrPctrlRetrain a p s
  | .tzDumpctlCapture mask => Sys2Proof.Machine.execTzDumpctlCapture mask s
  | .tzDumpctlRelease => Sys2Proof.Machine.execTzDumpctlRelease s
  | .tzDumpctlRewind => Sys2Proof.Machine.execTzDumpctlRewind s
  | .tzDumpdata => Sys2Proof.Machine.execTzDumpdata s
  | .idcode => Sys2Proof.Machine.execIdcode s
  | .extest => Sys2Proof.Machine.execExtest s
  | .samplePreload => Sys2Proof.Machine.execSamplePreload s
  | .clamp => Sys2Proof.Machine.execClamp s
  | .highz => Sys2Proof.Machine.execHighz s
  | .bypass code => Sys2Proof.Machine.execBypass code s
  | .heartbeat p f => Sys2Proof.Machine.execHeartbeat p f s
  | .ctrl p f => Sys2Proof.Machine.execCtrl p f s
  | .nak p f => Sys2Proof.Machine.execNak p f s
  | .sync p f stamp => Sys2Proof.Machine.execSync p f stamp s
  | .pdelayReq p f stamp => Sys2Proof.Machine.execPdelayReq p f stamp s
  | .pdelayResp p f stamp => Sys2Proof.Machine.execPdelayResp p f stamp s
  | .announce p f => Sys2Proof.Machine.execAnnounce p f s
  | .init p f => Sys2Proof.Machine.execInit p f s
  | .attach p f => Sys2Proof.Machine.execAttach p f s
  | .attached p f => Sys2Proof.Machine.execAttached p f s
  | .detach p f => Sys2Proof.Machine.execDetach p f s
  | .adopt p f => Sys2Proof.Machine.execAdopt p f s
  | .release p f => Sys2Proof.Machine.execRelease p f s
  | .fence p f => Sys2Proof.Machine.execFence p f s
  | .admitFrame p f => Sys2Proof.Machine.execAdmitFrame p f s
  | .admitted p f => Sys2Proof.Machine.execAdmitted p f s
  | .admitRelease p f => Sys2Proof.Machine.execAdmitRelease p f s
  | .handover p f => Sys2Proof.Machine.execHandover p f s
  | .vector p f => Sys2Proof.Machine.execVector p f s
  | .contrib p f => Sys2Proof.Machine.execContrib p f s
  | .publish p f => Sys2Proof.Machine.execPublish p f s
  | .verdict p f => Sys2Proof.Machine.execVerdict p f s
  | .digest p f => Sys2Proof.Machine.execDigest p f s
  | .outcome p f => Sys2Proof.Machine.execOutcome p f s
  | .attribReq p f => Sys2Proof.Machine.execAttribReq p f s
  | .attribAns p f => Sys2Proof.Machine.execAttribAns p f s
  | .fault p f => Sys2Proof.Machine.execFault p f s
  | .peerSeen p f => Sys2Proof.Machine.execPeerSeen p f s
  | .claim p f => Sys2Proof.Machine.execClaim p f s
  | .diestate p f => Sys2Proof.Machine.execDiestate p f s
  | .cut p f => Sys2Proof.Machine.execCut p f s
  | .cutrep p f => Sys2Proof.Machine.execCutrep p f s
  | .trigger p f => Sys2Proof.Machine.execTrigger p f s
  | .startPrep p f => Sys2Proof.Machine.execStartPrep p f s
  | .startAck p f => Sys2Proof.Machine.execStartAck p f s
  | .startCommit p f => Sys2Proof.Machine.execStartCommit p f s
  | .startAbort p f => Sys2Proof.Machine.execStartAbort p f s
  | .archive p f => Sys2Proof.Machine.execArchive p f s
  | .mirror p f => Sys2Proof.Machine.execMirror p f s
  | .unusedMsgFrame p typ f => Sys2Proof.Machine.execUnusedMsgFrame p typ f s
  | .linkSignalDetect p => Sys2Proof.Machine.execLinkSignalDetect p s
  | .linkTrained p txlat rxlat => Sys2Proof.Machine.execLinkTrained p txlat rxlat s
  | .linkDown p cause => Sys2Proof.Machine.execLinkDown p cause s
  | .parentLoss => Sys2Proof.Machine.execParentLoss s
  | .attachRetry => Sys2Proof.Machine.execAttachRetry s
  | .handoverTimeout p => Sys2Proof.Machine.execHandoverTimeout p s
  | .autoreturn => Sys2Proof.Machine.execAutoreturn s
  | .returnReplay => Sys2Proof.Machine.execReturnReplay s
  | .noParentExpiry => Sys2Proof.Machine.execNoParentExpiry s
  | .retryTimeout p => Sys2Proof.Machine.execRetryTimeout p s
  | .nakRepeat p => Sys2Proof.Machine.execNakRepeat p s
  | .ctrlSend p => Sys2Proof.Machine.execCtrlSend p s
  | .heartbeatSend => Sys2Proof.Machine.execHeartbeatSend s
  | .syncSend => Sys2Proof.Machine.execSyncSend s
  | .pdelayReqSend k => Sys2Proof.Machine.execPdelayReqSend k s
  | .announceSend => Sys2Proof.Machine.execAnnounceSend s
  | .frameDepart p stamp bad => Sys2Proof.Machine.execFrameDepart p stamp bad s
  | .bucketRefill => Sys2Proof.Machine.execBucketRefill s
  | .ppsEdge stamp => Sys2Proof.Machine.execPpsEdge stamp s
  | .todLine bytes => Sys2Proof.Machine.execTodLine bytes s
  | .holdoverEntry => Sys2Proof.Machine.execHoldoverEntry s
  | .holdoverLimit => Sys2Proof.Machine.execHoldoverLimit s
  | .ftMax => Sys2Proof.Machine.execFtMax s
  | .genApply n => Sys2Proof.Machine.execGenApply n s
  | .sampleTrigger g => Sys2Proof.Machine.execSampleTrigger g s
  | .sampleWindowOpen g => Sys2Proof.Machine.execSampleWindowOpen g s
  | .slotPulse g => Sys2Proof.Machine.execSlotPulse g s
  | .quietWindowOpen g => Sys2Proof.Machine.execQuietWindowOpen g s
  | .quietWindowClose g => Sys2Proof.Machine.execQuietWindowClose g s
  | .ppsOutEdge => Sys2Proof.Machine.execPpsOutEdge s
  | .cutTimer => Sys2Proof.Machine.execCutTimer s
  | .startPrepTimer => Sys2Proof.Machine.execStartPrepTimer s
  | .startTimer => Sys2Proof.Machine.execStartTimer s
  | .startDeadline job => Sys2Proof.Machine.execStartDeadline job s
  | .safePointStart => Sys2Proof.Machine.execSafePointStart s
  | .safePointEnd => Sys2Proof.Machine.execSafePointEnd s
  | .trcTrigftReached => Sys2Proof.Machine.execTrcTrigftReached s
  | .reelReadoutDone vals => Sys2Proof.Machine.execReelReadoutDone vals s
  | .tagReturn src lat addr info => Sys2Proof.Machine.execTagReturn src lat addr info s
  | .tagTimeout src => Sys2Proof.Machine.execTagTimeout src s
  | .tagCorePowerDown src => Sys2Proof.Machine.execTagCorePowerDown src s
  | .tagCoreWake src => Sys2Proof.Machine.execTagCoreWake src s
  | .traceItem src words => Sys2Proof.Machine.execTraceItem src words s
  | .tracePowerDown src => Sys2Proof.Machine.execTracePowerDown src s
  | .traceSourceWake src words => Sys2Proof.Machine.execTraceSourceWake src words s
  | .flyerMove => Sys2Proof.Machine.execFlyerMove s
  | .segmentClose => Sys2Proof.Machine.execSegmentClose s
  | .batchCollectExpiry session => Sys2Proof.Machine.execBatchCollectExpiry session s
  | .domainBoundary dom => Sys2Proof.Machine.execDomainBoundary dom s
  | .passDone spindle err => Sys2Proof.Machine.execPassDone spindle err s
  | .scoreStageDone spindle => Sys2Proof.Machine.execScoreStageDone spindle s
  | .modelStoreLoadDone slot err => Sys2Proof.Machine.execModelStoreLoadDone slot err s
  | .evictionDone slot => Sys2Proof.Machine.execEvictionDone slot s
  | .graceExpiry session => Sys2Proof.Machine.execGraceExpiry session s
  | .mergeClose ft => Sys2Proof.Machine.execMergeClose ft s
  | .amendmentEnd ft => Sys2Proof.Machine.execAmendmentEnd ft s
  | .satIntervalEnd p => Sys2Proof.Machine.execSatIntervalEnd p s
  | .cutReportTimeout => Sys2Proof.Machine.execCutReportTimeout s
  | .tapRecord src words => Sys2Proof.Machine.execTapRecord src words s
  | .roundDeadline job => Sys2Proof.Machine.execRoundDeadline job s
  | .attributionTimeout job => Sys2Proof.Machine.execAttributionTimeout job s
  | .recheckAnswer tag cv memerr => Sys2Proof.Machine.execRecheckAnswer tag cv memerr s
  | .selftestAnswer tag cvs => Sys2Proof.Machine.execSelftestAnswer tag cvs s
  | .secondPolynomialDone entry c2 status => Sys2Proof.Machine.execSecondPolynomialDone entry c2 status s
  | .budgetRefill part => Sys2Proof.Machine.execBudgetRefill part s
  | .stormQuietExpiry part => Sys2Proof.Machine.execStormQuietExpiry part s
  | .aliveToggle => Sys2Proof.Machine.execAliveToggle s
  | .watchdogProbe => Sys2Proof.Machine.execWatchdogProbe s
  | .watchdogExpiry unit => Sys2Proof.Machine.execWatchdogExpiry unit s
  | .thermalCrossing temp => Sys2Proof.Machine.execThermalCrossing temp s
  | .droopCrossing sensor margin => Sys2Proof.Machine.execDroopCrossing sensor margin s
  | .droopRelax sensor => Sys2Proof.Machine.execDroopRelax sensor s
  | .dieStateTick => Sys2Proof.Machine.execDieStateTick s
  | .aliveInEdge p => Sys2Proof.Machine.execAliveInEdge p s
  | .peerRxPulse n => Sys2Proof.Machine.execPeerRxPulse n s
  | .peerSeenSend => Sys2Proof.Machine.execPeerSeenSend s
  | .stepPulse => Sys2Proof.Machine.execStepPulse s
  | .f3LaneIdle => Sys2Proof.Machine.execF3LaneIdle s
  | .partitionFenceIdle part => Sys2Proof.Machine.execPartitionFenceIdle part s
  | .replan twc => Sys2Proof.Machine.execReplan twc s
  | .testProgramEnd => Sys2Proof.Machine.execTestProgramEnd s
  | .testDurExpiry => Sys2Proof.Machine.execTestDurExpiry s
  | .restoreProgramEnd => Sys2Proof.Machine.execRestoreProgramEnd s
  | .restoreDurExpiry => Sys2Proof.Machine.execRestoreDurExpiry s
  | .overdueLimit slot test => Sys2Proof.Machine.execOverdueLimit slot test s
  | .healthHalving => Sys2Proof.Machine.execHealthHalving s
  | .scrubDone broken => Sys2Proof.Machine.execScrubDone broken s
  | .descriptorFetch slice r => Sys2Proof.Machine.execDescriptorFetch slice r s
  | .completionWrite slice ok => Sys2Proof.Machine.execCompletionWrite slice ok s
  | .verdictRecordWrite slice ok mirrorOk bad => Sys2Proof.Machine.execVerdictRecordWrite slice ok mirrorOk bad s
  | .meterTransfer => Sys2Proof.Machine.execMeterTransfer s
  | .admitTimeout session => Sys2Proof.Machine.execAdmitTimeout session s
  | .logFreezeLimit => Sys2Proof.Machine.execLogFreezeLimit s
  | .dumpUnitTimeout unit => Sys2Proof.Machine.execDumpUnitTimeout unit s
  | .dumpCaptureDone => Sys2Proof.Machine.execDumpCaptureDone s
  | .powerOn => Sys2Proof.Machine.execPowerOn s
  | .supplyDrop => Sys2Proof.Machine.execSupplyDrop s
  | .resetPin => Sys2Proof.Machine.execResetPin s
  | .pcieReset => Sys2Proof.Machine.execPcieReset s
  | .hbmReady => Sys2Proof.Machine.execHbmReady s
  | .islandClockLock => Sys2Proof.Machine.execIslandClockLock s
  | .imageVerifyDone => Sys2Proof.Machine.execImageVerifyDone s
  | .imageApplyDone => Sys2Proof.Machine.execImageApplyDone s
  | .bringupTimeout => Sys2Proof.Machine.execBringupTimeout s
  | .stopFtReached session => Sys2Proof.Machine.execStopFtReached session s
  | .droopIntervalEnd sensor => Sys2Proof.Machine.execDroopIntervalEnd sensor s
  | .thermalFall temp => Sys2Proof.Machine.execThermalFall temp s
  | .ref10mChange present => Sys2Proof.Machine.execRef10mChange present s
  | .ppsPresentExpiry => Sys2Proof.Machine.execPpsPresentExpiry s
  | .islandClockStop => Sys2Proof.Machine.execIslandClockStop s
  | .hostTransferDone ok v => Sys2Proof.Machine.execHostTransferDone ok v s
  | .testWaitExpiry => Sys2Proof.Machine.execTestWaitExpiry s

end Sys2Proof.Machine
end

