-- ==== Sys2Proof/Machine/Serve.lean ====
section
/-! DEFINITION. Management requests that wait inside the block (R695, R696): they are served, oldest first, when no command is waiting. -/

namespace Sys2Proof.Machine

/-- Put back what still waits behind a request that was served. -/
def requeue (f : State → State) (o : Host.Outcome State Fault Refusal) : Host.Outcome State Fault Refusal :=
  match o with
  | .next s => .next (f s)
  | .fault e => .fault e
  | .refused r => .refused r

/-- Serve one request: the oldest held before the island clock locked, once it has (R696); else the oldest command that waits for the one that ran (R695). -/
def State.serveMgmt (s : State) : Host.Outcome State Fault Refusal :=
  match s.hif.mgmtHeld with
  | i :: rest =>
    if s.bootStep = 0 then .next s
    else requeue (fun t => { t with hif := { t.hif with mgmtHeld := t.hif.mgmtHeld ++ rest } }) (exec i { s with hif := { s.hif with mgmtHeld := [] } })
  | [] =>
    match s.hif.mgmtRun, s.hif.mgmtWait with
    | none, i :: rest =>
      requeue (fun t => { t with hif := { t.hif with mgmtWait := t.hif.mgmtWait ++ rest } }) (exec i { s with hif := { s.hif with mgmtWait := [] } })
    | _, _ => .next s

/-- What the block does between commands: an unbind whose slice has come to rest finishes (R183), then a waiting management request is served. -/
def State.serve (s : State) : Host.Outcome State Fault Refusal :=
  ((s.hif.slices.filter fun e => e.2.unbind.isSome).foldl (fun s e => s.unbindCheck e.1) s).serveMgmt

end Sys2Proof.Machine
end

