-- ==== Sys2Proof/Machine/Tick.lean ====
section
/-! DEFINITION. One island cycle: what happens at every tick whatever is commanded (R69, R71, R91). -/

namespace Sys2Proof.Machine

/-- What one cycle adds to the accumulator and takes from the slew that is left: WHL_RATE while more than one cycle's share is left, else the rate without a slew and the rest of the slew. -/
def cycleAdd (rate base : Nat) (slew : Int) : Int × Int :=
  let share : Int := (base : Int) - rate
  if slew = 0 then ((rate : Int), 0)
  else if slew.natAbs ≤ share.natAbs then ((base : Int) - slew, 0)
  else ((rate : Int), slew - share)

/-- One island cycle adds the rate to the accumulator. Nothing moves before the island clock locks, and FT stays at its last value (R71). -/
def State.tick (s : State) : State :=
  if !s.whl.clock then s
  else if s.whl.ftMaxed then { s with whl := { s.whl with cyc := s.whl.cyc + 1 } }
  else
    let a := cycleAdd (s.fget Reg.WHL_RATE_RATE) s.whl.base s.whl.slew
    let s1 : State := { s with whl := { s.whl with
      acc := min ((s.whl.acc : Int) + a.1).toNat (ftMax * 2 ^ 40)
      cyc := s.whl.cyc + 1
      slew := a.2 } }
    if s.whl.slew ≠ 0 ∧ a.2 = 0 then s1.fset Reg.WHL_RATE_RATE s.whl.base else s1

end Sys2Proof.Machine
end

