-- ==== Sys2Proof/Safety.lean ====
section
/-! DEFINITION. What counts as a safe run of the block, and the terms in which statements say when a command is taken, how it ends, and what it leaves alone. -/

namespace Sys2Proof.Machine

/-- Register words that no owed effect writes. -/
def quietWord (k : Nat) : Bool :=
  let w := wordOf k
  let page := w / 4096
  !((page == 2 && w != Reg.SNG_RSTCAUSE_STATE.addr) || page == 7 || page == 0xD || (decide (0x40 ≤ page) && decide (page < 0xC0))
    || decide (w ∈ [0xE014, 0xE018, 0xE11C, 0x4008, 0x12004, 0x3004]))

/-- A state without the parts that an owed effect may change. -/
def State.side (s : State) : State :=
  { s with
    regs := s.regs.filter fun e => quietWord e.1
    lea := { s.lea with pts := [], bad := [] }
    str := { s.str with ports := [], dups := [], adopt := [], homing := .settled, lostPort := none, noParentFt := none,
                        bseq := 0, msgs := 0, peerActive := false }
    snag := { s.snag with last := [], fq := [], seq := 0, unitFence := [], partIdle := [], stopFt := none, aliveLevel := false }
    skn := { s.skn with recs := [], ovf := [], staged := [], next := 0, capture := none, noResp := [] }
    trc := { s.trc with srcs := [], pkts := [], autoDue := false, segPos := 0, segFt := 0 }
    tws := { s.tws with cut := none, satPorts := [] }
    whl := { s.whl with noStep := false }
    fresh := 0
    out := []
    work := [] }

/-- Register words that handling a descriptor changes: the command head and the status of the slices, and HIF_ERR (R199, R201, R202, R216, R217). -/
def sliceWord (k : Nat) : Bool := decide (wordOf k ∈ [Reg.SLC_CMDHEAD_COUNT.addr, Reg.SLC_STATUS_INFLIGHT.addr, Reg.HIF_ERR_AUTH.addr])

/-- The side without its registers, which statements compare word by word. -/
def State.face (s : State) : State := { s.side with regs := [] }

/-- The face without the host interface, which handling a descriptor changes. -/
def State.core (s : State) : State := { s.face with hif := {} }

end Sys2Proof.Machine

namespace Sys2Proof

open Sys2Proof.Machine

/-- Carrying out the command at the front of the queue ends in a next state: neither a fault nor a refusal. -/
def Completes (o : Host.Outcome State Fault Refusal) : Prop := ∃ t, o = .next t

/-- `t` is `w` in every part that no owed effect touches, and at least what `w` gave at the boundary was given. -/
def Matches (t w : State) : Prop :=
  t.face = w.face ∧ (∀ k, quietWord k = true → t.regGet k = w.regGet k) ∧ ∀ e ∈ w.out, e ∈ t.out

/-- `t` is `w` in every part that neither an owed effect nor the handling of a descriptor touches, and at least what `w` gave at the boundary was given. -/
def CoreMatches (t w : State) : Prop :=
  t.core = w.core ∧ (∀ k, quietWord k = true → sliceWord k = false → t.regGet k = w.regGet k) ∧ ∀ e ∈ w.out, e ∈ t.out

/-- Every counter of a ledger point is at most `n`. -/
def Ledger.below (l : Ledger) (n : Nat) : Prop :=
  l.inn ≤ n ∧ l.copy ≤ n ∧ l.out ≤ n ∧ l.dup ≤ n ∧ l.d0 ≤ n ∧ l.d1 ≤ n ∧ l.d2 ≤ n ∧ l.d3 ≤ n

/-- Nothing is owed from before, and no ledger counter is near the value where it saturates (R150): what a command does then is its own effect alone. Every step ends with nothing owed. -/
def Calm (s : State) : Prop := s.work = [] ∧ ∀ e ∈ s.lea.pts, Ledger.below e.2 (2 ^ 62)

/-! ### Commands -/

/-- Slice `n` takes the descriptor that its host has put in the ring: the block may fetch it, and no earlier command of the slice waits or runs (R180, R190, R191). -/
def Ready (s : State) (n : Nat) : Prop :=
  s.canFetch n = true ∧ (s.slice n).fetched = [] ∧ (s.slice n).running = []

/-- The management port takes a command: the block runs and is not stopped, no request is held, and no command of the port runs or waits (R695, R696). -/
def MgmtReady (s : State) : Prop :=
  s.mgmtHolds = false ∧ s.hif.mgmtRun = none ∧ s.hif.mgmtWait = [] ∧ s.running = true ∧ s.stopped = false

/-- The port that a command comes from takes it now. -/
def Takes (s : State) : Src → Prop
  | .slice n => Ready s n
  | .mgmt => MgmtReady s

/-- The reserved bits of a descriptor are 0, and its buffer, if it has one, is aligned and ends within the address space of its port: host memory, or the staging buffer (R196, R198, R695). -/
def Clean (s : State) (src : Src) (d : Desc) : Prop :=
  d.rsv = 0 ∧ (d.len = 0 ∨ (d.addr.toNat % 8 = 0 ∧
    d.addr.toNat + d.len.toNat ≤ (match src with | .slice _ => 2 ^ 64 | .mgmt => stagingSize s.build)))

/-- The command number that a command started now has (R202, R207). -/
def cmdNumber (s : State) : Src → Nat
  | .slice n => s.fget (Reg.SLC_CMDHEAD_COUNT.at n) % 65536
  | .mgmt => s.hif.mgmtCount % 65536

/-- The command of a descriptor while it runs. -/
def cmdRun (s : State) (src : Src) (opc : Nat) (d : Desc) (b : Bus) : Running := { src, opcode := opc, dseq := cmdNumber s src, d, b }

/-- The completion that a command started now gives (R202). -/
def cmdCpl (s : State) (src : Src) (opc : Nat) (d : Desc) (st value session : Nat) : Cpl :=
  { opcode := opc, status := st, session, value, dseq := cmdNumber s src, ct := s.ct, irq := d.irq }

/-- From `s` to `t` a command was taken and completed, with the status, VALUE and SESSION named, and had the effect that leads to `w`: a slice's completion waits last for its ring entry; a management command's response left the block. Nothing else changed but the command heads and status words of slices, the ledger points, and what owed effects touch. -/
def Ended (s t : State) (src : Src) (opc : Nat) (d : Desc) (st value session : Nat) (w : State) : Prop :=
  CoreMatches t w ∧
  match src with
  | .slice n => t.hif = (w.setSlice n { w.slice n with cplWait := (w.slice n).cplWait ++ [cmdCpl s src opc d st value session] }).hif
  | .mgmt => t.hif = { w.hif with mgmtCount := s.hif.mgmtCount + 1 } ∧
      (let x := cplWords (cmdNumber s src) 1 (cmdCpl s src opc d st value session)
       Emission.mgmtResp x.1 x.2 ∈ t.out)

/-- From `s` to `t` a command was taken, had the effect that leads to `w`, and runs on. -/
def RunsOn (s t : State) (src : Src) (opc : Nat) (d : Desc) (b : Bus) (w : State) : Prop :=
  CoreMatches t w ∧
  match src with
  | .slice n => t.hif = (w.setSlice n { w.slice n with running := [cmdRun s src opc d b] }).hif
  | .mgmt => t.hif = { w.hif with mgmtCount := s.hif.mgmtCount + 1, mgmtRun := some (cmdRun s src opc d b) }

/-- The effect of writing a result buffer: host memory for a slice, the staging buffer for a management command (R199, R695). -/
def written (s : State) (src : Src) (d : Desc) (bs : List Byte) : State :=
  match src with
  | .slice n => s.emit (.dma n d.addr bs)
  | .mgmt => s.setStaging (stageWrite s.hif.staging d.addr.toNat bs)

/-- The bytes that stand at a command's buffer: as many as LEN, from host memory or from the staging buffer (R199, R695). -/
def operandOf (s : State) (src : Src) (d : Desc) (b : Bus) : List Byte := s.operand (cmdRun s src 0 d b)

/-! ### Register accesses -/

/-- A register access reaches its register: all byte enables set and, on a Leaf's host port, no process identifier; on the management port, once the island clock has locked and with no request held (R165, R179, R696). -/
def Reaches (s : State) (a : Acc) : Prop :=
  match a.port with
  | .host => a.full = true ∧ (s.build.isHub = true ∨ a.pasid = none)
  | .mgmt => s.mgmtHolds = false

/-! ### Frames -/

/-- A calm block without an open cut, whose port `p` holds a retransmit buffer of a size that a link can fill. -/
def Rested (s : State) (p : Nat) : Prop :=
  Calm s ∧ s.tws.cut = none ∧ (s.port p).rtx.length < 2 ^ 16 ∧ ∀ x ∈ (s.port p).rtx, x.inputs < 2 ^ 32

/-- The frames that a port holds are no more than its buffers could take, and none is longer than a frame can be (R571, R586). -/
def Modest (x : Port) : Prop :=
  x.egress.length ≤ 8 ∧ x.stalled.length < 2 ^ 16 ∧
  ∀ l ∈ x.rtx :: x.held :: (x.egress ++ x.stalled), l.length < 2 ^ 16 ∧ ∀ y ∈ l, y.inputs < 2 ^ 16 ∧ y.payload.length ≤ 27

/-- A port that no fence holds receives a frame of a type in its state: any type while UP, in INIT a CTRL, NAK or INIT frame (R577, R604). -/
def Hears (s : State) (p typ : Nat) : Prop :=
  hasPort s.build p = true ∧ s.portFenced p = false ∧ (s.pState p = 3 ∨ (s.pState p = 2 ∧ (typ = 2 ∨ typ = 3 ∨ typ = 5)))

/-- A sequenced frame that passes its check, has the next SEQ of its port and is a message by itself (R571, R572, R573). -/
def Whole (s : State) (p typ : Nat) (f : Frame) : Prop :=
  typ ≠ 2 ∧ typ ≠ 3 ∧ f.crc = frameCrc typ f ∧ f.seq.toNat = s.fget (Reg.STR_PRXSEQ_SEQ.at p) ∧ f.poison = false ∧
  f.first = true ∧ f.last = true ∧ f.payload.length ≤ 27 ∧ Tab.get (s.port p).partials f.tc.toNat = none

/-- Port `p` takes frame `f`, which makes the message `m` whole; `s1` is the block once the receive point has judged the frame, with nothing owed. -/
def Gets (s : State) (p typ : Nat) (f : Frame) (s1 : State) (m : Msg) : Prop :=
  s.rx p typ f = (s1, some m) ∧ s1.work = [] ∧ (∀ e ∈ s1.lea.pts, Ledger.below e.2 (2 ^ 63)) ∧ m.seqs.length < 2 ^ 32 ∧ m.words.length < 2 ^ 32

/-! ### Runs -/

/-- `n` steps lead from `s` to `t`, each of which ends in a next state. -/
def Runs : Nat → State → State → Prop
  | 0, s, t => t = s
  | n + 1, s, t => ∃ u, step s = .next u ∧ Runs n u t

end Sys2Proof
end

