-- ==== Sys2Proof/Certificates/Slice0/Obligations.lean ====
section
/-! DEFINITION. The statements of this model, for the provers: what each command and event of the block does, what it leaves alone, and when it completes. -/

open Sys2Proof Sys2Proof.Machine

/-! ### Sessions -/

/-- SESS_OPEN (R300 to R303): with a legal block, a quota and a key store that have room, and no other CHILD session of its TAG on a Hub, the session takes the lowest number that is CLOSED, in OPEN. SESS_CLOSE (R298): an OPEN session with nothing pending, in evaluation or reserved goes, with its reduction and its rank rule; its set's BOUND is looked at again. The models are all resident or streamed, so that no load follows. SESS_START and SESS_STOP (R297, R304): a start sets the session STARTING at the FT given, with its counts at zero, and binds its set; a stop makes a RUNNING session STOPPING, and returns a session that has not started by then to OPEN. The model's own choices in it: assumption 16. -/
def Obligations.SessionsOpenRunAndClose : Prop :=
  ((∀ (s : State) (n k : Nat) (d : Desc) (b : Bus), Takes s (.slice n) → Clean s (.slice n) d → b.rd = .good →
    1 ≤ d.count.toNat → d.count.toNat ≤ 1024 → 32 + 4 * d.count.toNat ≤ d.len.toNat →
    let bs := operandOf s (.slice n) d b
    let es := (List.range d.count.toNat).map fun i => w32At bs (8 + i)
    let x : Sess := { state := ssOPEN, slice := n, word0 := wordAt bs 0, word1 := wordAt bs 1, feats := es.map readFeat }
    headerOk s.build (wordAt bs 0) (wordAt bs 2) (wordAt bs 3) = true → (∀ e ∈ es, featOk s.build.isHub e = true) →
    s.openOf n < s.fget (Reg.SLC_QUOTA_QUOTA.at n) → s.keysUsed + x.keyShare ≤ keyStore s.build →
    (s.build.isHub = true → ∀ e ∈ s.openSess, e.2.isChild = true → e.2.tag ≠ x.tag) →
    k < nSessions s.build → s.sess k = none → (∀ j < k, s.sess j ≠ none) →
    ∃ t, exec (.sessOpen (.slice n) d b) s = .next t ∧ Ended s t (.slice n) 0x01 d stOK 0 k (s.setSess k x)) ∧
  (∀ (s : State) (n : Nat) (d : Desc) (b : Bus) (x : Sess), Takes s (.slice n) → Clean s (.slice n) d →
    s.sess d.session.toNat = some x → x.slice = n → Tab.wf s.crd = true → x.resv = none → x.pend = [] → x.gather = none → x.early = [] → x.shaped = [] →
    (∀ e ∈ s.dst.evals, e.sess ≠ d.session.toNat) → (∀ e ∈ s.dst.models, e.2.state = mRESIDENT ∨ e.2.state = mSTREAMED) →
    s.ownPaths d.session.toNat = [] →
    let k := d.session.toNat
    let s1 := s.unbindSource k
    let s2 : State := { s1 with crd := Tab.del s.crd k }
    ∃ t, exec (.sessClose (.slice n) d b) s = .next t ∧ Ended s t (.slice n) 0x02 d stOK 0 k
      ((if x.isChild then s2 else s2.checkBound x.set_).fset Reg.DST_STATUS_WANT 0))) ∧
  (∀ (s : State) (n : Nat) (d : Desc) (b : Bus) (x : Sess), Takes s (.slice n) → Clean s (.slice n) d →
    s.sess d.session.toNat = some x → x.slice = n → s.ft < d.arg1.toNat →
    let k := d.session.toNat
    (x.state = ssOPEN → (s.modelOf x).isSome = true → s.samples (s.sessGen x) = true →
      (x.isChild = true ∨ (s.flag (Reg.REEL_SET_EN.at x.set_) = true ∧ ∀ f ∈ x.feats, f.pos < s.fget (Reg.REEL_SETSTAT_COUNT.at x.set_))) →
      ∃ t, exec (.sessStart (.slice n) d b) s = .next t ∧ Ended s t (.slice n) 0x05 d stOK 0 k
        (if x.isChild then s.setSess k (x.started d.arg1.toNat)
         else (s.setSess k (x.started d.arg1.toNat)).fset (Reg.REEL_SETSTAT_BOUND.at x.set_) 1)) ∧
    (x.state = ssRUNNING →
      ∃ t, exec (.sessStop (.slice n) d b) s = .next t ∧ Ended s t (.slice n) 0x06 d stOK 0 k
        (s.setSess k { x with state := ssSTOPPING, stopFt := d.arg1.toNat })) ∧
    (x.state = ssSTARTING → d.arg1.toNat ≤ x.startFt →
      ∃ t, exec (.sessStop (.slice n) d b) s = .next t ∧ Ended s t (.slice n) 0x06 d stOK 0 k
        (if x.isChild then s.setSess k { x with state := ssOPEN } else (s.setSess k { x with state := ssOPEN }).checkBound x.set_)))

/-- The path reservation of SESS_ADMIT over one up-port (R714). -/
def ownPath (s : State) (k : Nat) (cls burst rate cmps merges : Nat) (p : Nat × Bool) : PathRes :=
  { owner := s.unit 0, session := k, anum := s.str.anum, alt := p.2, arrived := none, onward := some p.1, final := s.finalOf k, cls, burst, rate,
    cmps, merges, held := false }

/-- SESS_ADMIT and SESS_RELEASE (R138, R305, R322): a request that every check of the block passes holds its paths tentatively and waits for their answers; a release of a reservation in force drops the session's paths and its reservation. The model's own choices in it: assumptions 52, 65, 66. -/
def Obligations.SessionIsAdmittedAndReleased : Prop :=
  ∀ (s : State) (n : Nat) (d : Desc) (b : Bus) (x : Sess), Takes s (.slice n) → Clean s (.slice n) d →
    s.sess d.session.toNat = some x → x.slice = n →
    let k := d.session.toNat
    let w := wordAt (operandOf s (.slice n) d b)
    let cls := bits (w 0) 2 0
    let burst := bits (w 0) 63 32
    let rate := bits (w 1) 39 0
    let cmps := bits (w 2) 31 0
    let merges := bits (w 2) 39 32
    (b.rd = .good → 32 ≤ d.len.toNat → bits (w 0) 31 3 = 0 → bits (w 1) 63 40 = 0 → bits (w 2) 63 40 = 0 → w 3 = 0 →
      4 ≤ cls → 256 ≤ burst → rate ≠ 0 → (x.state = ssOPEN ∨ x.state = ssRUNNING) → x.resv = none →
      s.admitPorts ≠ [] → s.str.paths.length + s.admitPorts.length ≤ s.pathCap →
      (∀ p ∈ s.admitPorts, s.pathCheck none (some p.1) burst rate 0 (s.spindlesFit (s.spindleCharge x cmps)) false = adOK) →
      let c := s.spindleCharge x cmps
      ∃ t, exec (.sessAdmit (.slice n) d b) s = .next t ∧ RunsOn s t (.slice n) 0x03 d b
        ({ s with str := { s.str with anum := (s.str.anum + 1) % 65536, paths := s.str.paths ++ s.admitPorts.map (ownPath s k cls burst rate cmps merges) } }.setSess k
          { x with resv := some { cls, burst, rate, cmps, merges, anum := s.str.anum, held := false, ft := s.now, answers := [], paths := s.admitPorts.length,
                                  cmd := some (cmdRun s (.slice n) 0x03 d b), charge := c.elim [] (·.1), window := c.elim 0 (·.2), tokens := 0 } })) ∧
    (x.admitted = true →
      ∃ t, exec (.sessRelease (.slice n) d b) s = .next t ∧ Ended s t (.slice n) 0x04 d stOK 0 k
        ((s.setSess k { x with resv := none, queue := if x.pend.isEmpty then none else x.queue, shaped := [] }).setPaths
          (s.str.paths.filter fun y => !((s.ownPaths k).any fun r => y.same r))))

/-- SESS_QUERY and MODEL_QUERY (R324, R395): the entries asked for stand in the result buffer, and VALUE is their length. -/
def Obligations.QueriesReturnEntries : Prop :=
  (∀ (s : State) (n : Nat) (d : Desc) (b : Bus) (x : Sess), Takes s (.slice n) → Clean s (.slice n) d → b.wfail = none →
    s.sess d.session.toNat = some x → x.slice = n → 64 ≤ d.len.toNat →
    ∃ t, exec (.sessQuery (.slice n) d b) s = .next t ∧ Ended s t (.slice n) 0x07 d stOK 64 d.session.toNat
      (written s (.slice n) d (s.sessEntry d.session.toNat))) ∧
  (∀ (s : State) (d : Desc) (b : Bus), Takes s .mgmt → Clean s .mgmt d → 64 ≤ d.len.toNat →
    let ids := ((List.range (nSessions s.build)).drop (bits d.arg0 11 0)).take (d.len.toNat / 64)
    ∃ t, exec (.sessQuery .mgmt d b) s = .next t ∧ Ended s t .mgmt 0x07 d stOK (64 * ids.length) d.session.toNat
      (written s .mgmt d (ids.flatMap s.sessEntry))) ∧
  (∀ (s : State) (n : Nat) (d : Desc) (b : Bus) (e : Nat × Model), Takes s (.slice n) → Clean s (.slice n) d → b.wfail = none →
    s.sliceModel d.arg0.toNat n = some e → 32 ≤ d.len.toNat →
    ∃ t, exec (.modelQuery (.slice n) d b) s = .next t ∧ Ended s t (.slice n) 0x13 d stOK 32 d.session.toNat
      (written s (.slice n) d (s.modelEntry e.1))) ∧
  (∀ (s : State) (d : Desc) (b : Bus), Takes s .mgmt → Clean s .mgmt d → 32 ≤ d.len.toNat →
    let slots := ((List.range (nModels s.build)).drop (bits d.arg0 9 0)).take (d.len.toNat / 32)
    ∃ t, exec (.modelQuery .mgmt d b) s = .next t ∧ Ended s t .mgmt 0x13 d stOK (32 * slots.length) d.session.toNat
      (written s .mgmt d (slots.flatMap s.modelEntry)))

/-! ### Models and reductions -/

/-- MODEL_LOAD (R368 to R372): a valid image takes the lowest free entry under its next tag, and its load starts on the placement that needs no eviction; without one the model is registered as EVICTED, and VALUE is its handle. The model's own choices in it: assumption 8. -/
def Obligations.ModelLoads : Prop :=
  ∀ (s : State) (n slot : Nat) (d : Desc) (b : Bus) (i : MImage) (c : Nat), Takes s (.slice n) → Clean s (.slice n) d → b.rd = .good →
    64 ≤ d.len.toNat → d.arg1 = 0 → bits d.arg0 31 10 = 0 → bits d.arg0 1 0 < 2 → (s.build.isHub = true ∨ bits d.arg0 9 3 = 0) → bits d.arg0 9 3 ≤ 64 →
    (∀ e ∈ s.dst.models, e.2.state = mRESIDENT ∨ e.2.state = mSTREAMED) →
    let bs := operandOf s (.slice n) d b
    let place := bits d.arg0 1 0
    let width := bits d.arg0 9 3
    let h := readHeader bs
    validate bs d.len.toNat (limitsOf s.build (s.fget Reg.DST_CTRL_MAXW + 1) place width h.ntrees h.nnodes) = .ok i →
    s.modelClass i place width = some c →
    slot < nModels s.build → Tab.get s.dst.models slot = none → (∀ j < slot, Tab.get s.dst.models j ≠ none) →
    (s.build.isHub = true → s.hbmModels + d.len.toNat ≤ s.fget Reg.DST_HBMMSIZE_SIZE) →
    let m : Model := { state := mLOADING, tag := s.nextTag slot, slice := n, pin := bit d.arg0 2, width := c, gen := 0, bytes := d.len.toNat, addr := d.addr,
                       img := i, cmd := some (cmdRun s (.slice n) 0x10 d b) }
    let s1 : State := { s with dst := { s.dst with tags := Tab.set s.dst.tags slot (s.nextTag slot) } }
    (∀ p, (s1.setModel slot m).placeFree m = some p →
      ∃ t, exec (.modelLoad (.slice n) d b) s = .next t ∧ RunsOn s t (.slice n) 0x10 d b
        (s1.setModel slot { m with shares := p, bursts := p.foldl (fun t x => Tab.set t x.dom (loadBursts m x)) [] })) ∧
    ((s1.setModel slot m).placeFree m = none →
      ∃ t, exec (.modelLoad (.slice n) d b) s = .next t ∧ Ended s t (.slice n) 0x10 d stOK (m.handle slot) d.session.toNat
        ((s1.setModel slot { m with state := mEVICTED, gen := (s.fget Reg.DST_GEN_GEN + 1) % 2 ^ 32, cmd := none }).fset Reg.DST_GEN_GEN
          ((s.fget Reg.DST_GEN_GEN + 1) % 2 ^ 32)))

/-- The descriptor with bit DISCARD of ARG1 forced, as the two rows of MODEL_EVICT part the opcode (R376). -/
def evictDesc (d : Desc) (discard : Bool) : Desc := { d with arg1 := if discard then d.arg1 ||| 1#64 else d.arg1 &&& ~~~1#64 }



/-- MODEL_BIND (R334, R373): an OPEN session without a reservation takes its share of a model whose groups agree with its features, every entry as new, and VALUE is the generation. MODEL_EVICT and MODEL_DISCARD (R376): a resident model that no window protects starts its evict bursts; an evicted one completes at once; a discard of a model that no session is bound to starts them too, to free the entry. The model's own choices in it: assumption 13. -/
def Obligations.ModelsAreBoundAndLeave : Prop :=
  (∀ (s : State) (n slot : Nat) (d : Desc) (b : Bus) (x : Sess) (m : Model), Takes s (.slice n) → Clean s (.slice n) d →
    s.sess d.session.toNat = some x → x.slice = n → s.sliceModel d.arg0.toNat n = some (slot, m) → x.state = ssOPEN → x.resv = none →
    m.state ≠ mBROKEN → s.cacheRoom d.session.toNat x m = true → badBinding m.img x = none →
    ∃ t, exec (.modelBind (.slice n) d b) s = .next t ∧ Ended s t (.slice n) 0x12 d stOK (m.gen % 2 ^ 24) d.session.toNat
      (s.setSess d.session.toNat (x.bindTo (m.handle slot) s.now))) ∧
  (∀ (s : State) (n slot : Nat) (d : Desc) (b : Bus) (m : Model), Takes s (.slice n) → Clean s (.slice n) d →
    s.sliceModel d.arg0.toNat n = some (slot, m) → m.evicting = false → bits d.arg1 63 1 = 0 →
    (m.state = mRESIDENT → s.protected_ slot m = false →
      ∃ t, exec (.modelEvict (.slice n) d b) s = .next t ∧ RunsOn s t (.slice n) 0x11 (evictDesc d false) b
        (s.setModel slot { m with evicting := true, evict := m.shares.foldl (fun t x => Tab.set t x.dom (ceilDiv x.count 64)) [],
                                  evCmd := [cmdRun s (.slice n) 0x11 (evictDesc d false) b] })) ∧
    (m.state = mEVICTED →
      ∃ t, exec (.modelEvict (.slice n) d b) s = .next t ∧ Ended s t (.slice n) 0x11 (evictDesc d false) stOK 0 d.session.toNat s) ∧
    (s.boundTo slot m = [] → m.state ≠ mLOADING → m.shares ≠ [] →
      ∃ t, exec (.modelDiscard (.slice n) d b) s = .next t ∧ RunsOn s t (.slice n) 0x11 (evictDesc d true) b
        (s.setModel slot { m with evicting := true, discard := true, evict := m.shares.foldl (fun t x => Tab.set t x.dom (ceilDiv x.count 64)) [],
                                  evCmd := [cmdRun s (.slice n) 0x11 (evictDesc d true) b] })))

/-- RED_BIND and its OP 0 (R397 to R400): on a Leaf an OPEN session that is no CHILD takes a source, or gives it up with its rank rule; on a Hub the slice takes a sink of a RID that has none, or gives up its own. The model's own choices in it: assumption 13. -/
def Obligations.ReductionsBindAndUnbind : Prop :=
  ∀ (s : State) (n : Nat) (d : Desc) (b : Bus), Takes s (.slice n) → Clean s (.slice n) d → b.rd = .good → 48 ≤ d.len.toNat → d.len.toNat ≤ b.data.length →
    (s.build = .leaf → ∀ x, s.sess d.session.toNat = some x → x.slice = n → x.isChild = false → x.state = ssOPEN →
      let k := d.session.toNat
      (let r := readRed (operandOf s (.slice n) d b)
       s.redOk r (some x) = true → r.op ≠ 0 → (r.op = 4 → 48 + 4 * (r.n - 1) ≤ d.len.toNat) →
        let u := s.unbindSource k
        ∃ t, exec (.redBind (.slice n) d b) s = .next t ∧ Ended s t (.slice n) 0x20 d stOK 0 k
          (u.setSources (Tab.set u.tws.sources k { rid := r.rid, op := r.op, final := r.final, n := r.n, first := r.first, publish := r.publish, edges := r.edges }))) ∧
      (let r := readRed (operandOf s (.slice n) d { b with data := clearOp b.data })
       s.redOk r (some x) = true →
        ∃ t, exec (.redUnbind (.slice n) d b) s = .next t ∧ Ended s t (.slice n) 0x20 d stOK 0 k (s.unbindSource k))) ∧
    (s.build = .hub →
      (let r := readRed (operandOf s (.slice n) d b)
       s.redOk r none = true → r.op ≠ 0 → (r.op = 4 → 48 + 4 * (r.n - 1) ≤ d.len.toNat) → (∀ k ∈ s.tws.sinks, k.rid ≠ r.rid) → s.tws.sinks.length < 256 →
        ∃ t, exec (.redBind (.slice n) d b) s = .next t ∧ Ended s t (.slice n) 0x20 d stOK 0 d.session.toNat
          (s.setSinks (s.tws.sinks ++ [{ rid := r.rid, publish := r.publish, slice := n, base := r.base, log2 := r.log2, mirror := r.mirror, mir := r.mir,
                                         bytes := 0, tc := 0 }]))) ∧
      (let r := readRed (operandOf s (.slice n) d { b with data := clearOp b.data })
       s.redOk r none = true → (∀ k ∈ s.tws.sinks, k.rid = r.rid → k.slice = n) →
        ∃ t, exec (.redUnbind (.slice n) d b) s = .next t ∧ Ended s t (.slice n) 0x20 d stOK 0 d.session.toNat
          (s.setSinks (s.tws.sinks.filter fun k => k.rid != r.rid))))

/-- SNAP_ARM, SNAP_CANCEL, SNAP_READ, SAT_RECORD_READ and SNAP_AUTH (R424, R425, R429, R430, R433): an authorised slice arms a cut under the next local number, its own pending cut is cancelled, the latest cut's entries and whole saturation records are read, and the management port replaces the list of slices. The model's own choices in it: assumptions 13, 73. -/
def Obligations.CutsAreCommanded : Prop :=
  (∀ (s : State) (n : Nat) (d : Desc) (b : Bus), Takes s (.slice n) → Clean s (.slice n) d → bits d.arg0 31 2 = 0 →
    (∃ e ∈ s.tws.auth, e.1 = n ∧ b2n (bit d.arg0 0) ≤ e.2) → (s.build = .leaf → bit d.arg0 0 = false) → (s.build = .hub → bit d.arg0 1 = false) →
    s.ft < d.arg1.toNat → (s.tws.cuts.filter fun q => q.slice.isSome).length < 4 → s.tws.cuts.length < 8 →
    let q : CutReq := { t := d.arg1.toNat, origin := s.unit 0, onum := s.tws.lnum, lnum := s.tws.lnum, subtree := bit d.arg0 0, reel := bit d.arg0 1, slice := some n }
    ∃ t, exec (.snapArm (.slice n) d b) s = .next t ∧ Ended s t (.slice n) 0x21 d stOK s.tws.lnum d.session.toNat
      { s with tws := { s.tws with cuts := s.tws.cuts ++ [q], lnum := (s.tws.lnum + 1) % 2 ^ 24 } }) ∧
  (∀ (s : State) (n : Nat) (d : Desc) (b : Bus) (q : CutReq), Takes s (.slice n) → Clean s (.slice n) d →
    q ∈ s.tws.cuts → q.lnum = d.arg0.toNat → q.slice = some n → (∀ y ∈ s.tws.cuts, y.lnum = q.lnum → y = q) →
    ∃ t, exec (.snapCancel (.slice n) d b) s = .next t ∧ Ended s t (.slice n) 0x23 d stOK 0 d.session.toNat
      (s.setCuts (s.tws.cuts.filter fun y => y != q))) ∧
  (∀ (s : State) (src : Src) (d : Desc) (b : Bus) (c : CutRes), Takes s src → Clean s src d → b.wfail = none → 64 ≤ d.len.toNat → bits d.arg0 30 24 = 0 →
    s.tws.cut = some c → c.req.lnum = bits d.arg0 23 0 →
    let bs := takeFit d.len.toNat (s.cutEntries c)
    let d' : Desc := { d with arg0 := d.arg0 &&& 0x7FFFFFFF }
    ∃ t, exec (.snapRead src d b) s = .next t ∧ Ended s t src 0x22 d' stOK bs.length d.session.toNat (written s src d' bs)) ∧
  (∀ (s : State) (src : Src) (d : Desc) (b : Bus), Takes s src → Clean s src d → b.wfail = none → 96 ≤ d.len.toNat → bits d.arg0 30 0 = 0 → s.tws.sats ≠ [] →
    let k := min s.tws.sats.length (d.len.toNat / 96)
    let d' : Desc := { d with arg0 := d.arg0 ||| 0x80000000 }
    (∀ r ∈ s.tws.sats, r ≠ []) →
    ∃ t, exec (.satRecordRead src d b) s = .next t ∧ Ended s t src 0x22 d' stOK (96 * k) d.session.toNat
      (written { s with tws := { s.tws with sats := s.tws.sats.drop k } } src d' ((s.tws.sats.take k).flatMap wordsBytes))) ∧
  (∀ (s : State) (d : Desc) (b : Bus), Takes s .mgmt → Clean s .mgmt d → 1 ≤ d.count.toNat → d.count.toNat ≤ 64 → 8 * d.count.toNat ≤ d.len.toNat →
    let ws := (List.range d.count.toNat).map fun i => wordAt (operandOf s .mgmt d b) i
    (∀ w ∈ ws, bits w 63 8 = 0 ∧ bits w 5 0 < nSlices s.build ∧ bits w 7 6 ≤ 1) →
    ∃ t, exec (.snapAuth .mgmt d b) s = .next t ∧ Ended s t .mgmt 0x2F d stOK 0 d.session.toNat
      { s with tws := { s.tws with auth := ws.map fun w => (bits w 5 0, bits w 7 6) } })

/-! ### Jobs and votes -/

/-- JOB_DECLARE (R464, R465): a legal VOTER block of 2 to 32 replicas takes the lowest free job number, a legal REPLICA block of a Leaf the lowest free entry; VALUE is the number. -/
def Obligations.JobsAreDeclared : Prop :=
  ∀ (s : State) (n k : Nat) (d : Desc) (b : Bus), Takes s (.slice n) → Clean s (.slice n) d → b.rd = .good → d.arg0 = 0 → d.arg1 = 0 →
    let bs := operandOf s (.slice n) d b
    let w := wordAt bs
    (64 + 8 * d.count.toNat ≤ d.len.toNat → 2 ≤ d.count.toNat → d.count.toNat ≤ 32 → w 0 = 1 → w 1 = 0 → w 2 = 0 → w 3 = 0 → w 4 = 0 →
      (w 5).toNat % 4096 = 0 → 12 ≤ bits (w 6) 4 0 → bits (w 6) 4 0 ≤ 30 → bits (w 6) 63 6 = 0 → (w 7).toNat % 8 = 0 →
      let l := (List.range d.count.toNat).map fun i => w (8 + i)
      s.badReplica l = none → k < nJobs s.build → Tab.get s.ply.jobs k = none → (∀ j < k, Tab.get s.ply.jobs j ≠ none) →
      ∃ t, exec (.jobDeclare (.slice n) d b) s = .next t ∧ Ended s t (.slice n) 0x30 d stOK k d.session.toNat
        (s.setJob k { slice := n, replicas := l.map fun x => { addr := BitVec.ofNat 48 x.toNat }, rbase := w 5, rlog2 := bits (w 6) 4 0,
                      mirror := bit (w 6) 5, mir := w 7 })) ∧
    (s.build = .leaf → 64 ≤ d.len.toNat → d.count = 0 → bits (w 0) 15 0 = 0 → bits (w 0) 63 56 = 0 → bits (w 1) 63 56 = 0 → bits (w 2) 63 53 = 0 → bits (w 4) 63 5 = 0 →
      w 5 = 0 → w 6 = 0 → w 7 = 0 → (w 3).toNat % 4096 = 0 → 12 ≤ bits (w 4) 4 0 → bits (w 4) 4 0 ≤ 26 → bits (w 0) 55 32 ≠ 0 →
      let vp : Hank := BitVec.ofNat 48 (bits (w 1) 47 0)
      let unit : Hank := BitVec.ofNat 48 (bits (w 2) 47 0)
      vp = s.unit 0 → sameBlock unit s.self = true → 0x100 ≤ hSub unit → (∀ e ∈ s.ply.repls, e.2.tag ≠ bits (w 0) 31 16) →
      k < nRepls s.build → Tab.get s.ply.repls k = none → (∀ j < k, Tab.get s.ply.repls j ≠ none) →
      ∃ t, exec (.jobDeclare (.slice n) d b) s = .next t ∧ Ended s t (.slice n) 0x30 d stOK k d.session.toNat
        (s.setRepl k { slice := n, tag := bits (w 0) 31 16, nblk := bits (w 0) 55 32, vp, job := bits (w 1) 55 48, unit, index := bits (w 2) 52 48,
                       base := w 3, log2 := bits (w 4) 4 0 }))

/-- The members of a job, as a mask of indices. -/
def memberMask (j : Job) : BitVec 32 :=
  (j.replicas.zipIdx).foldl (fun (m : BitVec 32) e => if e.1.expelled then m else m ||| (1#32 <<< e.2)) 0

/-- JOB_START (R599 to R603): a start in time takes the next number and runs until its outcome. A Hub waits for the members' acknowledgements, if it has members; a Leaf that is its own vote point is committed at once and arms the timer for T. VOTE_POLICY and JOB_END (R467, R468): a policy stands from the next round on; a job ends with its number free, and the entry of that number that the slice declared at a Leaf goes with its attributions. The model's own choices in it: assumptions 34, 81. -/
def Obligations.JobsRunTheirCourse : Prop :=
  (∀ (s : State) (n : Nat) (d : Desc) (b : Bus) (j : Job), Takes s (.slice n) → Clean s (.slice n) d → bits d.arg0 31 8 = 0 →
    let job := bits d.arg0 7 0
    Tab.get s.ply.jobs job = some j → j.slice = n → (∀ x ∈ s.str.starts, x.job ≠ job) → s.str.starts.length < 8 →
    s.ft + s.fget Reg.STR_STARTCFG_MIN * us ≤ d.arg1.toNat → s.ft < d.arg1.toNat →
    let m := memberMask j
    let snum := (s.str.snum + 1) % 2 ^ 24
    (s.build = .hub →
      ∃ t, exec (.jobStart (.slice n) d b) s = .next t ∧ RunsOn s t (.slice n) 0x31 d b
        { s with str := { s.str with snum, starts := s.str.starts ++ [{ job, snum, t := d.arg1.toNat, mask := m, acks := 0, committed := decide (m = 0),
                                                                        cmd := cmdRun s (.slice n) 0x31 d b }] } }) ∧
    (s.build = .leaf → ∀ i, 1 ≤ i → i ≤ 15 → Tab.get s.whl.timers i = none → (∀ k, 1 ≤ k → k < i → Tab.get s.whl.timers k ≠ none) →
      let h := s.heldIndices s.self job m
      ∃ t, exec (.jobStart (.slice n) d b) s = .next t ∧ RunsOn s t (.slice n) 0x31 d b
        { s with
          whl := { s.whl with timers := Tab.set s.whl.timers i { t := d.arg1.toNat, use_ := .start (startId s.self job) } }
          str := { s.str with
            snum
            starts := s.str.starts ++ [{ job, snum, t := d.arg1.toNat, mask := m, acks := m, committed := true, cmd := cmdRun s (.slice n) 0x31 d b }]
            leafStarts := (s.str.leafStarts.filter fun y => !(y.vote == s.self && y.job == job)) ++
              [{ job, snum, vote := s.self, t := d.arg1.toNat, mask := h.1, slices := h.2, commit := true }] } })) ∧
  ((∀ (s : State) (n : Nat) (d : Desc) (b : Bus) (j : Job), Takes s (.slice n) → Clean s (.slice n) d → b.rd = .good → 32 ≤ d.len.toNat →
    let w := wordAt (operandOf s (.slice n) d b)
    bits (w 0) 15 8 = 0 → bits (w 0) 63 62 = 0 → bits (w 1) 63 17 = 0 → w 2 = 0 → w 3 = 0 → bits (w 0) 31 16 ≠ 0 →
    Tab.get s.ply.jobs (bits (w 0) 7 0) = some j → j.slice = n →
    ∃ t, exec (.votePolicy (.slice n) d b) s = .next t ∧ Ended s t (.slice n) 0x32 d stOK 0 d.session.toNat
      (s.setJob (bits (w 0) 7 0) { j with nextPolicy :=
        { every := bits (w 0) 31 16, wait := bits (w 0) 47 32, missLim := bits (w 0) 55 48, mask := BitVec.ofNat 6 (bits (w 0) 61 56),
          attrLim := bits (w 1) 15 0, fence := bit (w 1) 16 } })) ∧
  (∀ (s : State) (n : Nat) (d : Desc) (b : Bus), Takes s (.slice n) → Clean s (.slice n) d → d.arg1 = 0 →
    let k := d.arg0.toNat
    (∀ j, Tab.get s.ply.jobs k = some j → j.slice = n → (∀ a ∈ j.attrs, a.cmd = none) → s.ply.repls = [] →
      ∃ t, exec (.jobEnd (.slice n) d b) s = .next t ∧ Ended s t (.slice n) 0x34 d stOK 0 d.session.toNat (s.setJobs (Tab.del s.ply.jobs k))) ∧
    (∀ e, Tab.get s.ply.jobs k = none → Tab.get s.ply.repls k = some e → e.slice = n →
      ∃ t, exec (.jobEnd (.slice n) d b) s = .next t ∧ Ended s t (.slice n) 0x34 d stOK 0 d.session.toNat
        ((s.setRepls (Tab.del s.ply.repls k)).setLeafAttrs (s.ply.attrs.filter fun a => a.entry != k)))))

/-- What EXPEL_OVERRIDE reads (R492): the block is clean, names action `a`, and job `k` of the slice with replica `i`. -/
def OverrideReads (s : State) (n : Nat) (d : Desc) (b : Bus) (a k i : Nat) (j : Job) (x : Replica) : Prop :=
  let w := wordAt (operandOf s (.slice n) d b)
  b.rd = .good ∧ 16 ≤ d.len.toNat ∧ bits (w 0) 2 0 = a ∧ bits (w 0) 7 3 = 0 ∧ bits (w 0) 23 21 = 0 ∧ bits (w 0) 31 28 = 0 ∧ bits (w 0) 63 48 = 0 ∧ w 1 = 0 ∧
    bits (w 0) 15 8 = k ∧ bits (w 0) 20 16 = i ∧ Tab.get s.ply.jobs k = some j ∧ j.slice = n ∧ j.replicas[i]? = some x

/-- EXPEL_OVERRIDE (R492): RESTORE clears EXPELLED and SUSPECT, EXPEL spends a token of the unit's budget, HOLD sets the hold, GRANT adds tokens up to the cap and returns how many, CLEAR_STORM clears STORM, and ATTRIBUTE, in host-assisted mode, starts the attribution of one loser against one reference. The model's own choices in it: assumption 81. -/
def Obligations.OperatorsOverride : Prop :=
  ∀ (s : State) (n k i : Nat) (d : Desc) (b : Bus) (j : Job) (x : Replica), Takes s (.slice n) → Clean s (.slice n) d →
    let w := wordAt (operandOf s (.slice n) d b)
    let part := bits (w 0) 27 24
    let count := bits (w 0) 47 32
    let se := d.session.toNat
    (OverrideReads s n d b 0 k i j x → (x.expelled = true ∨ x.suspect = true) → (s.build = .hub ∨ sameBlock x.addr s.self = false) →
      ∃ t, exec (.expelOverrideRestore (.slice n) d b) s = .next t ∧ Ended s t (.slice n) 0x33 d stOK 0 se
        (let u := s.setJob k { j with replicas := j.replicas.set i { x with expelled := false, suspect := false } }
         u.setRepls (Tab.mapV (fun _ (e : ReplEntry) => if sameBlock e.vp s.self ∧ e.job = k ∧ e.index = i then { e with expelled := false } else e) s.ply.repls))) ∧
    (OverrideReads s n d b 1 k i j x → x.expelled = false → s.fget (Reg.PLY_BUD_TOKENS.at (s.budgetPart x.addr)) ≠ 0 →
      ∃ t, exec (.expelOverrideExpel (.slice n) d b) s = .next t ∧ Ended s t (.slice n) 0x33 d stOK 0 se
        (((s.spendToken (s.budgetPart x.addr)).bump Reg.PLY_EXPSTAT_EXPELLED).setJob k
          { j with replicas := j.replicas.set i { x with expelled := true, suspect := false } })) ∧
    (OverrideReads s n d b 2 k i j x →
      ∃ t, exec (.expelOverrideHold (.slice n) d b) s = .next t ∧ Ended s t (.slice n) 0x33 d stOK 0 se
        (s.setJob k { j with replicas := j.replicas.set i { x with hold := count } })) ∧
    (OverrideReads s n d b 3 k i j x → part < nParts s.build →
      let g := min count (s.fget Reg.PLY_BUDCFG_CAP - s.fget (Reg.PLY_BUD_TOKENS.at part))
      ∃ t, exec (.expelOverrideGrant (.slice n) d b) s = .next t ∧ Ended s t (.slice n) 0x33 d stOK g se
        (if g = 0 then s else s.addTokens part g)) ∧
    (OverrideReads s n d b 4 k i j x → part < nParts s.build → s.flag (Reg.PLY_BUD_STORM.at part) = true →
      ∃ t, exec (.expelOverrideClearStorm (.slice n) d b) s = .next t ∧ Ended s t (.slice n) 0x33 d stOK 0 se (s.fset (Reg.PLY_BUD_STORM.at part) 0)) ∧
    (OverrideReads s n d b 5 k i j x → s.assisted 3 = true → s.ply.repls = [] → j.policy.attrLim ≠ 0 →
      ∀ (r : Round) (a c : Digest), j.closed = some r → digestOf r.got i = some a → digestOf r.got (count % 32) = some c →
      let m : W16 := BitVec.ofNat 16 (subDiff a c)
      ∃ t, exec (.expelOverrideAttribute (.slice n) d b) s = .next t ∧ RunsOn s t (.slice n) 0x33 d b
        (s.setJob k { j with attrs := j.attrs ++ [
          { step := r.step, ft := s.ft, since := s.now, result := rMAJORITY, got := [a, c], present := BitVec.ofNat 32 (maskOf [i, count % 32]),
            winner := c.digest, losers := [i], ref := some (count % 32), asks := [(i, m, true), (count % 32, m, false)], answers := [],
            cmd := some (cmdRun s (.slice n) 0x33 d b) }] }))

/-! ### Commands of Trace, the Reel, the Whorl and Staple -/

/-- TRC_CONFIG, TRC_ARM, TRC_DRAIN and TRC_RELEASE on a Leaf, and TRC_DRAIN on a Hub (R273, R284 to R288, R293): a configuration is held for its owner, an arm enables the sources that it names and starts the segment numbers anew, a drain in hardware mode returns raw bytes from the offset, on a Hub the records from the sequence number on, and a release gives the unit back. The model's own choices in it: assumption 77. -/
def Obligations.TraceIsCommanded : Prop :=
  (∀ (s : State) (n : Nat) (d : Desc) (b : Bus), Takes s (.slice n) → Clean s (.slice n) d → s.build = .leaf →
    (b.rd = .good → 32 ≤ d.len.toNat → s.trcNotOwner n = false → s.trcState = tIDLE →
      let bs := operandOf s (.slice n) d b
      s.trcCfgBad bs (trcCfgOf bs) = false →
      ∃ t, exec (.trcConfig (.slice n) d b) s = .next t ∧ Ended s t (.slice n) 0x40 d stOK 0 d.session.toNat
        { s with trc := { s.trc with cfg := some (trcCfgOf bs) } }) ∧
    (∀ c, s.trc.cfg = some c → s.trcNotOwner n = false → (s.trcState = tIDLE ∨ s.trcState = tFROZEN) → s.traceOff = false →
      ∃ t, exec (.trcArm (.slice n) d b) s = .next t ∧ (∀ i < 32, bit c.srcMask i = true → Emission.pin (.traceEnable i) true ∈ t.out) ∧
        Ended s t (.slice n) 0x41 d stOK 0 d.session.toNat { s with trc := { s.trc with segSeq := 0, hostPos := 0 } }) ∧
    (b.wfail = none → s.trcNotOwner n = false → s.trcState = tFROZEN → s.flag Reg.TRC_STATUS_VALID = true → (s.fnSwitch 7).assisted 7 = false →
      let old := s.fget Reg.TRC_OLDCNT_COUNT
      let a := d.arg0.toNat
      let m := min d.len.toNat (s.fget Reg.TRC_WRCNT_COUNT - old - a) / 8 * 8
      a % 8 = 0 → 8 ≤ d.len.toNat → a < s.fget Reg.TRC_WRCNT_COUNT - old → s.rawTrace (old + a) (old + a + m) ≠ [] →
      ∃ t, exec (.trcDrain (.slice n) d b) s = .next t ∧ Ended s t (.slice n) 0x42 d stOK m d.session.toNat
        (written s (.slice n) d (s.rawTrace (old + a) (old + a + m)))) ∧
    (s.trcNotOwner n = false → s.trc.releasing = none → s.trcState ≠ tSTREAM →
      ∃ t, exec (.trcRelease (.slice n) d b) s = .next t ∧ Ended s t (.slice n) 0x43 d stOK 0 d.session.toNat
        { s with trc := { s.trc with cfg := none } })) ∧
  (∀ (s : State) (n : Nat) (d : Desc) (b : Bus) (a : ArchRec) (l : List ArchRec), Takes s (.slice n) → Clean s (.slice n) d → s.build = .hub →
    b.wfail = none → b.rd = .good → (s.fnSwitch 7).assisted 7 = true → s.trc.archive = a :: l → a.seq = d.arg0 →
    seqLt (s.fget Reg.TRC_ARCHSEQ_NEWEST) d.arg0.toNat = false → a.size ≤ d.len.toNat →
    let bs := (archCopy false none 0 s (a :: l) d.len.toNat []).1
    ∃ t, exec (.trcDrainArchive (.slice n) d b) s = .next t ∧ Ended s t (.slice n) 0x42 d stOK bs.length d.session.toNat (written s (.slice n) d bs))

/-- CTR_SELECT, CTR_DUMP and CTR_PERIODIC on a Leaf (R226, R228, R249, R250): a set that is not bound takes its list, with nothing sampled under it yet; a dump returns the latest sample of a set, with sequence and skip count 0, or whole tag records, oldest first; a schedule waits for the set's next sample. The model's own choices in it: assumption 62. -/
def Obligations.CountersAreCommanded : Prop :=
  ∀ (s : State) (n : Nat) (d : Desc) (b : Bus), Takes s (.slice n) → Clean s (.slice n) d → s.build = .leaf →
    (b.rd = .good → d.arg0.toNat < 16 → d.arg1 = 0 → 1 ≤ d.count.toNat → d.count.toNat ≤ 8192 → 2 * d.count.toNat ≤ d.len.toNat →
      let k := d.arg0.toNat
      let sels := selList (operandOf s (.slice n) d b) d.count.toNat
      (∀ x ∈ sels, s.selPresent x = true) → s.flag (Reg.REEL_SETSTAT_BOUND.at k) = false → s.tableUsed k + d.count.toNat ≤ 8192 →
      ∃ t, exec (.ctrSelect (.slice n) d b) s = .next t ∧ Ended s t (.slice n) 0x50 d stOK 0 d.session.toNat (s.newList k sels)) ∧
    (b.wfail = none → d.arg0.toNat < 16 → ∀ sm, (s.rset d.arg0.toNat).latest = some sm →
      let x := s.rset d.arg0.toNat
      let bs := s.dumpBytes d.arg0.toNat x.sels sm 0 0
      ceilDiv (32 + 8 * x.sels.length) 64 * 64 ≤ d.len.toNat →
      ∃ t, exec (.ctrDump (.slice n) d b) s = .next t ∧ Ended s t (.slice n) 0x51 d stOK bs.length d.session.toNat
        (written (s.bump Reg.REEL_DUMPSTAT_DUMPS) (.slice n) d bs)) ∧
    (b.wfail = none → 32 ≤ d.len.toNat → s.reel.tags ≠ [] →
      let m := min s.reel.tags.length (d.len.toNat / 32)
      ∃ t, exec (.ctrDumpTags (.slice n) d b) s = .next t ∧ Ended s t (.slice n) 0x51 d stOK (32 * m) d.session.toNat
        (written { s with reel := { s.reel with tags := s.reel.tags.drop m } } (.slice n) d ((s.reel.tags.take m).flatMap recBytes))) ∧
    (b.rd = .good → 32 ≤ d.len.toNat →
      let w := wordAt (operandOf s (.slice n) d b)
      let k := bits (w 1) 11 8
      bits (w 1) 7 5 = 0 → bits (w 1) 15 12 = 0 → bits (w 1) 63 35 = 0 → w 3 = 0 → bits (w 1) 33 32 ≤ 1 →
      (bits (w 1) 33 32 = 0 → bits (w 0) 11 0 = 0 ∧ 12 ≤ bits (w 1) 4 0 ∧ bits (w 1) 4 0 ≤ 30 ∧ bits (w 2) 2 0 = 0) →
      ∃ t, exec (.ctrPeriodic (.slice n) d b) s = .next t ∧ Ended s t (.slice n) 0x52 d stOK 0 d.session.toNat
        (s.setRset k { s.rset k with newSched := some (if bits (w 1) 31 16 = 0 then none else some
          { slice := n, base := w 0, log2 := bits (w 1) 4 0, div := bits (w 1) 31 16, dest := bits (w 1) 33 32,
            mirror := bit (w 1) 34 && bits (w 1) 33 32 == 0, mir := w 2, seq := 0, nth := 0, skipped := 0, bytes := 0 }) }))

/-- TIME_READ, LEAP_LOAD and SITE_LOAD (R115, R205, R697): a time read's completion carries the compact time, and as VALUE the Whorl's state; a legal leap table replaces the one held; a site table of the block's own site gives its fields their values. -/
def Obligations.TimeAndTablesAreCommanded : Prop :=
  (∀ (s : State) (src : Src) (d : Desc) (b : Bus), Takes s src → Clean s src d →
    ∃ t, exec (.timeRead src d b) s = .next t ∧ Ended s t src 0x60 d stOK (s.fget Reg.WHL_STATUS_STATE) d.session.toNat s) ∧
  (∀ (s : State) (d : Desc) (b : Bus), Takes s .mgmt → Clean s .mgmt d →
    let bs := operandOf s .mgmt d b
    let w := wordAt bs
    (8 + 8 * bits (w 0) 23 16 ≤ d.len.toNat → leapOk bs = true →
      ∃ t, exec (.leapLoad .mgmt d b) s = .next t ∧ Ended s t .mgmt 0x61 d stOK (bits (w 0) 23 16) d.session.toNat
        ((({ s with whl := { s.whl with leap := some (readLeap bs) } } : State).fset Reg.WHL_UTC_ENTRIES (bits (w 0) 23 16)).fset Reg.WHL_UTC_LOADED 1)) ∧
    (32 ≤ d.len.toNat → bits (w 0) 31 8 = 0 → bits (w 1) 63 51 = 0 → bits (w 2) 63 48 = 0 → w 3 = 0 → bits (w 0) 7 0 = hSite s.self →
      ∃ t, exec (.siteLoad .mgmt d b) s = .next t ∧ Ended s t .mgmt 0x62 d stOK 0 d.session.toNat
        ((((((((s.fset Reg.TWS_CLOSE0_NS (bits (w 1) 15 0)).fset Reg.TWS_STEP_NS (bits (w 1) 31 16)).fset Reg.TWS_AMEND_US (bits (w 1) 47 32)).fset
          Reg.WHL_CTRL_SYNC_IVL (bits (w 1) 50 48)).fset Reg.SNG_DEAD_US (bits (w 2) 15 0)).fset Reg.SNG_SILENT_US (bits (w 2) 31 16)).fset
          Reg.STR_STARTCFG_LEAD (bits (w 2) 47 32)).fset Reg.ID_TABLEID_TABLEID (bits (w 0) 63 32))))

/-- STP_LOAD, SAFE_POINT and STP_RESULTS on a Leaf (R545, R546, R548, R556, R561): while no test runs, a package that passes every check takes the lowest free slot, its tests loaded now, and a removal frees the slot of its identifier; a safe point in the future is held and the event timer stands at the earliest start; results leave their queue oldest first, and the health record is written. The model's own choices in it: assumptions 13, 83. -/
def Obligations.StapleIsCommanded : Prop :=
  (∀ (s : State) (d : Desc) (b : Bus), Takes s .mgmt → Clean s .mgmt d → s.build = .leaf → d.arg0.toNat < 2 →
    s.stp.changes = [] → s.stp.changeCmds = [] → s.stp.run = none →
    (∀ slot, d.arg1 = 0 → 160 ≤ d.len.toNat →
      let bs := operandOf s .mgmt d b
      let p := pkgOf bs
      s.pkgBad bs = none → (∀ e ∈ s.stp.pkgs, e.2.pkgid ≠ p.pkgid) → Tab.lowestFree s.stp.pkgs 4 = some slot →
      sumN (s.stp.pkgs.map fun e => e.2.size) + p.size ≤ 262144 →
      ∃ t, exec (.stpLoad .mgmt d b) s = .next t ∧ Ended s t .mgmt 0x70 d stOK slot d.session.toNat
        { s with stp := { s.stp with
            pkgs := Tab.set s.stp.pkgs slot p
            tests := p.tests.zipIdx.foldl (fun (t : Tab TestState) e => Tab.set t (tkey slot e.2) { loadFt := s.ft }) (s.stp.tests.filter fun e => e.1 / 256 != slot) } }) ∧
    (∀ slot p, bits d.arg1 63 32 = 0 → Tab.get s.stp.pkgs slot = some p → p.pkgid.toNat = bits d.arg1 31 0 →
      (∀ e ∈ s.stp.pkgs, e.2.pkgid = p.pkgid → e.1 = slot) →
      ∃ t, exec (.stpLoadRemove .mgmt d b) s = .next t ∧ Ended s t .mgmt 0x70 d stOK slot d.session.toNat
        { s with stp := { s.stp with pkgs := Tab.del s.stp.pkgs slot, tests := s.stp.tests.filter fun e => e.1 / 256 != slot } })) ∧
  (∀ (s : State) (n : Nat) (d : Desc) (b : Bus), Takes s (.slice n) → Clean s (.slice n) d → s.build = .leaf →
    d.arg0 ≠ 0 → d.count.toNat < 256 → s.ft < d.arg1.toNat → s.stp.points.length < 8 →
    let p : SafePoint := { start := d.arg1.toNat, len := d.arg0.toNat, mask := BitVec.ofNat 8 d.count.toNat, opened := false, ran := [] }
    ((s.setPoints (s.stp.points ++ [p])).armSafe).2 = true →
    ∃ t, exec (.safePoint (.slice n) d b) s = .next t ∧ Ended s t (.slice n) 0x71 d stOK 0 d.session.toNat
      (((s.setPoints (s.stp.points ++ [p])).armSafe).1.bump Reg.STP_SPSTAT_DECLARED)) ∧
  (∀ (s : State) (src : Src) (d : Desc) (b : Bus), Takes s src → Clean s src d → s.build = .leaf → d.arg0.toNat < 2 → b.wfail = none → 32 ≤ d.len.toNat →
    (s.stp.results ≠ [] →
      let m := min s.stp.results.length (d.len.toNat / 32)
      ∃ t, exec (.stpResults src d b) s = .next t ∧ Ended s t src 0x72 d stOK (32 * m) d.session.toNat
        (written { s with stp := { s.stp with results := s.stp.results.drop m } } src d ((s.stp.results.take m).flatMap recBytes))) ∧
    (let us := s.healthUnits.take ((d.len.toNat - 32) / 32)
     let f := Config.freeWord s.fresh
     let least := match us.filterMap fun u => s.untested u with | [] => f | x :: l => BitVec.ofNat 64 (l.foldl min x)
     let bs := wordsBytes ([BitVec.ofNat 64 s.ft, BitVec.ofNat 64 ((s.unit 0).toNat + fld 8 48 s.dieScore),
       BitVec.ofNat 64 (fld 16 0 us.length + fld 16 16 s.overdueCount), least] ++ us.flatMap fun u => s.healthEntry u f)
     ∃ t, exec (.stpHealthRead src d b) s = .next t ∧ Ended s t src 0x72 d stOK bs.length d.session.toNat (written s src d bs)))

/-! ### The log, dumps, images and slices -/

/-- LOG_READ (R661 to R663): an unfrozen log gives its records from the sequence number on, or the oldest, as many whole ones as fit, and VALUE is their number; on a Leaf's host port it freezes until the meter has written them. LOG_CLEAR (R664): an unfrozen log loses the records up to the sequence number, or all of them, VALUE is their number, and a CLEAR record, type 2, is written with that number. The model's own choices in it: assumptions 40, 41. -/
def Obligations.LogIsReadAndCleared : Prop :=
  (∀ (s : State) (src : Src) (d : Desc) (b : Bus), Takes s src → Clean s src d → d.arg1.toNat < 2 → 64 ≤ d.len.toNat → b.wfail = none → s.skn.read = none →
    let l := (s.logFrom (bit d.arg1 0) d.arg0.toNat).take (d.len.toNat / 64)
    (l ≠ [] → (s.build = .hub ∨ src = .mgmt) →
      ∃ t, exec (.logRead src d b) s = .next t ∧ Ended s t src 0x80 d stOK l.length d.session.toNat (written s src d (logBytes l))) ∧
    (l ≠ [] → s.build = .leaf → ∀ n, src = .slice n →
      ∃ t, exec (.logRead src d b) s = .next t ∧ RunsOn s t src 0x80 d b
        { s with
          skn := { s.skn with read := some (cmdRun s src 0x80 d b), readFt := s.now, readLen := (logBytes l).length }
          meter := { s.meter with queue := s.meter.queue ++ [{ cls := 2, use_ := .log, slice := n, addr := d.addr, data := logBytes l, left := (logBytes l).length, waited := false }] } }) ∧
    (l = [] → ∃ t, exec (.logRead src d b) s = .next t ∧ Ended s t src 0x80 d stOK 0 d.session.toNat s)) ∧
  (∀ (s : State) (d : Desc) (b : Bus), Takes s .mgmt → Clean s .mgmt d → d.arg1.toNat < 2 → s.skn.read = none →
    let gone := if bit d.arg1 0 then s.logHeld else s.logHeld.takeWhile fun e => !(seqLt d.arg0.toNat (recSeq e))
    ∃ t, exec (.logClear .mgmt d b) s = .next t ∧ Ended s t .mgmt 0x81 d stOK gone.length d.session.toNat s ∧
      (Calm s → d.arg1 = 1 → gone.length < 2 ^ 32 →
        ∃ r, t.logHeld = [r] ∧ bits r.1.w2 39 32 = 2 ∧ recSeq r = s.skn.next.toNat ∧ bits r.2.w0 31 0 = gone.length))

/-- DUMP (R667, R672): CAPTURE starts one of the sections of the mask, the header always, when none runs and no dump is held; READ returns whole words from an offset; RELEASE frees the dump, and VALUE is its length. IMG_LOAD (R691, R693): unless one is being verified or applied, an image goes to verification with its bytes as they stand in the staging buffer, in RUN as in bring-up, where the step becomes VERIFY. The model's own choices in it: assumptions 13, 55, 88. -/
def Obligations.DumpsAndImagesAreCommanded : Prop :=
  (∀ (s : State) (d : Desc) (b : Bus), Takes s .mgmt → Clean s .mgmt d → d.arg0.toNat < 4 →
    (d.arg1.toNat < 256 → s.skn.dump = none → s.skn.capture = none →
      ∃ t, exec (.dumpCapture .mgmt d b) s = .next t ∧ RunsOn s t .mgmt 0x82 (dumpAction d 0) b s ∧
        (Calm s → t.skn.capture = some { mask := d.arg1.toNat / 2 * 2 + 1, port := 0, auto := false, start := s.ft,
                                         cmd := some (cmdRun s .mgmt 0x82 (dumpAction d 0) b) } ∧ t.skn.noResp = [])) ∧
    (∀ x, s.skn.dump = some x →
      (let off := d.arg1.toNat
       let m := min d.len.toNat (x.bytes.length - off) / 8 * 8
       8 ≤ m → off % 8 = 0 →
        ∃ t, exec (.dumpRead .mgmt d b) s = .next t ∧ Ended s t .mgmt 0x82 (dumpAction d 1) stOK m d.session.toNat
          (written s .mgmt d ((x.bytes.drop off).take m))) ∧
      (d.arg1 = 0 → s.skn.capture = none →
        ∃ t, exec (.dumpRelease .mgmt d b) s = .next t ∧ Ended s t .mgmt 0x82 (dumpAction d 2) stOK x.bytes.length d.session.toNat
          { s with skn := { s.skn with dump := none, dbgPos := 0 } }))) ∧
  (∀ (s : State) (d : Desc) (b : Bus), Clean s .mgmt d → d.len ≠ 0 → s.imageBusy = false →
    let r := cmdRun s .mgmt 0x83 d { b with data := operandOf s .mgmt d b }
    (Takes s .mgmt → s.bootStep ≠ 1 →
      ∃ t, exec (.imgLoad .mgmt d b) s = .next t ∧ RunsOn s t .mgmt 0x83 d b { s with boot := { s.boot with verify := some r } }) ∧
    (s.hif.mgmtHeld = [] → s.hif.mgmtRun = none → s.hif.mgmtWait = [] → s.running = false → s.stopped = false → s.bootStep = 1 →
      ∃ t, exec (.imgLoad .mgmt d b) s = .next t ∧ t.boot.verify = some r ∧ t.bootStep = 2))

/-- SLC_BIND, SLC_RESIZE, SLC_UNBIND and SLC_QUERY (R180, R182, R183, R206): slice 0 binds an unbound slice to a process with every count and the quota at 0; a resize puts the quota, and VALUE is the old one; an unbind of a slice with nothing open, held or queued clears its binding and quota; a query returns the entries that fit. The model's own choices in it: assumption 25. -/
def Obligations.SlicesAreCommanded : Prop :=
  (∀ (s : State) (d : Desc) (b : Bus), Takes s (.slice 0) → Clean s (.slice 0) d → bits d.arg1 63 20 = 0 →
    let k := d.arg0.toNat
    k < nSlices s.build → s.bound k = false →
    ∃ t, exec (.slcBind (.slice 0) d b) s = .next t ∧
      t.fget (Reg.SLC_PASID_PASID.at k) = d.arg1.toNat ∧ t.bound k = true ∧ t.fget (Reg.SLC_QUOTA_QUOTA.at k) = 0 ∧
      t.fget (Reg.SLC_CMDHEAD_COUNT.at k) = 0 ∧ t.fget (Reg.SLC_CMDTAIL_COUNT.at k) = 0 ∧ t.fget (Reg.SLC_CPLHEAD_COUNT.at k) = 0 ∧
      t.fget (Reg.SLC_CPLTAIL_COUNT.at k) = 0 ∧ t.fget (Reg.SLC_VRDHEAD_COUNT.at k) = 0 ∧ t.fget (Reg.SLC_VRDTAIL_COUNT.at k) = 0 ∧
      Ended s t (.slice 0) 0x90 d stOK 0 d.session.toNat
        (([Reg.SLC_CMDHEAD_COUNT, Reg.SLC_CMDTAIL_COUNT, Reg.SLC_CPLHEAD_COUNT, Reg.SLC_CPLTAIL_COUNT, Reg.SLC_VRDHEAD_COUNT, Reg.SLC_VRDTAIL_COUNT]).foldl
          (fun u f => u.fset (f.at k) 0)
          (((s.fset (Reg.SLC_PASID_PASID.at k) d.arg1.toNat).fset (Reg.SLC_PASID_BOUND.at k) 1).fset (Reg.SLC_QUOTA_QUOTA.at k) 0))) ∧
  (∀ (s : State) (src : Src) (d : Desc) (b : Bus), (src = .slice 0 ∨ src = .mgmt) → Takes s src → Clean s src d →
    let k := d.arg0.toNat
    k < nSlices s.build →
    (s.quotaSum - s.fget (Reg.SLC_QUOTA_QUOTA.at k) + d.count.toNat ≤ nSessions s.build →
      ∃ t, exec (.slcResize src d b) s = .next t ∧ Ended s t src 0x91 d stOK (s.fget (Reg.SLC_QUOTA_QUOTA.at k)) d.session.toNat
        (s.fset (Reg.SLC_QUOTA_QUOTA.at k) d.count.toNat)) ∧
    (k ≠ 0 → s.bound k = true → s.enabled k = false → Tab.wf s.hif.slices = true →
      let x := s.slice k
      x.unbind = none → x.running = [] → x.fetched = [] → x.cplWait = [] → x.vq = [] → x.stalls = [] →
      (∀ e ∈ s.openSess, e.2.slice ≠ k) → (∀ e ∈ s.dst.models, e.2.slice ≠ k) → (∀ y ∈ s.tws.sinks, y.slice ≠ k) →
      s.flag Reg.TRC_STATUS_OWNED = false →
      ∃ t, exec (.slcUnbind src d b) s = .next t ∧ Ended s t src 0x92 d stOK 0 d.session.toNat
        ((((s.setSlice k { x with unbind := none, quiescing := false }).fset (Reg.SLC_PASID_PASID.at k) 0).fset (Reg.SLC_PASID_BOUND.at k) 0).fset
          (Reg.SLC_QUOTA_QUOTA.at k) 0))) ∧
  (∀ (s : State) (src : Src) (d : Desc) (b : Bus), Takes s src → Clean s src d → b.wfail = none → 64 ≤ d.len.toNat →
    let e := fun (u : State) => (List.range (min (d.len.toNat / 64) (nSlices s.build))).flatMap u.slcEntry
    ∃ t, exec (.slcQuery src d b) s = .next t ∧ ∃ bs, bs.length = 64 * min (d.len.toNat / 64) (nSlices s.build) ∧
      (src = .mgmt → bs = e s) ∧ (∀ n, src = .slice n → ∀ k < min (d.len.toNat / 64) (nSlices s.build), k ≠ n → (bs.drop (64 * k)).take 64 = s.slcEntry k) ∧
      Ended s t src 0x93 d stOK bs.length d.session.toNat (written s src d bs))

/-! ### Register writes -/

/-- Register words that a write merely sets: no row of the tables gives a write of them an effect of its own, and they are no half of a 64-bit register (R10, R166 to R171). -/
def heldWord (a : Nat) : Bool :=
  !(decide (a ∈ [0x1028, 0x102C, 0x2008, 0x2014, 0x2018, 0x2074, 0x2094, 0x20B0, 0x4000, 0x4004, 0x5010, 0x6000, 0x6024, 0x6034, 0x7000, 0x7014,
      0xE024, 0xE028, 0xE02C, 0xE110, 0x10000, 0x10010, 0x10014, 0x1102C, 0x11040])
    || decide (0x11C0 ≤ a ∧ a < 0x11D0) || decide (0x1200 ≤ a ∧ a < 0x1380) || decide (0x5020 ≤ a ∧ a < 0x5044) || decide (0x6040 ≤ a ∧ a < 0x6080)
    || decide (0x7100 ≤ a ∧ a < 0x7300) || decide (0xB050 ≤ a ∧ a < 0xB094) || decide (0x80000 ≤ a) || isLow64 a || isLow64 (a - 4))

/-- The alias pages and masked writes (R10, R167, R168): bit by bit, a plain write of an RW word gives it the bits written, the set, clear and toggle aliases set, clear and toggle where a 1 is written; a plain write of an MW word changes the low bits whose mask bit in the high half is 1; bits that are not writable stay. The model's own choices in it: assumption 18. -/
def Obligations.WritesThroughAliases : Prop :=
  ∀ (m i : Nat) (al : BitVec 2) (old v : W32), i < 32 →
    let writable := bit (BitVec.ofNat 32 m) i
    (bit (writtenWord .rw m al old v) i =
      if writable then (match al.toNat with | 0 => bit v i | 1 => bit old i || bit v i | 2 => bit old i && !bit v i | _ => xor (bit old i) (bit v i)) else bit old i) ∧
    (i < 16 → bit (writtenWord .mw m al old v) i =
      if writable then (match al.toNat with
        | 0 => if bit v (i + 16) then bit v i else bit old i
        | 1 => bit old i || bit v i | 2 => bit old i && !bit v i | _ => xor (bit old i) (bit v i)) else bit old i)

/-- REGISTER_WRITE (R163 to R168, R216): a write that reaches a word which merely holds its bits sets it; with partial byte enables on the host port it is discarded and counted; one that leads nowhere is counted as unmapped. STAGE_WRITE and STAGE_READ (R694, R695): bytes written inside the buffer are read back, no other byte changes, and a read answers with what stands there. The model's own choices in it: assumptions 9, 17, 18, 19. -/
def Obligations.WritesReachTheirPlaces : Prop :=
  (∀ (s : State) (a : Acc) (addr : BitVec 24) (v : W32), s.work = [] →
    (∀ al page off k r, s.place a.port addr.toNat = .word al page off → Reaches s a → heldWord (page * 4096 + off) = true →
      rowOf (page * 4096 + off) = some r → r.w1c = 0 → s.bankKey a.port (page * 4096 + off) = some k → s.writeBits (page * 4096 + off) r ≠ 0 →
      exec (.registerWrite a addr v) s =
        .next ((s.regSet k (writtenWord r.kind (s.writeBits (page * 4096 + off) r) al (s.regGet k) v)).answer a)) ∧
    (∀ al page off, s.place a.port addr.toNat = .word al page off → a.port = .host → a.full = false → (s.build.isHub = true ∨ a.pasid = none) →
      ∃ t, exec (.registerWrite a addr v) s = .next t ∧ Matches t (s.fset Reg.HIF_ERR_PARTIAL (s.fget Reg.HIF_ERR_PARTIAL + 1))) ∧
    (s.place a.port addr.toNat = .unmapped → Reaches s a →
      exec (.registerWrite a addr v) s = .next ((s.fset Reg.HIF_ERR_UNMAPPED (s.fget Reg.HIF_ERR_UNMAPPED + 1)).answer a))) ∧
  (∀ (s : State) (off len : Nat) (data : List Byte), s.mgmtHolds = false → s.work = [] → Tab.wf s.hif.staging = true →
    (data ≠ [] → data.length ≤ 1024 → off + data.length ≤ stagingSize s.build →
      ∃ t, exec (.stageWrite off data) s = .next t ∧ t.core = s.core ∧ t.out = .mgmtData 0 [] :: s.out ∧ stageRead t.hif.staging off data.length = data ∧
        ∀ a, a < off ∨ off + data.length ≤ a → stageGet t.hif.staging a = stageGet s.hif.staging a) ∧
    (len ≠ 0 → len ≤ 1024 → off + len ≤ stagingSize s.build →
      exec (.stageRead off len) s = .next (s.emit (.mgmtData 0 (stageRead s.hif.staging off len)))))

/-- SLC_ENABLE and SLC_DISABLE (R180, R181, R185): a bound slice with legal rings is enabled and no longer quiesced; a disabled slice with nothing in flight is quiesced at once, and a descriptor that it fetched but did not start completes with ABORTED. The model's own choices in it: assumption 25. -/
def Obligations.SlicesAreEnabledAndDisabled : Prop :=
  ∀ (s : State) (a : Acc) (v : W32), Reaches s a →
    let n := s.selGet a.port Reg.SLC_SEL_SLICE
    let x := s.slice n
    n < nSlices s.build →
    (s.enabled n = false → s.enableCause n = none → (a.bitAlias = 0 ∨ a.bitAlias = 1) →
      ∃ t, exec (.slcEnable a v) s = .next t ∧ t.enabled n = true ∧ t.flag (Reg.SLC_STATUS_ENABLED.at n) = true ∧
        t.flag (Reg.SLC_STATUS_QUIESCED.at n) = false ∧ t.core = s.core ∧ (∀ m, m ≠ n → t.slice m = s.slice m)) ∧
    (s.enabled n = true → x.running = [] → x.cplWait = [] → x.unbind = none → (a.bitAlias = 0 ∨ a.bitAlias = 2) →
      (x.fetched = [] →
        ∃ t, exec (.slcDisable a v) s = .next t ∧ t.enabled n = false ∧ t.flag (Reg.SLC_STATUS_ENABLED.at n) = false ∧
          t.flag (Reg.SLC_STATUS_QUIESCED.at n) = true ∧ t.core = s.core ∧ (∀ m, m ≠ n → t.slice m = s.slice m)) ∧
      (∀ f, x.fetched = [f] →
        ∃ t, exec (.slcDisable a v) s = .next t ∧ t.enabled n = false ∧ (t.slice n).fetched = [] ∧ (t.slice n).running = [] ∧
          (t.slice n).cplWait = [{ opcode := f.opcode, status := stABORTED, session := f.d.session.toNat, value := 0, dseq := f.dseq, ct := s.ct, irq := f.d.irq }]))

/-- A doorbell reaches slice `n`: the slice is bound and enabled and, on a Leaf, the write carries its process identifier, or none for slice 0 (R179, R189). -/
def Rings (s : State) (pasid : Option (BitVec 20)) (n : Nat) : Prop :=
  n < nSlices s.build ∧ s.bound n = true ∧ s.enabled n = true ∧
    (s.build.isHub = true ∨ pasid.map BitVec.toNat = if n = 0 then none else some (s.fget (Reg.SLC_PASID_PASID.at n)))

/-- DB_CMDTAIL, DB_CPLHEAD and DB_VRDHEAD (R186 to R189, R209): a command tail is taken when (v − head) mod 2^32 is at least the occupancy and at most the ring size, else the count stays, with RING_ERR and cause 3; a legal completion or verdict head takes its place, and in window mode also consumes the records that it passes. -/
def Obligations.DoorbellsMoveCounts : Prop :=
  ∀ (s : State) (pasid : Option (BitVec 20)) (n : Nat) (v : W32), Rings s pasid n → Calm s →
    (s.cmdOcc n ≤ mod32 v.toNat (s.fget (Reg.SLC_CMDHEAD_COUNT.at n)) → mod32 v.toNat (s.fget (Reg.SLC_CMDHEAD_COUNT.at n)) ≤ s.cmdSize n →
      exec (.dbCmdtail pasid n v) s = .next (s.fset (Reg.SLC_CMDTAIL_COUNT.at n) v.toNat)) ∧
    (mod32 v.toNat (s.fget (Reg.SLC_CMDHEAD_COUNT.at n)) < s.cmdOcc n ∨ s.cmdSize n < mod32 v.toNat (s.fget (Reg.SLC_CMDHEAD_COUNT.at n)) →
      ∃ t, exec (.dbCmdtail pasid n v) s = .next t ∧ t.fget (Reg.SLC_CMDTAIL_COUNT.at n) = s.fget (Reg.SLC_CMDTAIL_COUNT.at n) ∧
        t.flag (Reg.SLC_STATUS_RING_ERR.at n) = true ∧ t.fget (Reg.SLC_STATUS_CAUSE.at n) = 3) ∧
    (mod32 v.toNat (s.fget (Reg.SLC_CPLHEAD_COUNT.at n)) ≤ s.cplOcc n →
      exec (.dbCplhead pasid n v) s = .next (s.fset (Reg.SLC_CPLHEAD_COUNT.at n) v.toNat)) ∧
    (let k := mod32 v.toNat (s.fget (Reg.SLC_VRDHEAD_COUNT.at n))
     let x := s.slice n
     k ≤ s.vrdOcc n →
      (s.flag (Reg.SLC_CTRL_VDEST.at n) = false ∨ k = 0 → exec (.dbVrdhead pasid n v) s = .next (s.fset (Reg.SLC_VRDHEAD_COUNT.at n) v.toNat)) ∧
      (s.flag (Reg.SLC_CTRL_VDEST.at n) = true → k ≠ 0 →
        exec (.dbVrdhead pasid n v) s = .next ((((s.setSlice n { x with vq := x.vq.drop k, shown := (x.vq.take k).getLastD x.shown }).led 5 n .out k).led 0xD n .out k).fset
          (Reg.SLC_VRDHEAD_COUNT.at n) v.toNat)))

/-- SLC_VWSTAT_READ and VERDICT_STALL_EXPIRY (R209 to R211): in window mode a read answers with the head count and VALID while a record waits; with none it answers UNDERRUN at once, or stalls; a read that has stalled for its limit ends with NOTREADY and is counted. The model's own choices in it: assumption 14. -/
def Obligations.VerdictWindowAnswers : Prop :=
  ∀ (s : State), s.work = [] →
    (∀ a, (a.port = .mgmt → s.mgmtHolds = false) → (a.port = .host → s.build.isHub = true ∨ a.pasid = none) →
      let n := s.selGet a.port Reg.SLC_SEL_SLICE
      let h := s.fget (Reg.SLC_VRDHEAD_COUNT.at n)
      let x := s.slice n
      n < nSlices s.build → s.flag (Reg.SLC_CTRL_VDEST.at n) = true →
      (x.vq ≠ [] → exec (.slcVwstatRead a) s = .next (s.readOut a.port (BitVec.ofNat 32 (h % 65536 + 65536)))) ∧
      (x.vq = [] → s.flag (Reg.SLC_CTRL_VMODE.at n) = false →
        exec (.slcVwstatRead a) s = .next ((s.readOut a.port (BitVec.ofNat 32 (mod32 h 1 % 65536 + 131072))).fset (Reg.SLC_VSTAT_UNDERRUNS.at n)
          (s.fget (Reg.SLC_VSTAT_UNDERRUNS.at n) + 1))) ∧
      (x.vq = [] → s.flag (Reg.SLC_CTRL_VMODE.at n) = true → s.fget (Reg.SLC_CTRL_STALL_LIM.at n) ≠ 0 →
        exec (.slcVwstatRead a) s = .next (s.setSlice n { x with stalls := x.stalls ++ [(a.port, s.now)] }))) ∧
    (∀ n p t, (s.slice n).stalls = [(p, t)] → t + 500 * s.fget (Reg.SLC_CTRL_STALL_LIM.at n) ≤ s.now →
      exec (.verdictStallExpiry n) s = .next (((s.setSlice n { s.slice n with stalls := [] }).readOut p
        (BitVec.ofNat 32 (mod32 (s.fget (Reg.SLC_VRDHEAD_COUNT.at n)) 1 % 65536 + 262144))).fset (Reg.SLC_VSTAT_UNDERRUNS.at n)
          (s.fget (Reg.SLC_VSTAT_UNDERRUNS.at n) + 1)))



/-- HIF_FNMODE_WRITE, WHL_ADJ_WRITE, WHL_STEP, WHL_ASYM_WRITE and GEN_ARM (R87, R93, R107, R214): mode bits pend where they differ from the mode in force; the driver's adjustment, in host-assisted mode, gives the rate 4.0 × (1 + ADJ × 2^-40), and its forward step moves FT; the asymmetry of an up-port is set; a legal set of a generator whose APPLY lies ahead pends, and an illegal one sets ERR. The model's own choices in it: assumption 23. -/
def Obligations.ModesAndClocksAreWritten : Prop :=
  ∀ (s : State) (a : Acc) (v : W32), Reaches s a → s.work = [] →
    (let s1 := s.regSet Reg.HIF_FNMODE_MODE.addr (s.mwWrite Reg.HIF_FNMODE_MODE.addr (if s.build.isHub then 0xFF else 0xF5) a v)
     ∃ t, exec (.hifFnmodeWrite a v) s = .next t ∧ t.fget Reg.HIF_FNMODE_MODE = s1.fget Reg.HIF_FNMODE_MODE ∧
       ∀ i < 8, t.fget Reg.HIF_FNSTAT_PENDING / 2 ^ i % 2 = 1 ↔ s1.fget Reg.HIF_FNMODE_MODE / 2 ^ i % 2 ≠ s.fget Reg.HIF_FNSTAT_MODE / 2 ^ i % 2) ∧
    (let d := sext 32 v.toNat
     a.bitAlias = 0 → s.assisted 0 = true → s.whl.slew = 0 → d.natAbs * 5000 ≤ 2 ^ 40 →
      let r := (2 ^ 42 + 4 * d).toNat
      exec (.whlAdjWrite a v) s =
        .next ((({ s.regSet Reg.WHL_ADJ_ADJ.addr v with whl := { s.whl with base := r } } : State).fset Reg.WHL_RATE_RATE r).answer a)) ∧
    (let d := sext 32 v.toNat
     a.bitAlias = 0 → s.assisted 0 = true →
      (0 < d → ∃ t, exec (.whlStep a v) s = .next t ∧ t.ft = min (s.ft + d.toNat) (2 ^ 64 - 1) ∧ t.fget Reg.WHL_STATUS_STEPS = (s.fget Reg.WHL_STATUS_STEPS + 1) % 65536) ∧
      (d < 0 → s.running = true → ∃ t, exec (.whlStep a v) s = .next t ∧ t.ft = s.ft ∧ t.whl.slew = s.whl.slew - d * 2 ^ 40)) ∧
    (∀ k, k < (if s.build.isHub then 4 else 2) →
      exec (.whlAsymWrite a k v) s = .next ((s.regSet (Reg.WHL_ASYM_ASYM.at k).addr
        (writtenWord .rw 0xFFFFFFFF a.bitAlias (s.regGet (Reg.WHL_ASYM_ASYM.at k).addr) v)).answer a)) ∧
    (∀ n, n < 12 →
      let key := 0x1200 + 32 * n
      let w := s.mwWrite key 7 a v
      let s1 := s.regSet key (mergeBits 3 (s.regGet key) w)
      bit w 2 = true →
      (genOk (s1.shadow n) = true → s.ft < (s1.shadow n).apply →
        exec (.genArm a n v) s = .next (((s1.fset (Reg.WHL_GEN_ERR.at n) 0).setGen n { s.gen n with pend := some (s1.shadow n) }).answer a)) ∧
      (genOk (s1.shadow n) = false → exec (.genArm a n v) s = .next ((s1.fset (Reg.WHL_GEN_ERR.at n) 1).answer a)))

/-! ### Snag, resets and the units' own registers -/

/-- SNG_UNACK_WRITE, SNG_FPOP, SNG_FENCE and SNG_DCMD_RESTORE (R501, R505, R510 to R515, R532): classes written 1 are acknowledged; POP removes the oldest record; GO fences the unit or the partition that it names, or stops the block; a tray Hub's EXPELLED entry is UNKNOWN again. -/
def Obligations.SnagIsCommanded : Prop :=
  ∀ (s : State) (a : Acc) (v : W32), Reaches s a → Calm s →
    (a.bitAlias = 0 →
      exec (.sngUnackWrite a v) s = .next (({ s.fset Reg.SNG_UNACK_CLASS ((BitVec.ofNat 16 (s.fget Reg.SNG_UNACK_CLASS)) &&& ~~~(BitVec.ofNat 16 (bits v 15 0))).toNat with
        snag := { s.snag with last := s.snag.last.filter fun e => !(bit (BitVec.ofNat 16 (bits v 15 0)) (e.1 - 1)) } } : State).answer a)) ∧
    (a.bitAlias = 0 → bit v 0 = true → ∀ r l, s.snag.fq = r :: l →
      exec (.sngFpop a v) s = .next ((({ s with snag := { s.snag with fq := l } } : State).led 5 64 .out 1).answer a)) ∧
    (a.bitAlias = 0 → bit v 17 = true →
      (∀ u, bits v 16 15 = 1 → bits v 10 0 = u → 0 < u → u < 0x40 → unitExists s.build u = true → s.isFenced u = false →
        exec (.sngFence a v) s = .next (({ s with snag := { s.snag with unitFence := Tab.set s.snag.unitFence u () } } : State).answer a)) ∧
      (∀ n, bits v 16 15 = 2 → bits v 14 11 = n → s.build = .leaf → n < 8 → s.partFenced n = false → s.stopped = false → s.partUnits n = [] →
        exec (.sngFence a v) s = .next ((s.fset Reg.SNG_FSTAT_PARTS (putBits (s.fget Reg.SNG_FSTAT_PARTS) n 1 1)).answer a)) ∧
      (bits v 16 15 = 3 → s.stopped = false →
        exec (.sngFence a v) s = .next { (((s.answer a).fset Reg.SNG_STATUS_STOPPED 1).fset Reg.SNG_STATUS_ALIVE_RUN 0).emit (.pin .alive false) with
          snag := { s.snag with stopFt := some s.now, aliveLevel := false } })) ∧
    (let p := s.selGet a.port Reg.SNG_DSEL_PORT
     s.tier = 1 → s.routeValid p = true → (s.die p).state = 5 →
      ∃ t, exec (.sngDcmdRestore a) s = .next t ∧
        t.die p = { s.die p with state := 0, expelled := false, suspect := false, changes := (s.die p).changes + 1 } ∧
        ∀ q, q ≠ p → t.die q = s.die q)

/-- SNG_CLAIM, UNIT_RESET, PARTITION_RESET and their ends (R514, R530, R685 to R688): a claim leaves a Leaf toward its parent; a reset of a unit that has one runs from now; that of the check-value unit returns its registers to their reset values and leaves every other word alone; at its end it is counted, and the fence of the unit, or of the partition, is lifted. The model's own choices in it: assumptions 59, 60, 94. -/
def Obligations.ResetsAreCommanded : Prop :=
  (∀ (s : State) (a : Acc) (v : W32), Reaches s a → Calm s →
    let s1 := s.writeHigh 0x2090 0xFFFF a v
    let subj : Hank := BitVec.ofNat 48 (s1.fget Reg.SNG_CLAIM_SUBJECT)
    s.build = .leaf → s.tier ≠ 1 → namesNothing subj = false → s.snagOff = false → hPlace subj ≠ hPlace s.self →
      exec (.sngClaim a v) s = .next ((s1.sendUp 0x1A 6 subj false [BitVec.ofNat 64 subj.toNat, BitVec.ofNat 64 s.self.toNat] []).answer a)) ∧
  (∀ (s : State) (a : Acc), Reaches s a → a.bitAlias = 0 → s.stopped = false →
    (∀ u, resettable s.build u.toNat = true → Tab.get s.snag.resets u.toNat = none →
      ∃ t, exec (.unitReset a u) s = .next t ∧ Tab.get t.snag.resets u.toNat = some s.now ∧
        (u = 0x10 → (∀ k, wordOf k / 256 = 0x100 → t.regGet k = imgMerge (s.imgWord k) (BitVec.ofNat 32 (resetWord s.build s.tier k))) ∧
          ∀ k, quietWord k = true → wordOf k / 256 ≠ 0x100 → t.regGet k = s.regGet k)) ∧
    (∀ n, n.toNat < nParts s.build → Tab.get s.snag.partResets n.toNat = none →
      ∃ t, exec (.partitionReset a n) s = .next t ∧ Tab.get t.snag.partResets n.toNat = some s.now)) ∧
  (∀ (s : State) (u : Nat), s.work = [] → 0 < u → u < 0x40 → (Tab.get s.snag.resets u).isSome = true → s.isFenced u = true →
    exec (.unitResetEnd u) s = .next (({ s with snag := { s.snag with resets := Tab.del s.snag.resets u, unitFence := Tab.del s.snag.unitFence u } } : State).fset
      Reg.SNG_RSTSTAT_COUNT (s.fget Reg.SNG_RSTSTAT_COUNT + 1))) ∧
  (∀ (s : State) (n : Nat), s.work = [] → s.build = .leaf → (Tab.get s.snag.partResets n).isSome = true → s.snag.unitFence = [] → s.partUnits n = [] →
    exec (.partitionResetEnd n) s =
      .next ((({ s with snag := { s.snag with partResets := Tab.del s.snag.partResets n, partIdle := Tab.del s.snag.partIdle n } } : State).fset
        Reg.SNG_FSTAT_PARTS (putBits (s.fget Reg.SNG_FSTAT_PARTS) n 1 0)).fset Reg.SNG_RSTSTAT_COUNT (s.fget Reg.SNG_RSTSTAT_COUNT + 1)))

/-- TRC_FREEZE, TRC_TRIG, TWS_RKCTRL_EN and TWS_PUBCTRL_SEND (R275 to R279, R443, R445): a freeze leaves the retained data valid with every local buffer empty; an enabled driver's trigger of an armed unit starts the post-trigger count with cause 1; an allowed rank rule is enabled with its state cleared, one that is not sets ERR; a Hub's driver publishes to a sink, and ERR is set where none is bound. The model's own choices in it: assumption 71. -/
def Obligations.TraceAndRanksAreWritten : Prop :=
  ∀ (s : State) (a : Acc) (v : W32), Reaches s a → Calm s →
    (s.traceOff = false → s.trcState ∈ [tARMED, tPOST, tSTREAM] → (∀ i < 32, (s.trSrc i).buf.length < 2 ^ 32) →
      ∃ t, exec (.trcFreeze a) s = .next t ∧ t.trcState = tFROZEN ∧ t.flag Reg.TRC_STATUS_VALID = true ∧ ∀ i < 32, (t.trSrc i).buf = []) ∧
    (∀ c, s.traceOff = false → s.trcState = tARMED → s.trc.cfg = some c → c.pre < 16 → s.trigEnabled 1 0 = true →
      ∃ t, exec (.trcTrig a) s = .next t ∧ t.trcState = tPOST ∧ t.fget Reg.TRC_STATUS_CAUSE = 1 ∧
        t.fget Reg.TRC_TRIGCNT_COUNT = s.fget Reg.TRC_WRCNT_COUNT) ∧
    (let k := s.selGet a.port Reg.TWS_RKSEL_RULE
     let key := (Reg.TWS_RKCTRL_EN.at k).addr
     let w := s.mwWrite key 0x1F a v
     k < nRules s.build → s.rankOn k = false → bit w 0 = true →
      (s.rankAllowed k w = true → exec (.twsRkctrlEn a v) s = .next (((s.setRank k {}).regSet key (w &&& 0x1F#32)).answer a)) ∧
      (s.rankAllowed k w = false → exec (.twsRkctrlEn a v) s = .next ((s.regSet key ((w &&& 0x1E#32) ||| 0x20#32)).answer a))) ∧
    (let ws := s.pubWords
     let w := fun i => ws.getD i 0
     s.build = .hub →
      ((∀ y ∈ s.tws.sinks, y.rid ≠ bits (w 1) 15 0) → exec (.twsPubctrlSend a) s = .next ((s.fset Reg.TWS_PUBCTRL_ERR 1).answer a)) ∧
      ((∃ y ∈ s.tws.sinks, y.rid = bits (w 1) 15 0) → bits (w 1) 23 22 = 0 → bits (w 1) 63 40 = 0 → bits (w 3) 63 48 = 0 →
        (∀ i < 55, pubKey ws i ≤ pubKey ws (i + 1)) →
        ∃ t, exec (.twsPubctrlSend a) s = .next t ∧ t.flag Reg.TWS_PUBCTRL_ERR = false ∧
          t.fget Reg.TWS_PUBSTAT_SENT = (s.fget Reg.TWS_PUBSTAT_SENT + 1) % 65536))

/-- DRF_BCTRL_COMMIT and the writes of a queue's GUAR, LIMIT and LEVEL (R612 to R614, R620, R625, R626): legal shadows of a port pend for the next refill instant, illegal ones set ERR and pend nothing; a guarantee that the common part can hold is taken, and one that it cannot sets ERR; a limit is capped at the pool; a level is set. The model's own choices in it: assumption 27. -/
def Obligations.QueuesAndBucketsAreWritten : Prop :=
  ∀ (s : State) (a : Acc) (v : W32), Reaches s a → s.work = [] →
    (let p := s.selGet a.port Reg.DRF_SEL_PORT
     let get := fun (c : Nat) => (s.fget (Reg.DRF_BRATE_RATE.at (p + 64 * c)), s.fget (Reg.DRF_BBURST_BURST.at (p + 64 * c)))
     let ovh := s.fget (Reg.DRF_POVH_OVH.at p)
     hasPort s.build p = true →
      ((∀ c < 4, 0 < (get c).1 → 256 + ovh ≤ (get c).2) → (∀ c, 4 ≤ c → c < 8 → (get c).1 = 0) →
        exec (.drfBctrlCommit a) s = .next (((({ s with drf := { s.drf with commits := Tab.set s.drf.commits p ((List.range 4).map get, ovh) } } : State).fset
          (Reg.DRF_BCTRL_COMMIT.at p) 1).fset (Reg.DRF_BCTRL_ERR.at p) 0).answer a)) ∧
      (((∃ c < 4, 0 < (get c).1 ∧ (get c).2 < 256 + ovh) ∨ (∃ c, 4 ≤ c ∧ c < 8 ∧ 0 < (get c).1)) →
        exec (.drfBctrlCommit a) s = .next ((s.fset (Reg.DRF_BCTRL_ERR.at p) 1).answer a))) ∧
    (∀ q, s.selQueue a.port = some q →
      (ownGuar s.build q = true →
        let new := (maskedWord a.bitAlias (s.regGet (Reg.BOB_QGUAR_GUAR.at q).addr) v).toNat
        let sum := sumN ((commonQueues s.build).map fun k => if k = q then new else s.qGuar k)
        (sum ≤ s.commonPart → exec (.bobQguarWrite a v) s = .next (((s.fset (Reg.BOB_QGUAR_GUAR.at q) new).fset (Reg.BOB_QGUAR_ERR.at q) 0).answer a)) ∧
        (s.commonPart < sum → exec (.bobQguarWrite a v) s = .next ((s.fset (Reg.BOB_QGUAR_ERR.at q) 1).answer a))) ∧
      (ownGuar s.build q = true → (q < 64 ∨ 66 < q) →
        exec (.bobQlimWrite a v) s = .next ((s.fset (Reg.BOB_QLIM_LIMIT.at q)
          (min (nCells s.build) ((writtenWord .rw 0x7FFFF a.bitAlias (s.regGet (Reg.BOB_QLIM_LIMIT.at q).addr) v).toNat % 2 ^ 19))).answer a)) ∧
      (q < nSlices s.build →
        let new := (maskedWord a.bitAlias (s.regGet (Reg.BOB_QLEVEL_LEVEL.at q).addr) v).toNat
        (new = 0 ∨ (s.slice q).vq.length < new) → exec (.bobQlevelWrite a v) s = .next ((s.fset (Reg.BOB_QLEVEL_LEVEL.at q) new).answer a)))

/-- The check-value unit's context 0 (R630, R636, R637): INIT puts RUN at 0xFFFFFFFF, LEN and BAD at 0; DATA takes four bytes, lowest first, and TAIL as many as its COUNT names, each counted in LEN; a parity error of the context sets BAD, is counted and raises STORE at F0; POLY, RUN and LEN take what is written. -/
def Obligations.CheckValuesAreTaken : Prop :=
  ∀ (s : State) (a : Acc) (v : W32), Reaches s a → s.work = [] →
    let w := s.mwWrite Reg.CVU_CTRL_POLY.addr 3 a v
    let run := fun (bs : List Byte) => crcBytes (if s.fget Reg.CVU_CTRL_POLY = 0 then polyIeee else polyC) (s.fget Reg.CVU_RUN_RUN) bs
    (bit w 1 = true →
      exec (.cvuInit a v) s = .next (((((s.fset Reg.CVU_CTRL_POLY (bits w 0 0)).fset Reg.CVU_RUN_RUN 0xFFFFFFFF).fset Reg.CVU_LEN_LEN 0).fset Reg.CVU_STAT_BAD 0).answer a)) ∧
    (bit w 1 = false → exec (.cvuPolyWrite a v) s = .next ((s.fset Reg.CVU_CTRL_POLY (bits w 0 0)).answer a)) ∧
    (a.bitAlias = 0 →
      (let data := (s.fset Reg.CVU_RUN_RUN (run (toBytes 4 v.toNat))).fset Reg.CVU_LEN_LEN (s.fget Reg.CVU_LEN_LEN + 4)
       let tail := (s.fset Reg.CVU_RUN_RUN (run (toBytes (bits v 25 24) v.toNat))).fset Reg.CVU_LEN_LEN (s.fget Reg.CVU_LEN_LEN + bits v 25 24)
       exec (.cvuData a v false) s = .next (data.answer a) ∧ exec (.cvuTail a v false) s = .next (tail.answer a) ∧
       exec (.cvuData a v true) s = act s ((((data.fset Reg.CVU_STAT_BAD 1).bump Reg.CVU_ERR_PARITY).raise fSTORE 0 (s.unit 0x10) 0).answer a) ∧
       exec (.cvuTail a v true) s = act s ((((tail.fset Reg.CVU_STAT_BAD 1).bump Reg.CVU_ERR_PARITY).raise fSTORE 0 (s.unit 0x10) 0).answer a)) ∧
      exec (.cvuRunWrite a v) s = .next ((s.regSet Reg.CVU_RUN_RUN.addr v).answer a) ∧
      exec (.cvuLenWrite a v) s = .next ((s.regSet Reg.CVU_LEN_LEN.addr v).answer a))

/-- STP_RUN, STP_UCMD_RESTORE, STR_PCTRL_EN and STR_PCTRL_RETRAIN (R563, R564, R606): in host-assisted mode GO starts a test that may run, from its first operation; a retired or suspect unit is restored with its counters at 0 and HELD; enabling a port lets its lanes go, disabling it holds them; a retrained port leaves its state for DOWN. The model's own choices in it: assumptions 35, 83. -/
def Obligations.TestsAndPortsAreWritten : Prop :=
  ∀ (s : State) (a : Acc) (v : W32), Reaches s a → Calm s →
    (let w := s.mwWrite Reg.STP_RUN_TEST.addr 0x7FF a v
     let s1 := s.regSet Reg.STP_RUN_TEST.addr (w &&& 0x3FF#32)
     let slot := s1.fget Reg.STP_RUN_SLOT
     let test := s1.fget Reg.STP_RUN_TEST
     ∀ x, bit w 10 = true → s.stapleOff = false → s.assisted 5 = true → s.stp.run = none → s.stest slot test = some x → s.mayRun slot test x = true →
      ∃ t r, exec (.stpRun a v) s = .next t ∧ t.stp.run = some r ∧ r.slot = slot ∧ r.test = test ∧ r.restoring = false ∧ r.pc = 0 ∧ r.ft = s.ft ∧
        t.flag Reg.STP_STATUS_RUN_ERR = false ∧ .testRun slot test false x.unit ∈ t.out) ∧
    (let u := s.selGet a.port Reg.STP_USEL_UNIT
     let h := s.health u
     s.build = .leaf → 0x100 ≤ u → (h.retired = true ∨ h.suspect = true) →
      ∃ t, exec (.stpUcmdRestore a) s = .next t ∧
        t.health u = { h with retired := false, suspect := false, held := true, fail := 0, tchk := 0, vloss := 0, ovd := 0 } ∧
        t.snag.unitExp = s.snag.unitExp.filter (·.1 != u)) ∧
    (∀ p, hasPort s.build p = true →
      let s1 := s.regSet (Reg.STR_PCTRL_EN.at p).addr (s.mwWrite (Reg.STR_PCTRL_EN.at p).addr 0x3D a v)
      (s.flag (Reg.STR_PCTRL_EN.at p) = false → s1.flag (Reg.STR_PCTRL_EN.at p) = true → s.pState p = 0 → 4 ≤ s.bootStep → s.stopped = false → s.portFenced p = false →
        exec (.strPctrlEn a p v) s = .next ((s1.emit (.lanes p false)).answer a)) ∧
      (s.tws.cut = none → (s.port p).partials = [] → s.flag (Reg.STR_PCTRL_EN.at p) = true →
        (s1.flag (Reg.STR_PCTRL_EN.at p) = false → s.pState p < 3 →
          ∃ t, exec (.strPctrlEn a p v) s = .next t ∧ t.pState p = 0 ∧ t.flag (Reg.STR_PCTRL_EN.at p) = false ∧ .lanes p true ∈ t.out) ∧
        ((s.pState p = 1 ∨ s.pState p = 2) →
          ∃ t, exec (.strPctrlRetrain a p) s = .next t ∧ t.pState p = 0 ∧ t.flag (Reg.STR_PCTRL_EN.at p) = true)))

/-! ### Frames received -/

/-- Receipt of a sequenced frame (R571 to R575, R582, R604): a frame that fails its check asks for a NAK and moves nothing; one out of sequence is counted a duplicate, or asks for a NAK where it is ahead; the next one is taken, its cells are returned as credits of its class's pool, and a message that is whole in it reaches its unit. The model's own choices in it: assumption 28. -/
def Obligations.FramesAreTaken : Prop :=
  ∀ (s : State) (p typ : Nat) (f : Frame), Hears s p typ → typ ≠ 2 → typ ≠ 3 →
    let next := s.fget (Reg.STR_PRXSEQ_SEQ.at p)
    (f.crc ≠ frameCrc typ f →
      ∃ s1, s.rx p typ f = (s1, none) ∧ (s1.port p).nakDue = true ∧ s1.fget (Reg.STR_PRXSEQ_SEQ.at p) = next ∧
        s1.fget (Reg.STR_PERR_CRCERR.at p) = (s.fget (Reg.STR_PERR_CRCERR.at p) + 1) % 65536) ∧
    (f.crc = frameCrc typ f → f.seq.toNat ≠ next →
      ∃ s1, s.rx p typ f = (s1, none) ∧ s1.fget (Reg.STR_PRXSEQ_SEQ.at p) = next ∧
        (seqLt next f.seq.toNat = true → (s1.port p).nakDue = true) ∧ (seqLt next f.seq.toNat = false → (s1.port p).nakDue = (s.port p).nakDue)) ∧
    (Rested s p → Whole s p typ f → s.accepts p typ = true → (carryOf typ = .routed → namesNothing f.dest = false) →
      ∃ s1, Gets s p typ f s1 { port := p, typ, tc := f.tc.toNat, dest := f.dest, replay := f.replay, words := f.payload, seqs := [f.seq.toNat] } ∧
        Matches s1 s ∧ s1.fget (Reg.STR_PRXSEQ_SEQ.at p) = (next + 1) % 2 ^ 32 ∧ (s1.port p).nakWait = false ∧
        (typ ≠ 5 → f.tc.toNat ≥ 4 →
          (s1.port p).rret = (s.port p).rret + cellsOf (frameBytesLen f.payload.length) ∧ (s1.port p).bret = (s.port p).bret) ∧
        (typ ≠ 5 → f.tc.toNat < 4 →
          (s1.port p).bret = (s.port p).bret + cellsOf (frameBytesLen f.payload.length) ∧ (s1.port p).rret = (s.port p).rret))

/-- Frames that act on the link alone (R575, R577 to R583, R588): CTRL and NAK return credits and release what CACK has passed, and a NAK has every frame from LACK on sent again; INIT at a port whose own INIT is still to leave gives the credits and the neighbour; a heartbeat is noted, and at a tray Hub is evidence of its Leaf; a type that the port does not accept is counted and dropped. The model's own choices in it: assumptions 28, 30. -/
def Obligations.LinkFramesAct : Prop :=
  ∀ (s : State) (p : Nat) (f : Frame), Rested s p →
    (∀ typ, Hears s p typ → f.crc = frameCrc typ f → (typ = 2 ∨ typ = 3) →
      ∃ t, exec (if typ = 2 then .ctrl p f else .nak p f) s = .next t ∧ Matches t s ∧
        t.fget (Reg.STR_PCRED_RES.at p) = (s.fget (Reg.STR_PCRED_RES.at p) + f.rcred.toNat) % 65536 ∧
        t.fget (Reg.STR_PCRED_BE.at p) = (s.fget (Reg.STR_PCRED_BE.at p) + f.bcred.toNat) % 65536 ∧
        (t.port p).rtx = (s.port p).rtx.filter (fun x => !seqLt x.seq f.cack.toNat) ∧
        (t.port p).lack = (if seqLt (s.port p).lack f.lack.toNat then f.lack.toNat else (s.port p).lack) ∧
        (typ = 3 → (t.port p).resend = ((t.port p).rtx.filter fun x => !seqLt x.seq (t.port p).lack).map (·.seq))) ∧
    (∀ s1 m, Gets s p 5 f s1 m → s1.pState p = 2 → (s1.port p).initGot = false → (s1.port p).initSent = false → s1.initFits p m.words = true →
      ∃ t, exec (.init p f) s = .next t ∧ Matches t s1 ∧ (t.port p).initGot = true ∧
        (t.port p).peer = BitVec.ofNat 48 (bits (m.words.getD 0 0) 47 0) ∧
        t.fget (Reg.STR_PCRED_RES.at p) = f.rcred.toNat ∧ t.fget (Reg.STR_PCRED_BE.at p) = f.bcred.toNat) ∧
    (∀ s1 m, Gets s p 1 f s1 m → s1.isPeer p = false →
      (s1.tier ≠ 1 ∨ 32 ≤ p →
        ∃ t, exec (.heartbeat p f) s = .next t ∧ Matches t s1 ∧ (t.port p).lastHb = s1.now ∧ (t.port p).rxSyncFt = some (m.words.getD 1 0).toNat) ∧
      (s1.evaluates p = true → s1.snagOff = false → (s1.die p).expelled = false → (s1.die p).state = 1 → bit (m.words.getD 0 0) 32 = false →
        ∃ t, exec (.heartbeat p f) s = .next t ∧ (t.port p).lastHb = s1.now ∧
          t.die p = { s1.die p with tHb := s1.ft, anyHb := true, noEvidence := false, progValid := false, silent := false })) ∧
    (∀ typ : Byte, typ ≠ 4#8 → Hears s p typ.toNat → Whole s p typ.toNat f → s.accepts p typ.toNat = false →
      ∃ t, exec (.unusedMsgFrame p typ f) s = .next t ∧ Matches t s ∧
        t.fget (Reg.STR_PUNAUTH_COUNT.at p) = (s.fget (Reg.STR_PUNAUTH_COUNT.at p) + 1) % 65536)

/-- The messages by which children and parents find each other (R27, R38, R40, R55, R593 to R597): a primary parent takes its child and says so, and refuses one that its route table does not name; an alternate adopts the child, and refuses one that returns to its primary; ATTACHED makes the parent of the port the child asked, or leaves it without one; DETACH makes the route inactive; ADOPT installs an entry, RELEASE removes it; FENCE from the current parent leaves the child without a parent; the last HANDOVER of a return sets the die entry; a root keeps the other root's mirror. The model's own choices in it: assumptions 31, 33, 35, 36, 43, 44. -/
def Obligations.ParentsAreChosen : Prop :=
  ∀ (s : State) (p : Nat) (f : Frame) (s1 : State) (m : Msg),
    let s2 := s1.rxPass p m.seqs.length
    let alt := s1.flag (Reg.STR_ROUTE_ALT.at p)
    let mine := (s2.fset (Reg.STR_ROUTE_ACTIVE.at p) 1).fset (Reg.STR_PSTAT_HOMED.at p) 1
    (Gets s p 6 f s1 m →
      (s1.routeValid p = false → exec (.attach p f) s = .next (s2.answerAttach p false)) ∧
      (s1.routeValid p = true → alt = false → exec (.attach p f) s = .next (mine.answerAttach p true)) ∧
      (s1.routeValid p = true → alt = true → bit (m.words.getD 0 0) 48 = true → exec (.attach p f) s = .next (s2.answerAttach p false)) ∧
      (s1.routeValid p = true → alt = true → bit (m.words.getD 0 0) 48 = false →
        ∃ t, exec (.attach p f) s = .next t ∧ t.flag (Reg.STR_ROUTE_ACTIVE.at p) = true ∧ t.flag (Reg.STR_PSTAT_HOMED.at p) = true)) ∧
    (Gets s p 7 f s1 m → ∀ t0, s1.str.homing = .attaching p t0 →
      (bit (m.words.getD 0 0) 0 = false → exec (.attached p f) s = .next s2.noParent) ∧
      (bit (m.words.getD 0 0) 0 = true → p ∈ s1.childUps →
        (∀ q ∈ s1.childUps, (s1.port q).rtx = [] ∧ (s1.port q).held = [] ∧ (s1.port q).stalled = [] ∧ ∀ c, c < 8 → (s1.port q).egress.getD c [] = []) →
        ∃ t, exec (.attached p f) s = .next t ∧ t.fget Reg.STR_HOMING_CUR_PARENT = b2n (p != s1.primaryUp) ∧
          t.str.homing = .settled ∧ t.str.lostPort = none ∧ t.str.noParentFt = none)) ∧
    (Gets s p 8 f s1 m → s1.routeActive p = true → alt = true →
      let s3 := (s2.fset (Reg.STR_ROUTE_ACTIVE.at p) 0).fset (Reg.STR_PSTAT_HOMED.at p) 0
      exec (.detach p f) s = .next ((s3.sendUp 0x0A 7 0 false (s3.adoptWords p) []).giveBack p)) ∧
    (let w := m.words.getD 0 0
     (Gets s p 9 f s1 m → s1.str.adopt.length < 1024 →
       ∃ t, exec (.adopt p f) s = .next t ∧ { prefix_ := adoptPrefix w, depth := bits w 50 48, port := p : Adopt } ∈ t.str.adopt ∧
         ∀ a ∈ s1.str.adopt, sameEntry a (adoptPrefix w) (bits w 50 48) = false → a ∈ t.str.adopt) ∧
     (Gets s p 0xA f s1 m →
       ∃ t, exec (.release p f) s = .next t ∧
         t.str.adopt = s1.str.adopt.filter fun a => !sameEntry a (adoptPrefix w) (bits w 50 48))) ∧
    (Gets s p 0xB f s1 m → s1.curUp = some p →
      ∃ t, exec (.fence p f) s = .next t ∧ t.fget Reg.STR_HOMING_CUR_PARENT = 2 ∧ t.str.childFenced = some p ∧ t.str.homing = .settled) ∧
    (Gets s p 0xF f s1 m → s1.forward m = none → s1.tier = 1 →
      let w := m.words.getD 0 0
      ∀ q, s1.portOfPlace (hPlace (BitVec.ofNat 48 (bits w 47 0))) = some q → bits w 50 48 = 2 →
        exec (.handover p f) s = .next (s2.setDie q (takenDie (s1.die q) (m.words.getD 1 0)))) ∧
    (Gets s p 0x24 f s1 m → (m.words.getD 0 0).toNat ≠ 1 → (m.words.getD 0 0).toNat ≠ 2 →
      exec (.mirror p f) s = .next { s2 with str := { s2.str with mirror := m.words } })

/-- Records and evidence that come up the tree (R291, R292, R506, R527, R530, R537, R574): a verdict record enters the queue of the slice that VSLICE names, a fault record the fault queue with REMOTE set, a trace or counter record the archive; a die-state record enters the hard-failure table and goes on to the parent; at the evaluator a peer report renews its Leaf's evidence, and a claim is kept and counted. The model's own choices in it: assumptions 77, 93, 94. -/
def Obligations.RecordsPassUp : Prop :=
  ∀ (s : State) (p : Nat) (f : Frame) (s1 : State) (m : Msg),
    let s2 := s1.rxPass p m.seqs.length
    let r := recOfWords m.words
    (Gets s p 0x13 f s1 m → ∀ n, s1.fget Reg.STR_CTRL_VSLICE = n → n < nSlices s1.build → s1.qFits n 1 = true →
      ∃ t, exec (.verdict p f) s = .next t ∧ (t.slice n).vq = (s1.slice n).vq ++ [r]) ∧
    (Gets s p 0x18 f s1 m → s1.snag.fq.length < 256 →
      ∃ t, exec (.fault p f) s = .next t ∧ t.snag.fq = s1.snag.fq ++ [{ r with w1 := r.w1 ||| (1#64 <<< 15) }]) ∧
    (Gets s p 0x23 f s1 m → s1.isFenced 7 = false → s1.stopped = false → s1.flag Reg.TRC_ARCHCTRL_WRAP = false →
      let bs := wordsBytes m.words
      let data := bs.take (if m.tc = 1 then 32 + ceilDiv (bits (wordAt bs 3) 31 0) 8 * 8 else bs.length)
      (∀ a ∈ s1.trc.archive, a.origin ≠ s1.childAddr p ∨ a.hdrFt ≠ (wordAt bs 0).toNat) →
      archUsed s1.trc.archive + 32 + ceilDiv data.length 64 * 64 ≤ s1.fget Reg.TRC_ARCHSIZE_SIZE →
      ∃ t a, exec (.archive p f) s = .next t ∧ t.trc.archive = s1.trc.archive ++ [a] ∧ a.data = data ∧ a.ft = s1.ft ∧ a.origin = s1.childAddr p ∧
        a.seq.toNat = (s1.fget Reg.TRC_ARCHSEQ_NEWEST + 1) % 2 ^ 32) ∧
    (Gets s p 0x1B f s1 m → s1.snag.hard.length < 1024 →
      let t := ((s2.hardTable r).holdCustody m).sendUp 0x1B 6 0 m.replay m.words m.covers
      exec (.diestate p f) s = .next t ∧
        (s1.build = .hub → recKind r = 5 → bits r.w2 47 32 / 64 % 2 = 0 →
          (BitVec.ofNat 48 (bits r.w1 47 0),
            if bits r.w2 47 32 / 2048 % 2 = 1 ∨ (s1.snag.hard.find? fun e => sameBlock e.1 (BitVec.ofNat 48 (bits r.w1 47 0))).map (·.2) = some 5 then 5 else 4) ∈ t.snag.hard)) ∧
    (Gets s p 0x19 f s1 m → ∀ q, s1.evalPort m.dest = some q →
      ∃ t, exec (.peerSeen p f) s = .next t ∧ (t.die q).peersReported = true ∧ (t.die q).tPeer = max (s1.die q).tPeer (m.words.getD 0 0).toNat) ∧
    (Gets s p 0x1A f s1 m → ∀ q, s1.evalPort m.dest = some q →
      ∃ t, exec (.claim p f) s = .next t ∧
        t.die q = { s1.die q with claims := (s1.die q).claims ++ [(BitVec.ofNat 48 (m.words.getD 1 0).toNat, s1.ft)] } ∧
        t.fget Reg.SNG_DSTAT_CLAIMS = (s1.fget Reg.SNG_DSTAT_CLAIMS + 1) % 65536)

/-- Reservations on their way (R138, R714): the final point of a path that has the resources holds it and answers ADMITTED, one that lacks them refuses with the code of what it lacks, and a Hub between holds it tentatively and sends ADMIT on; ADMITTED makes the hold firm on its way back; ADMIT_RELEASE ends it; 1 ms without every answer gives a reservation up. The model's own choices in it: assumptions 52, 65, 66. -/
def Obligations.PathsAreHeldAndReleased : Prop :=
  (∀ (s : State) (p : Nat) (f : Frame) (s1 : State) (m : Msg), s1.stopped = false →
    let s2 := s1.rxPass p m.seqs.length
    let a := readAdmit m.words
    let others := s1.str.paths.filter fun x => !(x.same a)
    let again := s1.str.paths.any (·.of a.owner a.session)
    (Gets s p 0x0C f s1 m →
      (s1.isRoot = true ∨ a.final ≤ s1.tier →
        let code := s1.pathCheck (some p) none a.burst a.rate a.merges true again
        let r : PathRes := { a with arrived := some p, onward := none, held := true }
        (code ≠ adOK → exec (.admitFrame p f) s = .next (s2.send p 0x0E 7 0 false (admitWords a code) [])) ∧
        (code = adOK → exec (.admitFrame p f) s = .next ((s2.setPaths (others ++ [r])).send p 0x0D 7 0 false (admitWords r adOK) []))) ∧
      (s1.isRoot = false → s1.tier < a.final →
        (s1.upPort = none → exec (.admitFrame p f) s = .next (s2.send p 0x0E 7 0 false (admitWords a adMEDIUM) [])) ∧
        (∀ q, s1.upPort = some q → s1.pathCheck (some p) (some q) a.burst a.rate a.merges true again = adOK →
          exec (.admitFrame p f) s = .next (((s2.setPaths (others ++ [{ a with arrived := some p, onward := some q, held := false }])).holdCustody m).send
            q 0x0C 7 0 false m.words m.covers)))) ∧
    (Gets s p 0x0D f s1 m → ∀ x q, (s1.str.paths.find? fun x => x.same a && x.onward == some p) = some x → x.arrived = some q →
      exec (.admitted p f) s = .next (((s2.setPaths (s1.str.paths.map fun y => if y.same a then { y with held := true } else y)).holdCustody m).send
        q 0x0D 7 0 false m.words m.covers)) ∧
    (Gets s p 0x0D f s1 m → ∀ x n y r c, (s1.str.paths.find? fun x => x.same a && x.onward == some p) = some x → x.arrived = none → x.session = n →
      s1.sess n = some y → y.resv = some r → r.held = false → r.anum = x.anum → r.answers = [] → r.paths = 1 → r.cmd = some c →
      ∃ t, exec (.admitted p f) s = .next t ∧
        t.sess n = some { y with resv := some { r with held := true, cmd := none, answers := [16 * b2n x.alt], tokens := r.burst * 65536, ft := s1.ft } }) ∧
    (Gets s p 0x0E f s1 m → ∀ x, (s1.str.paths.find? fun x => x.same a && (x.onward == some p || x.arrived == some p)) = some x → x.arrived = some p →
      (x.onward = none → exec (.admitRelease p f) s = .next (s2.setPaths others)) ∧
      (∀ q, x.onward = some q → exec (.admitRelease p f) s = .next (((s2.setPaths others).holdCustody m).send q 0x0E 7 0 false m.words m.covers)))) ∧
  (∀ (s : State) (n : Nat) (x : Sess) (r : Resv) (c : Running), s.sess n = some x → x.resv = some r → r.cmd = some c → r.ft + ms ≤ s.now →
    ∃ t, exec (.admitTimeout n) s = .next t ∧ t.sess n = some { x with resv := none } ∧ t.ownPaths n = [])

/-- Items of the tree (R318, R319, R407, R410, R416, R426, R432, R446, R447, R448): a member's record joins the batch that gathers; a contribution that has no merge opens one on time; a publication passes on from a Hub, and at a Leaf ends the wait of the sample whose key it ranks; at the close instant a window's merges are closed, and at the end of its amendment interval they are gone; a port that shed something leaves a saturation record. The model's own choices in it: assumptions 67, 69, 70. -/
def Obligations.ItemsAreMerged : Prop :=
  (∀ (s : State) (p : Nat) (f : Frame) (s1 : State) (m : Msg),
    (Gets s p 0x10 f s1 m → ∀ n x g, s1.childOf (bits (m.words.getD 1 0) 63 48) = some n → s1.carderFenced = false → vectorWhole m.words = true →
      s1.sess n = some x → x.gather = some g → x.pend = [] → (s1.dst.evals.any fun e => e.sess == n) = false →
      let r := readVector m.words
      x.takes r.ft = true → s1.windowOf x.gen r.ft = s1.windowOf x.gen g.ft →
      (∀ e ∈ x.members, e.2.addr ≠ r.origin) → (∀ q ∈ g.recs, q.origin ≠ r.origin) → (∀ q ∈ x.early, q.origin ≠ r.origin) →
      (∃ h ∈ s1.leafMembers, ∀ q ∈ g.recs ++ [r], q.origin ≠ h) →
      ∃ t, exec (.vector p f) s = .next t ∧ t.sess n = some { x with gather := some { g with recs := g.recs ++ [r] } }) ∧
    (Gets s p 0x11 f s1 m → s1.isFenced 0xB = false → s1.stopped = false → itemWhole m.words = true →
      let i := (readInput m).item
      (readInput m).replay = false → (readInput m).amend = false → s1.ft ≤ s1.closeAt i.ft → (∀ x ∈ s1.tws.merges, x.rid ≠ i.rid) →
      s1.flag Reg.TWS_CTRL_EN = true → (m.tc ≥ 4 ∨ (s1.assisted 1 = false ∧ s1.mergeRoom i.cells = true)) →
      ∃ t x, exec (.contrib p f) s = .next t ∧ t.tws.merges = s1.tws.merges ++ [x] ∧ x.rid = i.rid ∧ x.ft = i.ft ∧ x.group = i.parent ∧
        x.tc = m.tc ∧ x.inputs = 1 ∧ x.closed = false ∧ x.covers = m.covers) ∧
    (∀ s2 orig ws, Gets s p 0x12 f s1 m → s1.takeBcast m = (s2, some (orig, ws)) → s2.work = [] →
      (s2.build = .hub → exec (.publish p f) s = .next s2) ∧
      (∀ k l, s2.build = .leaf → s2.isFenced 0xB = false → s2.stopped = false → k < 16 →
        (∀ j, j < 16 → ((s2.rankOn j = true ∧ s2.rankCohort j = false ∧ s2.fget (Reg.TWS_RKSRC_RID.at j) = bits (ws.getD 1 0) 15 0) ↔ j = k)) →
        ((s2.rank k).held.find? (·.1 == (ws.getD 0 0).toNat)) = some ((ws.getD 0 0).toNat, none, l) →
        ∃ t, exec (.publish p f) s = .next t ∧ t.flag (Reg.TWS_RKLAST_NONE.at k) = true ∧ t.fget (Reg.TWS_RKFT_FT.at k) = (ws.getD 0 0).toNat ∧
          t.fget (Reg.TWS_RKRES_RESULTS.at k) = (s2.fget (Reg.TWS_RKRES_RESULTS.at k) + 1) % 2 ^ (Reg.TWS_RKRES_RESULTS.at k).w ∧
          (t.rank k).held = (s2.rank k).held.filter fun e => e.1 != (ws.getD 0 0).toNat))) ∧
  (∀ (s : State) (ft : Nat), s.build = .hub → s.isFenced 0xB = false → s.stopped = false →
    ((∃ x ∈ s.tws.merges, x.ft = ft ∧ x.closed = false) → s.closeAt ft ≤ s.ft →
      ∃ t, exec (.mergeClose ft) s = .next t ∧ ∀ x ∈ t.tws.merges, x.ft = ft → x.closed = true) ∧
    ((∃ x ∈ s.tws.merges, x.ft = ft) → (∀ x ∈ s.tws.merges, x.ft = ft → x.closed = true) → s.amendAt ft ≤ s.ft →
      ∃ t, exec (.amendmentEnd ft) s = .next t ∧ t.tws.merges = s.tws.merges.filter fun x => x.ft != ft)) ∧
  (∀ (s : State) (p : Nat), s.work = [] → hasPort s.build p = true → s.isFenced 0xB = false → s.stopped = false →
    let x := Tab.getD s.tws.satPorts p {}
    x.lastFt < s.ft / s.satIvl * s.satIvl → (∃ n ∈ x.shed, n ≠ 0) →
    ∃ t r, exec (.satIntervalEnd p) s = .next t ∧ t.tws.sats = (if 64 ≤ s.tws.sats.length then s.tws.sats.drop 1 else s.tws.sats) ++ [r] ∧
      r.length = 12 ∧ r.getD 0 0 = BitVec.ofNat 64 (s.ft / s.satIvl * s.satIvl) ∧
      Tab.getD t.tws.satPorts p {} = ({ lastFt := s.ft / s.satIvl * s.satIvl } : SatPort))

/-- Voting (R469 to R484, R487, R488, R490): a digest opens the round of its step; an outcome is taken by the replica entries of its job; an attribution request is kept by the entry it names, and an answer by the attribution that asked; a tap record folds into the open digest of its entry; a round is closed by its deadline and an attribution by its limit; the three phases of an attribution follow each other; a budget regains a token, and a storm ends. The model's own choices in it: assumptions 79, 80, 81. -/
def Obligations.VotesAreCounted : Prop :=
  (∀ (s : State) (p : Nat) (f : Frame) (s1 : State) (m : Msg), s1.plyOff = false → s1.forward m = none →
    let w := fun i => m.words.getD i 0
    let n := bits (w 1) 55 48
    (Gets s p 0x14 f s1 m → ∀ j a,
      let d := readDigest m.words
      Tab.get s1.ply.jobs n = some j → j.replicas[d.index]? = some a → a.addr = d.unit → a.expelled = false → j.rounds = [] →
      (∀ x ∈ j.decided, x.step ≠ d.step) → d.step % j.nextPolicy.every = 0 → s1.flag Reg.PLY_CTRL_EN = true →
      (∃ b i, j.replicas[i]? = some b ∧ b.expelled = false ∧ i ≠ d.index) →
      ∃ t, exec (.digest p f) s = .next t ∧
        Tab.get t.ply.jobs n = some { j with rounds := [{ step := d.step, openFt := s1.now, got := [d] }], policy := j.nextPolicy }) ∧
    (Gets s p 0x15 f s1 m → ∀ k x, Tab.wf s1.ply.repls = true → Tab.get s1.ply.repls k = some x →
      x.vp = BitVec.ofNat 48 (bits (w 1) 47 0) → x.job = n →
      ∃ t, exec (.outcome p f) s = .next t ∧ Tab.get t.ply.repls k = some { x with expelled := bit (w 3) (32 + x.index), unanswered := 0 }) ∧
    (Gets s p 0x16 f s1 m → ∀ e,
      (s1.ply.repls.find? fun e => e.2.vp == BitVec.ofNat 48 (bits (w 0) 47 0) && e.2.job == bits (w 0) 55 48 && e.2.index == bits (w 1) 52 48) = some e →
      ∃ t, exec (.attribReq p f) s = .next t ∧
        ∃ a ∈ t.ply.attrs, a.entry = e.1 ∧ a.step = bits (w 2) 31 0 ∧ a.mask = BitVec.ofNat 16 (bits (w 2) 47 32) ∧ a.loser = bit (w 1) 53) ∧
    (Gets s p 0x17 f s1 m → ∀ j a,
      let k := bits (w 0) 55 48
      let idx := bits (w 1) 52 48
      let mask : W16 := BitVec.ofNat 16 (bits (w 2) 47 32)
      Tab.get s1.ply.jobs k = some j →
      (j.attrs.find? fun a => a.step == bits (w 2) 31 0 && a.asks.any fun q => q.1 == idx && q.2.1 == mask) = some a →
      (∃ q ∈ a.asks, (q.1 ≠ idx ∨ q.2.1 ≠ mask) ∧ answerOf a q.1 q.2.1 = none) →
      ∃ t j' b x, exec (.attribAns p f) s = .next t ∧ Tab.get t.ply.jobs k = some j' ∧ b ∈ j'.attrs ∧ b.step = bits (w 2) 31 0 ∧
        x ∈ b.answers ∧ x.index = idx ∧ x.mask = mask ∧ x.c2 = w 3)) ∧
  (∀ (s : State), s.work = [] → s.plyOff = false →
    (∀ src ws, s.build = .leaf → s.flag Reg.PLY_CTRL_EN = true →
      let tag := bits (ws.getD 0 0) 15 0
      let step := bits (ws.getD 1 0) 63 32
      ((∀ e ∈ s.ply.repls, e.2.tag ≠ tag) → exec (.tapRecord src ws) s = .next (s.bump Reg.PLY_TAPERR_UNKNOWN)) ∧
      (∀ k e h, (s.ply.repls.find? fun e => e.2.tag == tag) = some (k, e) → e.opened = true → e.step = step → e.high = some h → e.nseen + 1 < e.nblk →
        ∃ t, exec (.tapRecord src ws) s = .next t ∧
          Tab.get t.ply.repls k = some (ReplEntry.fold { e with high := some (max h step) } (bits (ws.getD 0 0) 39 16) (bits (ws.getD 1 0) 31 0)))) ∧
    (∀ n j r, Tab.get s.ply.jobs n = some j → oldestRound j.rounds = some r → j.policy.wait ≠ 0 → r.openFt + j.policy.wait * ms ≤ s.now →
      ∃ t j', exec (.roundDeadline n) s = .next t ∧ Tab.get t.ply.jobs n = some j' ∧ j'.rounds = j.rounds.filter fun x => x.step != r.step) ∧
    (∀ n j a l, Tab.get s.ply.jobs n = some j → j.attrs = a :: l → a.since + j.policy.attrLim * ms ≤ s.now →
      ∃ t j', exec (.attributionTimeout n) s = .next t ∧ Tab.get t.ply.jobs n = some j' ∧ j'.attrs = (a :: l).filter (· != a)) ∧
    (∀ a e, Tab.get s.ply.repls a.entry = some e →
      (∀ cv memerr b c l, (s.ply.attrs.find? fun x => x.phase == 0 && LeafAttr.tag s x == e.tag) = some a → a.todo = b :: c :: l →
        exec (.recheckAnswer e.tag cv memerr) s =
          .next ((s.putLeafAttr { a with todo := c :: l, subs := foldSub a.subs b cv.toNat, memerr := a.memerr || memerr }).emit (.tap 0 0 e.tag [BitVec.ofNat 64 c]))) ∧
      (∀ c2 st, s.ply.attrs = [a] → a.phase = 1 → (s.meter.queue.any fun x => x.use_ == .recheck a.entry) = false →
        ∃ t, exec (.secondPolynomialDone a.entry c2 st) s = .next t ∧
          (a.loser = false → t.ply.attrs = []) ∧
          (a.loser = true → t.ply.attrs = [{ a with c2, status := st % 4, phase := 2 }] ∧ .tap 1 0 e.tag [] ∈ t.out)) ∧
      (∀ cvs, s.ply.attrs = [a] → a.phase = 2 →
        ∃ t, exec (.selftestAnswer e.tag cvs) s = .next t ∧ t.ply.attrs = []))) ∧
  (∀ (s : State) (n f : Nat), s.work = [] → n < nParts s.build →
    ((s.budget n).fellFt = some f → s.fget Reg.PLY_BUDCFG_REFILL ≠ 0 → f + s.fget Reg.PLY_BUDCFG_REFILL * minuteTicks ≤ s.ft →
      s.fget (Reg.PLY_BUD_TOKENS.at n) < s.fget Reg.PLY_BUDCFG_CAP →
      ∃ t, exec (.budgetRefill n) s = .next t ∧
        t.fget (Reg.PLY_BUD_TOKENS.at n) = (s.fget (Reg.PLY_BUD_TOKENS.at n) + 1) % 2 ^ (Reg.PLY_BUD_TOKENS.at n).w) ∧
    (s.flag (Reg.PLY_BUD_STORM.at n) = true → s.fget Reg.PLY_BUDCFG_QUIET ≠ 0 → (s.budget n).loserFt + s.fget Reg.PLY_BUDCFG_QUIET * minuteTicks ≤ s.now →
      exec (.stormQuietExpiry n) s = .next (s.fset (Reg.PLY_BUD_STORM.at n) 0)))

/-- Broadcasts, cuts and starts (R275, R423, R426 to R429, R589 to R591, R599 to R603): a broadcast is taken once, relayed, and discarded when it comes again; a CUT pends, cancels, or is taken at once when its time has passed; a report is kept; a trigger starts an armed trace; a prepared start is acknowledged and held, a commit arms it, an abort forgets it, an acknowledgement is added up. The model's own choices in it: assumptions 33, 34, 73. -/
def Obligations.BroadcastsAreTakenOnce : Prop :=
  (∀ (s : State) (m : Msg),
    let h1 := (m.words.getD 1 0).toNat
    let orig : Hank := BitVec.ofNat 48 (m.words.getD 0 0).toNat
    let n := m.seqs.length
    ((∀ o ∈ s.str.dups, o.addr ≠ orig) → s.str.dups.length < 64 →
      let o : Origin := { addr := orig, epoch := h1 / 2 ^ 48, high := h1 % 2 ^ 32, window := 0, used := s.now }
      s.takeBcast m = ((({ s with str := { s.str with dups := o :: s.str.dups } } : State).rxPass m.port n).bcastSend m.typ m.tc (h1 / 2 ^ 32 % 8)
        ((m.words.getD 2 0).toNat % 2 ^ 48 / 2 ^ 14) m.words, some (orig, m.words.drop 3))) ∧
    (∀ o, s.str.dups.find? (·.addr == orig) = some o → o.epoch = h1 / 2 ^ 48 → o.high = h1 % 2 ^ 32 → (s.takeBcast m).2 = none)) ∧
  (∀ (s : State) (p : Nat) (f : Frame) (s1 : State) (m : Msg),
    let w := fun i => m.words.getD i 0
    let orig : Hank := BitVec.ofNat 48 (bits (w 0) 47 0)
    let onum := bits (w 4) 23 0
    (Gets s p 0x1C f s1 m → s1.isFenced 0xB = false → s1.stopped = false → (s1.dedupe orig (bits (w 1) 63 48) (bits (w 1) 31 0)).1 = true →
      placeMatch (bits (w 1) 34 32) (hPlace s1.self) ((w 2).toNat % 2 ^ 48 / 2 ^ 14) = true →
      let q : CutReq := { t := (w 3).toNat, origin := orig, onum, lnum := s1.tws.lnum, subtree := true, reel := bit (w 4) 24, slice := none }
      (bit (w 4) 25 = true →
        ∃ t, exec (.cut p f) s = .next t ∧ t.tws.cuts = s1.tws.cuts.filter fun x => !(x.origin == orig && x.onum == onum)) ∧
      (bit (w 4) 25 = false → s1.tws.cuts.length < 8 → s1.ft < (w 3).toNat →
        ∃ t, exec (.cut p f) s = .next t ∧ t.tws.cuts = s1.tws.cuts ++ [q] ∧ t.tws.lnum = (s1.tws.lnum + 1) % 2 ^ 24) ∧
      (bit (w 4) 25 = false → s1.tws.cuts.length < 8 → (w 3).toNat ≤ s1.ft →
        ∃ t, exec (.cut p f) s = .next t ∧ t.tws.cuts = s1.tws.cuts ∧ t.fget Reg.LEA_CUTFT_FT = s1.ft % 2 ^ 64)) ∧
    (Gets s p 0x1D f s1 m → s1.isFenced 0xB = false → s1.stopped = false →
      ∀ c, s1.tws.cut = some c → c.req.origin.toNat = bits (w 0) 47 0 → c.req.onum = bits (w 1) 23 0 →
        (∀ x ∈ c.ports, x.p = p → x.closed = false ∧ x.incomplete = false) →
        ∃ t, exec (.cutrep p f) s = .next t ∧ t.tws.cut = some { c with
          children := c.children.filter (· != p)
          ports := c.ports.map fun x => if x.p = p then { x with reported := true, report := reportEntry (m.words.drop 3) (s1.port p).peerIdx } else x }) ∧
    (∀ s2 ws, s1.takeBcast m = (s2, some (orig, ws)) → s2.work = [] →
      let x := fun i => ws.getD i 0
      let job := bits (x 1) 7 0
      let snum := bits (x 1) 31 8
      let h := s2.heldIndices orig job (BitVec.ofNat 32 (x 2).toNat)
      let ls (commit : Bool) : LeafStart := { job, snum, vote := orig, t := (x 0).toNat, mask := h.1, slices := h.2, commit }
      let mine := fun (y : LeafStart) => y.vote == orig && y.job == job
      (Gets s p 0x1E f s1 m → s2.build = .leaf → s2.traceOff = false → s2.trcState = tARMED → ∀ c, s2.trc.cfg = some c → c.pre < 16 → s2.trigEnabled 4 0 = true →
        ∃ t, exec (.trigger p f) s = .next t ∧ t.trcState = tPOST ∧ t.fget Reg.TRC_STATUS_CAUSE = 4) ∧
      (s2.build = .hub →
        (Gets s p 0x1E f s1 m → exec (.trigger p f) s = .next s2) ∧ (Gets s p 0x1F f s1 m → exec (.startPrep p f) s = .next s2) ∧
        (Gets s p 0x21 f s1 m → exec (.startCommit p f) s = .next s2)) ∧
      (s2.build = .leaf → h.1 ≠ 0 → (∃ i ∈ timerIndices, Tab.get s2.whl.timers i = none) →
        (Gets s p 0x1F f s1 m → (∀ y ∈ s2.str.leafStarts, mine y = false) → s2.ft + 20 * us < (x 0).toNat →
          ∃ t, exec (.startPrep p f) s = .next t ∧ t.str.leafStarts = s2.str.leafStarts ++ [ls false]) ∧
        (Gets s p 0x21 f s1 m → s2.ft + 20 * us < (x 0).toNat →
          ∃ t, exec (.startCommit p f) s = .next t ∧ t.str.leafStarts = (s2.str.leafStarts.filter fun y => !mine y) ++ [ls true])) ∧
      (Gets s p 0x22 f s1 m →
        ∃ t, exec (.startAbort p f) s = .next t ∧ t.str.leafStarts = s2.str.leafStarts.filter fun y => !(mine y && y.snum == snum))) ∧
    (Gets s p 0x20 f s1 m → s1.forward m = none → ∀ x,
      (s1.str.starts.find? fun x => x.job == bits (w 0) 7 0 && x.snum == bits (w 0) 31 8 && !x.committed) = some x →
      let y := { x with acks := x.acks ||| (BitVec.ofNat 32 (w 1).toNat &&& x.mask) }
      y.acks ≠ x.mask →
      ∃ t, exec (.startAck p f) s = .next t ∧ t.str.starts = s1.str.starts.map fun z => if z.job = bits (w 0) 7 0 then y else z))

/-- What the block's own timers bring (R275, R423, R426, R429, R601 to R603): the earliest pending cut is taken, with those of the same island cycle; a cut whose reports fail to come is closed to them; the trace trigger that a time was set for; at T − 20 µs a start without a commit is forgotten, at T a committed one pulses the start output and ends, and at T − LEAD one without every acknowledgement is aborted. The model's own choices in it: assumptions 10, 34, 73, 77. -/
def Obligations.TimersCutAndStart : Prop :=
  ∀ (s : State), s.work = [] →
    (∀ q, earliestCut s.tws.cuts = some q → q.t ≤ s.ft → s.stopped = false → s.isFenced 0xB = false →
      ∃ t, exec .cutTimer s = .next t ∧ t.tws.cuts = (s.tws.cuts.filter fun x => decide (q.t + 16 ≤ x.t)) ∧ t.fget Reg.LEA_CUTFT_FT = s.ft % 2 ^ 64 ∧ t.lea.cut = s.lea.pts) ∧
    (∀ c, s.tws.cut = some c → c.req.t + ms ≤ s.ft → c.children ≠ [] → c.timeout = false →
      exec .cutReportTimeout s = .next { s with tws := { s.tws with cut := some { c with timeout := true } } }) ∧
    (∀ c t0, s.timerDue .trcTrig = some t0 → s.build = .leaf → s.traceOff = false → s.trcState = tARMED → s.trc.cfg = some c → c.pre < 16 → s.trigEnabled 5 0 = true →
      ∃ t, exec .trcTrigftReached s = .next t ∧ t.trcState = tPOST ∧ t.fget Reg.TRC_STATUS_CAUSE = 5 ∧
        t.fget Reg.TRC_TRIGCNT_COUNT = s.fget Reg.TRC_WRCNT_COUNT) ∧
    (∃ t, exec .startPrepTimer s = .next t ∧
      t.str.leafStarts = s.str.leafStarts.filter fun x => !((s.timerDue (.startPrep (startId x.vote x.job))).isSome && !x.commit)) ∧
    (let due := fun (x : LeafStart) => x.commit && (s.timerDue (.start (startId x.vote x.job))).isSome
     ∃ t, exec .startTimer s = .next t ∧ t.str.leafStarts = (s.str.leafStarts.filter fun x => !due x) ∧
      ((∃ x ∈ s.str.leafStarts, due x = true) → .pulse .start ∈ t.out) ∧ ∀ x ∈ t.str.starts, x.committed = true → s.ft < x.t) ∧
    (∀ job x, (s.str.starts.find? fun x => x.job == job && !x.committed) = some x → x.t ≤ s.ft + s.leadIvl →
      ∃ t, exec (.startDeadline job) s = .next t ∧ t.str.starts = s.str.starts.filter fun y => y.job != job)

/-- Links and parents (R155, R569, R577, R579, R592 to R598): a signal starts training; training ends in INIT with the pools granted and an INIT queued; a lost link takes its port down, clears its credits and, where the parent was behind it, its parent; 21 µs of silence lose the parent; an unanswered ATTACH leaves the child without one and is repeated; what is held for a parent is dropped after 64 µs; a clean primary is returned to, and what the alternate held is replayed. The model's own choices in it: assumptions 10, 31, 32, 35. -/
def Obligations.LinksComeAndGo : Prop :=
  ∀ (s : State) (p : Nat), Calm s →
    (hasPort s.build p = true → s.flag (Reg.STR_PCTRL_EN.at p) = true → s.pState p = 0 → 4 ≤ s.bootStep → s.stopped = false → s.portFenced p = false →
      exec (.linkSignalDetect p) s = .next ((s.fset (Reg.STR_PSTAT_STATE.at p) 1).emit (.train p))) ∧
    (∀ tx rx, hasPort s.build p = true → s.pState p = 1 → (s.port p).rtx = [] → (s.port p).held = [] → (s.port p).egress = List.replicate 8 [] →
      ∃ t x, exec (.linkTrained p tx rx) s = .next t ∧ t.pState p = 2 ∧ t.fget (Reg.WHL_PLAT_TXLAT.at p) = tx % 65536 ∧
        t.fget (Reg.WHL_PLAT_RXLAT.at p) = rx % 65536 ∧ t.fget (Reg.STR_PTXSEQ_SEQ.at p) = 0 ∧ t.fget (Reg.STR_PRXSEQ_SEQ.at p) = 0 ∧
        (t.port p).egress.getD 7 [] = [x] ∧ x.typ = 5 ∧ x.payload = s.initWords p ∧ (t.port p).rret = s.pool p ∧ (t.port p).bret = s.pool p ∧
        (t.port p).initSent = false ∧ (t.port p).initGot = false) ∧
    (hasPort s.build p = true → s.pState p ≠ 0 → s.pState p ≠ 4 →
      (∀ cause, 0 < cause → cause < max 1 (s.fget (Reg.STR_PCTRL_UNCORR_LIM.at p)) →
        exec (.linkDown p cause) s = .next (s.fadd (Reg.STR_PERR_UNCORR.at p) cause)) ∧
      (s.tws.cut = none → (s.port p).partials = [] → (32 ≤ p ∨ s.routeActive p = false) →
        ∃ t, exec (.linkDown p 0) s = .next t ∧ t.pState p = 0 ∧ t.flag (Reg.STR_PSTAT_ADMITTED.at p) = false ∧
          t.fget (Reg.STR_PCRED_RES.at p) = 0 ∧ t.fget (Reg.STR_PCRED_BE.at p) = 0 ∧
          (s.portUp p = true → s.isRoot = false → s.curUp = some p → s.otherUp p = none →
            t.fget Reg.STR_HOMING_CUR_PARENT = 2 ∧ t.str.lostPort = some p ∧
            t.fget Reg.STR_UPSTAT_LOSSES = (s.fget Reg.STR_UPSTAT_LOSSES + 1) % 65536))) ∧
    (s.stopped = false →
      (s.isRoot = false → s.curUp = some p → s.portUp p = true → (s.port p).lastRxFt + 21 * us ≤ s.now → s.str.homing = .settled → s.fget Reg.STR_HOMING_CUR_PARENT ≠ 3 →
        exec .parentLoss s = .next (s.loseParent p)) ∧
      (∀ t0, s.str.homing = .attaching p t0 → t0 + 10 * us ≤ s.now →
        ((s.now < t0 + 100 * us ∨ s.portUp p = false) → exec .attachRetry s = .next s.noParent) ∧
        (t0 + 100 * us ≤ s.now → s.portUp p = true → exec .attachRetry s = .next (s.noParent.sendAttach p))) ∧
      (s.isRoot = false → s.mayReturn = true → s.altUp = some p →
        exec .autoreturn s = .next (((s.enqueueFirst p 8 []).setStr fun x => { x with returnFt := some s.now }).sendAttach s.primaryUp))) ∧
    (∀ t0, Tab.get s.str.handovers p = some t0 → t0 + 100 * us ≤ s.now →
      exec (.handoverTimeout p) s = .next { s.setDie p { s.die p with state := 0, suspect := false, expelled := false } with
        str := { s.str with handovers := Tab.del s.str.handovers p } }) ∧
    (∀ t0, s.str.returnFt = some t0 → s.altUp = some p → t0 + 64 * us ≤ s.now → s.fget Reg.STR_HOMING_CUR_PARENT = 0 → p ≠ s.primaryUp → Modest (s.port p) →
      ∃ t, exec .returnReplay s = .next t ∧ t.str.returnFt = none ∧ (t.port p).rtx = [] ∧ (t.port p).held = [] ∧
        ∀ x ∈ (s.port p).held ++ (s.port p).rtx, linkControl x.typ = false → x.tc < 8 → replayed x ∈ (t.port s.primaryUp).held) ∧
    (∀ t0, s.str.noParentFt = some t0 → t0 + 64 * us ≤ s.now → s.fget Reg.STR_HOMING_CUR_PARENT = 2 → (∀ q ∈ s.childUps, Modest (s.port q)) →
      ∃ t, exec .noParentExpiry s = .next t ∧
        ∀ q ∈ s.childUps, ∀ l ∈ (t.port q).rtx :: (t.port q).held :: (t.port q).egress, ∀ x ∈ l, linkControl x.typ = true)

/-- What leaves the block (R79, R95, R581 to R588, R622 to R626): a frame that Draft may send takes the next SEQ, enters the retransmit buffer and spends its cells in credits; one whose cells fail is counted and dropped; a retry, a repeated NAK and a CTRL frame are due in their time; heartbeats, Sync, Pdelay_Req and Announce messages are sent, one for each port that takes them; the buckets are refilled to no more than their burst. The model's own choices in it: assumptions 10, 29, 42. -/
def Obligations.FramesLeave : Prop :=
  ∀ (s : State) (p : Nat), Calm s →
    (hasPort s.build p = true → s.pState p = 3 → s.lostHere p = false → (s.port p).nakDue = false → (s.port p).ctrlDue = false → (s.port p).resend = [] →
      ∀ c x, s.pickClass p = some (c, x, false) →
        let next := s.fget (Reg.STR_PTXSEQ_SEQ.at p)
        (∀ stamp, (s.port p).stalled = [] →
          ∃ t fr, exec (.frameDepart p stamp false) s = .next t ∧ (t.port p).rtx = (s.port p).rtx ++ [{ x with seq := next, sentFt := s.ft }] ∧
            t.fget (Reg.STR_PTXSEQ_SEQ.at p) = (next + 1) % 2 ^ 32 ∧ t.fget (credField x.tc p) = s.fget (credField x.tc p) - x.cells ∧
            .frame p x.typ fr ∈ t.out ∧ fr.seq = BitVec.ofNat 32 next ∧ fr.crc = frameCrc x.typ fr ∧ fr.dest = x.dest ∧
            fr.lack = BitVec.ofNat 32 (s.fget (Reg.STR_PRXSEQ_SEQ.at p))) ∧
        (∀ stamp, Modest (s.port p) → s.fget Reg.SNG_UNACK_CLASS / 8 % 2 = 0 →
          ∃ t, exec (.frameDepart p stamp true) s = .next t ∧ (t.port p).egress.getD c [] = ((s.port p).egress.getD c []).drop 1 ∧
            t.fget Reg.SNG_UNACK_CLASS / 8 % 2 = 1 ∧ t.fget (Reg.STR_PTXSEQ_SEQ.at p) = next)) ∧
    (s.portSends p = true →
      ((∃ x ∈ (s.port p).rtx, seqLt x.seq (s.port p).lack = false) → (s.port p).lackFt + 2 * us ≤ s.now →
        exec (.retryTimeout p) s = .next (s.resendAll p)) ∧
      ((s.port p).nakWait = true → (s.port p).lastNakFt + us ≤ s.now →
        exec (.nakRepeat p) s = .next (s.modPort p fun x => { x with nakDue := true })) ∧
      ((s.port p).sentLack ≠ s.fget (Reg.STR_PRXSEQ_SEQ.at p) → (s.port p).txFt + us ≤ s.now → s.pState p = 3 →
        exec (.ctrlSend p) s = .next (s.modPort p fun x => { x with ctrlDue := true }))) ∧
    (s.stopped = false →
      (∃ t, exec .heartbeatSend s = .next t ∧ t.str.msgs = s.str.msgs + (ports.filter s.portUp).length) ∧
      (∃ t, exec .syncSend s = .next t ∧ t.str.msgs = s.str.msgs + s.slavePorts.length) ∧
      (∃ t, exec .announceSend s = .next t ∧ t.str.msgs = s.str.msgs + s.slavePorts.length) ∧
      (∀ k, k < 4 → s.portUp (32 + k) = true → s.isPeer (32 + k) = false →
        ∃ t, exec (.pdelayReqSend k) s = .next t ∧ t.str.msgs = s.str.msgs + 1 ∧ t.whl.pdSeq = (s.whl.pdSeq + 1) % 65536)) ∧
    (s.drf.refillFt < s.ft / 256 → s.drf.commits = [] →
      let k := s.ft / 256 - s.drf.refillFt
      ∃ t, exec .bucketRefill s = .next t ∧ t.drf = { s.drf with
        refillFt := s.ft / 256
        buckets := Tab.mapV (fun _ (b : Bucket) => { b with tokens := min (b.burst * 65536) (b.tokens + k * refillAdd (b.rate * 1000000)) }) s.drf.buckets })

/-! ### Fabric time -/

/-- Time messages (R78 to R89, R95, R104, R133): one that is not of its port's direction is counted and dropped; a Sync on an up-port with a held path delay publishes the offset of its port, and from the port that gives time it disciplines the Whorl, which it also ends bring-up with; a Pdelay_Req is answered with its arrival; a Pdelay_Resp completes the measurement it answers, unless it lies too far from the mean of 16; an Announce of the time port is kept and its UTC offset is compared with the loaded table. The model's own choices in it: assumptions 37, 38, 42, 47. -/
def Obligations.TimeMessagesAreTaken : Prop :=
  ∀ (s : State) (p stamp : Nat) (f : Frame) (s1 : State) (m : Msg), Gets s p 4 f s1 m →
    let n := m.seqs.length
    let up := isUp p && !(s1.isPeer p && s1.rootActive)
    let k := p - 32
    (∀ i mt fp, (i, mt, fp) ∈ [(Instr.sync p f stamp, ptpSYNC, true), (.pdelayReq p f stamp, ptpPDELAY_REQ, false),
        (.pdelayResp p f stamp, ptpPDELAY_RESP, true), (.announce p f, ptpANNOUNCE, true)] →
      (ptpType m.words ≠ mt ∨ up ≠ fp) → exec i s = .next ((s1.ledDrop 8 p 7 n).bump (Reg.STR_PUNAUTH_COUNT.at p))) ∧
    (up = true → ptpType m.words = ptpSYNC → s1.flag Reg.WHL_CTRL_FORCE_HOLD = false → (Tab.getD s1.whl.delays k []).isEmpty = false →
      ∃ t r, exec (.sync p f stamp) s = .next t ∧
        (let x : Int := s1.ballIn p stamp * 256 - ptpOrigin m.words
         (x - 256 * r).natAbs < 256) ∧
        (let o := satI 32 (r - sext 32 (s1.fget (Reg.WHL_UPMPD_MPD.at k)) - sext 32 (s1.fget (Reg.WHL_ASYM_ASYM.at k)))
         t.fget (Reg.WHL_UPOFF_OFFSET.at k) = o ∧ Tab.get t.whl.offs k = some (sext 32 o)) ∧
        t.whl.lastSync = some s1.now ∧
        (s1.timePort = some p → p < 36 →
          t.fget Reg.WHL_STATUS_SOURCE = 1 ∧ t.fget Reg.WHL_STATUS_TIME_PORT = k ∧ t.whl.syncLog = ptpLog m.words ∧
          (s1.running = false → s1.awaitsTime = true → t.running = true))) ∧
    (up = false → ptpType m.words = ptpPDELAY_REQ →
      ∃ t, exec (.pdelayReq p f stamp) s = .next t ∧ t.str.msgs = s1.str.msgs + 1 ∧ (t.port p).pdReqs = (s1.port p).pdReqs + 1 ∧
        (s1.portFenced p = false → s1.qFits (egressQ p 7) (cellsOf (frameBytesLen 7)) = true → (s1.port p).stalled = [] → (s1.port p).egress.length = 8 →
          ∃ x, (t.port p).egress.getD 7 [] = (s1.port p).egress.getD 7 [] ++ [x] ∧ x.typ = 4 ∧ ptpType x.payload = ptpPDELAY_RESP ∧
            ptpSeq x.payload = ptpSeq m.words ∧ x.t2 = s1.ballIn p stamp)) ∧
    (up = true → ptpType m.words = ptpPDELAY_RESP → Tab.wf s1.whl.reqs = true → ∀ t1, Tab.get s1.whl.reqs k = some (ptpSeq m.words, t1) →
      let d := (s1.ballIn p stamp - t1) * 256 - ptpCorr m.words
      let held := Tab.getD s1.whl.delays k []
      let sum := held.foldl (· + ·) 0
      ∃ t, exec (.pdelayResp p f stamp) s = .next t ∧ Tab.get t.whl.reqs k = none ∧
        (held.length = 16 → (16 * d - sum).natAbs > 2 * 2 ^ 17 * 16 → t.whl.delays = s1.whl.delays) ∧
        (held.length < 16 ∨ (held.length = 16 ∧ (16 * d - sum).natAbs ≤ 2 * 2 ^ 17 * 16) →
          Tab.get t.whl.delays k = some (d :: held.take 15) ∧
          ∃ r : Int, (((d :: held.take 15).foldl (· + ·) 0) - r * ((min 15 held.length + 1) * 512)).natAbs < (min 15 held.length + 1) * 512 ∧
            t.fget (Reg.WHL_UPMPD_MPD.at k) = satI 32 r)) ∧
    (up = true → ptpType m.words = ptpANNOUNCE →
      let utc := sext 16 (ptpField m.words 44 2)
      let flags := ptpField m.words 7 1
      ∃ t, exec (.announce p f) s = .next t ∧
        (s1.timePort = some p → t.whl.ann = some (ptpField m.words 48 1, utc, flags % 2 == 1, flags / 2 % 2 == 1)) ∧
        (s1.timePort ≠ some p → t.whl.ann = s1.whl.ann) ∧
        (∀ l, s1.whl.leap = some l → t.flag Reg.WHL_UTC_MISMATCH = decide (utc ≠ s1.utcNow)))

/-- The clock and the timing port (R71, R88, R97, R100 to R103, R112): an edge marks the reference as present and takes its label, and disciplines the active root; a line names the next edge, and one that is malformed or out of turn is counted; four Sync intervals without time lead to HOLDOVER, and its bound to DEGRADED; FT stays at its greatest value; a lost edge or a changed 10 MHz input moves the active root to its next source; the output edge leaves at the whole second. The model's own choices in it: assumptions 10, 38, 39, 48. -/
def Obligations.ClockFollowsItsSources : Prop :=
  ∀ (s : State), s.work = [] →
    (∀ stamp, s.build = .hub → s.flag Reg.WHL_PPS_IN_EN = true → s.whl.lineDue = none →
      let takes := s.rootActive || (s.isRoot && s.awaitsTime && !s.str.peerActive)
      ∃ t, exec (.ppsEdge stamp) s = .next t ∧ t.flag Reg.WHL_REF_PPS_PRESENT = true ∧ t.whl.edgeLabel = s.whl.edgeLabel.map (· + 1) ∧
        (takes = false ∨ s.whl.edgeLabel = none → t.whl.lastPps = some stamp ∧ t.wState = s.wState) ∧
        (takes = true → s.whl.edgeLabel ≠ none →
          t.fget Reg.WHL_STATUS_SOURCE = 2 ∧ t.whl.lastSync = some s.now ∧ t.whl.syncLog = 0 ∧ (s.awaitsTime = true → t.running = true))) ∧
    (∀ stamp l ended, s.build = .hub → s.flag Reg.WHL_PPS_IN_EN = true → s.whl.lineDue = some (l, ended) →
      (s.rootActive || (s.isRoot && s.awaitsTime && !s.str.peerActive)) = false →
      ∃ t, exec (.ppsEdge stamp) s = .next t ∧ t.flag Reg.WHL_REF_PPS_PRESENT = true ∧ t.whl.lineDue = none ∧
        (stamp < ended + 400000000 → t.flag Reg.WHL_REF_TOD_VALID = false ∧ t.whl.edgeLabel = s.whl.edgeLabel.map (· + 1)) ∧
        (ended + 400000000 ≤ stamp → t.whl.lineLabel = some l ∧ (s.whl.edgeLabel = none → t.whl.edgeLabel = some l))) ∧
    (∀ bytes, s.build = .hub → s.flag Reg.WHL_TOD_EN = true → s.fget Reg.WHL_TOD_BAUD ≤ 4 →
      let l := (readLine bytes).bind fun r => labelTai s.whl.leap r.1 r.2
      let good := fun (n : Nat) => s.whl.lineLabel = none ∨ s.whl.lineLabel = some (n - 1)
      ((l = none ∨ ∃ n, l = some n ∧ ¬ good n) →
        ∃ t, exec (.todLine bytes) s = .next t ∧ t.fget Reg.WHL_REF_TOD_ERRS = (s.fget Reg.WHL_REF_TOD_ERRS + 1) % 256 ∧
          t.flag Reg.WHL_REF_TOD_VALID = false ∧ t.whl = { s.whl with disagree := 0 }) ∧
      (∀ n, l = some n → good n →
        ∃ t, exec (.todLine bytes) s = .next t ∧ t.flag Reg.WHL_REF_TOD_VALID = true ∧ t.whl = { s.whl with lineDue := some (n, s.ft) })) ∧
    (∀ t0, s.whl.lastSync = some t0 →
      ((s.wState = 1 ∨ s.wState = 2) → t0 + 4 * s.syncTicks ≤ s.now →
        ∃ t, exec .holdoverEntry s = .next t ∧ t.wState = 3 ∧ t.whl.holdFt = some s.now ∧
          (s.assisted 0 = false → t.whl.slew = 0 ∧ t.fget Reg.WHL_RATE_RATE = t.whl.base % 2 ^ Reg.WHL_RATE_RATE.w)) ∧
      (s.wState = 3 → s.flag Reg.WHL_STATUS_DEGRADED = false → s.fget Reg.WHL_HOLD_STAB * (s.now - t0) > s.fget Reg.WHL_HOLD_LIMIT * 4000000000 →
        ∃ t, exec .holdoverLimit s = .next t ∧ t.flag Reg.WHL_STATUS_DEGRADED = true)) ∧
    (s.ft = ftMax → s.whl.ftMaxed = false → ∃ t, exec .ftMax s = .next t ∧ t.whl.ftMaxed = true) ∧
    (s.build = .hub → s.flag Reg.WHL_PPS_IN_EN = true → ∀ present,
      ∃ t, exec (.ref10mChange present) s = .next t ∧ t.flag Reg.WHL_REF_REF10M_PRESENT = present ∧
        (s.flag Reg.WHL_REF_PPS_PRESENT = false → s.rootActive = true → s.assisted 0 = false →
          t.fget Reg.WHL_STATUS_SOURCE = (if present then 2 else 0) ∧ (s.wState = 1 ∨ s.wState = 2 → t.wState = 3))) ∧
    (∀ t0, s.build = .hub → s.whl.lastPps = some t0 → s.flag Reg.WHL_REF_PPS_PRESENT = true → t0 + 4400000000 ≤ s.ft →
      ∃ t, exec .ppsPresentExpiry s = .next t ∧ t.flag Reg.WHL_REF_PPS_PRESENT = false ∧
        (s.rootActive = true → s.assisted 0 = false →
          t.fget Reg.WHL_STATUS_SOURCE = (if s.flag Reg.WHL_REF_REF10M_PRESENT then 2 else 0) ∧ (s.wState = 1 ∨ s.wState = 2 → t.wState = 3))) ∧
    (s.build = .hub → s.flag Reg.WHL_PPS_OUT_EN = true → s.whl.clock = true → (s.ft + ceilDiv (s.fget Reg.WHL_PPSLAT_OUT_LAT) 64) % 4000000000 < 5 →
      exec .ppsOutEdge s = .next (s.emit (.pulse .pps)))

/-- Generators (R106 to R109, R223, R229, R297): a pending set takes over when FT reaches its APPLY; the trigger of a sample generator strobes the sets that latch on it, starts the sessions whose time has come and moves to the next period; a window opening strobes the sets that latch there; a slot pulse and a quiet window show at the host die of the generators that drive one, and the window sets the regime of the meter. The model's own choices in it: assumptions 10, 45, 86. -/
def Obligations.GeneratorsMarkTime : Prop :=
  ∀ (s : State) (g : Nat), s.work = [] →
    (∀ x, (s.gen g).pend = some x → x.apply ≤ s.ft →
      ∃ t, exec (.genApply g) s = .next t ∧
        (x.kind = 0 → t.gen g = { s.gen g with run := none, pend := none, quiet := false } ∧ t.flag (Reg.WHL_GEN_RUNNING.at g) = false) ∧
        (x.kind ≠ 0 → t.flag (Reg.WHL_GEN_RUNNING.at g) = true ∧ t.gen g =
          { run := some x, pend := none, quiet := false, nextOpen := x.apply + x.offset, nextClose := x.apply + x.offset + x.length
            nextMain := if x.kind = 1 then x.apply + x.offset + x.length else x.apply })) ∧
    (∀ x, s.genRuns g 1 = some x →
      ((s.gen g).nextMain ≤ s.ft →
        ∃ t, exec (.sampleTrigger g) s = .next t ∧ t.gen g = { s.gen g with nextMain := (s.gen g).nextMain + x.period } ∧
          (s.reelOff = false → s.setsOf g false ≠ [] → s.reel.reads = [] →
            ∃ r, t.reel.reads = [r] ∧ r.ft = s.ft ∧ r.locked = s.locked ∧ r.cut = none ∧ r.sets.map (·.set_) = s.setsOf g false ∧
              (∀ q ∈ r.sets, q.sels = (s.rset q.set_).sels ∧ q.gap = (s.rset q.set_).gapDue ∧ q.opening = false) ∧ .strobe (ringReads r.sets) ∈ t.out) ∧
          ((∀ e ∈ s.crd, e.2.isChild = false) → ∀ n y, n < 65536 → s.sess n = some y → s.sessGen y = g → y.state = 2 → y.startFt ≤ s.ft →
            t.sess n = some { y with state := 3 })) ∧
      ((s.gen g).nextOpen ≤ s.ft →
        ∃ t, exec (.sampleWindowOpen g) s = .next t ∧ t.gen g = { s.gen g with nextOpen := (s.gen g).nextOpen + x.period } ∧
          (s.reelOff = false → s.setsOf g true ≠ [] → s.reel.reads = [] →
            ∃ r, t.reel.reads = [r] ∧ r.ft = s.ft ∧ r.sets.map (·.set_) = s.setsOf g true ∧ (∀ q ∈ r.sets, q.opening = true) ∧
              .strobe (ringReads r.sets) ∈ t.out))) ∧
    (∀ x, s.genRuns g 2 = some x →
      ((s.gen g).nextMain ≤ s.ft →
        ∃ t, exec (.slotPulse g) s = .next t ∧ t.gen g = { s.gen g with nextMain := (s.gen g).nextMain + x.period } ∧
          (s.build = .leaf → 8 ≤ g → .pulse (.slot (g - 8)) ∈ t.out)) ∧
      (x.length ≠ 0 → (s.gen g).nextOpen ≤ s.ft →
        ∃ t, exec (.quietWindowOpen g) s = .next t ∧ t.gen g = { s.gen g with nextOpen := (s.gen g).nextOpen + x.period, quiet := true } ∧
          (s.build = .leaf → (s.gen g).quiet = false →
            (8 ≤ g → .pin (.quiet (g - 8)) true ∈ t.out) ∧
            (s.fget Reg.REEL_QUIET_GENMASK / 2 ^ g % 2 = 1 → t.hif.quietOpen = Tab.set s.hif.quietOpen g () ∧ t.meter.tokens ≤ 64 * 800))) ∧
      (x.length ≠ 0 → (s.gen g).nextClose ≤ s.ft →
        ∃ t, exec (.quietWindowClose g) s = .next t ∧ t.gen g = { s.gen g with nextClose := (s.gen g).nextClose + x.period, quiet := false } ∧
          (s.build = .leaf → (s.gen g).quiet = true →
            (8 ≤ g → .pin (.quiet (g - 8)) false ∈ t.out) ∧ t.hif.quietOpen = Tab.del s.hif.quietOpen g)))

/-! ### Samples and tags -/

/-- Samples and instruction tags (R227, R230 to R234, R242 to R247): a read-out that ends gives each set its sample, with VALUE and DELTA of what the ring answered, FIRST where there is no previous value and OFF where the counter was off; a read that failed twice drops the samples of the strobe; a tag that returns, times out or loses its core leaves a record of its outcome, or is counted lost where its queue is full, and the next tag of an awake source follows at a distance drawn from P/2 to 3P/2. The model's own choices in it: assumptions 1, 3, 50, 62, 63. -/
def Obligations.SamplesAndTagsAreTaken : Prop :=
  (∀ (s : State) (vals : List (Nat × Nat × W64)) (r : Readout) (rest : List Readout), s.reel.reads = r :: rest → s.stopped = false →
    (∀ id, failedRead r vals = some id →
      ∃ t, exec (.reelReadoutDone vals) s = .next t ∧ t.reel = { s.reel with reads := rest }) ∧
    (∀ q, failedRead r vals = none → r.cut = none → r.sets = [q] → q.opening = false → q.stale = false →
      let x := s.rset q.set_
      ∃ t sm, exec (.reelReadoutDone vals) s = .next t ∧ t.reel.reads = rest ∧ (t.rset q.set_).latest = some sm ∧
        sm.ft = r.ft ∧ sm.locked = r.locked ∧ sm.gap = q.gap ∧ sm.entries.length = q.sels.length ∧
        (t.rset q.set_).prev = sm.entries.map (fun e => if e.off then none else some e.value) ∧
        ∀ i sel, q.sels[i]? = some sel → selSpace sel = 0 →
          (∀ v, ringGet vals sel = some v →
            (∀ p, x.prev.getD i none = some p → sm.entries[i]? = some { value := v, delta := (v + 2 ^ 48 - p) % 2 ^ 48, first := false, off := false }) ∧
            (x.prev.getD i none = none → sm.entries[i]? = some { value := v, delta := 0, first := true, off := false })) ∧
          (ringGet vals sel = none → ∃ v, sm.entries[i]? = some { value := v, delta := 0, first := false, off := true } ∧
            ∀ o, x.last.getD i none = some o → v = o))) ∧
  (∀ (s : State) (i : Nat), Calm s → s.reelOff = false →
    let sends := fun (t : State) => s.tagged i = true → (s.tagSrc i).asleep = false →
      ∃ n, (t.tagSrc i).countdown = some n ∧ s.tagPeriod / 2 ≤ n ∧ n < s.tagPeriod / 2 + s.tagPeriod ∧ .tag i (BitVec.ofNat 32 n) ∈ t.out
    let records := fun (t : State) (outcome : Nat) (addr : Option W64) =>
      (s.qFits 66 1 = true → ∃ x, t.reel.tags = s.reel.tags ++ [x] ∧ x.w0 = BitVec.ofNat 64 s.ft ∧ bits x.w1 19 17 = outcome ∧ bits x.w1 16 11 = i % 64 ∧
        bits x.w1 63 32 = (s.tagSrc i).countdown.getD 0 % 2 ^ 32 ∧ bit x.w1 21 = (s.tagSrc i).loss ∧ (∀ a, addr = some a → x.w2 = a)) ∧
      (s.qFits 66 1 = false → t.reel.tags = s.reel.tags ∧ (t.tagSrc i).loss = true ∧
        t.fget Reg.REEL_TAGSTAT_LOST = (s.fget Reg.REEL_TAGSTAT_LOST + 1) % 65536)
    (∀ lat addr info, (s.tagSrc i).countdown.isSome = true →
      ∃ t, exec (.tagReturn i lat addr info) s = .next t ∧ records t (info % 2) (some addr) ∧ sends t) ∧
    ((s.tagSrc i).countdown.isSome = true → s.fget Reg.REEL_TAG_TIMEOUT ≠ 0 → (s.tagSrc i).sentFt + s.fget Reg.REEL_TAG_TIMEOUT * us ≤ s.now →
      ∃ t, exec (.tagTimeout i) s = .next t ∧ records t 3 (some 0) ∧ sends t) ∧
    (∃ t, exec (.tagCorePowerDown i) s = .next t ∧ (t.tagSrc i).asleep = true ∧
      ((s.tagSrc i).countdown.isSome = true → records t 2 none ∧ (t.tagSrc i).countdown = none) ∧
      ((s.tagSrc i).countdown = none → t.reel.tags = s.reel.tags)) ∧
    (∃ t, exec (.tagCoreWake i) s = .next t ∧ (t.tagSrc i).asleep = false ∧ t.reel.tags = s.reel.tags ∧
      ((s.tagSrc i).countdown = none → s.tagged i = true →
        ∃ n, (t.tagSrc i).countdown = some n ∧ s.tagPeriod / 2 ≤ n ∧ n < s.tagPeriod / 2 + s.tagPeriod ∧ .tag i (BitVec.ofNat 32 n) ∈ t.out)))

/-- Tracing (R261 to R268, R276, R280 to R283, R289): an item of an enabled source whose gate is open becomes a packet of its local buffer, or is counted dropped where that is full; one that is malformed is counted; a power-down leaves its packet, and a wake comes first with its SYNC; the Flyer moves the head packet of the source it serves to the write count, and at its target a capture freezes; a segment that closes is drained to the host. The model's own choices in it: assumptions 2, 75, 76. -/
def Obligations.TraceIsCaptured : Prop :=
  ∀ (s : State) (i : Nat), Calm s → s.traceOff = false →
    let x := s.trSrc i
    let quietGates := ∀ c, c < 16 → s.cmpNames c i = false
    (∀ ws, i < s.nTrace → s.srcEnabled i = true →
      (itemOk ws = false → ∃ t, exec (.traceItem i ws) s = .next t ∧
        t.fget (Reg.TRC_SRCSTAT_MALFORMED.at i) = (s.fget (Reg.TRC_SRCSTAT_MALFORMED.at i) + 1) % 64) ∧
      (itemOk ws = true → bits (ws.headD 0) 3 0 ≠ 7 → quietGates → x.awaitSync = false → x.dropN = 0 →
        (s.gateOpen i = false → ∃ t, exec (.traceItem i ws) s = .next t ∧ t.trc.srcs = s.trc.srcs ∧
          t.fget (Reg.TRC_SRCSTAT_FILTERED.at i) = (s.fget (Reg.TRC_SRCSTAT_FILTERED.at i) + 1) % 256) ∧
        (s.gateOpen i = true → bufBytes x + pktBytes ws ≤ 4096 →
          ∃ t, exec (.traceItem i ws) s = .next t ∧ t.trSrc i = { x with buf := x.buf ++ [s.itemPacket i ws] } ∧
            t.flag (Reg.TRC_SRCSTAT_POWERED.at i) = true) ∧
        (s.gateOpen i = true → 4096 < bufBytes x + pktBytes ws →
          ∃ t, exec (.traceItem i ws) s = .next t ∧ t.trSrc i = { x with dropN := 1, dropCt := s.ct } ∧
            t.fget (Reg.TRC_SRCSTAT_DROPPED.at i) = (s.fget (Reg.TRC_SRCSTAT_DROPPED.at i) + 1) % 65536))) ∧
    (i < s.nTrace →
      (s.srcEnabled i = false →
        exec (.tracePowerDown i) s = .next (s.fset (Reg.TRC_SRCSTAT_POWERED.at i) 0) ∧
        ∀ ws, exec (.traceSourceWake i ws) s = .next (s.fset (Reg.TRC_SRCSTAT_POWERED.at i) 1)) ∧
      (s.srcEnabled i = true → x.awaitSync = false → x.dropN = 0 →
        (bufBytes x + 8 ≤ 4096 →
          ∃ t, exec (.tracePowerDown i) s = .next t ∧ t.flag (Reg.TRC_SRCSTAT_POWERED.at i) = false ∧
            t.trSrc i = { x with buf := x.buf ++ [s.itemPacket i [7]] }) ∧
        (bufBytes x + 32 ≤ 4096 →
          (∃ t p, exec (.traceSourceWake i []) s = .next t ∧ t.flag (Reg.TRC_SRCSTAT_POWERED.at i) = true ∧ t.trSrc i = { x with buf := x.buf ++ [p] } ∧
            p.length = 4 ∧ pktType p = 1 ∧ bits (p.headD 0) 18 16 = 2 ∧ p.getD 1 0 = BitVec.ofNat 64 s.ft ∧ .syncReq i ∈ t.out) ∧
          ∀ ws, itemOk ws = true → pktType ws = 1 →
            ∃ t p, exec (.traceSourceWake i ws) s = .next t ∧ t.trSrc i = { x with buf := x.buf ++ [p] } ∧ pktType p = 1 ∧
              bits (p.headD 0) 18 16 = 7 ∧ p.drop 1 = [BitVec.ofNat 64 s.ft, ws.getD 2 0, ws.getD 3 0]))) ∧
    (∀ ws rest, (∀ j, (s.trSrc j).buf.length < 2 ^ 16) → s.flyerPick = some i → x.buf = ws :: rest → x.dropN = 0 → pktBytes ws ≤ 4096 → s.fget Reg.TRC_WRCNT_COUNT + pktBytes ws < 2 ^ 64 →
      (pktType ws = 1 ∨ ∃ l, x.lastSync = some l ∧ s.pktFt ws ≤ l + s.syncIvl) →
      let wr := s.fget Reg.TRC_WRCNT_COUNT + pktBytes ws
      (s.trcState = 1 ∨ s.trcState = 4 → ∃ t, exec .flyerMove s = .next t ∧ (t.trSrc i).buf = rest ∧ t.trc.turn = (i + 1) % 32 ∧
        t.fget Reg.TRC_WRCNT_COUNT = wr ∧ (s.fget Reg.TRC_WRCNT_COUNT, ws) ∈ t.trc.pkts) ∧
      (∀ c, s.trcState = 2 → s.trc.cfg = some c →
        (wr - s.fget Reg.TRC_TRIGCNT_COUNT < c.target → ∃ t, exec .flyerMove s = .next t ∧ (t.trSrc i).buf = rest ∧ t.trcState = 2 ∧ t.fget Reg.TRC_WRCNT_COUNT = wr) ∧
        (c.target ≤ wr - s.fget Reg.TRC_TRIGCNT_COUNT → ∃ t, exec .flyerMove s = .next t ∧ t.trcState = 3 ∧ t.flag Reg.TRC_STATUS_VALID = true ∧
          t.fget Reg.TRC_WRCNT_COUNT = wr))) ∧
    (∀ c, s.trc.cfg = some c → c.dest = 1 → s.draining = true → s.trc.releasing = none →
      let n := min 65536 (s.sinceArm - s.trc.segPos)
      n ≠ 0 → (n = 65536 ∨ s.trc.segFt + s.syncIvl ≤ s.now) →
      ∃ t l, exec .segmentClose s = .next t ∧ t.trc.segPos = s.trc.segPos + n ∧ t.trc.segFt = s.now ∧ t.meter.queue = s.meter.queue ++ l ∧
        (s.assisted 7 = false → c.mirror = false → l.flatMap (·.data) = s.rawTrace s.trc.segPos (s.trc.segPos + n)))

/-! ### Evaluation -/

/-- Batches, turns and passes (R297, R319, R348, R349, R386, R388, R389): a batch closes at its deadline and counts the members that are missing; a STOPPING session that is idle at its stop FT opens again; at a boundary a domain dispatches the oldest item of the session that is due, or issues its next pass, as many trees as the limit takes, or a store burst; a pass that ends leaves its trees' values and its counts, and one that met a bad node drops its item and damages the model. The model's own choices in it: assumptions 10, 51, 67, 74. -/
def Obligations.ItemsAreEvaluated : Prop :=
  (∀ (s : State) (n : Nat) (x : Sess), s.sess n = some x →
    (∀ g q, x.gather = some g → x.collect ≠ 0 → g.ft + 4 * x.collect ≤ s.ft → s.carderFenced = false → s.modelOf x = none → g.recs ≠ [] →
      x.pend.length < s.pendLimit → x.queue = some q →
      ∃ t y b, exec (.batchCollectExpiry n) s = .next t ∧ t.sess n = some y ∧ y.gather = none ∧ y.pend = x.pend ++ [b] ∧ b.ft = g.ft ∧
        b.vecs.length = g.recs.length ∧ y.missN = x.missN + (s.leafMembers.filter fun h => !(g.recs.any fun r => r.origin == h)).length) ∧
    (x.state = 4 → x.stopFt ≤ s.ft → s.sessIdle n x = true →
      ∃ t, exec (.stopFtReached n) s = .next t ∧ t.sess n = some { x with state := 1 })) ∧
  (∀ (s : State) (dom n : Nat), s.work = [] → dom < nDomains s.build → s.stopped = false → s.isFenced 0xA = false →
    (∀ k, k < nSpindles s.build → s.isFenced (0x40 + k) = false) → (∀ e ∈ s.dst.models, ∀ y ∈ e.2.shares, y.dom < nSpindles s.build) →
    (∀ e ∈ s.dst.evals, e.scorer < nSpindles s.build ∧ ∀ p ∈ e.parts, p.spindle < nSpindles s.build) →
    (∀ e m p, s.dst.evals = [e] → e.sess = n → e.parts = [p] → p.now = [] → p.todo ≠ [] → (domSpindles s.build dom).contains p.spindle = true →
      Tab.get s.dst.models e.slot = some m →
      let l := takePass (e.cost m.img) (32 * passLim s.build) p.todo 0
      let cyc := max 1 (ceilDiv (sumN (l.map (e.cost m.img))) 32)
      let issued := fun (t : State) => t.dst.evals = [{ e with parts := [{ p with now := l, todo := p.todo.drop l.length }] }] ∧
        t.fget (Reg.SPN_PASSES_COUNT.at p.spindle) = (s.fget (Reg.SPN_PASSES_COUNT.at p.spindle) + 1) % 2 ^ 32 ∧
        t.flag (Reg.SPN_STAT_BUSY.at p.spindle) = true
      (s.reservedNext dom = some n → ∃ t, exec (.domainBoundary dom) s = .next t ∧ issued t ∧ t.domain dom = { s.domain dom with burstLast := false }) ∧
      (∀ left, s.reservedNext dom = none → s.burstOn dom = none → s.paced dom = false → s.bestEffort dom = some (n, left) →
        ∃ t, exec (.domainBoundary dom) s = .next t ∧ issued t ∧ t.domain dom = { burstLast := false, holder := n, left := left - cyc })) ∧
    (∀ x b slot m, s.dst.evals = [] → s.reservedNext dom = some n → s.sess n = some x → x.pend = [b] → s.modelOf x = some (slot, m) → m.state = 2 →
      ∃ t e y, exec (.domainBoundary dom) s = .next t ∧ e ∈ t.dst.evals ∧ e.sess = n ∧ e.slot = slot ∧ e.ft = b.ft ∧ e.gen = m.gen ∧
        e.vecs.length = b.vecs.length ∧ t.sess n = some y ∧ y.pend = [] ∧ y.vectors = x.vectors + b.vecs.length) ∧
    (∀ slot ev m, s.dst.evals = [] → s.reservedNext dom = none → s.burstOn dom = some (slot, ev) → (s.domain dom).burstLast = false → Tab.get s.dst.models slot = some m →
      ∃ t, exec (.domainBoundary dom) s = .next t ∧ (t.domain dom).burstLast = true ∧
        Tab.get t.dst.models slot = some (if ev then { m with evict := Tab.set m.evict dom (Tab.getD m.evict dom 0 - 1) }
          else { m with bursts := Tab.set m.bursts dom (Tab.getD m.bursts dom 0 - 1) }))) ∧
  (∀ (s : State) (k : Nat) (e : Eval) (p : Part) (m : Model) (x : Sess), s.work = [] → k < nSpindles s.build → s.dst.evals = [e] → e.parts = [p] → p.spindle = k → p.now ≠ [] →
    Tab.get s.dst.models e.slot = some m → s.sess e.sess = some x →
    (∃ t, exec (.passDone k 0) s = .next t ∧
      t.dst.evals = [{ e with parts := [{ p with now := [] }],
                              vecs := e.vecs.map fun v => evalTrees m.img (Tab.getD x.members v.vec.member {}) v p.now }] ∧
      t.fget (Reg.SPN_CMPS_COUNT.at k) = (s.fget (Reg.SPN_CMPS_COUNT.at k) + sumN (p.now.map (e.cost m.img))) % 2 ^ 48 ∧
      t.flag (Reg.SPN_STAT_BUSY.at k) = false) ∧
    (m.state = 2 → ∃ t, exec (.passDone k 1) s = .next t ∧ t.dst.evals = [] ∧
      t.fget Reg.SPN_ERR_NODE_PAR = (s.fget Reg.SPN_ERR_NODE_PAR + 1) % 65536 ∧
      Tab.get t.dst.models e.slot = some { m with state := 5, reload := true, evicting := true, evict := m.shares.foldl (fun t y => Tab.set t y.dom (ceilDiv y.count 64)) [] }))

/-- Scores and stores (R337 to R345, R376, R383, R385, R390 to R392): the score stage gives the member its sum and its side of the hysteresis, and counts a record where one is due; a load that ends makes its model RESIDENT, under a new generation where it is new, and a load that fails breaks it; an eviction that ends leaves the model EVICTED, or its entry free; and once a session has been blocked beyond the grace time, the session that waits has its model loaded, or the driver is asked. The model's own choices in it: assumptions 10, 74. -/
def Obligations.ScoresAndLoadsEnd : Prop :=
  (∀ (s : State) (k : Nat) (e : Eval) (m : Model) (x : Sess) (v : EvalVec), s.stopped = false → s.scorable k = some e → e.sess < 65536 →
    Tab.get s.dst.models e.slot = some m → s.sess e.sess = some x → x.isChild = false → e.vecs = [v] →
    let mem := Tab.getD x.members v.vec.member {}
    let sum := newSum m.img mem v
    let score := clamp32 sum
    let side := if mem.inside then decide (score > m.img.exit) else decide (score > m.img.enter)
    let supp := v.vec.nan && x.suppress
    let due := (mem.inside != side) || (side && m.img.level)
    ∃ t y, exec (.scoreStageDone k) s = .next t ∧ t.sess e.sess = some y ∧
      Tab.get y.members v.vec.member = some { mem with sum, sumBad := false, inside := if supp then mem.inside else side } ∧
      y.suppN = x.suppN + b2n (supp && due) ∧
      t.dst.evals = s.dst.evals.filter (fun q => !(q.sess == e.sess && q.ft == e.ft)) ∧
      t.fget Reg.SPN_SLUBS_COUNT = (s.fget Reg.SPN_SLUBS_COUNT + b2n (due && !supp)) % 2 ^ 32) ∧
  (∀ (s : State) (slot : Nat) (m : Model), Tab.wf s.dst.models = true → Tab.get s.dst.models slot = some m →
    (∀ e ∈ s.dst.models, e.1 ≠ slot → e.2.state = 2 ∨ e.2.state = 3) →
    (m.state = 1 → m.shares ≠ [] → (∀ x ∈ m.shares, s.domFits x.dom = true) →
      (let g := (s.fget Reg.DST_GEN_GEN + 1) % 2 ^ 32
       ∃ t, exec (.modelStoreLoadDone slot 0) s = .next t ∧
         t.dst.models = Tab.set s.dst.models slot { m with state := 2, bursts := [], reload := false, cmd := none, gen := if m.cmd.isSome then g else m.gen } ∧
         (m.cmd.isSome = true → t.fget Reg.DST_GEN_GEN = g)) ∧
      (∀ err, err ≠ 0 → m.cmd = none → ∃ t, exec (.modelStoreLoadDone slot err) s = .next t ∧
        t.dst.models = Tab.set s.dst.models slot { m with state := 6, shares := [], bursts := [], reload := false }) ∧
      (∀ err r, err ≠ 0 → m.cmd = some r → ∃ t, exec (.modelStoreLoadDone slot err) s = .next t ∧ t.dst.models = Tab.del s.dst.models slot)) ∧
    (m.evicting = true → s.inUse slot = false → (∀ e ∈ s.crd, e.2.pend = []) →
      (m.discard = true → ∃ t, exec (.evictionDone slot) s = .next t ∧ t.dst.models = Tab.del s.dst.models slot) ∧
      (m.discard = false → m.state = 2 → ∃ t, exec (.evictionDone slot) s = .next t ∧
        t.dst.models = Tab.set s.dst.models slot { m with evicting := false, evict := [], shares := [], evCmd := [], state := 4 }))) ∧
  (∀ (s : State) (n : Nat) (x : Sess), s.sess n = some x → s.grace ≠ 0 → s.grace < s.blocked n x → s.fget Reg.HIF_FNSTAT_PENDING / 2 ^ 6 % 2 = 0 →
    (s.oldestWaiting = none → ∃ t, exec (.graceExpiry n) s = .next t ∧ t.flag Reg.DST_STATUS_WANT = false ∧ t.dst = s.dst) ∧
    (∀ k y slot m, s.oldestWaiting = some (k, y) → s.modelOf y = some (slot, m) → m.state = 4 → s.loadRuns = false →
      let loads := fun (t : State) (p : List MShare) => t.flag Reg.DST_STATUS_WANT = (s.flag Reg.DST_STATUS_WANT && (s.placeFree m).isNone) ∧
        Tab.get t.dst.models slot = some { m with state := 1, shares := p, bursts := p.foldl (fun t x => Tab.set t x.dom (loadBursts m x)) [] }
      (∀ p, s.placeFree m = some p → ∃ t, exec (.graceExpiry n) s = .next t ∧ loads t p) ∧
      (s.placeFree m = none →
        (placeF (nDomains s.build) 0 (s.runsOf m) (s.domOk m) = none → ∃ t, exec (.graceExpiry n) s = .next t ∧ t.flag Reg.DST_STATUS_WANT = false ∧ t.dst = s.dst) ∧
        (∀ p, placeF (nDomains s.build) 0 (s.runsOf m) (s.domOk m) = some p →
          (s.assisted 6 = true → ∃ t, exec (.graceExpiry n) s = .next t ∧ t.flag Reg.DST_STATUS_WANT = true ∧ t.dst = s.dst) ∧
          (s.assisted 6 = false → ∃ t, exec (.graceExpiry n) s = .next t ∧ loads t p)))))

/-! ### Liveness, temperature and droop -/

/-- Liveness (R516 to R530, R54, R515): ALIVE toggles every 10,000 cycles; every self-timed unit is probed, and one that does not answer stops the block; temperature warns above one limit and stops the block above the other, and rearms 5 °C below; a peer's pulse, a progress step and a pulse of a die's ALIVE are noted; at the end of a peer interval the pulses start afresh; the entries of the dies follow their rule; and the lanes of what was fenced or stopped go idle after 2 µs. The model's own choices in it: assumptions 10, 93, 94, 95. -/
def Obligations.LivenessIsWatched : Prop :=
  ∀ (s : State), s.work = [] →
    (s.flag Reg.SNG_STATUS_ALIVE_RUN = true → s.whl.clock = true → s.snag.aliveNext ≤ s.whl.cyc →
      ∃ t, exec .aliveToggle s = .next t ∧ t.snag = { s.snag with aliveLevel := !s.snag.aliveLevel, aliveNext := s.snag.aliveNext + 10000 } ∧
        .pin .alive (!s.snag.aliveLevel) ∈ t.out) ∧
    (s.stopped = false → s.fget Reg.SNG_WDOG_LIM ≠ 0 →
      (∃ t, exec .watchdogProbe s = .next t ∧ ∀ u ∈ probedUnits s.build, .probe u ∈ t.out ∧
        Tab.get t.snag.probes u = some ((Tab.get s.snag.probes u).getD s.now)) ∧
      (∀ u t0, Tab.get s.snag.probes u = some t0 → t0 + s.fget Reg.SNG_WDOG_LIM * us ≤ s.now →
        ∃ t, exec (.watchdogExpiry u) s = .next t ∧ .pin .alive false ∈ t.out)) ∧
    (∀ temp : Int,
      (∃ t, exec (.thermalCrossing temp) s = .next t ∧
        t.snag.warmWarn = (s.snag.warmWarn || decide (temp > s.fget Reg.SNG_THERM_WARN)) ∧
        t.snag.warmTrip = (s.snag.warmTrip || decide (temp > s.fget Reg.SNG_THERM_TRIP)) ∧
        (s.stopped = false → s.snag.warmWarn = true → s.snag.warmTrip = false → temp > s.fget Reg.SNG_THERM_TRIP → .pin .alive false ∈ t.out)) ∧
      (∃ t, exec (.thermalFall temp) s = .next t ∧
        t.snag.warmWarn = (s.snag.warmWarn && decide (s.fget Reg.SNG_THERM_WARN < temp + 5)) ∧
        t.snag.warmTrip = (s.snag.warmTrip && decide (s.fget Reg.SNG_THERM_TRIP < temp + 5)))) ∧
    (s.build = .leaf →
      (∀ n, n < 32 → exec (.peerRxPulse n) s = .next { s with snag := { s.snag with peerBits := s.snag.peerBits ||| (1#32 <<< n) } }) ∧
      exec .stepPulse s = .next { s with snag := { s.snag with steps := s.snag.steps + 1 } } ∧
      (s.snagOff = false → s.snag.peerNext ≤ s.now →
        ∃ t, exec .peerSeenSend s = .next t ∧ t.snag.peerBits = 0 ∧ t.snag.peerNext = s.now + s.peerIvl)) ∧
    (∀ p, s.tier = 1 → p < 32 → s.aliveWired p = true →
      ∃ t, exec (.aliveInEdge p) s = .next t ∧ (t.die p).tAlive = s.ft ∧ (t.die p).anyAlive = true) ∧
    (∀ p, s.evaluates p = true → (∀ q, q < 32 → q ≠ p → s.evaluates q = false) → s.snagOff = false →
      let e := s.die p
      let r := e.rule s.ft s.silentIvl s.deadIvl s.stallIvl (s.aliveWired p)
      (r.1 = e.state → ∃ t, exec .dieStateTick s = .next t ∧ (t.die p).state = e.state ∧ (t.die p).silent = r.2 ∧ (t.die p).changes = e.changes) ∧
      (r.1 ≠ e.state → (r.1 ≠ 4 ∨ s.flag Reg.SNG_CTRL_EXPEL_DEAD = false) →
        ∃ t, exec .dieStateTick s = .next t ∧ (t.die p).state = r.1 ∧ (t.die p).silent = r.2 ∧ (t.die p).changes = e.changes + 1)) ∧
    (∀ t0, s.snag.stopFt = some t0 → t0 + 2 * us ≤ s.now →
      ∃ t, exec .f3LaneIdle s = .next t ∧ ∀ p, p < 36 → s.pState p ≠ 0 → .lanes p true ∈ t.out) ∧
    (∀ n t0, Tab.get s.snag.partIdle n = some t0 → t0 ≤ s.now →
      ∃ t, exec (.partitionFenceIdle n) s = .next t ∧ ∀ p ∈ s.partPorts n, .lanes p true ∈ t.out)

/-- Droop and the re-plan (R131, R141 to R148): a crossing raises the level of its sensor to what the margin calls for and starts a stretch below 0 mV; a relaxation lowers it by one; a stretch that ends after 20 ns or more was at level 3 and is counted; a re-plan measures the cycle, projects it, gives the scale's capacities and burst budgets, and the margin state that the admitted reservations call for. The model's own choices in it: assumptions 1, 10, 87. -/
def Obligations.MarginsAreKept : Prop :=
  (∀ (s : State) (n : Nat), s.work = [] → n < nSensors s.build →
    let x := s.sensor n
    (∀ margin : Int, ∃ t, exec (.droopCrossing n margin) s = .next t ∧
      t.tns.sensors = Tab.set s.tns.sensors n
        { level := max x.level (if margin < s.droopTh.2 ∨ margin < 0 then 2 else if margin < s.droopTh.1 then 1 else 0), margin
          belowFt := if margin < 0 then some (x.belowFt.getD s.ft) else x.belowFt } ∧
      t.fget Reg.TNS_DROOPCNT_LVL2 = (s.fget Reg.TNS_DROOPCNT_LVL2 + b2n (decide (x.level < 2) && decide (margin < s.droopTh.2 ∨ margin < 0))) % 65536) ∧
    (x.level ≠ 0 → x.belowFt = none → ∃ t, exec (.droopRelax n) s = .next t ∧ t.tns.sensors = Tab.set s.tns.sensors n { x with level := x.level - 1 }) ∧
    (∀ t0, x.belowFt = some t0 →
      (s.ft < t0 + 80 → ∃ t, exec (.droopIntervalEnd n) s = .next t ∧ t.tns.sensors = Tab.set s.tns.sensors n { x with belowFt := none }) ∧
      (t0 + 80 ≤ s.ft → ∃ t, exec (.droopIntervalEnd n) s = .next t ∧ t.tns.sensors = Tab.set s.tns.sensors n { x with level := 3, belowFt := none } ∧
        t.fget Reg.TNS_DROOPCNT_LVL3 = (s.fget Reg.TNS_DROOPCNT_LVL3 + 1) % 65536))) ∧
  (∀ (s : State) (twc : Nat), s.replanDue = true → s.tns.days.length < 7 →
    let tp := twc + s.fget Reg.TNS_AGE_SLOPE * 2 ^ s.fget Reg.TNS_CTRL_HORIZON
    let big := decide (700000 < tp)
    let sn : Nat := if big then tp else 1
    let sd : Nat := if big then 700000 else 1
    ∃ t, exec (.replan twc) s = .next t ∧ t.tns.lastFt = s.ft ∧ t.fget Reg.TNS_STATUS_REPLANS = (s.fget Reg.TNS_STATUS_REPLANS + 1) % 65536 ∧
      (∃ r : Int, ((twc : Int) - 1000 * r).natAbs < 1000 ∧ t.fget Reg.TNS_CYCLE_TWC = r.toNat % 65536) ∧
      (∃ r : Int, (4096 * (sn : Int) - sd * r).natAbs < sd ∧ t.fget Reg.TNS_SCALE_S = r.toNat % 65536) ∧
      (∀ m, 1 ≤ m → m ≤ 3 → t.fget (Reg.TNS_CAP_CAP.at m) = 4096 * sd / sn % 2 ^ 13) ∧
      (∀ c, c < 3 → t.fget (Reg.TNS_BURST_BUDGET.at c) = burstBudget c 260 sn sd % 65536) ∧
      t.fget Reg.TNS_STATUS_MSTATE = (if s.fitsAt sn sd then b2n big else if s.fitsAt (max twc 700000) 700000 then 2 else 3))

/-! ### Tests of the host die -/

/-- Tests (R548 to R560, R564): at the start of a safe point it opens and, in hardware mode, the first due test that fits starts; a wait that runs out leads to the next operation; the end of the test program compares the signature and starts the restore program, and so does the end of its time, once its transfer in flight has completed; the end of the restore program, or of its time, ends the run with its record, and a completed run renews the test's due time; a safe point that ends defers the tests it did not run; a test overdue is flagged and charged to its unit; and the health counters are halved in their time. The model's own choices in it: assumptions 10, 83. -/
def Obligations.TestsAreRun : Prop :=
  ∀ (s : State), s.work = [] → s.stapleOff = false →
    (∀ r t, s.stp.run = some r → s.stest r.slot r.test = some t →
      let restore := fun (r1 : Run) (u : State) => u.stp.run = some { r1 with restoring := true, restFt := s.now, pc := 0, ending := false, opFt := s.now } ∧
        .testRun r.slot r.test true t.unit ∈ u.out
      ((s.curOp r).1 = 3 → r.opFt + 4 * (s.curOp r).2.1.toNat ≤ s.now →
        ∃ u, exec .testWaitExpiry s = .next u ∧ u.stp.run = some { r with pc := r.pc + 1, opFt := s.now }) ∧
      (r.restoring = false → r.ending = false →
        ((s.curOp r).1 = 0 → ∃ u, exec .testProgramEnd s = .next u ∧
          restore { r with sigDone := true, result := if r.sig ^^^ 0xFFFFFFFF = t.expect.toNat then 0 else 1 } u) ∧
        (r.since + t.dur * us ≤ s.now →
          (s.testFlying = true → ∃ u, exec .testDurExpiry s = .next u ∧ u.stp.run = some { r with result := 2, ending := true }) ∧
          (s.testFlying = false → ∃ u, exec .testDurExpiry s = .next u ∧ restore { r with result := 2 } u))) ∧
      (r.restoring = true → r.ending = false → r.abandoned = false → r.result ≤ 2 → t.unit < 2048 → s.qFits 65 1 = true → s.stp.points = [] → s.stp.changes = [] → s.stp.changeCmds = [] →
        let ends := fun (result : Nat) (u : State) => u.stp.run = none ∧ (∃ x, u.stp.results = s.stp.results ++ [x] ∧ x.w0 = BitVec.ofNat 64 r.ft ∧ bits x.w1 28 26 = result ∧ bits x.w1 10 0 = t.unit) ∧
          (u.tstate (tkey r.slot r.test)).lastRun = some r.ft ∧ (u.tstate (tkey r.slot r.test)).defer = 0 ∧ (u.tstate (tkey r.slot r.test)).overdue = false ∧
          (u.health t.unit).runs = min 0xFFFF ((s.health t.unit).runs + 1)
        ((s.curOp r).1 = 0 → ∃ u, exec .restoreProgramEnd s = .next u ∧ ends r.result u) ∧
        (r.restFt + t.rdur * us ≤ s.now →
          (s.testFlying = true → ∃ u, exec .restoreDurExpiry s = .next u ∧ u.stp.run = some { r with result := 4, ending := true }) ∧
          (s.testFlying = false → ∃ u, exec .restoreDurExpiry s = .next u ∧ ends 4 u)))) ∧
    (∀ t0, s.timerDue (.safePoint 0) = some t0 → s.stp.run = none → s.fget Reg.HIF_FNSTAT_PENDING / 2 ^ 5 % 2 = 0 →
      let opened := s.setPoints (s.stp.points.map fun (p : SafePoint) => if p.start ≤ s.ft then { p with opened := true } else p)
      ((s.assisted 5 = true ∨ opened.pickTest = none) → ∃ u, exec .safePointStart s = .next u ∧ u.stp = opened.stp) ∧
      (∀ slot test t, s.assisted 5 = false → opened.pickTest = some (slot, test, t) →
        ∃ u r, exec .safePointStart s = .next u ∧ u.stp.run = some r ∧ r.slot = slot ∧ r.test = test ∧ r.ft = s.ft ∧ r.restoring = false ∧ r.pc = 0 ∧
          .testRun slot test false t.unit ∈ u.out)) ∧
    (∀ p, Tab.wf s.stp.pkgs = true → (∀ e ∈ s.stp.pkgs, e.2.tests.length ≤ 256) → (s.stp.points.filter fun q => q.opened && decide (q.stop ≤ s.ft)) = [p] →
      ∃ u, exec .safePointEnd s = .next u ∧ u.stp.points = s.stp.points.filter (fun q => !(q.opened && decide (q.stop ≤ s.ft))) ∧
        ∀ slot test t, s.stest slot test = some t → s.isDue slot test t = true → p.covers s t.unit = true → p.ran.contains (tkey slot test) = false →
          (u.tstate (tkey slot test)).defer = min 0xFFFF ((s.tstate (tkey slot test)).defer + 1)) ∧
    (∀ slot test t, s.stest slot test = some t → s.fget Reg.STP_MAXDEF_HOURS ≠ 0 → (s.tstate (tkey slot test)).overdue = false →
      s.dueFt slot test t + s.fget Reg.STP_MAXDEF_HOURS * hourTicks ≤ s.ft →
      ∃ u, exec (.overdueLimit slot test) s = .next u ∧ (u.tstate (tkey slot test)).overdue = true ∧
        (u.health t.unit).ovd = min 0xFFFF ((s.health t.unit).ovd + 256)) ∧
    (s.running = true → s.fget Reg.STP_HHALF_HOURS ≠ 0 → s.stp.halveFt + s.fget Reg.STP_HHALF_HOURS * hourTicks ≤ s.ft →
      ∃ u, exec .healthHalving s = .next u ∧ u.stp.halveFt = s.stp.halveFt + s.fget Reg.STP_HHALF_HOURS * hourTicks ∧
        ∀ n, u.health n = { s.health n with fail := (s.health n).fail / 2, tchk := (s.health n).tchk / 2, vloss := (s.health n).vloss / 2, ovd := (s.health n).ovd / 2 })

/-! ### Rings, transfers, the log and dumps -/

/-- Rings (R190 to R194, R198, R201, R211, R616, R617): a descriptor that is fetched is counted and takes its place, one with an unassigned code completes in its turn, and a read that fails disables the slice; a completion goes to its ring entry with the phase of its lap, and a verdict record to its entry with the mirror after it; a write that fails disables the slice with its cause; and a scrub keeps what stands before a broken link. The model's own choices in it: assumptions 16, 24, 26, 27. -/
def Obligations.RingsAreServed : Prop :=
  ∀ (s : State) (n : Nat),
    let x := s.slice n
    (s.canFetch n = true →
      let at_ := s.fget (Reg.SLC_CMDHEAD_COUNT.at n)
      let counted := fun (t : State) => t.fget (Reg.SLC_CMDHEAD_COUNT.at n) = (at_ + 1) % 2 ^ 32
      (∀ opc d b, assigned opc.toNat = true → (∀ f ∈ x.fetched, assigned f.opcode = true) →
        ∃ t, exec (.descriptorFetch n (.got opc d b)) s = .next t ∧ counted t ∧
          t.fget (Reg.SLC_STATUS_INFLIGHT.at n) = (s.fget (Reg.SLC_STATUS_INFLIGHT.at n) + 1) % 65536 ∧
          t.slice n = { x with fetched := x.fetched ++ [{ opcode := opc.toNat, d, b, dseq := at_ % 65536 }] }) ∧
      (∀ opc d b, assigned opc.toNat = false → x.fetched = [] → x.running = [] →
        ∃ t, exec (.descriptorFetch n (.got opc d b)) s = .next t ∧ counted t ∧
          t.slice n = { x with cplWait := x.cplWait ++ [{ opcode := opc.toNat, status := stBAD_OPCODE, session := d.session.toNat, value := 0,
                                                          dseq := at_ % 65536, ct := s.ct, irq := d.irq }] }) ∧
      (∃ t, exec (.descriptorFetch n .failed) s = .next t ∧ t.flag (Reg.SLC_CTRL_ENABLE.at n) = false ∧ (t.slice n).fetched = [] ∧
        t.flag (Reg.SLC_STATUS_RING_ERR.at n) = true ∧ t.fget (Reg.SLC_STATUS_CAUSE.at n) = 7)) ∧
    (∀ c rest, x.cplWait = c :: rest → n < nSlices s.build → s.enabled n = true → s.cplOcc n < s.cplSize n → (s.build.isHub = true ∨ s.meterTakes 16 = true) →
      x.unbind = none →
      let tail := s.fget (Reg.SLC_CPLTAIL_COUNT.at n)
      let size := s.cplSize n
      ((∀ f ∈ x.fetched, assigned f.opcode = true) →
        ∃ t, exec (.completionWrite n true) s = .next t ∧ t.slice n = { x with cplWait := rest } ∧ t.fget (Reg.SLC_CPLTAIL_COUNT.at n) = (tail + 1) % 2 ^ 32 ∧
          (let w := cplWords tail (1 - tail / size % 2) c
           .dma n (BitVec.ofNat 64 (s.fget (Reg.SLC_CPLBASE_BASE.at n) + 16 * (tail % size))) (wordsBytes [w.1, w.2]) ∈ t.out)) ∧
      (∃ t, exec (.completionWrite n false) s = .next t ∧ t.flag (Reg.SLC_CTRL_ENABLE.at n) = false ∧
        t.flag (Reg.SLC_STATUS_RING_ERR.at n) = true ∧ t.fget (Reg.SLC_STATUS_CAUSE.at n) = 4 ∧ t.fget (Reg.SLC_CPLTAIL_COUNT.at n) = tail)) ∧
    (∀ r rest, x.vq = r :: rest → n < nSlices s.build → s.flag (Reg.SLC_CTRL_VDEST.at n) = false → s.enabled n = true → s.vrdOcc n < s.vrdSize n →
      let tail := s.fget (Reg.SLC_VRDTAIL_COUNT.at n)
      ((s.build.isHub = true ∨ s.meterTakes 40 = true) →
        let at_ := BitVec.ofNat 64 (s.fget (Reg.SLC_VRDBASE_BASE.at n) + 32 * (tail % s.vrdSize n))
        (∃ t, exec (.verdictRecordWrite n true true false) s = .next t ∧ t.slice n = { x with vq := rest } ∧ t.fget (Reg.SLC_VRDTAIL_COUNT.at n) = (tail + 1) % 2 ^ 32 ∧
          .dma n at_ (wordsBytes (recWords r)) ∈ t.out ∧ .dma n (BitVec.ofNat 64 (s.fget (Reg.SLC_VRDMIR_ADDR.at n))) (toBytes 8 ((tail + 1) % 2 ^ 32)) ∈ t.out) ∧
        (∀ mirrorOk, ∃ t, exec (.verdictRecordWrite n false mirrorOk false) s = .next t ∧ t.flag (Reg.SLC_CTRL_ENABLE.at n) = false ∧ (t.slice n).vq = x.vq ∧
          t.flag (Reg.SLC_STATUS_RING_ERR.at n) = true ∧ t.fget (Reg.SLC_STATUS_CAUSE.at n) = 5)) ∧
      (∀ ok mirrorOk, ∃ t, exec (.verdictRecordWrite n ok mirrorOk true) s = .next t ∧ t.slice n = { x with vq := rest } ∧ t.fget (Reg.SLC_VRDTAIL_COUNT.at n) = tail)) ∧
    (∀ k, (n < nSlices s.build → s.flag (Reg.SLC_CTRL_VDEST.at n) = false → ∃ t, exec (.scrubDone [(n, k)]) s = .next t ∧ t.slice n = { x with vq := x.vq.take k }) ∧
      (∃ t, exec (.scrubDone [(65, k)]) s = .next t ∧ t.stp = { s.stp with results := s.stp.results.take k }) ∧
      (∃ t, exec (.scrubDone [(66, k)]) s = .next t ∧ t.reel = { s.reel with tags := s.reel.tags.take k }))

/-- The initiator port of a Leaf, the log's freeze and the capture of a dump (R253 to R256, R662, R666 to R670): the port issues the next transfer, of at most 64 bytes, once the meter has its tokens, and counts one that waits; a transfer that ends frees the port, and leaves the queue with its last byte; a freeze that reaches its limit is cut to the records begun; a unit that does not answer is noted, and a capture that ends is held under its number. The model's own choices in it: assumptions 10, 26, 40, 88. -/
def Obligations.TransfersLogAndDumpsEnd : Prop :=
  (∀ (s : State), s.build = .leaf →
    (∀ i x, s.meter.busy = none → s.stopped = false → nextXfer s.meter.queue = some (i, x) →
      let n := min 64 x.left
      let have_ := s.meterRefill.meter.tokens
      (n * 800 ≤ have_ →
        ∃ t, exec .meterTransfer s = .next t ∧ t.meter.busy = some n ∧ t.meter.tokens = have_ - n * 800 ∧
          t.meter.queue = s.meter.queue.set i { x with waited := false, flying := true } ∧ (x.data ≠ [] → .dma x.slice x.addr (x.data.take n) ∈ t.out)) ∧
      (have_ < n * 800 → x.waited = false →
        ∃ t, exec .meterTransfer s = .next t ∧ t.meter.busy = none ∧ t.meter.queue = s.meter.queue.set i { x with waited := true } ∧
          t.fget Reg.REEL_METER_WAITS = (s.fget Reg.REEL_METER_WAITS + 1) % 65536)) ∧
    (∀ n i x v, s.meter.busy = some n → s.meter.queue.findIdx? (·.flying) = some i → s.meter.queue[i]? = some x →
      (n < x.left → ∃ t, exec (.hostTransferDone true v) s = .next t ∧ t.meter.busy = none ∧
        t.meter.queue = s.meter.queue.set i { x with addr := x.addr + BitVec.ofNat 64 n, data := x.data.drop n, left := x.left - n, flying := false }) ∧
      (∀ k ok, x.left ≤ n → x.use_ = .dump k → ∃ t, exec (.hostTransferDone ok v) s = .next t ∧ t.meter.busy = none ∧ t.meter.queue = s.meter.queue.eraseIdx i ∧
        ((s.meter.queue.eraseIdx i).any (fun y => y.use_ == .dump k) = false →
          t.fget Reg.REEL_DUMPSTAT_DUMPS = (s.fget Reg.REEL_DUMPSTAT_DUMPS + 1) % 65536)))) ∧
  (∀ (s : State) (r : Running) (x : Xfer), s.skn.read = some r → s.skn.readFt + max 1 (s.fget Reg.SKN_FRZ_LIM) * us ≤ s.now →
    s.meter.queue.find? (fun y => y.use_ == XferUse.log) = some x →
    let sent := s.skn.readLen - x.left + (if x.flying then s.meter.busy.getD 0 else 0)
    let total := min s.skn.readLen (ceilDiv sent 64 * 64)
    let left := x.left - (s.skn.readLen - total)
    ((left ≠ 0 ∨ x.flying = true) → ∃ t, exec .logFreezeLimit s = .next t ∧ t.skn.readLen = total ∧ t.skn.read = some r ∧
      t.meter.queue = s.meter.queue.map fun y => if y.use_ == XferUse.log then { x with left, data := x.data.take left } else y) ∧
    (∀ n, left = 0 → x.flying = false → s.skn.waiting = [] → r.src = .slice n → r ∈ (s.slice n).running →
      ∃ t c, exec .logFreezeLimit s = .next t ∧ t.skn.read = none ∧ t.meter.queue = s.meter.queue.filter (fun y => y.use_ != XferUse.log) ∧
        (t.slice n).cplWait = (s.slice n).cplWait ++ [c] ∧ c.status = stOK ∧ c.value = total / 64 ∧ c.dseq = r.dseq)) ∧
  (∀ (s : State) (c : Capture), s.skn.capture = some c →
    (∀ unit, s.work = [] → exec (.dumpUnitTimeout unit) s = .next { s with skn := { s.skn with noResp := Tab.set s.skn.noResp unit () } }) ∧
    ((s.build = .leaf ∨ s.boot.hbmReady = true) →
      ∃ t d, exec .dumpCaptureDone s = .next t ∧ t.skn.dump = some d ∧ d.port = c.port ∧ d.auto = c.auto ∧ d.mask = c.mask ∧ d.startFt = c.start ∧
        d.endFt = s.ft ∧ d.pos = 0 ∧ t.fget Reg.SKN_DUMPSTAT_NUM = (s.fget Reg.SKN_DUMPSTAT_NUM + 1) % 256 ∧ t.fget Reg.SKN_DUMPSTAT_PORT = c.port % 2 ∧
        t.flag Reg.SKN_DUMPSTAT_AUTO = c.auto ∧ t.fget Reg.SKN_DUMPSTAT_MASK = c.mask % 65536))

/-! ### Resets and bring-up -/

/-- Resets and bring-up (R678 to R685, R687, R689, R691, R693, R698, R699, R516): at a block reset the outputs fall and the lanes are idle, the state is 0 RESET with its cause, and after a loss of the main supply or a reset pin the log, the held dump, the staging buffer and IMGERR are kept; on a Hub a PCIe reset clears HIF_CTRL and disables every slice; FT counts from the lock of the island clock and stops with it; an image that fails a check completes BAD_FIELD with its code and counts in IMGERR, one that passes goes to application, or resets a block that runs; the application gives the registers the image's values and releases the lanes of enabled ports; and bring-up without a time source ends 10 s after the links. The model's own choices in it: assumptions 53, 54, 55, 56, 57, 58. -/
def Obligations.BlockComesUp : Prop :=
  ∀ (s : State),
    let low := fun (t : State) => t.build = s.build ∧ t.pending = s.pending ∧ .pin .alive false ∈ t.out ∧ .pin .start false ∈ t.out ∧
      (s.build = .leaf → ∀ n, n < 64 → s.fget Reg.SNG_FOUT_FENCED / 2 ^ n % 2 = 1 → .pin (.fence n) false ∈ t.out) ∧
      (∀ e ∈ s.whl.gens, .pin (.slot e.1) false ∈ t.out ∧ .pin (.quiet e.1) false ∈ t.out) ∧
      ∀ p, p < 36 → hasPort s.build p = true → .lanes p true ∈ t.out
    let cleared := fun (t : State) => t.bootStep = 0 ∧ t.running = false ∧ t.stopped = false ∧ t.whl.clock = false ∧ t.crd = [] ∧ t.dst = {} ∧
      t.ply = {} ∧ t.tws = {} ∧ t.str = {} ∧ t.fget Reg.WHL_FT_FT = 0
    let answer := fun (t : State) (r : Running) (st value : Nat) =>
      let x := cplWords r.dseq 1 { opcode := r.opcode, status := st, session := r.d.session.toNat, value, dseq := r.dseq, ct := s.ct, irq := r.d.irq }
      .mgmtResp x.1 x.2 ∈ t.out
    (∃ t, exec .powerOn s = .next t ∧ low t ∧ cleared t ∧ t.fget Reg.SNG_RSTCAUSE_CAUSE = 1 ∧ t.hif = {} ∧ t.skn = {} ∧ t.boot = { rom := s.boot.rom }) ∧
    (∀ c k, (c = .supplyDrop ∧ k = 4) ∨ (c = .resetPin ∧ k = 2) →
      ∃ t, exec c s = .next t ∧ low t ∧ cleared t ∧ t.fget Reg.SNG_RSTCAUSE_CAUSE = k ∧
        t.fget Reg.SNG_RSTCAUSE_IMGERR = s.fget Reg.SNG_RSTCAUSE_IMGERR ∧ t.hif = { staging := s.hif.staging } ∧ t.skn.dump = s.skn.dump ∧
        (s.skn.staged = [] → t.skn.recs = s.skn.recs ∧ t.skn.ovf = s.skn.ovf ∧ t.skn.next = s.skn.next) ∧
        t.boot = { rom := s.boot.rom, hbmReady := s.boot.hbmReady }) ∧
    (s.work = [] → s.build = .leaf → exec .pcieReset s = .next s ∧ exec .hbmReady s = .next s) ∧
    (s.build = .hub →
      (∃ t, exec .pcieReset s = .next t ∧ t.flag Reg.HIF_CTRL_HOST_EN = false ∧
        ∀ n, n < nSlices s.build → t.enabled n = false ∧ (s.enabled n = true → (t.slice n).fetched = [])) ∧
      ∃ t, exec .hbmReady s = .next t ∧ t.boot = { s.boot with hbmReady := true }) ∧
    (∃ t, exec .islandClockStop s = .next t ∧ t.whl.clock = false ∧ t.whl.cyc = s.whl.cyc) ∧
    (s.whl.clock = false → s.bootStep = 0 →
      ∃ t, exec .islandClockLock s = .next t ∧ t.whl.clock = true ∧ t.bootStep = if s.boot.image.isSome then 3 else 1) ∧
    (∀ r, s.boot.verify = some r → r.src = .mgmt →
      (bits (wordAt r.b.data 0) 31 0 ≠ 0x4D495A54 → s.validate r.b.data = .inl (1, 0)) ∧
      ((∀ e ∈ s.boot.rom, e.1 ≠ bits (wordAt r.b.data 2) 15 0) → ∃ c, (c = 1 ∨ c = 2) ∧ s.validate r.b.data = .inl (c, 0)) ∧
      (∀ code i, s.validate r.b.data = .inl (code, i) →
        ∃ t, exec .imageVerifyDone s = .next t ∧ t.boot = { s.boot with verify := none } ∧ answer t r stBAD_FIELD (code * 2 ^ 20 + i) ∧
          t.fget Reg.SNG_RSTCAUSE_IMGERR = (s.fget Reg.SNG_RSTCAUSE_IMGERR + 1) % 65536 ∧ t.bootStep = (if s.bootStep = 2 then 1 else s.bootStep)) ∧
      (∀ img, s.validate r.b.data = .inr img →
        img.imgid = wordAt r.b.data 1 ∧ img.keyid = bits (wordAt r.b.data 2) 15 0 ∧ img.self = BitVec.ofNat 48 (bits (wordAt r.b.data 3) 47 0) ∧
        (s.bootStep = 2 →
          ∃ t, exec .imageVerifyDone s = .next t ∧ t.boot = { s.boot with verify := none, image := some img } ∧ t.bootStep = 3 ∧ answer t r stOK 0) ∧
        (s.bootStep ≠ 2 →
          ∃ t, exec .imageVerifyDone s = .next t ∧ low t ∧ cleared t ∧ t.fget Reg.SNG_RSTCAUSE_CAUSE = 3 ∧ answer t r stOK 0 ∧
            t.boot = { rom := s.boot.rom, image := some img, hbmReady := s.boot.hbmReady }))) ∧
    (∀ img, s.boot.image = some img → s.bootStep = 3 → (s.build = .leaf ∨ s.boot.hbmReady = true) →
      let im := img.fields.foldl addField s.imgRegs
      let w : State := { s with imgRegs := im, regs := s.regs.map fun e => (e.1, imgMerge (Tab.get im (wordOf e.1)) e.2) }
      ∃ t, exec .imageApplyDone s = .next t ∧ t.bootStep = 4 ∧ t.boot = { s.boot with applied := true, linksFt := s.now } ∧ t.imgRegs = im ∧
        t.fget Reg.ID_IMGID_IMGID = img.imgid.toNat ∧ t.fget Reg.ID_SELF_HANK = img.self.toNat ∧ t.fget Reg.ID_KEYID_KEYID = img.keyid % 65536 ∧
        t.flag Reg.ID_STATUS_IMAGE = true ∧ (∀ k, quietWord k = true → 0x1000 ≤ wordOf k → wordOf k ≠ 0x20B8 → t.regGet k = w.regGet k) ∧
        ∀ p, p < 36 → hasPort s.build p = true → w.flag (Reg.STR_PCTRL_EN.at p) = true → .lanes p false ∈ t.out) ∧
    (s.awaitsTime = true → s.boot.linksFt + 40000000000 ≤ s.now →
      ∃ t, exec .bringupTimeout s = .next t ∧ t.running = true ∧ t.bootStep = 5 ∧ t.fget Reg.SKN_BOOT_BOOT = (s.fget Reg.SKN_BOOT_BOOT + 1) % 65536 ∧
        t.fget Reg.LEA_EPOCH_FT = s.ft % 2 ^ 64 ∧ t.snag.aliveNext = s.whl.cyc + 10000 ∧ .pin .alive true ∈ t.out)

/-! ### The debug port -/

/-- The debug port (R673, R701): TZ_DUMPCTL shifts the status of the dump out, 64 bits, and starts a capture, frees the held dump or rewinds it, and a capture that cannot start is refused; TZ_DUMPDATA shifts the next 8 bytes of the dump out, and 0 past its end; IDCODE gives the block's number; CLAMP, HIGHZ and BYPASS select the bypass register, as EXTEST and SAMPLE/PRELOAD do on a Leaf, while on a Hub the pads' cells lie outside the block and nothing changes. The model's own choices in it: assumptions 90, 91. -/
def Obligations.DebugPortShifts : Prop :=
  ∀ (s : State), s.work = [] →
    let status := BitVec.ofNat 64 (b2n s.skn.dump.isSome + 2 * b2n s.skn.capture.isSome + 4 * b2n s.skn.refused
      + 2 ^ 32 * (((s.skn.dump.map (·.bytes.length)).getD 0) % 2 ^ 32))
    let shifted := fun (t : State) (n : Nat) (v : W64) (w : State) => t = { w with out := t.out } ∧ .debug n v ∈ t.out ∧ ∀ e ∈ s.out, e ∈ t.out
    (∀ mask : W16,
      (s.skn.dump = none → s.skn.capture = none →
        ∃ t, exec (.tzDumpctlCapture mask) s = .next t ∧ shifted t 64 status { s with skn := { s.skn with
          capture := some { mask := mask.toNat % 256 / 2 * 2 + 1, port := 1, auto := false, start := s.ft, cmd := none }, noResp := [], refused := false } }) ∧
      (s.skn.dump.isSome = true ∨ s.skn.capture.isSome = true →
        ∃ t, exec (.tzDumpctlCapture mask) s = .next t ∧ shifted t 64 status { s with skn := { s.skn with refused := true } })) ∧
    (s.skn.capture = none →
      ∃ t, exec .tzDumpctlRelease s = .next t ∧ shifted t 64 status { s with skn := { s.skn with dump := none, dbgPos := 0, refused := false } }) ∧
    (∃ t, exec .tzDumpctlRewind s = .next t ∧ shifted t 64 status { s with skn := { s.skn with dbgPos := 0, refused := false } }) ∧
    (∀ d, s.skn.dump = some d → s.skn.dbgPos + 8 ≤ d.bytes.length →
      ∃ t, exec .tzDumpdata s = .next t ∧ shifted t 64 (wordAt (d.bytes.drop s.skn.dbgPos) 0) { s with skn := { s.skn with dbgPos := s.skn.dbgPos + 8 } }) ∧
    (((s.skn.dump.map (·.bytes.length)).getD 0) < s.skn.dbgPos + 8 → ∃ t, exec .tzDumpdata s = .next t ∧ shifted t 64 0 s) ∧
    (Tab.get s.regs Reg.ID_IDCODE_IDCODE.addr = none → Tab.get s.imgRegs Reg.ID_IDCODE_IDCODE.addr = none →
      ∃ t, exec .idcode s = .next t ∧ shifted t 32 (if s.build.isHub then 0x1A6402B7 else 0x1A5102B7) s) ∧
    (∀ code, ∃ t, exec (.bypass code) s = .next t ∧ shifted t 1 0 s) ∧
    (∀ c, c = .clamp ∨ c = .highz → ∃ t, exec c s = .next t ∧ shifted t 1 0 s) ∧
    (∀ c, c = .extest ∨ c = .samplePreload →
      (s.build = .leaf → ∃ t, exec c s = .next t ∧ shifted t 1 0 s) ∧ (s.build = .hub → exec c s = .next s))

/-! ### Steps, runs and reset -/

/-- The step takes the command at the front of the queue and carries it out with the rest of the queue; on an empty queue, with nothing held or waiting, one cycle of the island clock adds the rate to the accumulator whose upper part is FT (R69, R71, R91), and nothing moves while the clock stands. The model's own choices in it: assumption 7. -/
def Obligations.StepRunsFront : Prop :=
  ∀ (s : State),
    (∀ c q, s.pending = c :: q → step s = exec c { s with pending := q }) ∧
    (s.pending = [] → s.hif.mgmtHeld = [] → s.hif.mgmtWait = [] → (∀ e ∈ s.hif.slices, e.2.unbind = none) →
      (s.whl.clock = false → step s = .next s) ∧
      (s.whl.clock = true → s.whl.ftMaxed = false → s.whl.slew = 0 →
        step s = .next { s with whl := { s.whl with acc := min (s.whl.acc + s.fget Reg.WHL_RATE_RATE) (ftMax * 2 ^ 40), cyc := s.whl.cyc + 1 } }))

/-- Commands are carried out one after another, and none stops the block: whatever waits in the queue, each of the next `n` steps ends in a next state, takes one command off the queue while one waits, and leaves the build as it is. The model's own choices in it: assumptions 7, 10. -/
def Obligations.QueuesRunToTheirEnd : Prop :=
  ∀ (s : State) (n : Nat), ∃ t, Runs n s t ∧ t.pending = s.pending.drop n ∧ t.build = s.build

/-- The staging buffer keeps its canonical form (its addresses strictly rising, no byte 0 listed): whatever command a step carries out, and when the queue is empty. The model's own choices in it: assumption 9. -/
def Obligations.StagingStaysCanonical : Prop :=
  ∀ (s t : State), Memory.wf s.hif.staging = true → step s = .next t → Memory.wf t.hif.staging = true

/-- Reset, on both builds: step RESET with the cause POWER_ON, no image, not in RUN; FT 0 and a rate of 4 ticks a cycle; no command waiting, nothing given, no session, no model; every slice disabled and quiesced with rings of 64 entries; the limits and intervals at the reset values of their registers; and a canonical staging buffer that reads 0. The model's own choices in it: assumptions 6, 8, 9. -/
def Obligations.ResetHolds : Prop :=
  ∀ b : Build,
    let s := State.resetOf b
    State.reset = State.resetOf .leaf ∧ s.build = b ∧ s.pending = [] ∧ s.out = [] ∧ s.work = [] ∧ s.crd = [] ∧ s.dst.models = [] ∧
    Memory.wf s.hif.staging = true ∧ (∀ a, stageGet s.hif.staging a = 0) ∧
    s.bootStep = 0 ∧ s.fget Reg.SNG_RSTCAUSE_CAUSE = 1 ∧ s.flag Reg.ID_STATUS_IMAGE = false ∧ s.running = false ∧ s.stopped = false ∧
    s.whl.clock = false ∧ s.ft = 0 ∧ s.fget Reg.WHL_RATE_RATE = 4 * 2 ^ 40 ∧ s.fget Reg.WHL_CTRL_SYNC_IVL = 3 ∧ s.fget Reg.WHL_HOLD_LIMIT = 100 ∧
    s.flag Reg.HIF_CTRL_HOST_EN = false ∧
    (∀ n, n < nSlices b → s.enabled n = false ∧ s.fget (Reg.SLC_STATUS_QUIESCED.at n) = 1 ∧ s.cmdSize n = 64 ∧ s.cplSize n = 64 ∧ s.vrdSize n = 64) ∧
    s.fget Reg.SNG_WDOG_LIM = 1000 ∧ s.fget Reg.SNG_THERM_WARN = 105 ∧ s.fget Reg.SNG_THERM_TRIP = 120 ∧ s.fget Reg.SNG_DEAD_US = 1000 ∧
    s.fget Reg.SNG_SILENT_US = 100 ∧ s.fget Reg.SNG_STALL_US = 100000 ∧ s.fget Reg.TNS_SCALE_S = 4096 ∧ s.fget Reg.TNS_CYCLE_TWC = 700 ∧
    s.fget Reg.DST_GRACE_GRACE = 50 ∧ s.fget Reg.TWS_CLOSE0_NS = 1200 ∧ s.fget Reg.STR_RETURN_MS = 1000 ∧ s.fget Reg.SKN_FRZ_LIM = 1000 ∧
    s.flag Reg.SKN_CTRL_AUTODUMP = true ∧ (b = .leaf → s.fget Reg.REEL_TAGSEED_SEED = 1 ∧ s.fget Reg.STP_HWEIGHT_W_FAIL = 64)

/-! ### Descriptors that fail a check -/

/-- The shared checks of a descriptor, in their order (R198, R201, R205): a command that its port may not give completes AUTH and is counted, whatever the descriptor holds; one that the port may give completes BAD_FIELD if a reserved bit is set or the buffer is not aligned; VALUE is 0 and there is no other effect. The model's own choices in it: assumption 16. -/
def Obligations.BadDescriptorsAreRejected : Prop :=
  ∀ (s : State) (d : Desc) (b : Bus),
    let hostOnly : List ((Src → Desc → Bus → Instr) × Nat) := [(.sessOpen, 0x01), (.sessClose, 0x02), (.sessAdmit, 0x03), (.sessRelease, 0x04), (.sessStart, 0x05),
      (.sessStop, 0x06), (.modelLoad, 0x10), (.modelBind, 0x12), (.jobDeclare, 0x30), (.jobEnd, 0x34), (.trcArm, 0x41), (.ctrSelect, 0x50), (.safePoint, 0x71)]
    let mgmtOnly : List ((Src → Desc → Bus → Instr) × Nat) := [(.snapAuth, 0x2F), (.leapLoad, 0x61), (.siteLoad, 0x62), (.logClear, 0x81), (.imgLoad, 0x83)]
    let slice0 : List ((Src → Desc → Bus → Instr) × Nat) := [(.slcBind, 0x90), (.slcResize, 0x91), (.slcUnbind, 0x92)]
    let both : List ((Src → Desc → Bus → Instr) × Nat) := [(.sessQuery, 0x07), (.modelQuery, 0x13), (.timeRead, 0x60), (.logRead, 0x80), (.slcQuery, 0x93)]
    let auth := fun (t : State) => t.fget Reg.HIF_ERR_AUTH = (s.fget Reg.HIF_ERR_AUTH + 1) % 256
    (∀ p ∈ hostOnly, Takes s .mgmt →
      ∃ t, exec (p.1 .mgmt d b) s = .next t ∧ Ended s t .mgmt p.2 d stAUTH 0 d.session.toNat s ∧ auth t) ∧
    (∀ n, ∀ p ∈ mgmtOnly, Takes s (.slice n) →
      ∃ t, exec (p.1 (.slice n) d b) s = .next t ∧ Ended s t (.slice n) p.2 d stAUTH 0 d.session.toNat s ∧ auth t) ∧
    (∀ n, n ≠ 0 → ∀ p ∈ slice0, Takes s (.slice n) →
      ∃ t, exec (p.1 (.slice n) d b) s = .next t ∧ Ended s t (.slice n) p.2 d stAUTH 0 d.session.toNat s ∧ auth t) ∧
    (∀ src, ∀ p ∈ both, Takes s src → (d.rsv ≠ 0 ∨ (d.len ≠ 0 ∧ d.addr.toNat % 8 ≠ 0)) →
      ∃ t, exec (p.1 src d b) s = .next t ∧ Ended s t src p.2 d stBAD_FIELD 0 d.session.toNat s)

/-! ### Compact stamps -/

/-- R76: FT from a compact stamp against a sync point, whole; the result is a 64-bit FT whose low 40 bits are the stamp. -/
def Obligations.ReconstructsTime : Prop :=
  ∀ ct sp : Nat, ct < 2 ^ 40 → sp < 2 ^ 64 →
    let base : Int := (sp : Int) - 2 ^ 39
    let ft : Int := base + ((ct : Int) - base) % 2 ^ 40
    (reconstruct ct sp : Int) = (if ft < 0 then ft + 2 ^ 40 else if 2 ^ 64 - 1 < ft then ft - 2 ^ 40 else ft) ∧
    (base ≤ ft ∧ ft < (sp : Int) + 2 ^ 39) ∧ reconstruct ct sp < 2 ^ 64 ∧ reconstruct ct sp % 2 ^ 40 = ct
end

