-- ==== Sys2Proof/Laws/State.lean ====
section
/-! SUPPORT. One lemma for each field of State under each shared update: what an update leaves alone, and what it writes. -/

namespace Sys2Proof.Machine

/-! ### State.regSet -/

@[simp] theorem State.regSet_pending (s : State) (k : Nat) (v : W32) : (s.regSet k v).pending = s.pending := (rfl)
@[simp] theorem State.regSet_build (s : State) (k : Nat) (v : W32) : (s.regSet k v).build = s.build := (rfl)
@[simp] theorem State.regSet_regs (s : State) (k : Nat) (v : W32) : (s.regSet k v).regs = Tab.set s.regs k v := (rfl)
@[simp] theorem State.regSet_imgRegs (s : State) (k : Nat) (v : W32) : (s.regSet k v).imgRegs = s.imgRegs := (rfl)
@[simp] theorem State.regSet_staged (s : State) (k : Nat) (v : W32) : (s.regSet k v).staged = s.staged := (rfl)
@[simp] theorem State.regSet_whl (s : State) (k : Nat) (v : W32) : (s.regSet k v).whl = s.whl := (rfl)
@[simp] theorem State.regSet_lea (s : State) (k : Nat) (v : W32) : (s.regSet k v).lea = s.lea := (rfl)
@[simp] theorem State.regSet_str (s : State) (k : Nat) (v : W32) : (s.regSet k v).str = s.str := (rfl)
@[simp] theorem State.regSet_hif (s : State) (k : Nat) (v : W32) : (s.regSet k v).hif = s.hif := (rfl)
@[simp] theorem State.regSet_snag (s : State) (k : Nat) (v : W32) : (s.regSet k v).snag = s.snag := (rfl)
@[simp] theorem State.regSet_skn (s : State) (k : Nat) (v : W32) : (s.regSet k v).skn = s.skn := (rfl)
@[simp] theorem State.regSet_boot (s : State) (k : Nat) (v : W32) : (s.regSet k v).boot = s.boot := (rfl)
@[simp] theorem State.regSet_drf (s : State) (k : Nat) (v : W32) : (s.regSet k v).drf = s.drf := (rfl)
@[simp] theorem State.regSet_trc (s : State) (k : Nat) (v : W32) : (s.regSet k v).trc = s.trc := (rfl)
@[simp] theorem State.regSet_meter (s : State) (k : Nat) (v : W32) : (s.regSet k v).meter = s.meter := (rfl)
@[simp] theorem State.regSet_reel (s : State) (k : Nat) (v : W32) : (s.regSet k v).reel = s.reel := (rfl)
@[simp] theorem State.regSet_crd (s : State) (k : Nat) (v : W32) : (s.regSet k v).crd = s.crd := (rfl)
@[simp] theorem State.regSet_dst (s : State) (k : Nat) (v : W32) : (s.regSet k v).dst = s.dst := (rfl)
@[simp] theorem State.regSet_tws (s : State) (k : Nat) (v : W32) : (s.regSet k v).tws = s.tws := (rfl)
@[simp] theorem State.regSet_ply (s : State) (k : Nat) (v : W32) : (s.regSet k v).ply = s.ply := (rfl)
@[simp] theorem State.regSet_stp (s : State) (k : Nat) (v : W32) : (s.regSet k v).stp = s.stp := (rfl)
@[simp] theorem State.regSet_tns (s : State) (k : Nat) (v : W32) : (s.regSet k v).tns = s.tns := (rfl)
@[simp] theorem State.regSet_fresh (s : State) (k : Nat) (v : W32) : (s.regSet k v).fresh = s.fresh := (rfl)
@[simp] theorem State.regSet_out (s : State) (k : Nat) (v : W32) : (s.regSet k v).out = s.out := (rfl)
@[simp] theorem State.regSet_work (s : State) (k : Nat) (v : W32) : (s.regSet k v).work = s.work := (rfl)

/-! ### State.emit -/

@[simp] theorem State.emit_pending (s : State) (e : Emission) : (s.emit e).pending = s.pending := (rfl)
@[simp] theorem State.emit_build (s : State) (e : Emission) : (s.emit e).build = s.build := (rfl)
@[simp] theorem State.emit_regs (s : State) (e : Emission) : (s.emit e).regs = s.regs := (rfl)
@[simp] theorem State.emit_imgRegs (s : State) (e : Emission) : (s.emit e).imgRegs = s.imgRegs := (rfl)
@[simp] theorem State.emit_staged (s : State) (e : Emission) : (s.emit e).staged = s.staged := (rfl)
@[simp] theorem State.emit_whl (s : State) (e : Emission) : (s.emit e).whl = s.whl := (rfl)
@[simp] theorem State.emit_lea (s : State) (e : Emission) : (s.emit e).lea = s.lea := (rfl)
@[simp] theorem State.emit_str (s : State) (e : Emission) : (s.emit e).str = s.str := (rfl)
@[simp] theorem State.emit_hif (s : State) (e : Emission) : (s.emit e).hif = s.hif := (rfl)
@[simp] theorem State.emit_snag (s : State) (e : Emission) : (s.emit e).snag = s.snag := (rfl)
@[simp] theorem State.emit_skn (s : State) (e : Emission) : (s.emit e).skn = s.skn := (rfl)
@[simp] theorem State.emit_boot (s : State) (e : Emission) : (s.emit e).boot = s.boot := (rfl)
@[simp] theorem State.emit_drf (s : State) (e : Emission) : (s.emit e).drf = s.drf := (rfl)
@[simp] theorem State.emit_trc (s : State) (e : Emission) : (s.emit e).trc = s.trc := (rfl)
@[simp] theorem State.emit_meter (s : State) (e : Emission) : (s.emit e).meter = s.meter := (rfl)
@[simp] theorem State.emit_reel (s : State) (e : Emission) : (s.emit e).reel = s.reel := (rfl)
@[simp] theorem State.emit_crd (s : State) (e : Emission) : (s.emit e).crd = s.crd := (rfl)
@[simp] theorem State.emit_dst (s : State) (e : Emission) : (s.emit e).dst = s.dst := (rfl)
@[simp] theorem State.emit_tws (s : State) (e : Emission) : (s.emit e).tws = s.tws := (rfl)
@[simp] theorem State.emit_ply (s : State) (e : Emission) : (s.emit e).ply = s.ply := (rfl)
@[simp] theorem State.emit_stp (s : State) (e : Emission) : (s.emit e).stp = s.stp := (rfl)
@[simp] theorem State.emit_tns (s : State) (e : Emission) : (s.emit e).tns = s.tns := (rfl)
@[simp] theorem State.emit_fresh (s : State) (e : Emission) : (s.emit e).fresh = s.fresh := (rfl)
@[simp] theorem State.emit_out (s : State) (e : Emission) : (s.emit e).out = e :: s.out := (rfl)
@[simp] theorem State.emit_work (s : State) (e : Emission) : (s.emit e).work = s.work := (rfl)

/-! ### State.raise -/

@[simp] theorem State.raise_pending (s : State) (c l : Nat) (h : Hank) (i : Nat) : (s.raise c l h i).pending = s.pending := (rfl)
@[simp] theorem State.raise_build (s : State) (c l : Nat) (h : Hank) (i : Nat) : (s.raise c l h i).build = s.build := (rfl)
@[simp] theorem State.raise_regs (s : State) (c l : Nat) (h : Hank) (i : Nat) : (s.raise c l h i).regs = s.regs := (rfl)
@[simp] theorem State.raise_imgRegs (s : State) (c l : Nat) (h : Hank) (i : Nat) : (s.raise c l h i).imgRegs = s.imgRegs := (rfl)
@[simp] theorem State.raise_staged (s : State) (c l : Nat) (h : Hank) (i : Nat) : (s.raise c l h i).staged = s.staged := (rfl)
@[simp] theorem State.raise_whl (s : State) (c l : Nat) (h : Hank) (i : Nat) : (s.raise c l h i).whl = s.whl := (rfl)
@[simp] theorem State.raise_lea (s : State) (c l : Nat) (h : Hank) (i : Nat) : (s.raise c l h i).lea = s.lea := (rfl)
@[simp] theorem State.raise_str (s : State) (c l : Nat) (h : Hank) (i : Nat) : (s.raise c l h i).str = s.str := (rfl)
@[simp] theorem State.raise_hif (s : State) (c l : Nat) (h : Hank) (i : Nat) : (s.raise c l h i).hif = s.hif := (rfl)
@[simp] theorem State.raise_snag (s : State) (c l : Nat) (h : Hank) (i : Nat) : (s.raise c l h i).snag = s.snag := (rfl)
@[simp] theorem State.raise_skn (s : State) (c l : Nat) (h : Hank) (i : Nat) : (s.raise c l h i).skn = s.skn := (rfl)
@[simp] theorem State.raise_boot (s : State) (c l : Nat) (h : Hank) (i : Nat) : (s.raise c l h i).boot = s.boot := (rfl)
@[simp] theorem State.raise_drf (s : State) (c l : Nat) (h : Hank) (i : Nat) : (s.raise c l h i).drf = s.drf := (rfl)
@[simp] theorem State.raise_trc (s : State) (c l : Nat) (h : Hank) (i : Nat) : (s.raise c l h i).trc = s.trc := (rfl)
@[simp] theorem State.raise_meter (s : State) (c l : Nat) (h : Hank) (i : Nat) : (s.raise c l h i).meter = s.meter := (rfl)
@[simp] theorem State.raise_reel (s : State) (c l : Nat) (h : Hank) (i : Nat) : (s.raise c l h i).reel = s.reel := (rfl)
@[simp] theorem State.raise_crd (s : State) (c l : Nat) (h : Hank) (i : Nat) : (s.raise c l h i).crd = s.crd := (rfl)
@[simp] theorem State.raise_dst (s : State) (c l : Nat) (h : Hank) (i : Nat) : (s.raise c l h i).dst = s.dst := (rfl)
@[simp] theorem State.raise_tws (s : State) (c l : Nat) (h : Hank) (i : Nat) : (s.raise c l h i).tws = s.tws := (rfl)
@[simp] theorem State.raise_ply (s : State) (c l : Nat) (h : Hank) (i : Nat) : (s.raise c l h i).ply = s.ply := (rfl)
@[simp] theorem State.raise_stp (s : State) (c l : Nat) (h : Hank) (i : Nat) : (s.raise c l h i).stp = s.stp := (rfl)
@[simp] theorem State.raise_tns (s : State) (c l : Nat) (h : Hank) (i : Nat) : (s.raise c l h i).tns = s.tns := (rfl)
@[simp] theorem State.raise_fresh (s : State) (c l : Nat) (h : Hank) (i : Nat) : (s.raise c l h i).fresh = s.fresh := (rfl)
@[simp] theorem State.raise_out (s : State) (c l : Nat) (h : Hank) (i : Nat) : (s.raise c l h i).out = s.out := (rfl)
@[simp] theorem State.raise_work (s : State) (c l : Nat) (h : Hank) (i : Nat) : (s.raise c l h i).work = s.work ++ [.fault c l h (BitVec.ofNat 64 i)] := (rfl)

/-! ### State.askFence -/

@[simp] theorem State.askFence_pending (s : State) (a c t : Nat) : (s.askFence a c t).pending = s.pending := (rfl)
@[simp] theorem State.askFence_build (s : State) (a c t : Nat) : (s.askFence a c t).build = s.build := (rfl)
@[simp] theorem State.askFence_regs (s : State) (a c t : Nat) : (s.askFence a c t).regs = s.regs := (rfl)
@[simp] theorem State.askFence_imgRegs (s : State) (a c t : Nat) : (s.askFence a c t).imgRegs = s.imgRegs := (rfl)
@[simp] theorem State.askFence_staged (s : State) (a c t : Nat) : (s.askFence a c t).staged = s.staged := (rfl)
@[simp] theorem State.askFence_whl (s : State) (a c t : Nat) : (s.askFence a c t).whl = s.whl := (rfl)
@[simp] theorem State.askFence_lea (s : State) (a c t : Nat) : (s.askFence a c t).lea = s.lea := (rfl)
@[simp] theorem State.askFence_str (s : State) (a c t : Nat) : (s.askFence a c t).str = s.str := (rfl)
@[simp] theorem State.askFence_hif (s : State) (a c t : Nat) : (s.askFence a c t).hif = s.hif := (rfl)
@[simp] theorem State.askFence_snag (s : State) (a c t : Nat) : (s.askFence a c t).snag = s.snag := (rfl)
@[simp] theorem State.askFence_skn (s : State) (a c t : Nat) : (s.askFence a c t).skn = s.skn := (rfl)
@[simp] theorem State.askFence_boot (s : State) (a c t : Nat) : (s.askFence a c t).boot = s.boot := (rfl)
@[simp] theorem State.askFence_drf (s : State) (a c t : Nat) : (s.askFence a c t).drf = s.drf := (rfl)
@[simp] theorem State.askFence_trc (s : State) (a c t : Nat) : (s.askFence a c t).trc = s.trc := (rfl)
@[simp] theorem State.askFence_meter (s : State) (a c t : Nat) : (s.askFence a c t).meter = s.meter := (rfl)
@[simp] theorem State.askFence_reel (s : State) (a c t : Nat) : (s.askFence a c t).reel = s.reel := (rfl)
@[simp] theorem State.askFence_crd (s : State) (a c t : Nat) : (s.askFence a c t).crd = s.crd := (rfl)
@[simp] theorem State.askFence_dst (s : State) (a c t : Nat) : (s.askFence a c t).dst = s.dst := (rfl)
@[simp] theorem State.askFence_tws (s : State) (a c t : Nat) : (s.askFence a c t).tws = s.tws := (rfl)
@[simp] theorem State.askFence_ply (s : State) (a c t : Nat) : (s.askFence a c t).ply = s.ply := (rfl)
@[simp] theorem State.askFence_stp (s : State) (a c t : Nat) : (s.askFence a c t).stp = s.stp := (rfl)
@[simp] theorem State.askFence_tns (s : State) (a c t : Nat) : (s.askFence a c t).tns = s.tns := (rfl)
@[simp] theorem State.askFence_fresh (s : State) (a c t : Nat) : (s.askFence a c t).fresh = s.fresh := (rfl)
@[simp] theorem State.askFence_out (s : State) (a c t : Nat) : (s.askFence a c t).out = s.out := (rfl)
@[simp] theorem State.askFence_work (s : State) (a c t : Nat) : (s.askFence a c t).work = s.work ++ [.fence a c t] := (rfl)

/-! ### State.askTrig -/

@[simp] theorem State.askTrig_pending (s : State) (c a t : Nat) : (s.askTrig c a t).pending = s.pending := (rfl)
@[simp] theorem State.askTrig_build (s : State) (c a t : Nat) : (s.askTrig c a t).build = s.build := (rfl)
@[simp] theorem State.askTrig_regs (s : State) (c a t : Nat) : (s.askTrig c a t).regs = s.regs := (rfl)
@[simp] theorem State.askTrig_imgRegs (s : State) (c a t : Nat) : (s.askTrig c a t).imgRegs = s.imgRegs := (rfl)
@[simp] theorem State.askTrig_staged (s : State) (c a t : Nat) : (s.askTrig c a t).staged = s.staged := (rfl)
@[simp] theorem State.askTrig_whl (s : State) (c a t : Nat) : (s.askTrig c a t).whl = s.whl := (rfl)
@[simp] theorem State.askTrig_lea (s : State) (c a t : Nat) : (s.askTrig c a t).lea = s.lea := (rfl)
@[simp] theorem State.askTrig_str (s : State) (c a t : Nat) : (s.askTrig c a t).str = s.str := (rfl)
@[simp] theorem State.askTrig_hif (s : State) (c a t : Nat) : (s.askTrig c a t).hif = s.hif := (rfl)
@[simp] theorem State.askTrig_snag (s : State) (c a t : Nat) : (s.askTrig c a t).snag = s.snag := (rfl)
@[simp] theorem State.askTrig_skn (s : State) (c a t : Nat) : (s.askTrig c a t).skn = s.skn := (rfl)
@[simp] theorem State.askTrig_boot (s : State) (c a t : Nat) : (s.askTrig c a t).boot = s.boot := (rfl)
@[simp] theorem State.askTrig_drf (s : State) (c a t : Nat) : (s.askTrig c a t).drf = s.drf := (rfl)
@[simp] theorem State.askTrig_trc (s : State) (c a t : Nat) : (s.askTrig c a t).trc = s.trc := (rfl)
@[simp] theorem State.askTrig_meter (s : State) (c a t : Nat) : (s.askTrig c a t).meter = s.meter := (rfl)
@[simp] theorem State.askTrig_reel (s : State) (c a t : Nat) : (s.askTrig c a t).reel = s.reel := (rfl)
@[simp] theorem State.askTrig_crd (s : State) (c a t : Nat) : (s.askTrig c a t).crd = s.crd := (rfl)
@[simp] theorem State.askTrig_dst (s : State) (c a t : Nat) : (s.askTrig c a t).dst = s.dst := (rfl)
@[simp] theorem State.askTrig_tws (s : State) (c a t : Nat) : (s.askTrig c a t).tws = s.tws := (rfl)
@[simp] theorem State.askTrig_ply (s : State) (c a t : Nat) : (s.askTrig c a t).ply = s.ply := (rfl)
@[simp] theorem State.askTrig_stp (s : State) (c a t : Nat) : (s.askTrig c a t).stp = s.stp := (rfl)
@[simp] theorem State.askTrig_tns (s : State) (c a t : Nat) : (s.askTrig c a t).tns = s.tns := (rfl)
@[simp] theorem State.askTrig_fresh (s : State) (c a t : Nat) : (s.askTrig c a t).fresh = s.fresh := (rfl)
@[simp] theorem State.askTrig_out (s : State) (c a t : Nat) : (s.askTrig c a t).out = s.out := (rfl)
@[simp] theorem State.askTrig_work (s : State) (c a t : Nat) : (s.askTrig c a t).work = s.work ++ [.trig c a t] := (rfl)

/-! ### State.setPort -/

@[simp] theorem State.setPort_pending (s : State) (p : Nat) (x : Port) : (s.setPort p x).pending = s.pending := (rfl)
@[simp] theorem State.setPort_build (s : State) (p : Nat) (x : Port) : (s.setPort p x).build = s.build := (rfl)
@[simp] theorem State.setPort_regs (s : State) (p : Nat) (x : Port) : (s.setPort p x).regs = s.regs := (rfl)
@[simp] theorem State.setPort_imgRegs (s : State) (p : Nat) (x : Port) : (s.setPort p x).imgRegs = s.imgRegs := (rfl)
@[simp] theorem State.setPort_staged (s : State) (p : Nat) (x : Port) : (s.setPort p x).staged = s.staged := (rfl)
@[simp] theorem State.setPort_whl (s : State) (p : Nat) (x : Port) : (s.setPort p x).whl = s.whl := (rfl)
@[simp] theorem State.setPort_lea (s : State) (p : Nat) (x : Port) : (s.setPort p x).lea = s.lea := (rfl)
@[simp] theorem State.setPort_str (s : State) (p : Nat) (x : Port) : (s.setPort p x).str = { s.str with ports := Tab.set s.str.ports p x } := (rfl)
@[simp] theorem State.setPort_hif (s : State) (p : Nat) (x : Port) : (s.setPort p x).hif = s.hif := (rfl)
@[simp] theorem State.setPort_snag (s : State) (p : Nat) (x : Port) : (s.setPort p x).snag = s.snag := (rfl)
@[simp] theorem State.setPort_skn (s : State) (p : Nat) (x : Port) : (s.setPort p x).skn = s.skn := (rfl)
@[simp] theorem State.setPort_boot (s : State) (p : Nat) (x : Port) : (s.setPort p x).boot = s.boot := (rfl)
@[simp] theorem State.setPort_drf (s : State) (p : Nat) (x : Port) : (s.setPort p x).drf = s.drf := (rfl)
@[simp] theorem State.setPort_trc (s : State) (p : Nat) (x : Port) : (s.setPort p x).trc = s.trc := (rfl)
@[simp] theorem State.setPort_meter (s : State) (p : Nat) (x : Port) : (s.setPort p x).meter = s.meter := (rfl)
@[simp] theorem State.setPort_reel (s : State) (p : Nat) (x : Port) : (s.setPort p x).reel = s.reel := (rfl)
@[simp] theorem State.setPort_crd (s : State) (p : Nat) (x : Port) : (s.setPort p x).crd = s.crd := (rfl)
@[simp] theorem State.setPort_dst (s : State) (p : Nat) (x : Port) : (s.setPort p x).dst = s.dst := (rfl)
@[simp] theorem State.setPort_tws (s : State) (p : Nat) (x : Port) : (s.setPort p x).tws = s.tws := (rfl)
@[simp] theorem State.setPort_ply (s : State) (p : Nat) (x : Port) : (s.setPort p x).ply = s.ply := (rfl)
@[simp] theorem State.setPort_stp (s : State) (p : Nat) (x : Port) : (s.setPort p x).stp = s.stp := (rfl)
@[simp] theorem State.setPort_tns (s : State) (p : Nat) (x : Port) : (s.setPort p x).tns = s.tns := (rfl)
@[simp] theorem State.setPort_fresh (s : State) (p : Nat) (x : Port) : (s.setPort p x).fresh = s.fresh := (rfl)
@[simp] theorem State.setPort_out (s : State) (p : Nat) (x : Port) : (s.setPort p x).out = s.out := (rfl)
@[simp] theorem State.setPort_work (s : State) (p : Nat) (x : Port) : (s.setPort p x).work = s.work := (rfl)

/-! ### State.setTrSrc -/

@[simp] theorem State.setTrSrc_pending (s : State) (i : Nat) (x : TrSrc) : (s.setTrSrc i x).pending = s.pending := (rfl)
@[simp] theorem State.setTrSrc_build (s : State) (i : Nat) (x : TrSrc) : (s.setTrSrc i x).build = s.build := (rfl)
@[simp] theorem State.setTrSrc_regs (s : State) (i : Nat) (x : TrSrc) : (s.setTrSrc i x).regs = s.regs := (rfl)
@[simp] theorem State.setTrSrc_imgRegs (s : State) (i : Nat) (x : TrSrc) : (s.setTrSrc i x).imgRegs = s.imgRegs := (rfl)
@[simp] theorem State.setTrSrc_staged (s : State) (i : Nat) (x : TrSrc) : (s.setTrSrc i x).staged = s.staged := (rfl)
@[simp] theorem State.setTrSrc_whl (s : State) (i : Nat) (x : TrSrc) : (s.setTrSrc i x).whl = s.whl := (rfl)
@[simp] theorem State.setTrSrc_lea (s : State) (i : Nat) (x : TrSrc) : (s.setTrSrc i x).lea = s.lea := (rfl)
@[simp] theorem State.setTrSrc_str (s : State) (i : Nat) (x : TrSrc) : (s.setTrSrc i x).str = s.str := (rfl)
@[simp] theorem State.setTrSrc_hif (s : State) (i : Nat) (x : TrSrc) : (s.setTrSrc i x).hif = s.hif := (rfl)
@[simp] theorem State.setTrSrc_snag (s : State) (i : Nat) (x : TrSrc) : (s.setTrSrc i x).snag = s.snag := (rfl)
@[simp] theorem State.setTrSrc_skn (s : State) (i : Nat) (x : TrSrc) : (s.setTrSrc i x).skn = s.skn := (rfl)
@[simp] theorem State.setTrSrc_boot (s : State) (i : Nat) (x : TrSrc) : (s.setTrSrc i x).boot = s.boot := (rfl)
@[simp] theorem State.setTrSrc_drf (s : State) (i : Nat) (x : TrSrc) : (s.setTrSrc i x).drf = s.drf := (rfl)
@[simp] theorem State.setTrSrc_trc (s : State) (i : Nat) (x : TrSrc) : (s.setTrSrc i x).trc = { s.trc with srcs := Tab.set s.trc.srcs i x } := (rfl)
@[simp] theorem State.setTrSrc_meter (s : State) (i : Nat) (x : TrSrc) : (s.setTrSrc i x).meter = s.meter := (rfl)
@[simp] theorem State.setTrSrc_reel (s : State) (i : Nat) (x : TrSrc) : (s.setTrSrc i x).reel = s.reel := (rfl)
@[simp] theorem State.setTrSrc_crd (s : State) (i : Nat) (x : TrSrc) : (s.setTrSrc i x).crd = s.crd := (rfl)
@[simp] theorem State.setTrSrc_dst (s : State) (i : Nat) (x : TrSrc) : (s.setTrSrc i x).dst = s.dst := (rfl)
@[simp] theorem State.setTrSrc_tws (s : State) (i : Nat) (x : TrSrc) : (s.setTrSrc i x).tws = s.tws := (rfl)
@[simp] theorem State.setTrSrc_ply (s : State) (i : Nat) (x : TrSrc) : (s.setTrSrc i x).ply = s.ply := (rfl)
@[simp] theorem State.setTrSrc_stp (s : State) (i : Nat) (x : TrSrc) : (s.setTrSrc i x).stp = s.stp := (rfl)
@[simp] theorem State.setTrSrc_tns (s : State) (i : Nat) (x : TrSrc) : (s.setTrSrc i x).tns = s.tns := (rfl)
@[simp] theorem State.setTrSrc_fresh (s : State) (i : Nat) (x : TrSrc) : (s.setTrSrc i x).fresh = s.fresh := (rfl)
@[simp] theorem State.setTrSrc_out (s : State) (i : Nat) (x : TrSrc) : (s.setTrSrc i x).out = s.out := (rfl)
@[simp] theorem State.setTrSrc_work (s : State) (i : Nat) (x : TrSrc) : (s.setTrSrc i x).work = s.work := (rfl)

/-! ### State.setStaging -/

@[simp] theorem State.setStaging_pending (s : State) (m : List Host.Cell) : (s.setStaging m).pending = s.pending := (rfl)
@[simp] theorem State.setStaging_build (s : State) (m : List Host.Cell) : (s.setStaging m).build = s.build := (rfl)
@[simp] theorem State.setStaging_regs (s : State) (m : List Host.Cell) : (s.setStaging m).regs = s.regs := (rfl)
@[simp] theorem State.setStaging_imgRegs (s : State) (m : List Host.Cell) : (s.setStaging m).imgRegs = s.imgRegs := (rfl)
@[simp] theorem State.setStaging_staged (s : State) (m : List Host.Cell) : (s.setStaging m).staged = s.staged := (rfl)
@[simp] theorem State.setStaging_whl (s : State) (m : List Host.Cell) : (s.setStaging m).whl = s.whl := (rfl)
@[simp] theorem State.setStaging_lea (s : State) (m : List Host.Cell) : (s.setStaging m).lea = s.lea := (rfl)
@[simp] theorem State.setStaging_str (s : State) (m : List Host.Cell) : (s.setStaging m).str = s.str := (rfl)
@[simp] theorem State.setStaging_hif (s : State) (m : List Host.Cell) : (s.setStaging m).hif = { s.hif with staging := m } := (rfl)
@[simp] theorem State.setStaging_snag (s : State) (m : List Host.Cell) : (s.setStaging m).snag = s.snag := (rfl)
@[simp] theorem State.setStaging_skn (s : State) (m : List Host.Cell) : (s.setStaging m).skn = s.skn := (rfl)
@[simp] theorem State.setStaging_boot (s : State) (m : List Host.Cell) : (s.setStaging m).boot = s.boot := (rfl)
@[simp] theorem State.setStaging_drf (s : State) (m : List Host.Cell) : (s.setStaging m).drf = s.drf := (rfl)
@[simp] theorem State.setStaging_trc (s : State) (m : List Host.Cell) : (s.setStaging m).trc = s.trc := (rfl)
@[simp] theorem State.setStaging_meter (s : State) (m : List Host.Cell) : (s.setStaging m).meter = s.meter := (rfl)
@[simp] theorem State.setStaging_reel (s : State) (m : List Host.Cell) : (s.setStaging m).reel = s.reel := (rfl)
@[simp] theorem State.setStaging_crd (s : State) (m : List Host.Cell) : (s.setStaging m).crd = s.crd := (rfl)
@[simp] theorem State.setStaging_dst (s : State) (m : List Host.Cell) : (s.setStaging m).dst = s.dst := (rfl)
@[simp] theorem State.setStaging_tws (s : State) (m : List Host.Cell) : (s.setStaging m).tws = s.tws := (rfl)
@[simp] theorem State.setStaging_ply (s : State) (m : List Host.Cell) : (s.setStaging m).ply = s.ply := (rfl)
@[simp] theorem State.setStaging_stp (s : State) (m : List Host.Cell) : (s.setStaging m).stp = s.stp := (rfl)
@[simp] theorem State.setStaging_tns (s : State) (m : List Host.Cell) : (s.setStaging m).tns = s.tns := (rfl)
@[simp] theorem State.setStaging_fresh (s : State) (m : List Host.Cell) : (s.setStaging m).fresh = s.fresh := (rfl)
@[simp] theorem State.setStaging_out (s : State) (m : List Host.Cell) : (s.setStaging m).out = s.out := (rfl)
@[simp] theorem State.setStaging_work (s : State) (m : List Host.Cell) : (s.setStaging m).work = s.work := (rfl)

/-! ### State.setSlice -/

@[simp] theorem State.setSlice_pending (s : State) (n : Nat) (x : Slice) : (s.setSlice n x).pending = s.pending := (rfl)
@[simp] theorem State.setSlice_build (s : State) (n : Nat) (x : Slice) : (s.setSlice n x).build = s.build := (rfl)
@[simp] theorem State.setSlice_regs (s : State) (n : Nat) (x : Slice) : (s.setSlice n x).regs = s.regs := (rfl)
@[simp] theorem State.setSlice_imgRegs (s : State) (n : Nat) (x : Slice) : (s.setSlice n x).imgRegs = s.imgRegs := (rfl)
@[simp] theorem State.setSlice_staged (s : State) (n : Nat) (x : Slice) : (s.setSlice n x).staged = s.staged := (rfl)
@[simp] theorem State.setSlice_whl (s : State) (n : Nat) (x : Slice) : (s.setSlice n x).whl = s.whl := (rfl)
@[simp] theorem State.setSlice_lea (s : State) (n : Nat) (x : Slice) : (s.setSlice n x).lea = s.lea := (rfl)
@[simp] theorem State.setSlice_str (s : State) (n : Nat) (x : Slice) : (s.setSlice n x).str = s.str := (rfl)
@[simp] theorem State.setSlice_hif (s : State) (n : Nat) (x : Slice) : (s.setSlice n x).hif = { s.hif with slices := Tab.set s.hif.slices n x } := (rfl)
@[simp] theorem State.setSlice_snag (s : State) (n : Nat) (x : Slice) : (s.setSlice n x).snag = s.snag := (rfl)
@[simp] theorem State.setSlice_skn (s : State) (n : Nat) (x : Slice) : (s.setSlice n x).skn = s.skn := (rfl)
@[simp] theorem State.setSlice_boot (s : State) (n : Nat) (x : Slice) : (s.setSlice n x).boot = s.boot := (rfl)
@[simp] theorem State.setSlice_drf (s : State) (n : Nat) (x : Slice) : (s.setSlice n x).drf = s.drf := (rfl)
@[simp] theorem State.setSlice_trc (s : State) (n : Nat) (x : Slice) : (s.setSlice n x).trc = s.trc := (rfl)
@[simp] theorem State.setSlice_meter (s : State) (n : Nat) (x : Slice) : (s.setSlice n x).meter = s.meter := (rfl)
@[simp] theorem State.setSlice_reel (s : State) (n : Nat) (x : Slice) : (s.setSlice n x).reel = s.reel := (rfl)
@[simp] theorem State.setSlice_crd (s : State) (n : Nat) (x : Slice) : (s.setSlice n x).crd = s.crd := (rfl)
@[simp] theorem State.setSlice_dst (s : State) (n : Nat) (x : Slice) : (s.setSlice n x).dst = s.dst := (rfl)
@[simp] theorem State.setSlice_tws (s : State) (n : Nat) (x : Slice) : (s.setSlice n x).tws = s.tws := (rfl)
@[simp] theorem State.setSlice_ply (s : State) (n : Nat) (x : Slice) : (s.setSlice n x).ply = s.ply := (rfl)
@[simp] theorem State.setSlice_stp (s : State) (n : Nat) (x : Slice) : (s.setSlice n x).stp = s.stp := (rfl)
@[simp] theorem State.setSlice_tns (s : State) (n : Nat) (x : Slice) : (s.setSlice n x).tns = s.tns := (rfl)
@[simp] theorem State.setSlice_fresh (s : State) (n : Nat) (x : Slice) : (s.setSlice n x).fresh = s.fresh := (rfl)
@[simp] theorem State.setSlice_out (s : State) (n : Nat) (x : Slice) : (s.setSlice n x).out = s.out := (rfl)
@[simp] theorem State.setSlice_work (s : State) (n : Nat) (x : Slice) : (s.setSlice n x).work = s.work := (rfl)

/-! ### State.setSess -/

@[simp] theorem State.setSess_pending (s : State) (n : Nat) (x : Sess) : (s.setSess n x).pending = s.pending := (rfl)
@[simp] theorem State.setSess_build (s : State) (n : Nat) (x : Sess) : (s.setSess n x).build = s.build := (rfl)
@[simp] theorem State.setSess_regs (s : State) (n : Nat) (x : Sess) : (s.setSess n x).regs = s.regs := (rfl)
@[simp] theorem State.setSess_imgRegs (s : State) (n : Nat) (x : Sess) : (s.setSess n x).imgRegs = s.imgRegs := (rfl)
@[simp] theorem State.setSess_staged (s : State) (n : Nat) (x : Sess) : (s.setSess n x).staged = s.staged := (rfl)
@[simp] theorem State.setSess_whl (s : State) (n : Nat) (x : Sess) : (s.setSess n x).whl = s.whl := (rfl)
@[simp] theorem State.setSess_lea (s : State) (n : Nat) (x : Sess) : (s.setSess n x).lea = s.lea := (rfl)
@[simp] theorem State.setSess_str (s : State) (n : Nat) (x : Sess) : (s.setSess n x).str = s.str := (rfl)
@[simp] theorem State.setSess_hif (s : State) (n : Nat) (x : Sess) : (s.setSess n x).hif = s.hif := (rfl)
@[simp] theorem State.setSess_snag (s : State) (n : Nat) (x : Sess) : (s.setSess n x).snag = s.snag := (rfl)
@[simp] theorem State.setSess_skn (s : State) (n : Nat) (x : Sess) : (s.setSess n x).skn = s.skn := (rfl)
@[simp] theorem State.setSess_boot (s : State) (n : Nat) (x : Sess) : (s.setSess n x).boot = s.boot := (rfl)
@[simp] theorem State.setSess_drf (s : State) (n : Nat) (x : Sess) : (s.setSess n x).drf = s.drf := (rfl)
@[simp] theorem State.setSess_trc (s : State) (n : Nat) (x : Sess) : (s.setSess n x).trc = s.trc := (rfl)
@[simp] theorem State.setSess_meter (s : State) (n : Nat) (x : Sess) : (s.setSess n x).meter = s.meter := (rfl)
@[simp] theorem State.setSess_reel (s : State) (n : Nat) (x : Sess) : (s.setSess n x).reel = s.reel := (rfl)
@[simp] theorem State.setSess_crd (s : State) (n : Nat) (x : Sess) : (s.setSess n x).crd = Tab.set s.crd n x := (rfl)
@[simp] theorem State.setSess_dst (s : State) (n : Nat) (x : Sess) : (s.setSess n x).dst = s.dst := (rfl)
@[simp] theorem State.setSess_tws (s : State) (n : Nat) (x : Sess) : (s.setSess n x).tws = s.tws := (rfl)
@[simp] theorem State.setSess_ply (s : State) (n : Nat) (x : Sess) : (s.setSess n x).ply = s.ply := (rfl)
@[simp] theorem State.setSess_stp (s : State) (n : Nat) (x : Sess) : (s.setSess n x).stp = s.stp := (rfl)
@[simp] theorem State.setSess_tns (s : State) (n : Nat) (x : Sess) : (s.setSess n x).tns = s.tns := (rfl)
@[simp] theorem State.setSess_fresh (s : State) (n : Nat) (x : Sess) : (s.setSess n x).fresh = s.fresh := (rfl)
@[simp] theorem State.setSess_out (s : State) (n : Nat) (x : Sess) : (s.setSess n x).out = s.out := (rfl)
@[simp] theorem State.setSess_work (s : State) (n : Nat) (x : Sess) : (s.setSess n x).work = s.work := (rfl)

/-! ### State.setModel -/

@[simp] theorem State.setModel_pending (s : State) (n : Nat) (x : Model) : (s.setModel n x).pending = s.pending := (rfl)
@[simp] theorem State.setModel_build (s : State) (n : Nat) (x : Model) : (s.setModel n x).build = s.build := (rfl)
@[simp] theorem State.setModel_regs (s : State) (n : Nat) (x : Model) : (s.setModel n x).regs = s.regs := (rfl)
@[simp] theorem State.setModel_imgRegs (s : State) (n : Nat) (x : Model) : (s.setModel n x).imgRegs = s.imgRegs := (rfl)
@[simp] theorem State.setModel_staged (s : State) (n : Nat) (x : Model) : (s.setModel n x).staged = s.staged := (rfl)
@[simp] theorem State.setModel_whl (s : State) (n : Nat) (x : Model) : (s.setModel n x).whl = s.whl := (rfl)
@[simp] theorem State.setModel_lea (s : State) (n : Nat) (x : Model) : (s.setModel n x).lea = s.lea := (rfl)
@[simp] theorem State.setModel_str (s : State) (n : Nat) (x : Model) : (s.setModel n x).str = s.str := (rfl)
@[simp] theorem State.setModel_hif (s : State) (n : Nat) (x : Model) : (s.setModel n x).hif = s.hif := (rfl)
@[simp] theorem State.setModel_snag (s : State) (n : Nat) (x : Model) : (s.setModel n x).snag = s.snag := (rfl)
@[simp] theorem State.setModel_skn (s : State) (n : Nat) (x : Model) : (s.setModel n x).skn = s.skn := (rfl)
@[simp] theorem State.setModel_boot (s : State) (n : Nat) (x : Model) : (s.setModel n x).boot = s.boot := (rfl)
@[simp] theorem State.setModel_drf (s : State) (n : Nat) (x : Model) : (s.setModel n x).drf = s.drf := (rfl)
@[simp] theorem State.setModel_trc (s : State) (n : Nat) (x : Model) : (s.setModel n x).trc = s.trc := (rfl)
@[simp] theorem State.setModel_meter (s : State) (n : Nat) (x : Model) : (s.setModel n x).meter = s.meter := (rfl)
@[simp] theorem State.setModel_reel (s : State) (n : Nat) (x : Model) : (s.setModel n x).reel = s.reel := (rfl)
@[simp] theorem State.setModel_crd (s : State) (n : Nat) (x : Model) : (s.setModel n x).crd = s.crd := (rfl)
@[simp] theorem State.setModel_dst (s : State) (n : Nat) (x : Model) : (s.setModel n x).dst = { s.dst with models := Tab.set s.dst.models n x } := (rfl)
@[simp] theorem State.setModel_tws (s : State) (n : Nat) (x : Model) : (s.setModel n x).tws = s.tws := (rfl)
@[simp] theorem State.setModel_ply (s : State) (n : Nat) (x : Model) : (s.setModel n x).ply = s.ply := (rfl)
@[simp] theorem State.setModel_stp (s : State) (n : Nat) (x : Model) : (s.setModel n x).stp = s.stp := (rfl)
@[simp] theorem State.setModel_tns (s : State) (n : Nat) (x : Model) : (s.setModel n x).tns = s.tns := (rfl)
@[simp] theorem State.setModel_fresh (s : State) (n : Nat) (x : Model) : (s.setModel n x).fresh = s.fresh := (rfl)
@[simp] theorem State.setModel_out (s : State) (n : Nat) (x : Model) : (s.setModel n x).out = s.out := (rfl)
@[simp] theorem State.setModel_work (s : State) (n : Nat) (x : Model) : (s.setModel n x).work = s.work := (rfl)

/-! ### State.setGen -/

@[simp] theorem State.setGen_pending (s : State) (n : Nat) (x : Gen) : (s.setGen n x).pending = s.pending := (rfl)
@[simp] theorem State.setGen_build (s : State) (n : Nat) (x : Gen) : (s.setGen n x).build = s.build := (rfl)
@[simp] theorem State.setGen_regs (s : State) (n : Nat) (x : Gen) : (s.setGen n x).regs = s.regs := (rfl)
@[simp] theorem State.setGen_imgRegs (s : State) (n : Nat) (x : Gen) : (s.setGen n x).imgRegs = s.imgRegs := (rfl)
@[simp] theorem State.setGen_staged (s : State) (n : Nat) (x : Gen) : (s.setGen n x).staged = s.staged := (rfl)
@[simp] theorem State.setGen_whl (s : State) (n : Nat) (x : Gen) : (s.setGen n x).whl = { s.whl with gens := Tab.set s.whl.gens n x } := (rfl)
@[simp] theorem State.setGen_lea (s : State) (n : Nat) (x : Gen) : (s.setGen n x).lea = s.lea := (rfl)
@[simp] theorem State.setGen_str (s : State) (n : Nat) (x : Gen) : (s.setGen n x).str = s.str := (rfl)
@[simp] theorem State.setGen_hif (s : State) (n : Nat) (x : Gen) : (s.setGen n x).hif = s.hif := (rfl)
@[simp] theorem State.setGen_snag (s : State) (n : Nat) (x : Gen) : (s.setGen n x).snag = s.snag := (rfl)
@[simp] theorem State.setGen_skn (s : State) (n : Nat) (x : Gen) : (s.setGen n x).skn = s.skn := (rfl)
@[simp] theorem State.setGen_boot (s : State) (n : Nat) (x : Gen) : (s.setGen n x).boot = s.boot := (rfl)
@[simp] theorem State.setGen_drf (s : State) (n : Nat) (x : Gen) : (s.setGen n x).drf = s.drf := (rfl)
@[simp] theorem State.setGen_trc (s : State) (n : Nat) (x : Gen) : (s.setGen n x).trc = s.trc := (rfl)
@[simp] theorem State.setGen_meter (s : State) (n : Nat) (x : Gen) : (s.setGen n x).meter = s.meter := (rfl)
@[simp] theorem State.setGen_reel (s : State) (n : Nat) (x : Gen) : (s.setGen n x).reel = s.reel := (rfl)
@[simp] theorem State.setGen_crd (s : State) (n : Nat) (x : Gen) : (s.setGen n x).crd = s.crd := (rfl)
@[simp] theorem State.setGen_dst (s : State) (n : Nat) (x : Gen) : (s.setGen n x).dst = s.dst := (rfl)
@[simp] theorem State.setGen_tws (s : State) (n : Nat) (x : Gen) : (s.setGen n x).tws = s.tws := (rfl)
@[simp] theorem State.setGen_ply (s : State) (n : Nat) (x : Gen) : (s.setGen n x).ply = s.ply := (rfl)
@[simp] theorem State.setGen_stp (s : State) (n : Nat) (x : Gen) : (s.setGen n x).stp = s.stp := (rfl)
@[simp] theorem State.setGen_tns (s : State) (n : Nat) (x : Gen) : (s.setGen n x).tns = s.tns := (rfl)
@[simp] theorem State.setGen_fresh (s : State) (n : Nat) (x : Gen) : (s.setGen n x).fresh = s.fresh := (rfl)
@[simp] theorem State.setGen_out (s : State) (n : Nat) (x : Gen) : (s.setGen n x).out = s.out := (rfl)
@[simp] theorem State.setGen_work (s : State) (n : Nat) (x : Gen) : (s.setGen n x).work = s.work := (rfl)

/-! ### State.setRset -/

@[simp] theorem State.setRset_pending (s : State) (n : Nat) (x : RSet) : (s.setRset n x).pending = s.pending := (rfl)
@[simp] theorem State.setRset_build (s : State) (n : Nat) (x : RSet) : (s.setRset n x).build = s.build := (rfl)
@[simp] theorem State.setRset_regs (s : State) (n : Nat) (x : RSet) : (s.setRset n x).regs = s.regs := (rfl)
@[simp] theorem State.setRset_imgRegs (s : State) (n : Nat) (x : RSet) : (s.setRset n x).imgRegs = s.imgRegs := (rfl)
@[simp] theorem State.setRset_staged (s : State) (n : Nat) (x : RSet) : (s.setRset n x).staged = s.staged := (rfl)
@[simp] theorem State.setRset_whl (s : State) (n : Nat) (x : RSet) : (s.setRset n x).whl = s.whl := (rfl)
@[simp] theorem State.setRset_lea (s : State) (n : Nat) (x : RSet) : (s.setRset n x).lea = s.lea := (rfl)
@[simp] theorem State.setRset_str (s : State) (n : Nat) (x : RSet) : (s.setRset n x).str = s.str := (rfl)
@[simp] theorem State.setRset_hif (s : State) (n : Nat) (x : RSet) : (s.setRset n x).hif = s.hif := (rfl)
@[simp] theorem State.setRset_snag (s : State) (n : Nat) (x : RSet) : (s.setRset n x).snag = s.snag := (rfl)
@[simp] theorem State.setRset_skn (s : State) (n : Nat) (x : RSet) : (s.setRset n x).skn = s.skn := (rfl)
@[simp] theorem State.setRset_boot (s : State) (n : Nat) (x : RSet) : (s.setRset n x).boot = s.boot := (rfl)
@[simp] theorem State.setRset_drf (s : State) (n : Nat) (x : RSet) : (s.setRset n x).drf = s.drf := (rfl)
@[simp] theorem State.setRset_trc (s : State) (n : Nat) (x : RSet) : (s.setRset n x).trc = s.trc := (rfl)
@[simp] theorem State.setRset_meter (s : State) (n : Nat) (x : RSet) : (s.setRset n x).meter = s.meter := (rfl)
@[simp] theorem State.setRset_reel (s : State) (n : Nat) (x : RSet) : (s.setRset n x).reel = { s.reel with sets := Tab.set s.reel.sets n x } := (rfl)
@[simp] theorem State.setRset_crd (s : State) (n : Nat) (x : RSet) : (s.setRset n x).crd = s.crd := (rfl)
@[simp] theorem State.setRset_dst (s : State) (n : Nat) (x : RSet) : (s.setRset n x).dst = s.dst := (rfl)
@[simp] theorem State.setRset_tws (s : State) (n : Nat) (x : RSet) : (s.setRset n x).tws = s.tws := (rfl)
@[simp] theorem State.setRset_ply (s : State) (n : Nat) (x : RSet) : (s.setRset n x).ply = s.ply := (rfl)
@[simp] theorem State.setRset_stp (s : State) (n : Nat) (x : RSet) : (s.setRset n x).stp = s.stp := (rfl)
@[simp] theorem State.setRset_tns (s : State) (n : Nat) (x : RSet) : (s.setRset n x).tns = s.tns := (rfl)
@[simp] theorem State.setRset_fresh (s : State) (n : Nat) (x : RSet) : (s.setRset n x).fresh = s.fresh := (rfl)
@[simp] theorem State.setRset_out (s : State) (n : Nat) (x : RSet) : (s.setRset n x).out = s.out := (rfl)
@[simp] theorem State.setRset_work (s : State) (n : Nat) (x : RSet) : (s.setRset n x).work = s.work := (rfl)

/-! ### State.setJobs -/

@[simp] theorem State.setJobs_pending (s : State) (l : Tab Job) : (s.setJobs l).pending = s.pending := (rfl)
@[simp] theorem State.setJobs_build (s : State) (l : Tab Job) : (s.setJobs l).build = s.build := (rfl)
@[simp] theorem State.setJobs_regs (s : State) (l : Tab Job) : (s.setJobs l).regs = s.regs := (rfl)
@[simp] theorem State.setJobs_imgRegs (s : State) (l : Tab Job) : (s.setJobs l).imgRegs = s.imgRegs := (rfl)
@[simp] theorem State.setJobs_staged (s : State) (l : Tab Job) : (s.setJobs l).staged = s.staged := (rfl)
@[simp] theorem State.setJobs_whl (s : State) (l : Tab Job) : (s.setJobs l).whl = s.whl := (rfl)
@[simp] theorem State.setJobs_lea (s : State) (l : Tab Job) : (s.setJobs l).lea = s.lea := (rfl)
@[simp] theorem State.setJobs_str (s : State) (l : Tab Job) : (s.setJobs l).str = s.str := (rfl)
@[simp] theorem State.setJobs_hif (s : State) (l : Tab Job) : (s.setJobs l).hif = s.hif := (rfl)
@[simp] theorem State.setJobs_snag (s : State) (l : Tab Job) : (s.setJobs l).snag = s.snag := (rfl)
@[simp] theorem State.setJobs_skn (s : State) (l : Tab Job) : (s.setJobs l).skn = s.skn := (rfl)
@[simp] theorem State.setJobs_boot (s : State) (l : Tab Job) : (s.setJobs l).boot = s.boot := (rfl)
@[simp] theorem State.setJobs_drf (s : State) (l : Tab Job) : (s.setJobs l).drf = s.drf := (rfl)
@[simp] theorem State.setJobs_trc (s : State) (l : Tab Job) : (s.setJobs l).trc = s.trc := (rfl)
@[simp] theorem State.setJobs_meter (s : State) (l : Tab Job) : (s.setJobs l).meter = s.meter := (rfl)
@[simp] theorem State.setJobs_reel (s : State) (l : Tab Job) : (s.setJobs l).reel = s.reel := (rfl)
@[simp] theorem State.setJobs_crd (s : State) (l : Tab Job) : (s.setJobs l).crd = s.crd := (rfl)
@[simp] theorem State.setJobs_dst (s : State) (l : Tab Job) : (s.setJobs l).dst = s.dst := (rfl)
@[simp] theorem State.setJobs_tws (s : State) (l : Tab Job) : (s.setJobs l).tws = s.tws := (rfl)
@[simp] theorem State.setJobs_ply (s : State) (l : Tab Job) : (s.setJobs l).ply = { s.ply with jobs := l } := (rfl)
@[simp] theorem State.setJobs_stp (s : State) (l : Tab Job) : (s.setJobs l).stp = s.stp := (rfl)
@[simp] theorem State.setJobs_tns (s : State) (l : Tab Job) : (s.setJobs l).tns = s.tns := (rfl)
@[simp] theorem State.setJobs_fresh (s : State) (l : Tab Job) : (s.setJobs l).fresh = s.fresh := (rfl)
@[simp] theorem State.setJobs_out (s : State) (l : Tab Job) : (s.setJobs l).out = s.out := (rfl)
@[simp] theorem State.setJobs_work (s : State) (l : Tab Job) : (s.setJobs l).work = s.work := (rfl)

/-! ### State.setRun -/

@[simp] theorem State.setRun_pending (s : State) (r : Option Run) : (s.setRun r).pending = s.pending := (rfl)
@[simp] theorem State.setRun_build (s : State) (r : Option Run) : (s.setRun r).build = s.build := (rfl)
@[simp] theorem State.setRun_regs (s : State) (r : Option Run) : (s.setRun r).regs = s.regs := (rfl)
@[simp] theorem State.setRun_imgRegs (s : State) (r : Option Run) : (s.setRun r).imgRegs = s.imgRegs := (rfl)
@[simp] theorem State.setRun_staged (s : State) (r : Option Run) : (s.setRun r).staged = s.staged := (rfl)
@[simp] theorem State.setRun_whl (s : State) (r : Option Run) : (s.setRun r).whl = s.whl := (rfl)
@[simp] theorem State.setRun_lea (s : State) (r : Option Run) : (s.setRun r).lea = s.lea := (rfl)
@[simp] theorem State.setRun_str (s : State) (r : Option Run) : (s.setRun r).str = s.str := (rfl)
@[simp] theorem State.setRun_hif (s : State) (r : Option Run) : (s.setRun r).hif = s.hif := (rfl)
@[simp] theorem State.setRun_snag (s : State) (r : Option Run) : (s.setRun r).snag = s.snag := (rfl)
@[simp] theorem State.setRun_skn (s : State) (r : Option Run) : (s.setRun r).skn = s.skn := (rfl)
@[simp] theorem State.setRun_boot (s : State) (r : Option Run) : (s.setRun r).boot = s.boot := (rfl)
@[simp] theorem State.setRun_drf (s : State) (r : Option Run) : (s.setRun r).drf = s.drf := (rfl)
@[simp] theorem State.setRun_trc (s : State) (r : Option Run) : (s.setRun r).trc = s.trc := (rfl)
@[simp] theorem State.setRun_meter (s : State) (r : Option Run) : (s.setRun r).meter = s.meter := (rfl)
@[simp] theorem State.setRun_reel (s : State) (r : Option Run) : (s.setRun r).reel = s.reel := (rfl)
@[simp] theorem State.setRun_crd (s : State) (r : Option Run) : (s.setRun r).crd = s.crd := (rfl)
@[simp] theorem State.setRun_dst (s : State) (r : Option Run) : (s.setRun r).dst = s.dst := (rfl)
@[simp] theorem State.setRun_tws (s : State) (r : Option Run) : (s.setRun r).tws = s.tws := (rfl)
@[simp] theorem State.setRun_ply (s : State) (r : Option Run) : (s.setRun r).ply = s.ply := (rfl)
@[simp] theorem State.setRun_stp (s : State) (r : Option Run) : (s.setRun r).stp = { s.stp with run := r } := (rfl)
@[simp] theorem State.setRun_tns (s : State) (r : Option Run) : (s.setRun r).tns = s.tns := (rfl)
@[simp] theorem State.setRun_fresh (s : State) (r : Option Run) : (s.setRun r).fresh = s.fresh := (rfl)
@[simp] theorem State.setRun_out (s : State) (r : Option Run) : (s.setRun r).out = s.out := (rfl)
@[simp] theorem State.setRun_work (s : State) (r : Option Run) : (s.setRun r).work = s.work := (rfl)

/-! ### State.fset -/

@[simp] theorem State.fset_pending (s : State) (f : RF) (v : Nat) : (s.fset f v).pending = s.pending := by unfold State.fset; split <;> rfl
@[simp] theorem State.fset_build (s : State) (f : RF) (v : Nat) : (s.fset f v).build = s.build := by unfold State.fset; split <;> rfl
@[simp] theorem State.fset_imgRegs (s : State) (f : RF) (v : Nat) : (s.fset f v).imgRegs = s.imgRegs := by unfold State.fset; split <;> rfl
@[simp] theorem State.fset_staged (s : State) (f : RF) (v : Nat) : (s.fset f v).staged = s.staged := by unfold State.fset; split <;> rfl
@[simp] theorem State.fset_whl (s : State) (f : RF) (v : Nat) : (s.fset f v).whl = s.whl := by unfold State.fset; split <;> rfl
@[simp] theorem State.fset_lea (s : State) (f : RF) (v : Nat) : (s.fset f v).lea = s.lea := by unfold State.fset; split <;> rfl
@[simp] theorem State.fset_str (s : State) (f : RF) (v : Nat) : (s.fset f v).str = s.str := by unfold State.fset; split <;> rfl
@[simp] theorem State.fset_hif (s : State) (f : RF) (v : Nat) : (s.fset f v).hif = s.hif := by unfold State.fset; split <;> rfl
@[simp] theorem State.fset_snag (s : State) (f : RF) (v : Nat) : (s.fset f v).snag = s.snag := by unfold State.fset; split <;> rfl
@[simp] theorem State.fset_skn (s : State) (f : RF) (v : Nat) : (s.fset f v).skn = s.skn := by unfold State.fset; split <;> rfl
@[simp] theorem State.fset_boot (s : State) (f : RF) (v : Nat) : (s.fset f v).boot = s.boot := by unfold State.fset; split <;> rfl
@[simp] theorem State.fset_drf (s : State) (f : RF) (v : Nat) : (s.fset f v).drf = s.drf := by unfold State.fset; split <;> rfl
@[simp] theorem State.fset_trc (s : State) (f : RF) (v : Nat) : (s.fset f v).trc = s.trc := by unfold State.fset; split <;> rfl
@[simp] theorem State.fset_meter (s : State) (f : RF) (v : Nat) : (s.fset f v).meter = s.meter := by unfold State.fset; split <;> rfl
@[simp] theorem State.fset_reel (s : State) (f : RF) (v : Nat) : (s.fset f v).reel = s.reel := by unfold State.fset; split <;> rfl
@[simp] theorem State.fset_crd (s : State) (f : RF) (v : Nat) : (s.fset f v).crd = s.crd := by unfold State.fset; split <;> rfl
@[simp] theorem State.fset_dst (s : State) (f : RF) (v : Nat) : (s.fset f v).dst = s.dst := by unfold State.fset; split <;> rfl
@[simp] theorem State.fset_tws (s : State) (f : RF) (v : Nat) : (s.fset f v).tws = s.tws := by unfold State.fset; split <;> rfl
@[simp] theorem State.fset_ply (s : State) (f : RF) (v : Nat) : (s.fset f v).ply = s.ply := by unfold State.fset; split <;> rfl
@[simp] theorem State.fset_stp (s : State) (f : RF) (v : Nat) : (s.fset f v).stp = s.stp := by unfold State.fset; split <;> rfl
@[simp] theorem State.fset_tns (s : State) (f : RF) (v : Nat) : (s.fset f v).tns = s.tns := by unfold State.fset; split <;> rfl
@[simp] theorem State.fset_fresh (s : State) (f : RF) (v : Nat) : (s.fset f v).fresh = s.fresh := by unfold State.fset; split <;> rfl
@[simp] theorem State.fset_out (s : State) (f : RF) (v : Nat) : (s.fset f v).out = s.out := by unfold State.fset; split <;> rfl
@[simp] theorem State.fset_work (s : State) (f : RF) (v : Nat) : (s.fset f v).work = s.work := by unfold State.fset; split <;> rfl

/-! ### State.fsetB -/

@[simp] theorem State.fsetB_pending (s : State) (f : RF) (v : Bool) : (s.fsetB f v).pending = s.pending := State.fset_pending ..
@[simp] theorem State.fsetB_build (s : State) (f : RF) (v : Bool) : (s.fsetB f v).build = s.build := State.fset_build ..
@[simp] theorem State.fsetB_imgRegs (s : State) (f : RF) (v : Bool) : (s.fsetB f v).imgRegs = s.imgRegs := State.fset_imgRegs ..
@[simp] theorem State.fsetB_staged (s : State) (f : RF) (v : Bool) : (s.fsetB f v).staged = s.staged := State.fset_staged ..
@[simp] theorem State.fsetB_whl (s : State) (f : RF) (v : Bool) : (s.fsetB f v).whl = s.whl := State.fset_whl ..
@[simp] theorem State.fsetB_lea (s : State) (f : RF) (v : Bool) : (s.fsetB f v).lea = s.lea := State.fset_lea ..
@[simp] theorem State.fsetB_str (s : State) (f : RF) (v : Bool) : (s.fsetB f v).str = s.str := State.fset_str ..
@[simp] theorem State.fsetB_hif (s : State) (f : RF) (v : Bool) : (s.fsetB f v).hif = s.hif := State.fset_hif ..
@[simp] theorem State.fsetB_snag (s : State) (f : RF) (v : Bool) : (s.fsetB f v).snag = s.snag := State.fset_snag ..
@[simp] theorem State.fsetB_skn (s : State) (f : RF) (v : Bool) : (s.fsetB f v).skn = s.skn := State.fset_skn ..
@[simp] theorem State.fsetB_boot (s : State) (f : RF) (v : Bool) : (s.fsetB f v).boot = s.boot := State.fset_boot ..
@[simp] theorem State.fsetB_drf (s : State) (f : RF) (v : Bool) : (s.fsetB f v).drf = s.drf := State.fset_drf ..
@[simp] theorem State.fsetB_trc (s : State) (f : RF) (v : Bool) : (s.fsetB f v).trc = s.trc := State.fset_trc ..
@[simp] theorem State.fsetB_meter (s : State) (f : RF) (v : Bool) : (s.fsetB f v).meter = s.meter := State.fset_meter ..
@[simp] theorem State.fsetB_reel (s : State) (f : RF) (v : Bool) : (s.fsetB f v).reel = s.reel := State.fset_reel ..
@[simp] theorem State.fsetB_crd (s : State) (f : RF) (v : Bool) : (s.fsetB f v).crd = s.crd := State.fset_crd ..
@[simp] theorem State.fsetB_dst (s : State) (f : RF) (v : Bool) : (s.fsetB f v).dst = s.dst := State.fset_dst ..
@[simp] theorem State.fsetB_tws (s : State) (f : RF) (v : Bool) : (s.fsetB f v).tws = s.tws := State.fset_tws ..
@[simp] theorem State.fsetB_ply (s : State) (f : RF) (v : Bool) : (s.fsetB f v).ply = s.ply := State.fset_ply ..
@[simp] theorem State.fsetB_stp (s : State) (f : RF) (v : Bool) : (s.fsetB f v).stp = s.stp := State.fset_stp ..
@[simp] theorem State.fsetB_tns (s : State) (f : RF) (v : Bool) : (s.fsetB f v).tns = s.tns := State.fset_tns ..
@[simp] theorem State.fsetB_fresh (s : State) (f : RF) (v : Bool) : (s.fsetB f v).fresh = s.fresh := State.fset_fresh ..
@[simp] theorem State.fsetB_out (s : State) (f : RF) (v : Bool) : (s.fsetB f v).out = s.out := State.fset_out ..
@[simp] theorem State.fsetB_work (s : State) (f : RF) (v : Bool) : (s.fsetB f v).work = s.work := State.fset_work ..

/-! ### State.fadd -/

@[simp] theorem State.fadd_pending (s : State) (f : RF) (n : Nat) : (s.fadd f n).pending = s.pending := State.fset_pending ..
@[simp] theorem State.fadd_build (s : State) (f : RF) (n : Nat) : (s.fadd f n).build = s.build := State.fset_build ..
@[simp] theorem State.fadd_imgRegs (s : State) (f : RF) (n : Nat) : (s.fadd f n).imgRegs = s.imgRegs := State.fset_imgRegs ..
@[simp] theorem State.fadd_staged (s : State) (f : RF) (n : Nat) : (s.fadd f n).staged = s.staged := State.fset_staged ..
@[simp] theorem State.fadd_whl (s : State) (f : RF) (n : Nat) : (s.fadd f n).whl = s.whl := State.fset_whl ..
@[simp] theorem State.fadd_lea (s : State) (f : RF) (n : Nat) : (s.fadd f n).lea = s.lea := State.fset_lea ..
@[simp] theorem State.fadd_str (s : State) (f : RF) (n : Nat) : (s.fadd f n).str = s.str := State.fset_str ..
@[simp] theorem State.fadd_hif (s : State) (f : RF) (n : Nat) : (s.fadd f n).hif = s.hif := State.fset_hif ..
@[simp] theorem State.fadd_snag (s : State) (f : RF) (n : Nat) : (s.fadd f n).snag = s.snag := State.fset_snag ..
@[simp] theorem State.fadd_skn (s : State) (f : RF) (n : Nat) : (s.fadd f n).skn = s.skn := State.fset_skn ..
@[simp] theorem State.fadd_boot (s : State) (f : RF) (n : Nat) : (s.fadd f n).boot = s.boot := State.fset_boot ..
@[simp] theorem State.fadd_drf (s : State) (f : RF) (n : Nat) : (s.fadd f n).drf = s.drf := State.fset_drf ..
@[simp] theorem State.fadd_trc (s : State) (f : RF) (n : Nat) : (s.fadd f n).trc = s.trc := State.fset_trc ..
@[simp] theorem State.fadd_meter (s : State) (f : RF) (n : Nat) : (s.fadd f n).meter = s.meter := State.fset_meter ..
@[simp] theorem State.fadd_reel (s : State) (f : RF) (n : Nat) : (s.fadd f n).reel = s.reel := State.fset_reel ..
@[simp] theorem State.fadd_crd (s : State) (f : RF) (n : Nat) : (s.fadd f n).crd = s.crd := State.fset_crd ..
@[simp] theorem State.fadd_dst (s : State) (f : RF) (n : Nat) : (s.fadd f n).dst = s.dst := State.fset_dst ..
@[simp] theorem State.fadd_tws (s : State) (f : RF) (n : Nat) : (s.fadd f n).tws = s.tws := State.fset_tws ..
@[simp] theorem State.fadd_ply (s : State) (f : RF) (n : Nat) : (s.fadd f n).ply = s.ply := State.fset_ply ..
@[simp] theorem State.fadd_stp (s : State) (f : RF) (n : Nat) : (s.fadd f n).stp = s.stp := State.fset_stp ..
@[simp] theorem State.fadd_tns (s : State) (f : RF) (n : Nat) : (s.fadd f n).tns = s.tns := State.fset_tns ..
@[simp] theorem State.fadd_fresh (s : State) (f : RF) (n : Nat) : (s.fadd f n).fresh = s.fresh := State.fset_fresh ..
@[simp] theorem State.fadd_out (s : State) (f : RF) (n : Nat) : (s.fadd f n).out = s.out := State.fset_out ..
@[simp] theorem State.fadd_work (s : State) (f : RF) (n : Nat) : (s.fadd f n).work = s.work := State.fset_work ..

/-! ### State.bump -/

@[simp] theorem State.bump_pending (s : State) (f : RF) : (s.bump f).pending = s.pending := State.fadd_pending ..
@[simp] theorem State.bump_build (s : State) (f : RF) : (s.bump f).build = s.build := State.fadd_build ..
@[simp] theorem State.bump_imgRegs (s : State) (f : RF) : (s.bump f).imgRegs = s.imgRegs := State.fadd_imgRegs ..
@[simp] theorem State.bump_staged (s : State) (f : RF) : (s.bump f).staged = s.staged := State.fadd_staged ..
@[simp] theorem State.bump_whl (s : State) (f : RF) : (s.bump f).whl = s.whl := State.fadd_whl ..
@[simp] theorem State.bump_lea (s : State) (f : RF) : (s.bump f).lea = s.lea := State.fadd_lea ..
@[simp] theorem State.bump_str (s : State) (f : RF) : (s.bump f).str = s.str := State.fadd_str ..
@[simp] theorem State.bump_hif (s : State) (f : RF) : (s.bump f).hif = s.hif := State.fadd_hif ..
@[simp] theorem State.bump_snag (s : State) (f : RF) : (s.bump f).snag = s.snag := State.fadd_snag ..
@[simp] theorem State.bump_skn (s : State) (f : RF) : (s.bump f).skn = s.skn := State.fadd_skn ..
@[simp] theorem State.bump_boot (s : State) (f : RF) : (s.bump f).boot = s.boot := State.fadd_boot ..
@[simp] theorem State.bump_drf (s : State) (f : RF) : (s.bump f).drf = s.drf := State.fadd_drf ..
@[simp] theorem State.bump_trc (s : State) (f : RF) : (s.bump f).trc = s.trc := State.fadd_trc ..
@[simp] theorem State.bump_meter (s : State) (f : RF) : (s.bump f).meter = s.meter := State.fadd_meter ..
@[simp] theorem State.bump_reel (s : State) (f : RF) : (s.bump f).reel = s.reel := State.fadd_reel ..
@[simp] theorem State.bump_crd (s : State) (f : RF) : (s.bump f).crd = s.crd := State.fadd_crd ..
@[simp] theorem State.bump_dst (s : State) (f : RF) : (s.bump f).dst = s.dst := State.fadd_dst ..
@[simp] theorem State.bump_tws (s : State) (f : RF) : (s.bump f).tws = s.tws := State.fadd_tws ..
@[simp] theorem State.bump_ply (s : State) (f : RF) : (s.bump f).ply = s.ply := State.fadd_ply ..
@[simp] theorem State.bump_stp (s : State) (f : RF) : (s.bump f).stp = s.stp := State.fadd_stp ..
@[simp] theorem State.bump_tns (s : State) (f : RF) : (s.bump f).tns = s.tns := State.fadd_tns ..
@[simp] theorem State.bump_fresh (s : State) (f : RF) : (s.bump f).fresh = s.fresh := State.fadd_fresh ..
@[simp] theorem State.bump_out (s : State) (f : RF) : (s.bump f).out = s.out := State.fadd_out ..
@[simp] theorem State.bump_work (s : State) (f : RF) : (s.bump f).work = s.work := State.fadd_work ..

end Sys2Proof.Machine
end

