-- ==== Sys2Proof/Laws/Table.lean ====
section
/-! SUPPORT. Laws of the sparse tables: reading after writing and after removing, and the rising order of the keys. -/

namespace Sys2Proof

variable {α : Type}

@[simp] theorem Tab.get_nil (k : Nat) : Tab.get ([] : Tab α) k = none := rfl

/-- Every key of a table is at least `k`. -/
def Tab.above (k : Nat) (t : Tab α) : Prop := ∀ e ∈ t, k ≤ e.1

theorem Tab.wf_tail {e : Nat × α} {t : Tab α} (h : Tab.wf (e :: t) = true) : Tab.wf t = true := by
  cases t with
  | nil => rfl
  | cons f t => simp only [Tab.wf, Bool.and_eq_true] at h; exact h.2

theorem Tab.wf_above {e : Nat × α} {t : Tab α} (h : Tab.wf (e :: t) = true) : Tab.above (e.1 + 1) t := by
  induction t generalizing e with
  | nil => intro x hx; cases hx
  | cons f t ih =>
    simp only [Tab.wf, Bool.and_eq_true, decide_eq_true_eq] at h
    intro x hx
    rcases List.mem_cons.1 hx with rfl | hx
    · exact h.1
    · have := ih h.2 x hx; omega

theorem Tab.wf_cons {e : Nat × α} {t : Tab α} (h : Tab.wf t = true) (ha : Tab.above (e.1 + 1) t) : Tab.wf (e :: t) = true := by
  cases t with
  | nil => rfl
  | cons f t =>
    have := ha f (List.mem_cons_self ..)
    simp only [Tab.wf, Bool.and_eq_true, decide_eq_true_eq]
    exact ⟨this, h⟩

theorem Tab.above_mono {j k : Nat} {t : Tab α} (h : Tab.above k t) (hj : j ≤ k) : Tab.above j t :=
  fun e he => Nat.le_trans hj (h e he)

theorem Tab.get_above {k j : Nat} {t : Tab α} (h : Tab.above k t) (hj : j < k) : Tab.get t j = none := by
  induction t with
  | nil => rfl
  | cons e t ih =>
    have h1 := h e (List.mem_cons_self ..)
    have h2 : ¬ e.1 = j := by omega
    simp only [Tab.get, h2, if_false]
    exact ih fun x hx => h x (List.mem_cons_of_mem _ hx)

/-- Reading the key that was written. -/
@[simp] theorem Tab.get_set_self (t : Tab α) (k : Nat) (v : α) : Tab.get (Tab.set t k v) k = some v := by
  induction t with
  | nil => simp [Tab.set, Tab.get]
  | cons e t ih =>
    obtain ⟨k', v'⟩ := e
    simp only [Tab.set]
    split
    · simp [Tab.get]
    · split
      · simp [Tab.get]
      · rename_i h _
        simp [Tab.get, h, ih]

/-- Reading another key than the one written. -/
theorem Tab.get_set_ne (t : Tab α) {j k : Nat} (v : α) (h : j ≠ k) : Tab.get (Tab.set t k v) j = Tab.get t j := by
  induction t with
  | nil => simp [Tab.set, Tab.get, Ne.symm h]
  | cons e t ih =>
    obtain ⟨k', v'⟩ := e
    simp only [Tab.set]
    split
    · rename_i hk; subst hk; simp [Tab.get, Ne.symm h]
    · split
      · simp [Tab.get, Ne.symm h]
      · simp only [Tab.get]; split
        · rfl
        · exact ih

theorem Tab.get_set (t : Tab α) (j k : Nat) (v : α) : Tab.get (Tab.set t k v) j = if j = k then some v else Tab.get t j := by
  by_cases h : j = k
  · subst h; simp
  · rw [Tab.get_set_ne t v h, if_neg h]

/-- Reading another key than the one removed. -/
theorem Tab.get_del_ne (t : Tab α) {j k : Nat} (h : j ≠ k) : Tab.get (Tab.del t k) j = Tab.get t j := by
  induction t with
  | nil => rfl
  | cons e t ih =>
    obtain ⟨k', v'⟩ := e
    simp only [Tab.del]
    split
    · rename_i hk; subst hk; simp [Tab.get, Ne.symm h]
    · simp only [Tab.get]; split
      · rfl
      · exact ih

theorem Tab.get_del_self (t : Tab α) (k : Nat) (h : Tab.wf t = true) : Tab.get (Tab.del t k) k = none := by
  induction t with
  | nil => rfl
  | cons e t ih =>
    have ha := Tab.wf_above h
    obtain ⟨k', v'⟩ := e
    simp only [Tab.del]
    split
    · rename_i hk; subst hk; exact Tab.get_above ha (Nat.lt_succ_self _)
    · rename_i hk; simp only [Tab.get, hk, if_false]; exact ih (Tab.wf_tail h)

theorem Tab.above_set {j k : Nat} {t : Tab α} {v : α} (h : Tab.above j t) (hk : j ≤ k) : Tab.above j (Tab.set t k v) := by
  induction t with
  | nil => intro e he; simp [Tab.set] at he; subst he; exact hk
  | cons e t ih =>
    obtain ⟨k', v'⟩ := e
    have h1 := h _ (List.mem_cons_self ..)
    have h2 : Tab.above j t := fun x hx => h x (List.mem_cons_of_mem _ hx)
    simp only [Tab.set]
    split
    · intro x hx
      rcases List.mem_cons.1 hx with rfl | hx
      · exact hk
      · exact h2 x hx
    · split
      · intro x hx
        rcases List.mem_cons.1 hx with rfl | hx
        · exact hk
        · exact h x hx
      · intro x hx
        rcases List.mem_cons.1 hx with rfl | hx
        · exact h1
        · exact ih h2 x hx

/-- Writing keeps the keys rising. -/
theorem Tab.wf_set (t : Tab α) (k : Nat) (v : α) (h : Tab.wf t = true) : Tab.wf (Tab.set t k v) = true := by
  induction t with
  | nil => rfl
  | cons e t ih =>
    have ha := Tab.wf_above h
    have ht := Tab.wf_tail h
    obtain ⟨k', v'⟩ := e
    simp only [Tab.set]
    split
    · rename_i hk; subst hk; exact Tab.wf_cons ht ha
    · rename_i hk
      split
      · rename_i hlt
        refine Tab.wf_cons h ?_
        intro x hx
        rcases List.mem_cons.1 hx with rfl | hx
        · exact hlt
        · have := ha x hx; simp at this ⊢; omega
      · rename_i hlt
        exact Tab.wf_cons (ih ht) (Tab.above_set ha (by simp; omega))

theorem Tab.mem_del {t : Tab α} {k : Nat} {e : Nat × α} (h : e ∈ Tab.del t k) : e ∈ t := by
  induction t with
  | nil => cases h
  | cons f t ih =>
    obtain ⟨k', v'⟩ := f
    simp only [Tab.del] at h
    split at h
    · exact List.mem_cons_of_mem _ h
    · rcases List.mem_cons.1 h with rfl | h
      · exact List.mem_cons_self ..
      · exact List.mem_cons_of_mem _ (ih h)

/-- Removing keeps the keys rising. -/
theorem Tab.wf_del (t : Tab α) (k : Nat) (h : Tab.wf t = true) : Tab.wf (Tab.del t k) = true := by
  induction t with
  | nil => rfl
  | cons e t ih =>
    have ha := Tab.wf_above h
    have ht := Tab.wf_tail h
    obtain ⟨k', v'⟩ := e
    simp only [Tab.del]
    split
    · exact ht
    · exact Tab.wf_cons (ih ht) fun x hx => ha x (Tab.mem_del hx)

theorem Tab.mem_set {t : Tab α} {k : Nat} {v : α} {e : Nat × α} (h : e ∈ Tab.set t k v) : e = (k, v) ∨ e ∈ t := by
  induction t with
  | nil => simp [Tab.set] at h; exact Or.inl h
  | cons f t ih =>
    obtain ⟨k', v'⟩ := f
    simp only [Tab.set] at h
    split at h
    · rcases List.mem_cons.1 h with h | h
      · exact Or.inl h
      · exact Or.inr (List.mem_cons_of_mem _ h)
    · split at h
      · rcases List.mem_cons.1 h with h | h
        · exact Or.inl h
        · exact Or.inr h
      · rcases List.mem_cons.1 h with h | h
        · exact Or.inr (h ▸ List.mem_cons_self ..)
        · rcases ih h with h | h
          · exact Or.inl h
          · exact Or.inr (List.mem_cons_of_mem _ h)

/-- A test that no entry under the written key passes is blind to the write. -/
theorem Tab.filter_set (t : Tab α) (k : Nat) (v : α) (f : Nat × α → Bool) (h : ∀ w, f (k, w) = false) :
    (Tab.set t k v).filter f = t.filter f := by
  induction t with
  | nil => simp [Tab.set, h]
  | cons e t ih =>
    obtain ⟨k', v'⟩ := e
    simp only [Tab.set]
    split
    · rename_i hk; subst hk; simp [h]
    · split
      · simp [List.filter_cons, h]
      · simp only [List.filter_cons, ih]

/-- Reading a key that a test lets through, in the entries that pass it. -/
theorem Tab.get_filter (t : Tab α) (k : Nat) (f : Nat → Bool) (h : f k = true) :
    Tab.get (t.filter fun e => f e.1) k = Tab.get t k := by
  induction t with
  | nil => rfl
  | cons e t ih =>
    obtain ⟨k', v'⟩ := e
    by_cases hk : k' = k
    · subst hk; simp [h, Tab.get]
    · by_cases hf : f k' = true
      · simp [hf, Tab.get, hk, ih]
      · simp [hf, Tab.get, hk, ih]

end Sys2Proof
end

