-- ==== Sys2Proof/Laws/Regs.lean ====
section
/-! SUPPORT. Laws of registers and their fields: a field reads as it was written, and a write leaves other words and other fields alone. -/

namespace Sys2Proof.Machine

/-! ### Words -/

theorem State.regGet_regSet (s : State) (j k : Nat) (v : W32) :
    (s.regSet k v).regGet j = if j = k then v else s.regGet j := by
  have ht : (s.regSet k v).tier = s.tier := rfl
  unfold State.regGet
  rw [ht, State.regSet_regs, State.regSet_build]
  have hi : (s.regSet k v).imgWord j = s.imgWord j := rfl
  rw [hi, Tab.get_set]
  by_cases h : j = k
  · simp [h]
  · simp [h]

@[simp] theorem State.regGet_regSet_self (s : State) (k : Nat) (v : W32) : (s.regSet k v).regGet k = v := by
  simp [State.regGet_regSet]

theorem State.regGet_regSet_ne (s : State) {j k : Nat} (v : W32) (h : j ≠ k) : (s.regSet k v).regGet j = s.regGet j := by
  simp [State.regGet_regSet, h]

/-- A register word depends on the build, the image's record and the written words alone. -/
theorem State.regGet_congr {s t : State} (k : Nat) (hr : Tab.get t.regs k = Tab.get s.regs k) (hb : t.build = s.build) (hi : t.imgRegs = s.imgRegs) :
    t.regGet k = s.regGet k := by
  have ht : t.tier = s.tier := by unfold State.tier State.imgWord; rw [hi]
  have hw : t.imgWord k = s.imgWord k := by unfold State.imgWord; rw [hi]
  unfold State.regGet
  rw [hr, hb, ht, hw]

/-! ### Bits of a word -/

theorem putBits_split (word lo w : Nat) :
    word = word / 2 ^ (lo + w) * 2 ^ (lo + w) + word / 2 ^ lo % 2 ^ w * 2 ^ lo + word % 2 ^ lo := by
  have h1 := Nat.div_add_mod word (2 ^ lo)
  have h2 := Nat.div_add_mod (word / 2 ^ lo) (2 ^ w)
  have h3 : word / 2 ^ lo / 2 ^ w = word / 2 ^ (lo + w) := by rw [Nat.div_div_eq_div_mul, Nat.pow_add]
  rw [h3] at h2
  have h4 : 2 ^ (lo + w) = 2 ^ lo * 2 ^ w := Nat.pow_add ..
  calc word = 2 ^ lo * (word / 2 ^ lo) + word % 2 ^ lo := h1.symm
    _ = 2 ^ lo * (2 ^ w * (word / 2 ^ (lo + w)) + word / 2 ^ lo % 2 ^ w) + word % 2 ^ lo := by rw [h2]
    _ = _ := by rw [h4]; ring

theorem putBits_eq (word lo w v : Nat) :
    putBits word lo w v = word / 2 ^ (lo + w) * 2 ^ (lo + w) + v % 2 ^ w * 2 ^ lo + word % 2 ^ lo := by
  have h := putBits_split word lo w
  unfold putBits
  simp only
  omega

/-- The field that was put. -/
theorem putBits_self (word lo w v : Nat) : putBits word lo w v / 2 ^ lo % 2 ^ w = v % 2 ^ w := by
  rw [putBits_eq]
  have hp : 0 < 2 ^ lo := Nat.two_pow_pos lo
  have h4 : 2 ^ (lo + w) = 2 ^ lo * 2 ^ w := Nat.pow_add ..
  have hlt : word % 2 ^ lo < 2 ^ lo := Nat.mod_lt _ hp
  have : word / 2 ^ (lo + w) * 2 ^ (lo + w) + v % 2 ^ w * 2 ^ lo + word % 2 ^ lo
      = 2 ^ lo * (2 ^ w * (word / 2 ^ (lo + w)) + v % 2 ^ w) + word % 2 ^ lo := by rw [h4]; ring
  rw [this, Nat.mul_add_div hp, Nat.div_eq_of_lt hlt, Nat.add_zero, Nat.mul_add_mod, Nat.mod_mod]

theorem putBits_lt (word lo w v n : Nat) (hw : word < 2 ^ n) (hn : lo + w ≤ n) : putBits word lo w v < 2 ^ n := by
  rw [putBits_eq]
  have hp : 0 < 2 ^ lo := Nat.two_pow_pos lo
  have h1 : word % 2 ^ lo < 2 ^ lo := Nat.mod_lt _ hp
  have h2 : v % 2 ^ w < 2 ^ w := Nat.mod_lt _ (Nat.two_pow_pos w)
  have h4 : 2 ^ (lo + w) = 2 ^ w * 2 ^ lo := by rw [Nat.add_comm, Nat.pow_add]
  obtain ⟨d, rfl⟩ := Nat.exists_eq_add_of_le hn
  have h5 : word / 2 ^ (lo + w) < 2 ^ d := by
    rw [Nat.div_lt_iff_lt_mul (Nat.two_pow_pos _), ← Nat.pow_add, Nat.add_comm]; exact hw
  have h6 : v % 2 ^ w * 2 ^ lo + word % 2 ^ lo < 2 ^ (lo + w) := by
    rw [h4]
    have : (v % 2 ^ w + 1) * 2 ^ lo ≤ 2 ^ w * 2 ^ lo := Nat.mul_le_mul_right _ h2
    rw [Nat.add_mul, Nat.one_mul] at this
    omega
  have h7 : (word / 2 ^ (lo + w) + 1) * 2 ^ (lo + w) ≤ 2 ^ d * 2 ^ (lo + w) := Nat.mul_le_mul_right _ h5
  rw [Nat.add_mul, Nat.one_mul, ← Nat.pow_add, Nat.add_comm d] at h7
  omega

/-- A field above the one that was put. -/
theorem putBits_above (word lo w v lo' w' : Nat) (h : lo + w ≤ lo') :
    putBits word lo w v / 2 ^ lo' % 2 ^ w' = word / 2 ^ lo' % 2 ^ w' := by
  have key : putBits word lo w v / 2 ^ (lo + w) = word / 2 ^ (lo + w) := by
    rw [putBits_eq]
    have hp : 0 < 2 ^ lo := Nat.two_pow_pos lo
    have h1 : word % 2 ^ lo < 2 ^ lo := Nat.mod_lt _ hp
    have h2 : v % 2 ^ w < 2 ^ w := Nat.mod_lt _ (Nat.two_pow_pos w)
    have h4 : 2 ^ (lo + w) = 2 ^ w * 2 ^ lo := by rw [Nat.add_comm, Nat.pow_add]
    have h6 : v % 2 ^ w * 2 ^ lo + word % 2 ^ lo < 2 ^ (lo + w) := by
      rw [h4]
      have : (v % 2 ^ w + 1) * 2 ^ lo ≤ 2 ^ w * 2 ^ lo := Nat.mul_le_mul_right _ h2
      rw [Nat.add_mul, Nat.one_mul] at this
      omega
    rw [Nat.add_assoc, Nat.mul_comm, Nat.mul_add_div (Nat.two_pow_pos _), Nat.div_eq_of_lt h6, Nat.add_zero]
  obtain ⟨d, rfl⟩ := Nat.exists_eq_add_of_le h
  rw [Nat.pow_add 2 (lo + w) d, ← Nat.div_div_eq_div_mul, key, Nat.div_div_eq_div_mul]

/-- A field below the one that was put. -/
theorem putBits_below (word lo w v lo' w' : Nat) (h : lo' + w' ≤ lo) :
    putBits word lo w v / 2 ^ lo' % 2 ^ w' = word / 2 ^ lo' % 2 ^ w' := by
  have cut : ∀ x : Nat, x / 2 ^ lo' % 2 ^ w' = x % 2 ^ (lo' + w') / 2 ^ lo' := by
    intro x; rw [Nat.pow_add]; exact (Nat.mod_mul_right_div_self x (2 ^ lo') (2 ^ w')).symm
  rw [cut, cut word]
  congr 1
  rw [putBits_eq]
  obtain ⟨d, rfl⟩ := Nat.exists_eq_add_of_le h
  have e1 : word / 2 ^ (lo' + w' + d + w) * 2 ^ (lo' + w' + d + w) + v % 2 ^ w * 2 ^ (lo' + w' + d) + word % 2 ^ (lo' + w' + d)
      = 2 ^ (lo' + w') * (word / 2 ^ (lo' + w' + d + w) * 2 ^ (d + w) + v % 2 ^ w * 2 ^ d) + word % 2 ^ (lo' + w' + d) := by
    have a1 : 2 ^ (lo' + w' + d + w) = 2 ^ (lo' + w') * 2 ^ (d + w) := by rw [← Nat.pow_add]; congr 1; omega
    have a2 : 2 ^ (lo' + w' + d) = 2 ^ (lo' + w') * 2 ^ d := by rw [← Nat.pow_add]
    rw [a1, a2]; ring
  rw [e1, Nat.mul_add_mod, Nat.pow_add 2 (lo' + w') d, Nat.mod_mul_right_mod]

/-! ### Fields -/

/-- The field lies in one 32-bit word. -/
def RF.narrow (f : RF) : Prop := f.lo + f.w ≤ 32

theorem State.fget_narrow (s : State) (f : RF) (h : f.lo + f.w ≤ 32) :
    s.fget f = (s.regGet f.addr).toNat / 2 ^ f.lo % 2 ^ f.w := by
  simp only [State.fget]
  rw [if_neg (by omega)]

theorem State.fset_narrow (s : State) (f : RF) (v : Nat) (h : f.lo + f.w ≤ 32) :
    s.fset f v = s.regSet f.addr (BitVec.ofNat 32 (putBits (s.regGet f.addr).toNat f.lo f.w v)) := by
  unfold State.fset
  rw [if_neg (by omega)]

/-- A field of one word reads as it was written. -/
theorem State.fget_fset_self (s : State) (f : RF) (v : Nat) (h : f.lo + f.w ≤ 32) : (s.fset f v).fget f = v % 2 ^ f.w := by
  rw [State.fget_narrow _ _ h, State.fset_narrow _ _ _ h, State.regGet_regSet_self, BitVec.toNat_ofNat]
  have hb : putBits (s.regGet f.addr).toNat f.lo f.w v < 2 ^ 32 := putBits_lt _ _ _ _ _ (BitVec.isLt _) h
  rw [Nat.mod_eq_of_lt hb, putBits_self]

/-- The two words of a 64-bit register, joined. -/
def State.word64 (s : State) (k : Nat) : Nat := (s.regGet k).toNat + 2 ^ 32 * (s.regGet (k + 4)).toNat

theorem State.word64_lt (s : State) (k : Nat) : s.word64 k < 2 ^ 64 := by
  unfold State.word64
  have h1 := (s.regGet k).isLt
  have h2 := (s.regGet (k + 4)).isLt
  omega

theorem State.fget_wide (s : State) (f : RF) (h : 32 < f.lo + f.w) : s.fget f = s.word64 f.addr / 2 ^ f.lo % 2 ^ f.w := by
  simp only [State.fget]
  rw [if_pos (by omega)]; rfl

theorem State.fset_wide (s : State) (f : RF) (v : Nat) (h : 32 < f.lo + f.w) :
    s.fset f v = (s.regSet f.addr (BitVec.ofNat 32 (putBits (s.word64 f.addr) f.lo f.w v))).regSet (f.addr + 4)
      (BitVec.ofNat 32 (putBits (s.word64 f.addr) f.lo f.w v / 2 ^ 32)) := by
  unfold State.fset
  rw [if_pos (by omega)]; rfl

theorem State.word64_fset (s : State) (f : RF) (v : Nat) (h : 32 < f.lo + f.w) (h64 : f.lo + f.w ≤ 64) :
    (s.fset f v).word64 f.addr = putBits (s.word64 f.addr) f.lo f.w v := by
  have hb := putBits_lt (s.word64 f.addr) f.lo f.w v 64 (s.word64_lt _) h64
  rw [State.fset_wide _ _ _ h]
  generalize putBits (s.word64 f.addr) f.lo f.w v = n at hb
  unfold State.word64
  rw [State.regGet_regSet_self, State.regGet_regSet_ne _ _ (by omega), State.regGet_regSet_self, BitVec.toNat_ofNat, BitVec.toNat_ofNat]
  have h1 : n / 2 ^ 32 < 2 ^ 32 := by omega
  rw [Nat.mod_eq_of_lt h1]
  omega

/-- A field of up to 64 bits reads as it was written. -/
@[simp] theorem State.fget_fset (s : State) (f : RF) (v : Nat) (h64 : f.lo + f.w ≤ 64) : (s.fset f v).fget f = v % 2 ^ f.w := by
  by_cases h : f.lo + f.w ≤ 32
  · exact State.fget_fset_self s f v h
  · rw [State.fget_wide _ _ (by omega), State.word64_fset _ _ _ (by omega) h64, putBits_self]

/-- A field in other words than the one written. -/
theorem State.fget_fset_other (s : State) (f g : RF) (v : Nat)
    (h : g.addr ≠ f.addr ∧ g.addr ≠ f.addr + 4 ∧ g.addr + 4 ≠ f.addr) : (s.fset f v).fget g = s.fget g := by
  have hw : ∀ k, k ≠ f.addr → k ≠ f.addr + 4 → (s.fset f v).regGet k = s.regGet k := by
    intro k h1 h2
    unfold State.fset
    split
    · rw [State.regGet_regSet_ne _ _ h2, State.regGet_regSet_ne _ _ h1]
    · rw [State.regGet_regSet_ne _ _ h1]
  have a := hw g.addr h.1 h.2.1
  have b := hw (g.addr + 4) h.2.2 (by omega)
  unfold State.fget
  rw [a, b]

/-- A field of the same word beside the one written. -/
theorem State.fget_fset_beside (s : State) (f g : RF) (v : Nat) (ha : g.addr = f.addr) (hf : f.lo + f.w ≤ 32) (hg : g.lo + g.w ≤ 32)
    (hd : f.lo + f.w ≤ g.lo ∨ g.lo + g.w ≤ f.lo) : (s.fset f v).fget g = s.fget g := by
  rw [State.fget_narrow _ _ hg, State.fget_narrow _ _ hg, State.fset_narrow _ _ _ hf, ha, State.regGet_regSet_self, BitVec.toNat_ofNat]
  have hb : putBits (s.regGet f.addr).toNat f.lo f.w v < 2 ^ 32 := putBits_lt _ _ _ _ _ (BitVec.isLt _) hf
  rw [Nat.mod_eq_of_lt hb]
  rcases hd with hd | hd
  · exact putBits_above _ _ _ _ _ _ hd
  · exact putBits_below _ _ _ _ _ _ hd

end Sys2Proof.Machine
end

