-- ==== Sys2Proof/Laws/Settle.lean ====
section
/-! SUPPORT. What the effects that a step owes can touch: `State.side` is the state without the parts that faults, fences, triggers, the log, the links' queues and the ledger points change; no owed effect changes it. -/

namespace Sys2Proof.Machine

/-! ### Reading a field through the side -/

theorem State.pending_of_side {s t : State} (h : t.side = s.side) : t.pending = s.pending :=
  (congrArg State.pending h : t.side.pending = s.side.pending)
theorem State.build_of_side {s t : State} (h : t.side = s.side) : t.build = s.build :=
  (congrArg State.build h : t.side.build = s.side.build)
theorem State.imgRegs_of_side {s t : State} (h : t.side = s.side) : t.imgRegs = s.imgRegs :=
  (congrArg State.imgRegs h : t.side.imgRegs = s.side.imgRegs)
theorem State.staged_of_side {s t : State} (h : t.side = s.side) : t.staged = s.staged :=
  (congrArg State.staged h : t.side.staged = s.side.staged)
theorem State.hif_of_side {s t : State} (h : t.side = s.side) : t.hif = s.hif :=
  (congrArg State.hif h : t.side.hif = s.side.hif)
theorem State.boot_of_side {s t : State} (h : t.side = s.side) : t.boot = s.boot :=
  (congrArg State.boot h : t.side.boot = s.side.boot)
theorem State.drf_of_side {s t : State} (h : t.side = s.side) : t.drf = s.drf :=
  (congrArg State.drf h : t.side.drf = s.side.drf)
theorem State.meter_of_side {s t : State} (h : t.side = s.side) : t.meter = s.meter :=
  (congrArg State.meter h : t.side.meter = s.side.meter)
theorem State.reel_of_side {s t : State} (h : t.side = s.side) : t.reel = s.reel :=
  (congrArg State.reel h : t.side.reel = s.side.reel)
theorem State.crd_of_side {s t : State} (h : t.side = s.side) : t.crd = s.crd :=
  (congrArg State.crd h : t.side.crd = s.side.crd)
theorem State.dst_of_side {s t : State} (h : t.side = s.side) : t.dst = s.dst :=
  (congrArg State.dst h : t.side.dst = s.side.dst)
theorem State.ply_of_side {s t : State} (h : t.side = s.side) : t.ply = s.ply :=
  (congrArg State.ply h : t.side.ply = s.side.ply)
theorem State.stp_of_side {s t : State} (h : t.side = s.side) : t.stp = s.stp :=
  (congrArg State.stp h : t.side.stp = s.side.stp)
theorem State.tns_of_side {s t : State} (h : t.side = s.side) : t.tns = s.tns :=
  (congrArg State.tns h : t.side.tns = s.side.tns)
theorem State.str_paths_of_side {s t : State} (h : t.side = s.side) : t.str.paths = s.str.paths :=
  (congrArg (fun x => x.str.paths) h : t.side.str.paths = s.side.str.paths)
theorem State.str_starts_of_side {s t : State} (h : t.side = s.side) : t.str.starts = s.str.starts :=
  (congrArg (fun x => x.str.starts) h : t.side.str.starts = s.side.str.starts)
theorem State.str_leafStarts_of_side {s t : State} (h : t.side = s.side) : t.str.leafStarts = s.str.leafStarts :=
  (congrArg (fun x => x.str.leafStarts) h : t.side.str.leafStarts = s.side.str.leafStarts)
theorem State.str_childFenced_of_side {s t : State} (h : t.side = s.side) : t.str.childFenced = s.str.childFenced :=
  (congrArg (fun x => x.str.childFenced) h : t.side.str.childFenced = s.side.str.childFenced)
theorem State.str_barred_of_side {s t : State} (h : t.side = s.side) : t.str.barred = s.str.barred :=
  (congrArg (fun x => x.str.barred) h : t.side.str.barred = s.side.str.barred)
theorem State.str_handovers_of_side {s t : State} (h : t.side = s.side) : t.str.handovers = s.str.handovers :=
  (congrArg (fun x => x.str.handovers) h : t.side.str.handovers = s.side.str.handovers)
theorem State.str_anum_of_side {s t : State} (h : t.side = s.side) : t.str.anum = s.str.anum :=
  (congrArg (fun x => x.str.anum) h : t.side.str.anum = s.side.str.anum)
theorem State.str_snum_of_side {s t : State} (h : t.side = s.side) : t.str.snum = s.str.snum :=
  (congrArg (fun x => x.str.snum) h : t.side.str.snum = s.side.str.snum)
theorem State.str_mirror_of_side {s t : State} (h : t.side = s.side) : t.str.mirror = s.str.mirror :=
  (congrArg (fun x => x.str.mirror) h : t.side.str.mirror = s.side.str.mirror)
theorem State.str_returnFt_of_side {s t : State} (h : t.side = s.side) : t.str.returnFt = s.str.returnFt :=
  (congrArg (fun x => x.str.returnFt) h : t.side.str.returnFt = s.side.str.returnFt)
theorem State.whl_acc_of_side {s t : State} (h : t.side = s.side) : t.whl.acc = s.whl.acc :=
  (congrArg (fun x => x.whl.acc) h : t.side.whl.acc = s.side.whl.acc)
theorem State.whl_clock_of_side {s t : State} (h : t.side = s.side) : t.whl.clock = s.whl.clock :=
  (congrArg (fun x => x.whl.clock) h : t.side.whl.clock = s.side.whl.clock)
theorem State.whl_cyc_of_side {s t : State} (h : t.side = s.side) : t.whl.cyc = s.whl.cyc :=
  (congrArg (fun x => x.whl.cyc) h : t.side.whl.cyc = s.side.whl.cyc)
theorem State.whl_gens_of_side {s t : State} (h : t.side = s.side) : t.whl.gens = s.whl.gens :=
  (congrArg (fun x => x.whl.gens) h : t.side.whl.gens = s.side.whl.gens)
theorem State.whl_timers_of_side {s t : State} (h : t.side = s.side) : t.whl.timers = s.whl.timers :=
  (congrArg (fun x => x.whl.timers) h : t.side.whl.timers = s.side.whl.timers)
theorem State.whl_leap_of_side {s t : State} (h : t.side = s.side) : t.whl.leap = s.whl.leap :=
  (congrArg (fun x => x.whl.leap) h : t.side.whl.leap = s.side.whl.leap)
theorem State.whl_slew_of_side {s t : State} (h : t.side = s.side) : t.whl.slew = s.whl.slew :=
  (congrArg (fun x => x.whl.slew) h : t.side.whl.slew = s.side.whl.slew)
theorem State.whl_base_of_side {s t : State} (h : t.side = s.side) : t.whl.base = s.whl.base :=
  (congrArg (fun x => x.whl.base) h : t.side.whl.base = s.side.whl.base)
theorem State.tws_merges_of_side {s t : State} (h : t.side = s.side) : t.tws.merges = s.tws.merges :=
  (congrArg (fun x => x.tws.merges) h : t.side.tws.merges = s.side.tws.merges)
theorem State.tws_sinks_of_side {s t : State} (h : t.side = s.side) : t.tws.sinks = s.tws.sinks :=
  (congrArg (fun x => x.tws.sinks) h : t.side.tws.sinks = s.side.tws.sinks)
theorem State.tws_sources_of_side {s t : State} (h : t.side = s.side) : t.tws.sources = s.tws.sources :=
  (congrArg (fun x => x.tws.sources) h : t.side.tws.sources = s.side.tws.sources)
theorem State.tws_parts_of_side {s t : State} (h : t.side = s.side) : t.tws.parts = s.tws.parts :=
  (congrArg (fun x => x.tws.parts) h : t.side.tws.parts = s.side.tws.parts)
theorem State.tws_auth_of_side {s t : State} (h : t.side = s.side) : t.tws.auth = s.tws.auth :=
  (congrArg (fun x => x.tws.auth) h : t.side.tws.auth = s.side.tws.auth)
theorem State.tws_cuts_of_side {s t : State} (h : t.side = s.side) : t.tws.cuts = s.tws.cuts :=
  (congrArg (fun x => x.tws.cuts) h : t.side.tws.cuts = s.side.tws.cuts)
theorem State.tws_ranks_of_side {s t : State} (h : t.side = s.side) : t.tws.ranks = s.tws.ranks :=
  (congrArg (fun x => x.tws.ranks) h : t.side.tws.ranks = s.side.tws.ranks)
theorem State.tws_sats_of_side {s t : State} (h : t.side = s.side) : t.tws.sats = s.tws.sats :=
  (congrArg (fun x => x.tws.sats) h : t.side.tws.sats = s.side.tws.sats)
theorem State.snag_dies_of_side {s t : State} (h : t.side = s.side) : t.snag.dies = s.snag.dies :=
  (congrArg (fun x => x.snag.dies) h : t.side.snag.dies = s.side.snag.dies)
theorem State.snag_hard_of_side {s t : State} (h : t.side = s.side) : t.snag.hard = s.snag.hard :=
  (congrArg (fun x => x.snag.hard) h : t.side.snag.hard = s.side.snag.hard)
theorem State.snag_unitExp_of_side {s t : State} (h : t.side = s.side) : t.snag.unitExp = s.snag.unitExp :=
  (congrArg (fun x => x.snag.unitExp) h : t.side.snag.unitExp = s.side.snag.unitExp)
theorem State.snag_resets_of_side {s t : State} (h : t.side = s.side) : t.snag.resets = s.snag.resets :=
  (congrArg (fun x => x.snag.resets) h : t.side.snag.resets = s.side.snag.resets)
theorem State.snag_partResets_of_side {s t : State} (h : t.side = s.side) : t.snag.partResets = s.snag.partResets :=
  (congrArg (fun x => x.snag.partResets) h : t.side.snag.partResets = s.side.snag.partResets)
theorem State.snag_steps_of_side {s t : State} (h : t.side = s.side) : t.snag.steps = s.snag.steps :=
  (congrArg (fun x => x.snag.steps) h : t.side.snag.steps = s.side.snag.steps)
theorem State.snag_peerBits_of_side {s t : State} (h : t.side = s.side) : t.snag.peerBits = s.snag.peerBits :=
  (congrArg (fun x => x.snag.peerBits) h : t.side.snag.peerBits = s.side.snag.peerBits)
theorem State.skn_read_of_side {s t : State} (h : t.side = s.side) : t.skn.read = s.skn.read :=
  (congrArg (fun x => x.skn.read) h : t.side.skn.read = s.side.skn.read)
theorem State.skn_dump_of_side {s t : State} (h : t.side = s.side) : t.skn.dump = s.skn.dump :=
  (congrArg (fun x => x.skn.dump) h : t.side.skn.dump = s.side.skn.dump)
theorem State.trc_cfg_of_side {s t : State} (h : t.side = s.side) : t.trc.cfg = s.trc.cfg :=
  (congrArg (fun x => x.trc.cfg) h : t.side.trc.cfg = s.side.trc.cfg)
theorem State.trc_releasing_of_side {s t : State} (h : t.side = s.side) : t.trc.releasing = s.trc.releasing :=
  (congrArg (fun x => x.trc.releasing) h : t.side.trc.releasing = s.side.trc.releasing)
theorem State.lea_cut_of_side {s t : State} (h : t.side = s.side) : t.lea.cut = s.lea.cut :=
  (congrArg (fun x => x.lea.cut) h : t.side.lea.cut = s.side.lea.cut)

/-- Fabric time is untouched. -/
theorem State.ft_of_side {s t : State} (h : t.side = s.side) : t.ft = s.ft := by
  unfold State.ft; rw [State.whl_acc_of_side h]

/-- A quiet register word is untouched. -/
theorem State.regGet_of_side {s t : State} (h : t.side = s.side) (k : Nat) (hk : quietWord k = true) : t.regGet k = s.regGet k := by
  refine State.regGet_congr k ?_ (State.build_of_side h) (State.imgRegs_of_side h)
  have hr : t.side.regs = s.side.regs := congrArg State.regs h
  have e : ∀ x : State, Tab.get x.side.regs k = Tab.get x.regs k := fun x => Tab.get_filter x.regs k quietWord hk
  rw [← e t, ← e s, hr]

/-- A quiet field is untouched. -/
theorem State.fget_of_side {s t : State} (h : t.side = s.side) (f : RF) (hk : quietWord f.addr = true)
    (h4 : f.lo + f.w ≤ 32 ∨ quietWord (f.addr + 4) = true) : t.fget f = s.fget f := by
  by_cases hw : f.lo + f.w ≤ 32
  · rw [State.fget_narrow _ _ hw, State.fget_narrow _ _ hw, State.regGet_of_side h _ hk]
  · rw [State.fget_wide _ _ (by omega), State.fget_wide _ _ (by omega)]
    unfold State.word64
    rw [State.regGet_of_side h _ hk, State.regGet_of_side h _ (h4.resolve_left hw)]

/-! ### Updates of one part -/

theorem State.regSet_side (s : State) (k : Nat) (v : W32) (h : quietWord k = false) : (s.regSet k v).side = s.side := by
  unfold State.side
  simp only [State.regSet]
  rw [Tab.filter_set]
  intro w; exact h

theorem State.fset_side (s : State) (f : RF) (v : Nat) (h : quietWord f.addr = false)
    (h4 : f.lo + f.w ≤ 32 ∨ quietWord (f.addr + 4) = false) : (s.fset f v).side = s.side := by
  by_cases hw : f.lo + f.w ≤ 32
  · rw [State.fset_narrow _ _ _ hw, State.regSet_side _ _ _ h]
  · rw [State.fset_wide _ _ _ (by omega), State.regSet_side _ _ _ (h4.resolve_left hw), State.regSet_side _ _ _ h]

@[simp] theorem State.side_emit (s : State) (e : Emission) : (s.emit e).side = s.side := rfl
@[simp] theorem State.side_raise (s : State) (c l : Nat) (h : Hank) (i : Nat) : (s.raise c l h i).side = s.side := rfl
@[simp] theorem State.side_askFence (s : State) (a c t : Nat) : (s.askFence a c t).side = s.side := rfl
@[simp] theorem State.side_askTrig (s : State) (c a t : Nat) : (s.askTrig c a t).side = s.side := rfl
@[simp] theorem State.side_setPort (s : State) (p : Nat) (x : Port) : (s.setPort p x).side = s.side := rfl
@[simp] theorem State.side_modPort (s : State) (p : Nat) (f : Port → Port) : (s.modPort p f).side = s.side := rfl
@[simp] theorem State.side_setTrSrc (s : State) (i : Nat) (x : TrSrc) : (s.setTrSrc i x).side = s.side := rfl
@[simp] theorem State.side_modSat (s : State) (p : Nat) (f : SatPort → SatPort) : (s.modSat p f).side = s.side := rfl

theorem foldl_side {β : Type} (l : List β) (f : State → β → State) (s : State) (h : ∀ s, ∀ x ∈ l, (f s x).side = s.side) :
    (l.foldl f s).side = s.side := by
  induction l generalizing s with
  | nil => rfl
  | cons x l ih =>
    rw [List.foldl_cons, ih _ fun s y hy => h s y (List.mem_cons_of_mem _ hy), h s x (List.mem_cons_self ..)]

/-! ### Registers that an owed effect writes -/

@[simp] theorem State.side_fset_BOB_ERR_PARITY (s : State) (v : Nat) : (s.fset Reg.BOB_ERR_PARITY v).side = s.side :=
  State.fset_side _ _ _ (by decide) (by decide)
@[simp] theorem State.side_fset_BOB_STAT_DYNFAIL (s : State) (v : Nat) : (s.fset Reg.BOB_STAT_DYNFAIL v).side = s.side :=
  State.fset_side _ _ _ (by decide) (by decide)
@[simp] theorem State.side_fset_BOB_STAT_RSTALL (s : State) (v : Nat) : (s.fset Reg.BOB_STAT_RSTALL v).side = s.side :=
  State.fset_side _ _ _ (by decide) (by decide)
@[simp] theorem State.side_fset_HIF_FNSTAT_MODE (s : State) (v : Nat) : (s.fset Reg.HIF_FNSTAT_MODE v).side = s.side :=
  State.fset_side _ _ _ (by decide) (by decide)
@[simp] theorem State.side_fset_HIF_FNSTAT_PENDING (s : State) (v : Nat) : (s.fset Reg.HIF_FNSTAT_PENDING v).side = s.side :=
  State.fset_side _ _ _ (by decide) (by decide)
@[simp] theorem State.side_fset_LEA_STATUS_SAT (s : State) (v : Nat) : (s.fset Reg.LEA_STATUS_SAT v).side = s.side :=
  State.fset_side _ _ _ (by decide) (by decide)
@[simp] theorem State.side_fset_SKN_STAT_LOST (s : State) (v : Nat) : (s.fset Reg.SKN_STAT_LOST v).side = s.side :=
  State.fset_side _ _ _ (by decide) (by decide)
@[simp] theorem State.side_fset_SNG_FOUT_FENCED (s : State) (v : Nat) : (s.fset Reg.SNG_FOUT_FENCED v).side = s.side :=
  State.fset_side _ _ _ (by decide) (by decide)
@[simp] theorem State.side_fset_SNG_FQSTAT_LOST (s : State) (v : Nat) : (s.fset Reg.SNG_FQSTAT_LOST v).side = s.side :=
  State.fset_side _ _ _ (by decide) (by decide)
@[simp] theorem State.side_fset_SNG_FSTAT_PARTS (s : State) (v : Nat) : (s.fset Reg.SNG_FSTAT_PARTS v).side = s.side :=
  State.fset_side _ _ _ (by decide) (by decide)
@[simp] theorem State.side_fset_SNG_FSTAT_REPEATS (s : State) (v : Nat) : (s.fset Reg.SNG_FSTAT_REPEATS v).side = s.side :=
  State.fset_side _ _ _ (by decide) (by decide)
@[simp] theorem State.side_fset_SNG_STATUS_ALIVE_RUN (s : State) (v : Nat) : (s.fset Reg.SNG_STATUS_ALIVE_RUN v).side = s.side :=
  State.fset_side _ _ _ (by decide) (by decide)
@[simp] theorem State.side_fset_SNG_STATUS_LEVEL (s : State) (v : Nat) : (s.fset Reg.SNG_STATUS_LEVEL v).side = s.side :=
  State.fset_side _ _ _ (by decide) (by decide)
@[simp] theorem State.side_fset_SNG_STATUS_RAISED (s : State) (v : Nat) : (s.fset Reg.SNG_STATUS_RAISED v).side = s.side :=
  State.fset_side _ _ _ (by decide) (by decide)
@[simp] theorem State.side_fset_SNG_STATUS_STOPPED (s : State) (v : Nat) : (s.fset Reg.SNG_STATUS_STOPPED v).side = s.side :=
  State.fset_side _ _ _ (by decide) (by decide)
@[simp] theorem State.side_fset_SNG_UNACK_CLASS (s : State) (v : Nat) : (s.fset Reg.SNG_UNACK_CLASS v).side = s.side :=
  State.fset_side _ _ _ (by decide) (by decide)
@[simp] theorem State.side_fset_STR_BCSTAT_DUP (s : State) (v : Nat) : (s.fset Reg.STR_BCSTAT_DUP v).side = s.side :=
  State.fset_side _ _ _ (by decide) (by decide)
@[simp] theorem State.side_fset_STR_BCSTAT_EVICT (s : State) (v : Nat) : (s.fset Reg.STR_BCSTAT_EVICT v).side = s.side :=
  State.fset_side _ _ _ (by decide) (by decide)
@[simp] theorem State.side_fset_STR_DNUP_UP (s : State) (v : Nat) : (s.fset Reg.STR_DNUP_UP v).side = s.side :=
  State.fset_side _ _ _ (by decide) (by decide)
@[simp] theorem State.side_fset_STR_HOMING_CUR_PARENT (s : State) (v : Nat) : (s.fset Reg.STR_HOMING_CUR_PARENT v).side = s.side :=
  State.fset_side _ _ _ (by decide) (by decide)
@[simp] theorem State.side_fset_STR_TIER_ROLE_EPOCH (s : State) (v : Nat) : (s.fset Reg.STR_TIER_ROLE_EPOCH v).side = s.side :=
  State.fset_side _ _ _ (by decide) (by decide)
@[simp] theorem State.side_fset_STR_TIER_ROOT_ACTIVE (s : State) (v : Nat) : (s.fset Reg.STR_TIER_ROOT_ACTIVE v).side = s.side :=
  State.fset_side _ _ _ (by decide) (by decide)
@[simp] theorem State.side_fset_STR_UPSTAT_LOSSES (s : State) (v : Nat) : (s.fset Reg.STR_UPSTAT_LOSSES v).side = s.side :=
  State.fset_side _ _ _ (by decide) (by decide)
@[simp] theorem State.side_fset_STR_UPSTAT_UP (s : State) (v : Nat) : (s.fset Reg.STR_UPSTAT_UP v).side = s.side :=
  State.fset_side _ _ _ (by decide) (by decide)
@[simp] theorem State.side_fset_TRC_DRAINCNT_COUNT (s : State) (v : Nat) : (s.fset Reg.TRC_DRAINCNT_COUNT v).side = s.side :=
  State.fset_side _ _ _ (by decide) (by decide)
@[simp] theorem State.side_fset_TRC_OLDCNT_COUNT (s : State) (v : Nat) : (s.fset Reg.TRC_OLDCNT_COUNT v).side = s.side :=
  State.fset_side _ _ _ (by decide) (by decide)
@[simp] theorem State.side_fset_TRC_STATUS_CAUSE (s : State) (v : Nat) : (s.fset Reg.TRC_STATUS_CAUSE v).side = s.side :=
  State.fset_side _ _ _ (by decide) (by decide)
@[simp] theorem State.side_fset_TRC_STATUS_EXTRA_TRIG (s : State) (v : Nat) : (s.fset Reg.TRC_STATUS_EXTRA_TRIG v).side = s.side :=
  State.fset_side _ _ _ (by decide) (by decide)
@[simp] theorem State.side_fset_TRC_STATUS_STATE (s : State) (v : Nat) : (s.fset Reg.TRC_STATUS_STATE v).side = s.side :=
  State.fset_side _ _ _ (by decide) (by decide)
@[simp] theorem State.side_fset_TRC_STATUS_VALID (s : State) (v : Nat) : (s.fset Reg.TRC_STATUS_VALID v).side = s.side :=
  State.fset_side _ _ _ (by decide) (by decide)
@[simp] theorem State.side_fset_TRC_TRIGCNT_COUNT (s : State) (v : Nat) : (s.fset Reg.TRC_TRIGCNT_COUNT v).side = s.side :=
  State.fset_side _ _ _ (by decide) (by decide)
@[simp] theorem State.side_fset_TRC_WRCNT_COUNT (s : State) (v : Nat) : (s.fset Reg.TRC_WRCNT_COUNT v).side = s.side :=
  State.fset_side _ _ _ (by decide) (by decide)

theorem State.side_fset_STR_PERR_CRCERR (s : State) (p v : Nat) (h : p < 64) : (s.fset (Reg.STR_PERR_CRCERR.at p) v).side = s.side := by
  refine State.fset_side _ _ _ ?_ ?_
  · revert p; decide
  · revert p; decide
theorem State.side_fset_STR_PRETRY_NAKS (s : State) (p v : Nat) (h : p < 64) : (s.fset (Reg.STR_PRETRY_NAKS.at p) v).side = s.side := by
  refine State.fset_side _ _ _ ?_ ?_
  · revert p; decide
  · revert p; decide
theorem State.side_fset_STR_PRETRY_RETRIES (s : State) (p v : Nat) (h : p < 64) : (s.fset (Reg.STR_PRETRY_RETRIES.at p) v).side = s.side := by
  refine State.fset_side _ _ _ ?_ ?_
  · revert p; decide
  · revert p; decide
theorem State.side_fset_STR_PRTX_FRAMES (s : State) (p v : Nat) (h : p < 64) : (s.fset (Reg.STR_PRTX_FRAMES.at p) v).side = s.side := by
  refine State.fset_side _ _ _ ?_ ?_
  · revert p; decide
  · revert p; decide
theorem State.side_fset_STR_PRTX_KIB (s : State) (p v : Nat) (h : p < 64) : (s.fset (Reg.STR_PRTX_KIB.at p) v).side = s.side := by
  refine State.fset_side _ _ _ ?_ ?_
  · revert p; decide
  · revert p; decide
theorem State.side_fset_STR_PRXSEQ_SEQ (s : State) (p v : Nat) (h : p < 64) : (s.fset (Reg.STR_PRXSEQ_SEQ.at p) v).side = s.side := by
  refine State.fset_side _ _ _ ?_ ?_
  · revert p; decide
  · revert p; decide
theorem State.side_fset_STR_PCRED_BE (s : State) (p v : Nat) (h : p < 64) : (s.fset (Reg.STR_PCRED_BE.at p) v).side = s.side := by
  refine State.fset_side _ _ _ ?_ ?_
  · revert p; decide
  · revert p; decide
theorem State.side_fset_STR_PCRED_RES (s : State) (p v : Nat) (h : p < 64) : (s.fset (Reg.STR_PCRED_RES.at p) v).side = s.side := by
  refine State.fset_side _ _ _ ?_ ?_
  · revert p; decide
  · revert p; decide
theorem State.side_fset_STR_PSTALL_CREDIT (s : State) (p v : Nat) (h : p < 64) : (s.fset (Reg.STR_PSTALL_CREDIT.at p) v).side = s.side := by
  refine State.fset_side _ _ _ ?_ ?_
  · revert p; decide
  · revert p; decide
theorem State.side_fset_STR_PSTALL_RTXFULL (s : State) (p v : Nat) (h : p < 64) : (s.fset (Reg.STR_PSTALL_RTXFULL.at p) v).side = s.side := by
  refine State.fset_side _ _ _ ?_ ?_
  · revert p; decide
  · revert p; decide
theorem State.side_fset_STR_PSTAT_ADMITTED (s : State) (p v : Nat) (h : p < 64) : (s.fset (Reg.STR_PSTAT_ADMITTED.at p) v).side = s.side := by
  refine State.fset_side _ _ _ ?_ ?_
  · revert p; decide
  · revert p; decide
theorem State.side_fset_STR_PSTAT_HOMED (s : State) (p v : Nat) (h : p < 64) : (s.fset (Reg.STR_PSTAT_HOMED.at p) v).side = s.side := by
  refine State.fset_side _ _ _ ?_ ?_
  · revert p; decide
  · revert p; decide
theorem State.side_fset_STR_PSTAT_RESERVABLE (s : State) (p v : Nat) (h : p < 64) : (s.fset (Reg.STR_PSTAT_RESERVABLE.at p) v).side = s.side := by
  refine State.fset_side _ _ _ ?_ ?_
  · revert p; decide
  · revert p; decide
theorem State.side_fset_STR_PSTAT_STATE (s : State) (p v : Nat) (h : p < 64) : (s.fset (Reg.STR_PSTAT_STATE.at p) v).side = s.side := by
  refine State.fset_side _ _ _ ?_ ?_
  · revert p; decide
  · revert p; decide
theorem State.side_fset_STR_PTXSEQ_SEQ (s : State) (p v : Nat) (h : p < 64) : (s.fset (Reg.STR_PTXSEQ_SEQ.at p) v).side = s.side := by
  refine State.fset_side _ _ _ ?_ ?_
  · revert p; decide
  · revert p; decide
theorem State.side_fset_STR_PUNAUTH_COUNT (s : State) (p v : Nat) (h : p < 64) : (s.fset (Reg.STR_PUNAUTH_COUNT.at p) v).side = s.side := by
  refine State.fset_side _ _ _ ?_ ?_
  · revert p; decide
  · revert p; decide
theorem State.side_fset_STR_ROUTE_ACTIVE (s : State) (p v : Nat) (h : p < 64) : (s.fset (Reg.STR_ROUTE_ACTIVE.at p) v).side = s.side := by
  refine State.fset_side _ _ _ ?_ ?_
  · revert p; decide
  · revert p; decide
theorem State.side_fset_SPN_STAT_FENCED (s : State) (p v : Nat) (h : p < 64) : (s.fset (Reg.SPN_STAT_FENCED.at p) v).side = s.side := by
  refine State.fset_side _ _ _ ?_ ?_
  · revert p; decide
  · revert p; decide
theorem State.side_fset_TRC_SRCSTAT_DROPPED (s : State) (p v : Nat) (h : p < 64) : (s.fset (Reg.TRC_SRCSTAT_DROPPED.at p) v).side = s.side := by
  refine State.fset_side _ _ _ ?_ ?_
  · revert p; decide
  · revert p; decide
@[simp] theorem State.side_fset_DRF_CSTAT_SHED (s : State) (n v : Nat) : (s.fset (Reg.DRF_CSTAT_SHED.at n) v).side = s.side := by
  refine State.fset_side _ _ _ ?_ (Or.inl (by simp [RF.at, Reg.DRF_CSTAT_SHED]))
  have : wordOf (Reg.DRF_CSTAT_SHED.at n).addr = 0xE11C := by
    simp only [wordOf, RF.at, Reg.DRF_CSTAT_SHED]; omega
  simp only [quietWord, this]; decide
@[simp] theorem State.side_fset_DRF_CSTAT_WAITS (s : State) (n v : Nat) : (s.fset (Reg.DRF_CSTAT_WAITS.at n) v).side = s.side := by
  refine State.fset_side _ _ _ ?_ (Or.inl (by simp [RF.at, Reg.DRF_CSTAT_WAITS]))
  have : wordOf (Reg.DRF_CSTAT_WAITS.at n).addr = 0xE11C := by
    simp only [wordOf, RF.at, Reg.DRF_CSTAT_WAITS]; omega
  simp only [quietWord, this]; decide

/-! ### Ledger points and modes -/

@[simp] theorem State.side_led (s : State) (k i : Nat) (c : LedCol) (n : Nat) : (s.led k i c n).side = s.side := by
  simp only [State.led]
  split
  · rw [State.side_raise, State.side_fset_LEA_STATUS_SAT]; rfl
  · rfl

@[simp] theorem State.side_ledDrop (s : State) (k i r n : Nat) : (s.ledDrop k i r n).side = s.side := by
  unfold State.ledDrop; split <;> simp

@[simp] theorem State.side_fnSwitch (s : State) (b : Nat) : (s.fnSwitch b).side = s.side := by
  simp only [State.fnSwitch]; split <;> simp

/-! ### Draft and the links -/

@[simp] theorem State.side_custodyDone (s : State) (c : Nat × Nat) : (s.custodyDone c).side = s.side := rfl

@[simp] theorem State.side_inputsOut (s : State) (n : Nat) : (s.inputsOut n).side = s.side := by
  unfold State.inputsOut; split <;> simp

@[simp] theorem State.side_endFrames (s : State) (fs : List TxFrame) : (s.endFrames fs).side = s.side := by
  unfold State.endFrames
  rw [State.side_inputsOut, foldl_side]; intros; simp

@[simp] theorem State.side_countShed (s : State) (p c n : Nat) : (s.countShed p c n).side = s.side := by
  simp [State.countShed, State.fadd]

@[simp] theorem State.side_satOffer (s : State) (p : Nat) (fs : List TxFrame) : (s.satOffer p fs).side = s.side := by
  unfold State.satOffer; split <;> simp

@[simp] theorem State.side_enqueue (s : State) (p c : Nat) (fs : List TxFrame) : (s.enqueue p c fs).side = s.side := by
  simp [State.enqueue]

theorem State.side_shedOne {s t : State} {p c : Nat} (h : s.shedOne p c = some t) : t.side = s.side := by
  unfold State.shedOne at h
  split at h
  · cases h
  · simp only [Option.some.injEq] at h; subst h; simp

theorem State.side_makeRoom (fuel : Nat) (s : State) (p c n : Nat) : (State.makeRoom fuel s p c n).side = s.side := by
  induction fuel generalizing s with
  | zero => rfl
  | succ k ih =>
    unfold State.makeRoom
    split
    · rfl
    · split
      · rename_i h
        obtain ⟨x, -, hx⟩ := List.exists_of_findSome?_eq_some h
        rw [ih, State.side_shedOne hx]
      · rfl

@[simp] theorem State.side_dropAtDraft (s : State) (p c r : Nat) (fs : List TxFrame) : (s.dropAtDraft p c r fs).side = s.side := by
  simp [State.dropAtDraft]

@[simp] theorem State.side_sendFrames (s : State) (p c : Nat) (fs : List TxFrame) : (s.sendFrames p c fs).side = s.side := by
  simp only [State.sendFrames]
  split
  · simp
  · split
    · split <;> simp [State.bump, State.fadd]
    · split <;> simp [State.side_makeRoom]

@[simp] theorem State.side_sendN (s : State) (p typ tc : Nat) (d : Hank) (r : Bool) (w : List W64) (c : List (Nat × Nat)) (i : Nat) :
    (s.sendN p typ tc d r w c i).side = s.side := by
  simp only [State.sendN, State.side_sendFrames]; rfl

@[simp] theorem State.side_send (s : State) (p typ tc : Nat) (d : Hank) (r : Bool) (w : List W64) (c : List (Nat × Nat)) :
    (s.send p typ tc d r w c).side = s.side := by simp [State.send]

@[simp] theorem State.side_sendUpN (s : State) (typ tc : Nat) (d : Hank) (r : Bool) (w : List W64) (c : List (Nat × Nat)) (i : Nat) :
    (s.sendUpN typ tc d r w c i).side = s.side := by
  simp only [State.sendUpN]
  split
  · simp
  · split
    · simp
    · split <;> simp

@[simp] theorem State.side_sendUp (s : State) (typ tc : Nat) (d : Hank) (r : Bool) (w : List W64) (c : List (Nat × Nat)) :
    (s.sendUp typ tc d r w c).side = s.side := by simp [State.sendUp]

@[simp] theorem State.side_modCutPort (s : State) (p : Nat) (f : CutPort → CutPort) : (s.modCutPort p f).side = s.side := by
  unfold State.modCutPort; split <;> rfl

@[simp] theorem State.side_auditLink (s : State) (p : Nat) : (s.auditLink p).side = s.side := by
  simp only [State.auditLink]
  split
  · rfl
  · split
    · rfl
    · split
      · rfl
      · split
        · rfl
        · split <;> simp

@[simp] theorem State.side_cutLost (s : State) (p : Nat) : (s.cutLost p).side = s.side := by simp [State.cutLost]

@[simp] theorem State.side_cutFrame (s : State) (p ct : Nat) : (s.cutFrame p ct).side = s.side := by
  simp only [State.cutFrame]
  split
  · rfl
  · split
    · split <;> simp
    · rfl

@[simp] theorem State.side_showUp (s : State) (p : Nat) (v : Bool) : (s.showUp p v).side = s.side := by
  unfold State.showUp; split <;> simp

theorem State.side_dropCredits (s : State) (p : Nat) (h : p < 64) : (s.dropCredits p).side = s.side := by
  simp only [State.dropCredits]
  split <;> simp [State.side_fset_STR_PCRED_BE, State.side_fset_STR_PCRED_RES, h]

theorem State.side_leaveUp (s : State) (p st : Nat) (h : p < 64) : (s.leaveUp p st).side = s.side := by
  simp only [State.leaveUp]
  rw [State.side_fset_STR_PSTAT_RESERVABLE _ _ _ h, State.side_fset_STR_PSTAT_ADMITTED _ _ _ h, State.side_showUp,
    State.side_fset_STR_PSTAT_STATE _ _ _ h, State.side_modPort, State.side_dropCredits _ _ h]
  split <;> simp

@[simp] theorem State.side_sendAttach (s : State) (p : Nat) : (s.sendAttach p).side = s.side := by
  have := State.side_send s p 0x06 7 0 false [BitVec.ofNat 64 (s.self.toNat + b2n (p == s.primaryUp) * 2 ^ 48)] []
  rw [← this]; rfl

@[simp] theorem State.side_noParent (s : State) : s.noParent.side = s.side := by
  have := State.side_fset_STR_HOMING_CUR_PARENT s 2
  rw [← this]; rfl

theorem State.side_loseParent (s : State) (p : Nat) (h : p < 64) : (s.loseParent p).side = s.side := by
  have h2 : ∀ t : State, ({ t with str := { t.str with lostPort := some p } } : State).side = t.side := fun _ => rfl
  have h1 : ((s.bump Reg.STR_UPSTAT_LOSSES).fset (Reg.STR_PSTAT_HOMED.at p) 0).side = s.side := by
    rw [State.side_fset_STR_PSTAT_HOMED _ _ _ h]; simp [State.bump, State.fadd]
  simp only [State.loseParent]
  split
  · rw [State.side_noParent, h2, h1]
  · split
    · split
      · rw [State.side_sendAttach, h2, h1]
      · rw [State.side_noParent, h2, h1]
    · rw [State.side_noParent, h2, h1]

@[simp] theorem State.side_attachLost (s : State) (p : Nat) : (s.attachLost p).side = s.side := by
  have h2 : ∀ t : State, ({ t with str := { t.str with homing := .settled } } : State).side = t.side := fun _ => rfl
  simp only [State.attachLost]
  split
  · split
    · rw [State.side_sendAttach, h2, State.side_noParent]
    · rw [h2, State.side_noParent]
  · rw [h2, State.side_noParent]

@[simp] theorem State.side_takeover (s : State) : s.takeover.side = s.side := by
  have h2 : ∀ t : State, ({ t with whl := { t.whl with noStep := true } } : State).side = t.side := fun _ => rfl
  simp only [State.takeover]
  split
  · rw [h2]; simp [State.fadd]
  · rfl

@[simp] theorem State.side_loseChild (s : State) (p : Nat) : (s.loseChild p).side = s.side := by
  unfold State.loseChild; split <;> simp

theorem State.side_linkDown (s : State) (p st : Nat) (h : p < 64) : (s.linkDown p st).side = s.side := by
  have h2 : ∀ t : State, ({ t with str := { t.str with peerActive := false } } : State).side = t.side := fun _ => rfl
  have h1 : ((s.leaveUp p st).cutLost p).side = s.side := by rw [State.side_cutLost, State.side_leaveUp _ _ _ h]
  simp only [State.linkDown]
  split
  · exact h1
  · split
    · rw [State.side_takeover, h2, h1]
    · split
      · split
        · rw [State.side_loseParent _ _ h, h1]
        · split
          · split
            · rw [State.side_attachLost, h1]
            · exact h1
          · exact h1
      · rw [State.side_loseChild, h1]

/-! ### The log, the dump and the trace buffer -/

@[simp] theorem State.side_logLost (s : State) : s.logLost.side = s.side := by simp [State.logLost, State.bump, State.fadd]

@[simp] theorem State.side_logEnter (s : State) (r : Rec × Rec) : (s.logEnter r).side = s.side := by
  simp only [State.logEnter]
  repeat' split
  all_goals first | rfl | (rw [State.side_logLost]; rfl) | simp

@[simp] theorem State.side_logAdd (s : State) (t ft : Nat) (r : Rec) : (s.logAdd t ft r).side = s.side := by
  simp only [State.logAdd]
  have h := State.side_led s 0x10 0 .inn 1
  repeat' split
  · rw [← h]; rfl
  · simp
  · simp
  · rw [State.side_logEnter, ← h]; rfl

@[simp] theorem State.side_dumpStart (s : State) (m p : Nat) (a : Bool) (c : Option Running) : (s.dumpStart m p a c).side = s.side := rfl

@[simp] theorem State.side_putPacket (s : State) (ws : List W64) : (s.putPacket ws).side = s.side := by
  simp only [State.putPacket, State.side_fset_TRC_WRCNT_COUNT]; rfl

theorem State.side_dropFrozen (s : State) (i n : Nat) (h : i < 64) : (s.dropFrozen i n).side = s.side := by
  unfold State.dropFrozen
  split
  · rfl
  · unfold State.fadd; rw [State.side_fset_TRC_SRCSTAT_DROPPED _ _ _ h, State.side_ledDrop]

@[simp] theorem State.side_traceFreeze (s : State) : s.traceFreeze.side = s.side := by
  unfold State.traceFreeze
  extract_lets wr s1 old s2
  have h1 : s1.side = s.side := by
    refine foldl_side _ _ _ fun s i hi => ?_
    have h1 : (if s.srcEnabled i then s.emit (.pin (.traceEnable i) false) else s).side = s.side := by split <;> simp
    simp only
    split
    · exact h1
    · rw [State.side_setTrSrc, State.side_dropFrozen _ _ _ (by have := List.mem_range.1 hi; omega), h1]
  have h2 : s2.side = s.side := by
    show (State.fset _ _ _).side = _
    rw [State.side_fset_TRC_STATUS_STATE, State.side_fset_TRC_STATUS_VALID, State.side_fset_TRC_OLDCNT_COUNT, h1]
  split
  · split
    · have h4 : ∀ (t : State) (a b : Nat), ({ t.fset Reg.TRC_DRAINCNT_COUNT 0 with
          trc := { t.trc with autoDue := true, segPos := a, segFt := b } } : State).side = (t.fset Reg.TRC_DRAINCNT_COUNT 0).side := by
        intro t a b
        have : t.trc = (t.fset Reg.TRC_DRAINCNT_COUNT 0).trc := (State.fset_trc ..).symm
        rw [this]; rfl
      exact (h4 s2 old s.now).trans ((State.side_fset_TRC_DRAINCNT_COUNT s2 0).trans h2)
    · exact h2
  · exact h2

@[simp] theorem State.side_checkTarget (s : State) : s.checkTarget.side = s.side := by
  unfold State.checkTarget
  repeat' split
  all_goals simp

@[simp] theorem State.side_traceTrigger (s : State) (c a ft : Nat) : (s.traceTrigger c a ft).side = s.side := by
  simp only [State.traceTrigger]
  split
  · rfl
  · split <;> simp [State.bump, State.fadd]

/-! ### Snag -/

@[simp] theorem State.side_irq (s : State) (a b : Nat) : (s.irq a b).side = s.side := by unfold State.irq; split <;> simp
@[simp] theorem State.side_faultIrq (s : State) : s.faultIrq.side = s.side := by simp [State.faultIrq]

@[simp] theorem State.side_fqPush (s : State) (r : Rec) (a : Bool) : (s.fqPush r a).side = s.side := by
  have h2 : ∀ (t : State) (l : List Rec), ({ t with snag := { t.snag with fq := l } } : State).side = t.side := fun _ _ => rfl
  simp only [State.fqPush]
  repeat' split
  all_goals simp [State.bump, State.fadd, h2]

@[simp] theorem State.side_nextFaultSeq (s : State) : s.nextFaultSeq.side = s.side := rfl

@[simp] theorem State.side_advise (s : State) (c : Nat) (h : Hank) (i : Nat) (b : Bool) : (s.advise c h i b).side = s.side := by
  simp only [State.advise]
  split <;> simp

@[simp] theorem State.side_setFout (s : State) (n : Nat) (v : Bool) : (s.setFout n v).side = s.side := by simp [State.setFout]

@[simp] theorem State.side_assertOutputs (s : State) (u : Nat) (v : Bool) : (s.assertOutputs u v).side = s.side := by
  unfold State.assertOutputs
  refine foldl_side _ _ _ fun s n _ => ?_
  split <;> simp

@[simp] theorem State.side_fenceUnit (s : State) (u : Nat) : (s.fenceUnit u).side = s.side := by
  have h0 : ∀ t : State, ({ t with snag := { t.snag with unitFence := Tab.set t.snag.unitFence u () } } : State).side = t.side := fun _ => rfl
  simp only [State.fenceUnit]
  split
  · simp [State.bump, State.fadd]
  · split
    · rfl
    · split
      · rw [State.side_assertOutputs, h0]
      · split
        · rename_i hp
          split
          · rw [State.side_setFout, State.side_emit, State.side_linkDown _ _ _ (by omega), h0]
          · rw [State.side_emit, State.side_linkDown _ _ _ (by omega), h0]
        · split
          · rename_i hp
            rw [State.side_fset_SPN_STAT_FENCED _ _ _ (by omega), h0]
          · rw [h0]

@[simp] theorem State.side_purgeEgress (s : State) (p : Nat) : (s.purgeEgress p).side = s.side := by
  unfold State.purgeEgress
  refine foldl_side _ _ _ fun s c _ => ?_
  simp only
  split <;> simp

theorem State.partPorts_lt (s : State) (n p : Nat) (h : p ∈ s.partPorts n) : p < 64 := by
  have := List.mem_range.1 (List.mem_of_mem_filter h); omega

@[simp] theorem State.side_fencePart (s : State) (n : Nat) : (s.fencePart n).side = s.side := by
  simp only [State.fencePart]
  split
  · simp [State.bump, State.fadd]
  · split
    · have h0 : ∀ (t : State) (l : List Adopt) (x : Tab Nat),
        ({ t with str := { t.str with adopt := l }, snag := { t.snag with partIdle := x } } : State).side = t.side := fun _ _ _ => rfl
      rw [State.side_fset_SNG_FSTAT_PARTS, h0, foldl_side, foldl_side, foldl_side]
      · intro t p _; split <;> simp
      · intro t p hp; rw [State.side_fset_STR_ROUTE_ACTIVE _ _ _ (s.partPorts_lt n p hp), State.side_purgeEgress]
      · intro t p hp; rw [State.side_fset_STR_PSTAT_HOMED _ _ _ (s.partPorts_lt n p hp)]
    · split
      · rfl
      · rw [foldl_side, State.side_fset_SNG_FSTAT_PARTS]
        intros; simp

@[simp] theorem State.side_stopBlock (s : State) : s.stopBlock.side = s.side := by
  simp only [State.stopBlock]
  split
  · rfl
  · have h0 : ∀ (t : State) (x : Option Nat), ({ t with snag := { t.snag with stopFt := x, aliveLevel := false } } : State).side = t.side := fun _ _ => rfl
    rw [h0]; simp

@[simp] theorem State.side_applyLevel (s : State) (l : Nat) (h : Hank) : (s.applyLevel l h).side = s.side := by
  unfold State.applyLevel; split <;> simp

@[simp] theorem State.side_takeFault (s : State) (ft c st : Nat) (h : Hank) (i : W64) (n : Bool) : (s.takeFault ft c st h i n).side = s.side := by
  unfold State.takeFault
  extract_lets a ub unack last e how r s1 src s2 s3 s4 s5 s6 s7
  have h0 : a.side = s.side := State.side_fnSwitch s 4
  have h1 : s1.side = s.side := by
    show (State.fset _ _ _).side = _
    rw [State.side_fset_SNG_STATUS_RAISED, State.side_fset_SNG_UNACK_CLASS, h0]
  have h2 : s2.side = s.side := h1
  have h3 : s3.side = s.side := by
    show (State.nextFaultSeq _).side = _
    rw [State.side_nextFaultSeq, State.side_fqPush, State.side_fset_SNG_STATUS_LEVEL, h2]
  have h4 : s4.side = s.side := by
    show (ite _ _ _ : State).side = _
    split
    · rw [State.side_logAdd, h3]
    · exact h3
  have h5 : s5.side = s.side := by
    show (ite _ _ _ : State).side = _
    split
    · rw [State.side_sendUp, h4]
    · exact h4
  have h6 : s6.side = s.side := by
    show (ite _ _ _ : State).side = _
    split
    · rw [State.side_applyLevel, h5]
    · exact h5
  have h7 : s7.side = s.side := by
    show (ite _ _ _ : State).side = _
    split
    · rw [State.side_dumpStart, h6]
    · exact h6
  rw [State.side_traceTrigger, h7]

@[simp] theorem State.side_takeFence (s : State) (a b c : Nat) : (s.takeFence a b c).side = s.side := by
  simp only [State.takeFence]
  repeat' split
  all_goals simp

/-! ### Carrying out what a step owes -/

@[simp] theorem State.side_doWork (s : State) (w : Work) : (s.doWork w).side = s.side := by
  unfold State.doWork; split <;> simp

theorem State.side_settleF (n : Nat) (s : State) : (settleF n s).side = s.side := by
  induction n generalizing s with
  | zero => rfl
  | succ n ih =>
    unfold settleF
    split
    · rfl
    · rw [ih, State.side_doWork]; rfl

/-- No owed effect changes the side. -/
@[simp] theorem State.side_settle (s : State) : s.settle.side = s.side := State.side_settleF _ s

/-- A step that owes nothing is what its meaning says. -/
theorem State.settle_of_calm (s : State) (h : s.work = []) : s.settle = s := by
  unfold State.settle settleF
  simp [h, nextWork]

/-- Every meaning ends in a next state, with the build and the queue of before. -/
theorem act_next (s t : State) : ∃ u, act s t = .next u ∧ u.build = s.build ∧ u.pending = s.pending := ⟨_, rfl, rfl, rfl⟩

/-- The outcome of a meaning that owes nothing and leaves the build and the queue alone. -/
theorem act_of_calm (s t : State) (hw : t.work = []) (hb : t.build = s.build) (hp : t.pending = s.pending) : act s t = .next t := by
  unfold act
  rw [State.settle_of_calm t hw, ← hb, ← hp]

/-- What a meaning leaves in the parts that no owed effect touches. -/
theorem act_side (s t : State) (hb : t.build = s.build) (hp : t.pending = s.pending) : ∃ u, act s t = .next u ∧ u.side = t.side := by
  refine ⟨_, rfl, ?_⟩
  have h := State.side_settle t
  have h2 : ({ t.settle with build := s.build, pending := s.pending } : State).side = { t.settle.side with build := s.build, pending := s.pending } := rfl
  rw [h2, h, ← hb, ← hp]; rfl

end Sys2Proof.Machine
end

