-- ==== Sys2Proof/Laws/Output.lean ====
section
/-! SUPPORT. What left the block stays on record: no shared operation and no owed effect takes an emission back. -/

namespace Sys2Proof.Machine

variable {e : Emission} {s : State}

theorem foldl_out {β : Type} (l : List β) (f : State → β → State) (h : e ∈ s.out) (hf : ∀ s x, e ∈ s.out → e ∈ (f s x).out) :
    e ∈ (l.foldl f s).out := by
  induction l generalizing s with
  | nil => exact h
  | cons x l ih => exact ih (hf s x h)

theorem State.out_emit_self (s : State) (e : Emission) : e ∈ (s.emit e).out := List.mem_cons_self ..
@[simp] theorem State.out_led (k i : Nat) (c : LedCol) (n : Nat) (h : e ∈ s.out) : e ∈ (s.led k i c n).out := by
  simp only [State.led]; split <;> simpa
@[simp] theorem State.out_ledDrop (k i r n : Nat) (h : e ∈ s.out) : e ∈ (s.ledDrop k i r n).out := by
  unfold State.ledDrop
  split
  · exact State.out_led _ _ _ _ h
  · exact h
@[simp] theorem State.out_fnSwitch (b : Nat) (h : e ∈ s.out) : e ∈ (s.fnSwitch b).out := by
  simp only [State.fnSwitch]; split <;> simpa
theorem State.modPort_out (s : State) (p : Nat) (f : Port → Port) : (s.modPort p f).out = s.out := rfl
theorem State.custodyDone_out (s : State) (c : Nat × Nat) : (s.custodyDone c).out = s.out := rfl
theorem State.modSat_out (s : State) (p : Nat) (f : SatPort → SatPort) : (s.modSat p f).out = s.out := rfl
@[simp] theorem State.out_inputsOut (n : Nat) (h : e ∈ s.out) : e ∈ (s.inputsOut n).out := by
  unfold State.inputsOut; split <;> simp [h]
@[simp] theorem State.out_endFrames (fs : List TxFrame) (h : e ∈ s.out) : e ∈ (s.endFrames fs).out :=
  State.out_inputsOut _ (foldl_out _ _ h fun _ _ h => h)
@[simp] theorem State.out_countShed (p c n : Nat) (h : e ∈ s.out) : e ∈ (s.countShed p c n).out := by
  simp [State.countShed, State.modSat_out, h]
@[simp] theorem State.out_satOffer (p : Nat) (fs : List TxFrame) (h : e ∈ s.out) : e ∈ (s.satOffer p fs).out := by
  unfold State.satOffer; split <;> simp [State.modSat_out, h]
@[simp] theorem State.out_enqueue (p c : Nat) (fs : List TxFrame) (h : e ∈ s.out) : e ∈ (s.enqueue p c fs).out :=
  State.out_led _ _ _ _ (State.out_led (s := s.modPort p _) _ _ _ _ h)
theorem State.out_shedOne {t : State} {p c : Nat} (h : e ∈ s.out) (ht : s.shedOne p c = some t) : e ∈ t.out := by
  unfold State.shedOne at ht
  split at ht
  · cases ht
  · rename_i gone rest _
    simp only [Option.some.injEq] at ht; subst ht
    exact State.out_endFrames _ (State.out_countShed _ _ _
      (State.out_led _ _ _ _ (State.out_ledDrop (s := s.modPort p fun x => { x with egress := listSet x.egress c rest }) _ _ _ _ h)))
@[simp] theorem State.out_makeRoom (fuel p c n : Nat) (h : e ∈ s.out) : e ∈ (State.makeRoom fuel s p c n).out := by
  induction fuel generalizing s with
  | zero => exact h
  | succ k ih =>
    unfold State.makeRoom
    split
    · exact h
    · split
      · rename_i hs
        obtain ⟨x, -, hx⟩ := List.exists_of_findSome?_eq_some hs
        exact ih (State.out_shedOne h hx)
      · exact h
@[simp] theorem State.out_dropAtDraft (p c r : Nat) (fs : List TxFrame) (h : e ∈ s.out) : e ∈ (s.dropAtDraft p c r fs).out :=
  State.out_endFrames _ (State.out_ledDrop _ _ _ _ (State.out_led _ _ _ _ h))
@[simp] theorem State.out_sendFrames (p c : Nat) (fs : List TxFrame) (h : e ∈ s.out) : e ∈ (s.sendFrames p c fs).out := by
  simp only [State.sendFrames]
  repeat' split
  · exact State.out_dropAtDraft _ _ _ _ h
  · exact State.out_enqueue _ _ _ h
  · simpa [State.modPort_out]
  · exact State.out_enqueue _ _ _ (State.out_makeRoom _ _ _ _ (State.out_satOffer _ _ h))
  · exact State.out_countShed _ _ _ (State.out_dropAtDraft _ _ _ _ (State.out_makeRoom _ _ _ _ (State.out_satOffer _ _ h)))
@[simp] theorem State.out_sendN (p typ tc : Nat) (d : Hank) (r : Bool) (w : List W64) (c : List (Nat × Nat)) (i : Nat) (h : e ∈ s.out) :
    e ∈ (s.sendN p typ tc d r w c i).out := State.out_sendFrames _ _ _ h
@[simp] theorem State.out_send (p typ tc : Nat) (d : Hank) (r : Bool) (w : List W64) (c : List (Nat × Nat)) (h : e ∈ s.out) :
    e ∈ (s.send p typ tc d r w c).out := State.out_sendN _ _ _ _ _ _ _ _ h
@[simp] theorem State.out_sendUpN (typ tc : Nat) (d : Hank) (r : Bool) (w : List W64) (c : List (Nat × Nat)) (i : Nat) (h : e ∈ s.out) :
    e ∈ (s.sendUpN typ tc d r w c i).out := by
  simp only [State.sendUpN]
  repeat' split
  all_goals simp [h]
@[simp] theorem State.out_sendUp (typ tc : Nat) (d : Hank) (r : Bool) (w : List W64) (c : List (Nat × Nat)) (h : e ∈ s.out) :
    e ∈ (s.sendUp typ tc d r w c).out := State.out_sendUpN _ _ _ _ _ _ _ h
theorem State.modCutPort_out (s : State) (p : Nat) (f : CutPort → CutPort) : (s.modCutPort p f).out = s.out := by
  unfold State.modCutPort; split <;> rfl
theorem State.auditLink_out (s : State) (p : Nat) : (s.auditLink p).out = s.out := by
  simp only [State.auditLink]
  repeat' split
  all_goals simp [State.modCutPort_out]
theorem State.cutLost_out (s : State) (p : Nat) : (s.cutLost p).out = s.out := by
  simp [State.cutLost, State.auditLink_out, State.modCutPort_out]
theorem State.showUp_out (s : State) (p : Nat) (v : Bool) : (s.showUp p v).out = s.out := by
  unfold State.showUp; split <;> simp
@[simp] theorem State.out_dropCredits (p : Nat) (h : e ∈ s.out) : e ∈ (s.dropCredits p).out := by
  simp only [State.dropCredits]; split <;> simp [h]
@[simp] theorem State.out_leaveUp (p st : Nat) (h : e ∈ s.out) : e ∈ (s.leaveUp p st).out := by
  simp only [State.leaveUp, State.fset_out, State.showUp_out, State.modPort_out]
  apply State.out_dropCredits
  split <;> simp [h]
@[simp] theorem State.out_sendAttach (p : Nat) (h : e ∈ s.out) : e ∈ (s.sendAttach p).out := State.out_send (s := s) _ _ _ _ _ _ _ h
theorem State.noParent_out (s : State) : s.noParent.out = s.out := State.fset_out ..
@[simp] theorem State.out_loseParent (p : Nat) (h : e ∈ s.out) : e ∈ (s.loseParent p).out := by
  simp only [State.loseParent]
  repeat' split
  all_goals first
    | (rw [State.noParent_out]; simpa)
    | (apply State.out_sendAttach; simpa)
@[simp] theorem State.out_attachLost (p : Nat) (h : e ∈ s.out) : e ∈ (s.attachLost p).out := by
  have h1 : e ∈ s.noParent.out := by rw [State.noParent_out]; exact h
  simp only [State.attachLost]
  repeat' split
  all_goals first
    | exact h1
    | (apply State.out_sendAttach; exact h1)
theorem State.takeover_out (s : State) : s.takeover.out = s.out := by
  simp only [State.takeover]; split <;> simp
theorem State.loseChild_out (s : State) (p : Nat) : (s.loseChild p).out = s.out := by
  unfold State.loseChild; split <;> simp
@[simp] theorem State.out_linkDown (p st : Nat) (h : e ∈ s.out) : e ∈ (s.linkDown p st).out := by
  have h1 : e ∈ ((s.leaveUp p st).cutLost p).out := by rw [State.cutLost_out]; exact State.out_leaveUp _ _ h
  simp only [State.linkDown]
  repeat' split
  all_goals first
    | exact h1
    | (rw [State.takeover_out]; exact h1)
    | exact State.out_loseParent _ h1
    | exact State.out_attachLost _ h1
    | (rw [State.loseChild_out]; exact h1)
@[simp] theorem State.out_logLost (h : e ∈ s.out) : e ∈ s.logLost.out := by simp [State.logLost, h]
@[simp] theorem State.out_logEnter (r : Rec × Rec) (h : e ∈ s.out) : e ∈ (s.logEnter r).out := by
  simp only [State.logEnter]
  repeat' split
  all_goals first
    | exact h
    | exact State.out_logLost h
@[simp] theorem State.out_logAdd (t ft : Nat) (r : Rec) (h : e ∈ s.out) : e ∈ (s.logAdd t ft r).out := by
  have h1 := State.out_led 0x10 0 .inn 1 h
  simp only [State.logAdd]
  repeat' split
  · exact h1
  · exact State.out_logLost h1
  · exact State.out_logLost h1
  · exact State.out_logEnter _ h1
theorem State.putPacket_out (s : State) (ws : List W64) : (s.putPacket ws).out = s.out := by simp [State.putPacket]
@[simp] theorem State.out_dropFrozen (i n : Nat) (h : e ∈ s.out) : e ∈ (s.dropFrozen i n).out := by
  unfold State.dropFrozen; split <;> simp [h]
@[simp] theorem State.out_traceFreeze (h : e ∈ s.out) : e ∈ s.traceFreeze.out := by
  unfold State.traceFreeze
  extract_lets wr s1 old s2
  have h1 : e ∈ s1.out := by
    refine foldl_out _ _ h fun s i h => ?_
    have h1 : e ∈ (if s.srcEnabled i then s.emit (.pin (.traceEnable i) false) else s).out := by split <;> simp [h]
    simp only
    split
    · exact h1
    · exact State.out_dropFrozen _ _ h1
  have h2 : e ∈ s2.out := by
    show e ∈ (State.fset _ _ _).out
    simpa using h1
  clear_value s2
  have h3 : e ∈ (s2.fset Reg.TRC_DRAINCNT_COUNT 0).out := by rw [State.fset_out]; exact h2
  split
  · split
    · exact h3
    · exact h2
  · exact h2
@[simp] theorem State.out_checkTarget (h : e ∈ s.out) : e ∈ s.checkTarget.out := by
  unfold State.checkTarget
  repeat' split
  all_goals simp [h]
@[simp] theorem State.out_traceTrigger (c a ft : Nat) (h : e ∈ s.out) : e ∈ (s.traceTrigger c a ft).out := by
  simp only [State.traceTrigger]
  repeat' split
  all_goals first
    | exact h
    | (apply State.out_checkTarget; simpa [State.putPacket_out])
@[simp] theorem State.out_irq (a b : Nat) (h : e ∈ s.out) : e ∈ (s.irq a b).out := by unfold State.irq; split <;> simp [h]
@[simp] theorem State.out_fqPush (r : Rec) (a : Bool) (h : e ∈ s.out) : e ∈ (s.fqPush r a).out := by
  have h1 := State.out_led 5 64 .inn 1 h
  simp only [State.fqPush, State.faultIrq]
  generalize s.led 5 64 .inn 1 = t at h1
  have h2 : e ∈ ((t.ledDrop 5 64 0xF 1).bump Reg.SNG_FQSTAT_LOST).out := by
    rw [State.bump_out]; exact State.out_ledDrop _ _ _ _ h1
  split
  · have h3 : e ∈ ({ t with snag := { t.snag with fq := s.snag.fq ++ [r] } } : State).out := h1
    split
    · exact State.out_irq _ _ h3
    · exact h3
  · split
    · exact State.out_irq _ _ h2
    · exact h2
@[simp] theorem State.out_assertOutputs (u : Nat) (v : Bool) (h : e ∈ s.out) : e ∈ (s.assertOutputs u v).out := by
  refine foldl_out _ _ h fun s n h => ?_
  split <;> simp [State.setFout, h]
@[simp] theorem State.out_fenceUnit (u : Nat) (h : e ∈ s.out) : e ∈ (s.fenceUnit u).out := by
  simp only [State.fenceUnit]
  repeat' split
  all_goals first
    | exact h
    | exact State.out_assertOutputs _ _ h
    | (simp only [State.setFout, State.fset_out, State.emit_out]; exact List.mem_cons_of_mem _ (State.out_linkDown _ _ h))
@[simp] theorem State.out_purgeEgress (p : Nat) (h : e ∈ s.out) : e ∈ (s.purgeEgress p).out := by
  refine foldl_out _ _ h fun s c h => ?_
  simp only
  split
  · exact h
  · exact State.out_endFrames _ (State.out_ledDrop _ _ _ _ (State.out_ledDrop (s := s.modPort p _) _ _ _ _ h))
@[simp] theorem State.out_fencePart (n : Nat) (h : e ∈ s.out) : e ∈ (s.fencePart n).out := by
  simp only [State.fencePart]
  repeat' split
  · simpa
  · simp only [State.fset_out]
    refine foldl_out _ _ (foldl_out _ _ (foldl_out _ _ h ?_) ?_) ?_
    · intro s p h; split <;> simp [h]
    · intro s p h; simp [h]
    · intro s p h; simpa
  · exact h
  · exact foldl_out _ _ (by simpa) fun s u h => State.out_assertOutputs _ _ h
@[simp] theorem State.out_stopBlock (h : e ∈ s.out) : e ∈ s.stopBlock.out := by
  simp only [State.stopBlock]; split <;> simp [h]
@[simp] theorem State.out_applyLevel (l : Nat) (x : Hank) (h : e ∈ s.out) : e ∈ (s.applyLevel l x).out := by
  unfold State.applyLevel; split <;> simp [h]
@[simp] theorem State.out_takeFault (ft c st : Nat) (x : Hank) (i : W64) (n : Bool) (h : e ∈ s.out) : e ∈ (s.takeFault ft c st x i n).out := by
  unfold State.takeFault
  extract_lets a ub unack last k how r s1 src s2 s3 s4 s5 s6 s7
  have h0 : e ∈ a.out := State.out_fnSwitch _ h
  have h2 : e ∈ s2.out := by
    show e ∈ (State.bump _ _).out
    simpa
  have h3 : e ∈ s3.out := by
    show e ∈ (State.fqPush _ _ _).out
    exact State.out_fqPush _ _ (by simpa)
  have h4 : e ∈ s4.out := by
    show e ∈ (ite _ _ _ : State).out
    split <;> simp [h3]
  have h5 : e ∈ s5.out := by
    show e ∈ (ite _ _ _ : State).out
    split <;> simp [h4]
  have h6 : e ∈ s6.out := by
    show e ∈ (ite _ _ _ : State).out
    split <;> simp [h5]
  have h7 : e ∈ s7.out := by
    show e ∈ (ite _ _ _ : State).out
    split
    · exact h6
    · exact h6
  exact State.out_traceTrigger _ _ _ h7
@[simp] theorem State.out_takeFence (a b c : Nat) (h : e ∈ s.out) : e ∈ (s.takeFence a b c).out := by
  simp only [State.takeFence]
  repeat' split
  all_goals simp [h]
@[simp] theorem State.out_doWork (w : Work) (h : e ∈ s.out) : e ∈ (s.doWork w).out := by
  unfold State.doWork; split <;> simp [h]
theorem State.out_settleF (n : Nat) (h : e ∈ s.out) : e ∈ (settleF n s).out := by
  induction n generalizing s with
  | zero => exact h
  | succ n ih =>
    unfold settleF
    split
    · exact h
    · exact ih (State.out_doWork _ h)
/-- Owed effects take no emission back. -/
@[simp] theorem State.out_settle (h : e ∈ s.out) : e ∈ s.settle.out := State.out_settleF _ h

/-- The outcome of a meaning: a next state with the side and the emissions of what the meaning says. -/
theorem act_out (s t : State) (hb : t.build = s.build) (hp : t.pending = s.pending) :
    ∃ u, act s t = .next u ∧ u.side = t.side ∧ ∀ e ∈ t.out, e ∈ u.out := by
  obtain ⟨u, h1, h2⟩ := act_side s t hb hp
  refine ⟨u, h1, h2, fun e he => ?_⟩
  simp only [act, Host.Outcome.next.injEq] at h1
  subst h1
  exact State.out_settle he

end Sys2Proof.Machine
end

