-- ==== Sys2Proof/Laws/Commands.lean ====
section
/-! SUPPORT. Laws of commands: how a ready slice starts one, and what a completion writes. -/

namespace Sys2Proof.Machine

/-! ### Frames of the shared operations -/

@[simp] theorem State.slice_setSlice (s : State) (n : Nat) (x : Slice) : (s.setSlice n x).slice n = x := by
  simp [State.slice, Tab.getD]

theorem State.slice_congr {s t : State} (h : t.hif = s.hif) (n : Nat) : t.slice n = s.slice n := by
  unfold State.slice; rw [h]

@[simp] theorem State.slice_regSet (s : State) (k : Nat) (v : W32) (n : Nat) : (s.regSet k v).slice n = s.slice n := rfl
@[simp] theorem State.slice_fset (s : State) (f : RF) (v n : Nat) : (s.fset f v).slice n = s.slice n := State.slice_congr (by simp) n
@[simp] theorem State.slice_fadd (s : State) (f : RF) (v n : Nat) : (s.fadd f v).slice n = s.slice n := State.slice_congr (by simp) n
@[simp] theorem State.slice_bump (s : State) (f : RF) (n : Nat) : (s.bump f).slice n = s.slice n := State.slice_congr (by simp) n
@[simp] theorem State.slice_emit (s : State) (e : Emission) (n : Nat) : (s.emit e).slice n = s.slice n := rfl
@[simp] theorem State.slice_raise (s : State) (c l : Nat) (h : Hank) (i n : Nat) : (s.raise c l h i).slice n = s.slice n := rfl
@[simp] theorem State.slice_setSess (s : State) (k : Nat) (x : Sess) (n : Nat) : (s.setSess k x).slice n = s.slice n := rfl
@[simp] theorem State.slice_setModel (s : State) (k : Nat) (x : Model) (n : Nat) : (s.setModel k x).slice n = s.slice n := rfl

/-! ### Frames of a completion -/

/-- The state without the parts that fetching, completing and counting change. -/
def State.rest (s : State) : State := { s with regs := [], lea := {}, hif := {}, out := [], work := [] }

theorem State.pending_of_rest {s t : State} (h : t.rest = s.rest) : t.pending = s.pending :=
  (congrArg State.pending h : t.rest.pending = s.rest.pending)
theorem State.build_of_rest {s t : State} (h : t.rest = s.rest) : t.build = s.build :=
  (congrArg State.build h : t.rest.build = s.rest.build)
theorem State.imgRegs_of_rest {s t : State} (h : t.rest = s.rest) : t.imgRegs = s.imgRegs :=
  (congrArg State.imgRegs h : t.rest.imgRegs = s.rest.imgRegs)
theorem State.staged_of_rest {s t : State} (h : t.rest = s.rest) : t.staged = s.staged :=
  (congrArg State.staged h : t.rest.staged = s.rest.staged)
theorem State.whl_of_rest {s t : State} (h : t.rest = s.rest) : t.whl = s.whl :=
  (congrArg State.whl h : t.rest.whl = s.rest.whl)
theorem State.str_of_rest {s t : State} (h : t.rest = s.rest) : t.str = s.str :=
  (congrArg State.str h : t.rest.str = s.rest.str)
theorem State.snag_of_rest {s t : State} (h : t.rest = s.rest) : t.snag = s.snag :=
  (congrArg State.snag h : t.rest.snag = s.rest.snag)
theorem State.skn_of_rest {s t : State} (h : t.rest = s.rest) : t.skn = s.skn :=
  (congrArg State.skn h : t.rest.skn = s.rest.skn)
theorem State.boot_of_rest {s t : State} (h : t.rest = s.rest) : t.boot = s.boot :=
  (congrArg State.boot h : t.rest.boot = s.rest.boot)
theorem State.drf_of_rest {s t : State} (h : t.rest = s.rest) : t.drf = s.drf :=
  (congrArg State.drf h : t.rest.drf = s.rest.drf)
theorem State.trc_of_rest {s t : State} (h : t.rest = s.rest) : t.trc = s.trc :=
  (congrArg State.trc h : t.rest.trc = s.rest.trc)
theorem State.meter_of_rest {s t : State} (h : t.rest = s.rest) : t.meter = s.meter :=
  (congrArg State.meter h : t.rest.meter = s.rest.meter)
theorem State.reel_of_rest {s t : State} (h : t.rest = s.rest) : t.reel = s.reel :=
  (congrArg State.reel h : t.rest.reel = s.rest.reel)
theorem State.crd_of_rest {s t : State} (h : t.rest = s.rest) : t.crd = s.crd :=
  (congrArg State.crd h : t.rest.crd = s.rest.crd)
theorem State.dst_of_rest {s t : State} (h : t.rest = s.rest) : t.dst = s.dst :=
  (congrArg State.dst h : t.rest.dst = s.rest.dst)
theorem State.tws_of_rest {s t : State} (h : t.rest = s.rest) : t.tws = s.tws :=
  (congrArg State.tws h : t.rest.tws = s.rest.tws)
theorem State.ply_of_rest {s t : State} (h : t.rest = s.rest) : t.ply = s.ply :=
  (congrArg State.ply h : t.rest.ply = s.rest.ply)
theorem State.stp_of_rest {s t : State} (h : t.rest = s.rest) : t.stp = s.stp :=
  (congrArg State.stp h : t.rest.stp = s.rest.stp)
theorem State.tns_of_rest {s t : State} (h : t.rest = s.rest) : t.tns = s.tns :=
  (congrArg State.tns h : t.rest.tns = s.rest.tns)
theorem State.fresh_of_rest {s t : State} (h : t.rest = s.rest) : t.fresh = s.fresh :=
  (congrArg State.fresh h : t.rest.fresh = s.rest.fresh)

@[simp] theorem State.rest_regSet (s : State) (k : Nat) (v : W32) : (s.regSet k v).rest = s.rest := rfl
@[simp] theorem State.rest_fset (s : State) (f : RF) (v : Nat) : (s.fset f v).rest = s.rest := by unfold State.fset; split <;> rfl
@[simp] theorem State.rest_fadd (s : State) (f : RF) (v : Nat) : (s.fadd f v).rest = s.rest := State.rest_fset ..
@[simp] theorem State.rest_bump (s : State) (f : RF) : (s.bump f).rest = s.rest := State.rest_fadd ..
@[simp] theorem State.rest_emit (s : State) (e : Emission) : (s.emit e).rest = s.rest := rfl
@[simp] theorem State.rest_raise (s : State) (c l : Nat) (h : Hank) (i : Nat) : (s.raise c l h i).rest = s.rest := rfl
@[simp] theorem State.rest_askTrig (s : State) (a b c : Nat) : (s.askTrig a b c).rest = s.rest := rfl
@[simp] theorem State.rest_setSlice (s : State) (n : Nat) (x : Slice) : (s.setSlice n x).rest = s.rest := rfl
@[simp] theorem State.rest_setStaging (s : State) (m : List Host.Cell) : (s.setStaging m).rest = s.rest := rfl

@[simp] theorem State.rest_led (s : State) (k i : Nat) (c : LedCol) (n : Nat) : (s.led k i c n).rest = s.rest := by
  simp only [State.led]
  split
  · rw [State.rest_raise, State.rest_fset]; rfl
  · rfl
@[simp] theorem State.rest_ledDrop (s : State) (k i r n : Nat) : (s.ledDrop k i r n).rest = s.rest := by
  unfold State.ledDrop; split <;> simp
@[simp] theorem State.rest_checkQuiesced (s : State) (n : Nat) : (s.checkQuiesced n).rest = s.rest := by
  simp only [State.checkQuiesced]; split <;> simp
@[simp] theorem State.rest_complete (s : State) (r : Running) (st v se : Nat) : (s.complete r st v se).rest = s.rest := by
  simp only [State.complete]
  split
  · split
    · rfl
    · rw [State.rest_checkQuiesced]
      split
      · rw [State.rest_bump, State.rest_fset, State.rest_led]; split <;> simp
      · rw [State.rest_fset, State.rest_led]; split <;> simp
  · split
    · rw [State.rest_emit, State.rest_bump]; rfl
    · rfl
@[simp] theorem State.rest_completeOk (s : State) (r : Running) (v : Nat) : (s.completeOk r v).rest = s.rest := State.rest_complete ..
@[simp] theorem State.rest_fail (s : State) (r : Running) (st : Nat) : (s.fail r st).rest = s.rest := State.rest_complete ..
@[simp] theorem State.rest_countFetch (s : State) (n : Nat) : (s.countFetch n).rest = s.rest := by simp [State.countFetch]
@[simp] theorem State.rest_ringErr (s : State) (n c : Nat) : (s.ringErr n c).rest = s.rest := by simp [State.ringErr]
@[simp] theorem State.rest_irq (s : State) (a b : Nat) : (s.irq a b).rest = s.rest := by unfold State.irq; split <;> simp
@[simp] theorem State.rest_readOut (s : State) (p : PortId) (v : W32) : (s.readOut p v).rest = s.rest := by unfold State.readOut; split <;> simp

@[simp] theorem State.led_pending (s : State) (k i : Nat) (c : LedCol) (n : Nat) : (s.led k i c n).pending = s.pending := State.pending_of_rest (State.rest_led s k i c n)
@[simp] theorem State.led_build (s : State) (k i : Nat) (c : LedCol) (n : Nat) : (s.led k i c n).build = s.build := State.build_of_rest (State.rest_led s k i c n)
@[simp] theorem State.led_imgRegs (s : State) (k i : Nat) (c : LedCol) (n : Nat) : (s.led k i c n).imgRegs = s.imgRegs := State.imgRegs_of_rest (State.rest_led s k i c n)
@[simp] theorem State.led_staged (s : State) (k i : Nat) (c : LedCol) (n : Nat) : (s.led k i c n).staged = s.staged := State.staged_of_rest (State.rest_led s k i c n)
@[simp] theorem State.led_whl (s : State) (k i : Nat) (c : LedCol) (n : Nat) : (s.led k i c n).whl = s.whl := State.whl_of_rest (State.rest_led s k i c n)
@[simp] theorem State.led_str (s : State) (k i : Nat) (c : LedCol) (n : Nat) : (s.led k i c n).str = s.str := State.str_of_rest (State.rest_led s k i c n)
@[simp] theorem State.led_snag (s : State) (k i : Nat) (c : LedCol) (n : Nat) : (s.led k i c n).snag = s.snag := State.snag_of_rest (State.rest_led s k i c n)
@[simp] theorem State.led_skn (s : State) (k i : Nat) (c : LedCol) (n : Nat) : (s.led k i c n).skn = s.skn := State.skn_of_rest (State.rest_led s k i c n)
@[simp] theorem State.led_boot (s : State) (k i : Nat) (c : LedCol) (n : Nat) : (s.led k i c n).boot = s.boot := State.boot_of_rest (State.rest_led s k i c n)
@[simp] theorem State.led_drf (s : State) (k i : Nat) (c : LedCol) (n : Nat) : (s.led k i c n).drf = s.drf := State.drf_of_rest (State.rest_led s k i c n)
@[simp] theorem State.led_trc (s : State) (k i : Nat) (c : LedCol) (n : Nat) : (s.led k i c n).trc = s.trc := State.trc_of_rest (State.rest_led s k i c n)
@[simp] theorem State.led_meter (s : State) (k i : Nat) (c : LedCol) (n : Nat) : (s.led k i c n).meter = s.meter := State.meter_of_rest (State.rest_led s k i c n)
@[simp] theorem State.led_reel (s : State) (k i : Nat) (c : LedCol) (n : Nat) : (s.led k i c n).reel = s.reel := State.reel_of_rest (State.rest_led s k i c n)
@[simp] theorem State.led_crd (s : State) (k i : Nat) (c : LedCol) (n : Nat) : (s.led k i c n).crd = s.crd := State.crd_of_rest (State.rest_led s k i c n)
@[simp] theorem State.led_dst (s : State) (k i : Nat) (c : LedCol) (n : Nat) : (s.led k i c n).dst = s.dst := State.dst_of_rest (State.rest_led s k i c n)
@[simp] theorem State.led_tws (s : State) (k i : Nat) (c : LedCol) (n : Nat) : (s.led k i c n).tws = s.tws := State.tws_of_rest (State.rest_led s k i c n)
@[simp] theorem State.led_ply (s : State) (k i : Nat) (c : LedCol) (n : Nat) : (s.led k i c n).ply = s.ply := State.ply_of_rest (State.rest_led s k i c n)
@[simp] theorem State.led_stp (s : State) (k i : Nat) (c : LedCol) (n : Nat) : (s.led k i c n).stp = s.stp := State.stp_of_rest (State.rest_led s k i c n)
@[simp] theorem State.led_tns (s : State) (k i : Nat) (c : LedCol) (n : Nat) : (s.led k i c n).tns = s.tns := State.tns_of_rest (State.rest_led s k i c n)
@[simp] theorem State.led_fresh (s : State) (k i : Nat) (c : LedCol) (n : Nat) : (s.led k i c n).fresh = s.fresh := State.fresh_of_rest (State.rest_led s k i c n)

@[simp] theorem State.led_hif (s : State) (k i : Nat) (c : LedCol) (n : Nat) : (s.led k i c n).hif = s.hif := by
  simp only [State.led]; split <;> simp
@[simp] theorem State.ledDrop_pending (s : State) (k i r n : Nat) : (s.ledDrop k i r n).pending = s.pending := State.pending_of_rest (State.rest_ledDrop s k i r n)
@[simp] theorem State.ledDrop_build (s : State) (k i r n : Nat) : (s.ledDrop k i r n).build = s.build := State.build_of_rest (State.rest_ledDrop s k i r n)
@[simp] theorem State.ledDrop_imgRegs (s : State) (k i r n : Nat) : (s.ledDrop k i r n).imgRegs = s.imgRegs := State.imgRegs_of_rest (State.rest_ledDrop s k i r n)
@[simp] theorem State.ledDrop_staged (s : State) (k i r n : Nat) : (s.ledDrop k i r n).staged = s.staged := State.staged_of_rest (State.rest_ledDrop s k i r n)
@[simp] theorem State.ledDrop_whl (s : State) (k i r n : Nat) : (s.ledDrop k i r n).whl = s.whl := State.whl_of_rest (State.rest_ledDrop s k i r n)
@[simp] theorem State.ledDrop_str (s : State) (k i r n : Nat) : (s.ledDrop k i r n).str = s.str := State.str_of_rest (State.rest_ledDrop s k i r n)
@[simp] theorem State.ledDrop_snag (s : State) (k i r n : Nat) : (s.ledDrop k i r n).snag = s.snag := State.snag_of_rest (State.rest_ledDrop s k i r n)
@[simp] theorem State.ledDrop_skn (s : State) (k i r n : Nat) : (s.ledDrop k i r n).skn = s.skn := State.skn_of_rest (State.rest_ledDrop s k i r n)
@[simp] theorem State.ledDrop_boot (s : State) (k i r n : Nat) : (s.ledDrop k i r n).boot = s.boot := State.boot_of_rest (State.rest_ledDrop s k i r n)
@[simp] theorem State.ledDrop_drf (s : State) (k i r n : Nat) : (s.ledDrop k i r n).drf = s.drf := State.drf_of_rest (State.rest_ledDrop s k i r n)
@[simp] theorem State.ledDrop_trc (s : State) (k i r n : Nat) : (s.ledDrop k i r n).trc = s.trc := State.trc_of_rest (State.rest_ledDrop s k i r n)
@[simp] theorem State.ledDrop_meter (s : State) (k i r n : Nat) : (s.ledDrop k i r n).meter = s.meter := State.meter_of_rest (State.rest_ledDrop s k i r n)
@[simp] theorem State.ledDrop_reel (s : State) (k i r n : Nat) : (s.ledDrop k i r n).reel = s.reel := State.reel_of_rest (State.rest_ledDrop s k i r n)
@[simp] theorem State.ledDrop_crd (s : State) (k i r n : Nat) : (s.ledDrop k i r n).crd = s.crd := State.crd_of_rest (State.rest_ledDrop s k i r n)
@[simp] theorem State.ledDrop_dst (s : State) (k i r n : Nat) : (s.ledDrop k i r n).dst = s.dst := State.dst_of_rest (State.rest_ledDrop s k i r n)
@[simp] theorem State.ledDrop_tws (s : State) (k i r n : Nat) : (s.ledDrop k i r n).tws = s.tws := State.tws_of_rest (State.rest_ledDrop s k i r n)
@[simp] theorem State.ledDrop_ply (s : State) (k i r n : Nat) : (s.ledDrop k i r n).ply = s.ply := State.ply_of_rest (State.rest_ledDrop s k i r n)
@[simp] theorem State.ledDrop_stp (s : State) (k i r n : Nat) : (s.ledDrop k i r n).stp = s.stp := State.stp_of_rest (State.rest_ledDrop s k i r n)
@[simp] theorem State.ledDrop_tns (s : State) (k i r n : Nat) : (s.ledDrop k i r n).tns = s.tns := State.tns_of_rest (State.rest_ledDrop s k i r n)
@[simp] theorem State.ledDrop_fresh (s : State) (k i r n : Nat) : (s.ledDrop k i r n).fresh = s.fresh := State.fresh_of_rest (State.rest_ledDrop s k i r n)

@[simp] theorem State.ledDrop_hif (s : State) (k i r n : Nat) : (s.ledDrop k i r n).hif = s.hif := by
  unfold State.ledDrop; split <;> simp
@[simp] theorem State.slice_led (s : State) (k i : Nat) (c : LedCol) (n m : Nat) : (s.led k i c n).slice m = s.slice m := State.slice_congr (by simp) m
@[simp] theorem State.slice_ledDrop (s : State) (k i r n m : Nat) : (s.ledDrop k i r n).slice m = s.slice m := State.slice_congr (by simp) m

@[simp] theorem State.checkQuiesced_pending (s : State) (n : Nat) : (s.checkQuiesced n).pending = s.pending := State.pending_of_rest (State.rest_checkQuiesced s n)
@[simp] theorem State.checkQuiesced_build (s : State) (n : Nat) : (s.checkQuiesced n).build = s.build := State.build_of_rest (State.rest_checkQuiesced s n)
@[simp] theorem State.checkQuiesced_imgRegs (s : State) (n : Nat) : (s.checkQuiesced n).imgRegs = s.imgRegs := State.imgRegs_of_rest (State.rest_checkQuiesced s n)
@[simp] theorem State.checkQuiesced_staged (s : State) (n : Nat) : (s.checkQuiesced n).staged = s.staged := State.staged_of_rest (State.rest_checkQuiesced s n)
@[simp] theorem State.checkQuiesced_whl (s : State) (n : Nat) : (s.checkQuiesced n).whl = s.whl := State.whl_of_rest (State.rest_checkQuiesced s n)
@[simp] theorem State.checkQuiesced_str (s : State) (n : Nat) : (s.checkQuiesced n).str = s.str := State.str_of_rest (State.rest_checkQuiesced s n)
@[simp] theorem State.checkQuiesced_snag (s : State) (n : Nat) : (s.checkQuiesced n).snag = s.snag := State.snag_of_rest (State.rest_checkQuiesced s n)
@[simp] theorem State.checkQuiesced_skn (s : State) (n : Nat) : (s.checkQuiesced n).skn = s.skn := State.skn_of_rest (State.rest_checkQuiesced s n)
@[simp] theorem State.checkQuiesced_boot (s : State) (n : Nat) : (s.checkQuiesced n).boot = s.boot := State.boot_of_rest (State.rest_checkQuiesced s n)
@[simp] theorem State.checkQuiesced_drf (s : State) (n : Nat) : (s.checkQuiesced n).drf = s.drf := State.drf_of_rest (State.rest_checkQuiesced s n)
@[simp] theorem State.checkQuiesced_trc (s : State) (n : Nat) : (s.checkQuiesced n).trc = s.trc := State.trc_of_rest (State.rest_checkQuiesced s n)
@[simp] theorem State.checkQuiesced_meter (s : State) (n : Nat) : (s.checkQuiesced n).meter = s.meter := State.meter_of_rest (State.rest_checkQuiesced s n)
@[simp] theorem State.checkQuiesced_reel (s : State) (n : Nat) : (s.checkQuiesced n).reel = s.reel := State.reel_of_rest (State.rest_checkQuiesced s n)
@[simp] theorem State.checkQuiesced_crd (s : State) (n : Nat) : (s.checkQuiesced n).crd = s.crd := State.crd_of_rest (State.rest_checkQuiesced s n)
@[simp] theorem State.checkQuiesced_dst (s : State) (n : Nat) : (s.checkQuiesced n).dst = s.dst := State.dst_of_rest (State.rest_checkQuiesced s n)
@[simp] theorem State.checkQuiesced_tws (s : State) (n : Nat) : (s.checkQuiesced n).tws = s.tws := State.tws_of_rest (State.rest_checkQuiesced s n)
@[simp] theorem State.checkQuiesced_ply (s : State) (n : Nat) : (s.checkQuiesced n).ply = s.ply := State.ply_of_rest (State.rest_checkQuiesced s n)
@[simp] theorem State.checkQuiesced_stp (s : State) (n : Nat) : (s.checkQuiesced n).stp = s.stp := State.stp_of_rest (State.rest_checkQuiesced s n)
@[simp] theorem State.checkQuiesced_tns (s : State) (n : Nat) : (s.checkQuiesced n).tns = s.tns := State.tns_of_rest (State.rest_checkQuiesced s n)
@[simp] theorem State.checkQuiesced_fresh (s : State) (n : Nat) : (s.checkQuiesced n).fresh = s.fresh := State.fresh_of_rest (State.rest_checkQuiesced s n)

@[simp] theorem State.complete_pending (s : State) (r : Running) (st v se : Nat) : (s.complete r st v se).pending = s.pending := State.pending_of_rest (State.rest_complete s r st v se)
@[simp] theorem State.complete_build (s : State) (r : Running) (st v se : Nat) : (s.complete r st v se).build = s.build := State.build_of_rest (State.rest_complete s r st v se)
@[simp] theorem State.complete_imgRegs (s : State) (r : Running) (st v se : Nat) : (s.complete r st v se).imgRegs = s.imgRegs := State.imgRegs_of_rest (State.rest_complete s r st v se)
@[simp] theorem State.complete_staged (s : State) (r : Running) (st v se : Nat) : (s.complete r st v se).staged = s.staged := State.staged_of_rest (State.rest_complete s r st v se)
@[simp] theorem State.complete_whl (s : State) (r : Running) (st v se : Nat) : (s.complete r st v se).whl = s.whl := State.whl_of_rest (State.rest_complete s r st v se)
@[simp] theorem State.complete_str (s : State) (r : Running) (st v se : Nat) : (s.complete r st v se).str = s.str := State.str_of_rest (State.rest_complete s r st v se)
@[simp] theorem State.complete_snag (s : State) (r : Running) (st v se : Nat) : (s.complete r st v se).snag = s.snag := State.snag_of_rest (State.rest_complete s r st v se)
@[simp] theorem State.complete_skn (s : State) (r : Running) (st v se : Nat) : (s.complete r st v se).skn = s.skn := State.skn_of_rest (State.rest_complete s r st v se)
@[simp] theorem State.complete_boot (s : State) (r : Running) (st v se : Nat) : (s.complete r st v se).boot = s.boot := State.boot_of_rest (State.rest_complete s r st v se)
@[simp] theorem State.complete_drf (s : State) (r : Running) (st v se : Nat) : (s.complete r st v se).drf = s.drf := State.drf_of_rest (State.rest_complete s r st v se)
@[simp] theorem State.complete_trc (s : State) (r : Running) (st v se : Nat) : (s.complete r st v se).trc = s.trc := State.trc_of_rest (State.rest_complete s r st v se)
@[simp] theorem State.complete_meter (s : State) (r : Running) (st v se : Nat) : (s.complete r st v se).meter = s.meter := State.meter_of_rest (State.rest_complete s r st v se)
@[simp] theorem State.complete_reel (s : State) (r : Running) (st v se : Nat) : (s.complete r st v se).reel = s.reel := State.reel_of_rest (State.rest_complete s r st v se)
@[simp] theorem State.complete_crd (s : State) (r : Running) (st v se : Nat) : (s.complete r st v se).crd = s.crd := State.crd_of_rest (State.rest_complete s r st v se)
@[simp] theorem State.complete_dst (s : State) (r : Running) (st v se : Nat) : (s.complete r st v se).dst = s.dst := State.dst_of_rest (State.rest_complete s r st v se)
@[simp] theorem State.complete_tws (s : State) (r : Running) (st v se : Nat) : (s.complete r st v se).tws = s.tws := State.tws_of_rest (State.rest_complete s r st v se)
@[simp] theorem State.complete_ply (s : State) (r : Running) (st v se : Nat) : (s.complete r st v se).ply = s.ply := State.ply_of_rest (State.rest_complete s r st v se)
@[simp] theorem State.complete_stp (s : State) (r : Running) (st v se : Nat) : (s.complete r st v se).stp = s.stp := State.stp_of_rest (State.rest_complete s r st v se)
@[simp] theorem State.complete_tns (s : State) (r : Running) (st v se : Nat) : (s.complete r st v se).tns = s.tns := State.tns_of_rest (State.rest_complete s r st v se)
@[simp] theorem State.complete_fresh (s : State) (r : Running) (st v se : Nat) : (s.complete r st v se).fresh = s.fresh := State.fresh_of_rest (State.rest_complete s r st v se)

@[simp] theorem State.completeOk_pending (s : State) (r : Running) (v : Nat) : (s.completeOk r v).pending = s.pending := State.pending_of_rest (State.rest_completeOk s r v)
@[simp] theorem State.completeOk_build (s : State) (r : Running) (v : Nat) : (s.completeOk r v).build = s.build := State.build_of_rest (State.rest_completeOk s r v)
@[simp] theorem State.completeOk_imgRegs (s : State) (r : Running) (v : Nat) : (s.completeOk r v).imgRegs = s.imgRegs := State.imgRegs_of_rest (State.rest_completeOk s r v)
@[simp] theorem State.completeOk_staged (s : State) (r : Running) (v : Nat) : (s.completeOk r v).staged = s.staged := State.staged_of_rest (State.rest_completeOk s r v)
@[simp] theorem State.completeOk_whl (s : State) (r : Running) (v : Nat) : (s.completeOk r v).whl = s.whl := State.whl_of_rest (State.rest_completeOk s r v)
@[simp] theorem State.completeOk_str (s : State) (r : Running) (v : Nat) : (s.completeOk r v).str = s.str := State.str_of_rest (State.rest_completeOk s r v)
@[simp] theorem State.completeOk_snag (s : State) (r : Running) (v : Nat) : (s.completeOk r v).snag = s.snag := State.snag_of_rest (State.rest_completeOk s r v)
@[simp] theorem State.completeOk_skn (s : State) (r : Running) (v : Nat) : (s.completeOk r v).skn = s.skn := State.skn_of_rest (State.rest_completeOk s r v)
@[simp] theorem State.completeOk_boot (s : State) (r : Running) (v : Nat) : (s.completeOk r v).boot = s.boot := State.boot_of_rest (State.rest_completeOk s r v)
@[simp] theorem State.completeOk_drf (s : State) (r : Running) (v : Nat) : (s.completeOk r v).drf = s.drf := State.drf_of_rest (State.rest_completeOk s r v)
@[simp] theorem State.completeOk_trc (s : State) (r : Running) (v : Nat) : (s.completeOk r v).trc = s.trc := State.trc_of_rest (State.rest_completeOk s r v)
@[simp] theorem State.completeOk_meter (s : State) (r : Running) (v : Nat) : (s.completeOk r v).meter = s.meter := State.meter_of_rest (State.rest_completeOk s r v)
@[simp] theorem State.completeOk_reel (s : State) (r : Running) (v : Nat) : (s.completeOk r v).reel = s.reel := State.reel_of_rest (State.rest_completeOk s r v)
@[simp] theorem State.completeOk_crd (s : State) (r : Running) (v : Nat) : (s.completeOk r v).crd = s.crd := State.crd_of_rest (State.rest_completeOk s r v)
@[simp] theorem State.completeOk_dst (s : State) (r : Running) (v : Nat) : (s.completeOk r v).dst = s.dst := State.dst_of_rest (State.rest_completeOk s r v)
@[simp] theorem State.completeOk_tws (s : State) (r : Running) (v : Nat) : (s.completeOk r v).tws = s.tws := State.tws_of_rest (State.rest_completeOk s r v)
@[simp] theorem State.completeOk_ply (s : State) (r : Running) (v : Nat) : (s.completeOk r v).ply = s.ply := State.ply_of_rest (State.rest_completeOk s r v)
@[simp] theorem State.completeOk_stp (s : State) (r : Running) (v : Nat) : (s.completeOk r v).stp = s.stp := State.stp_of_rest (State.rest_completeOk s r v)
@[simp] theorem State.completeOk_tns (s : State) (r : Running) (v : Nat) : (s.completeOk r v).tns = s.tns := State.tns_of_rest (State.rest_completeOk s r v)
@[simp] theorem State.completeOk_fresh (s : State) (r : Running) (v : Nat) : (s.completeOk r v).fresh = s.fresh := State.fresh_of_rest (State.rest_completeOk s r v)

@[simp] theorem State.fail_pending (s : State) (r : Running) (st : Nat) : (s.fail r st).pending = s.pending := State.pending_of_rest (State.rest_fail s r st)
@[simp] theorem State.fail_build (s : State) (r : Running) (st : Nat) : (s.fail r st).build = s.build := State.build_of_rest (State.rest_fail s r st)
@[simp] theorem State.fail_imgRegs (s : State) (r : Running) (st : Nat) : (s.fail r st).imgRegs = s.imgRegs := State.imgRegs_of_rest (State.rest_fail s r st)
@[simp] theorem State.fail_staged (s : State) (r : Running) (st : Nat) : (s.fail r st).staged = s.staged := State.staged_of_rest (State.rest_fail s r st)
@[simp] theorem State.fail_whl (s : State) (r : Running) (st : Nat) : (s.fail r st).whl = s.whl := State.whl_of_rest (State.rest_fail s r st)
@[simp] theorem State.fail_str (s : State) (r : Running) (st : Nat) : (s.fail r st).str = s.str := State.str_of_rest (State.rest_fail s r st)
@[simp] theorem State.fail_snag (s : State) (r : Running) (st : Nat) : (s.fail r st).snag = s.snag := State.snag_of_rest (State.rest_fail s r st)
@[simp] theorem State.fail_skn (s : State) (r : Running) (st : Nat) : (s.fail r st).skn = s.skn := State.skn_of_rest (State.rest_fail s r st)
@[simp] theorem State.fail_boot (s : State) (r : Running) (st : Nat) : (s.fail r st).boot = s.boot := State.boot_of_rest (State.rest_fail s r st)
@[simp] theorem State.fail_drf (s : State) (r : Running) (st : Nat) : (s.fail r st).drf = s.drf := State.drf_of_rest (State.rest_fail s r st)
@[simp] theorem State.fail_trc (s : State) (r : Running) (st : Nat) : (s.fail r st).trc = s.trc := State.trc_of_rest (State.rest_fail s r st)
@[simp] theorem State.fail_meter (s : State) (r : Running) (st : Nat) : (s.fail r st).meter = s.meter := State.meter_of_rest (State.rest_fail s r st)
@[simp] theorem State.fail_reel (s : State) (r : Running) (st : Nat) : (s.fail r st).reel = s.reel := State.reel_of_rest (State.rest_fail s r st)
@[simp] theorem State.fail_crd (s : State) (r : Running) (st : Nat) : (s.fail r st).crd = s.crd := State.crd_of_rest (State.rest_fail s r st)
@[simp] theorem State.fail_dst (s : State) (r : Running) (st : Nat) : (s.fail r st).dst = s.dst := State.dst_of_rest (State.rest_fail s r st)
@[simp] theorem State.fail_tws (s : State) (r : Running) (st : Nat) : (s.fail r st).tws = s.tws := State.tws_of_rest (State.rest_fail s r st)
@[simp] theorem State.fail_ply (s : State) (r : Running) (st : Nat) : (s.fail r st).ply = s.ply := State.ply_of_rest (State.rest_fail s r st)
@[simp] theorem State.fail_stp (s : State) (r : Running) (st : Nat) : (s.fail r st).stp = s.stp := State.stp_of_rest (State.rest_fail s r st)
@[simp] theorem State.fail_tns (s : State) (r : Running) (st : Nat) : (s.fail r st).tns = s.tns := State.tns_of_rest (State.rest_fail s r st)
@[simp] theorem State.fail_fresh (s : State) (r : Running) (st : Nat) : (s.fail r st).fresh = s.fresh := State.fresh_of_rest (State.rest_fail s r st)

@[simp] theorem State.countFetch_pending (s : State) (n : Nat) : (s.countFetch n).pending = s.pending := State.pending_of_rest (State.rest_countFetch s n)
@[simp] theorem State.countFetch_build (s : State) (n : Nat) : (s.countFetch n).build = s.build := State.build_of_rest (State.rest_countFetch s n)
@[simp] theorem State.countFetch_imgRegs (s : State) (n : Nat) : (s.countFetch n).imgRegs = s.imgRegs := State.imgRegs_of_rest (State.rest_countFetch s n)
@[simp] theorem State.countFetch_staged (s : State) (n : Nat) : (s.countFetch n).staged = s.staged := State.staged_of_rest (State.rest_countFetch s n)
@[simp] theorem State.countFetch_whl (s : State) (n : Nat) : (s.countFetch n).whl = s.whl := State.whl_of_rest (State.rest_countFetch s n)
@[simp] theorem State.countFetch_str (s : State) (n : Nat) : (s.countFetch n).str = s.str := State.str_of_rest (State.rest_countFetch s n)
@[simp] theorem State.countFetch_snag (s : State) (n : Nat) : (s.countFetch n).snag = s.snag := State.snag_of_rest (State.rest_countFetch s n)
@[simp] theorem State.countFetch_skn (s : State) (n : Nat) : (s.countFetch n).skn = s.skn := State.skn_of_rest (State.rest_countFetch s n)
@[simp] theorem State.countFetch_boot (s : State) (n : Nat) : (s.countFetch n).boot = s.boot := State.boot_of_rest (State.rest_countFetch s n)
@[simp] theorem State.countFetch_drf (s : State) (n : Nat) : (s.countFetch n).drf = s.drf := State.drf_of_rest (State.rest_countFetch s n)
@[simp] theorem State.countFetch_trc (s : State) (n : Nat) : (s.countFetch n).trc = s.trc := State.trc_of_rest (State.rest_countFetch s n)
@[simp] theorem State.countFetch_meter (s : State) (n : Nat) : (s.countFetch n).meter = s.meter := State.meter_of_rest (State.rest_countFetch s n)
@[simp] theorem State.countFetch_reel (s : State) (n : Nat) : (s.countFetch n).reel = s.reel := State.reel_of_rest (State.rest_countFetch s n)
@[simp] theorem State.countFetch_crd (s : State) (n : Nat) : (s.countFetch n).crd = s.crd := State.crd_of_rest (State.rest_countFetch s n)
@[simp] theorem State.countFetch_dst (s : State) (n : Nat) : (s.countFetch n).dst = s.dst := State.dst_of_rest (State.rest_countFetch s n)
@[simp] theorem State.countFetch_tws (s : State) (n : Nat) : (s.countFetch n).tws = s.tws := State.tws_of_rest (State.rest_countFetch s n)
@[simp] theorem State.countFetch_ply (s : State) (n : Nat) : (s.countFetch n).ply = s.ply := State.ply_of_rest (State.rest_countFetch s n)
@[simp] theorem State.countFetch_stp (s : State) (n : Nat) : (s.countFetch n).stp = s.stp := State.stp_of_rest (State.rest_countFetch s n)
@[simp] theorem State.countFetch_tns (s : State) (n : Nat) : (s.countFetch n).tns = s.tns := State.tns_of_rest (State.rest_countFetch s n)
@[simp] theorem State.countFetch_fresh (s : State) (n : Nat) : (s.countFetch n).fresh = s.fresh := State.fresh_of_rest (State.rest_countFetch s n)
@[simp] theorem State.countFetch_hif (s : State) (n : Nat) : (s.countFetch n).hif = s.hif := by simp [State.countFetch]
@[simp] theorem State.slice_countFetch (s : State) (n m : Nat) : (s.countFetch n).slice m = s.slice m := State.slice_congr (by simp) m

/-- The completion queue after a look at QUIESCED. -/
@[simp] theorem State.checkQuiesced_cplWait (s : State) (n : Nat) : ((s.checkQuiesced n).slice n).cplWait = (s.slice n).cplWait := by
  simp only [State.checkQuiesced]; split <;> simp
@[simp] theorem State.checkQuiesced_running (s : State) (n : Nat) : ((s.checkQuiesced n).slice n).running = (s.slice n).running := by
  simp only [State.checkQuiesced]; split <;> simp
@[simp] theorem State.checkQuiesced_vq (s : State) (n : Nat) : ((s.checkQuiesced n).slice n).vq = (s.slice n).vq := by
  simp only [State.checkQuiesced]; split <;> simp
@[simp] theorem State.checkQuiesced_unbind (s : State) (n : Nat) : ((s.checkQuiesced n).slice n).unbind = (s.slice n).unbind := by
  simp only [State.checkQuiesced]; split <;> simp

/-- The only command that runs of a slice completes: its completion waits last, and nothing runs. -/
theorem State.complete_slice (s : State) (r : Running) (n st v se : Nat) (hs : r.src = .slice n) (hr : (s.slice n).running = [r]) :
    ((s.complete r st v se).slice n).cplWait
        = (s.slice n).cplWait ++ [{ opcode := r.opcode, status := st, session := se, value := v, dseq := r.dseq, ct := s.ct, irq := r.d.irq }]
      ∧ ((s.complete r st v se).slice n).running = [] := by
  simp only [State.complete, hs, hr]
  simp only [List.any_cons, List.any_nil, BEq.rfl, Bool.and_self, Bool.or_false, Bool.not_true]
  simp only [Bool.false_eq_true, if_false]
  constructor
  · rw [State.checkQuiesced_cplWait]
    repeat' split
    all_goals simp
  · rw [State.checkQuiesced_running]
    repeat' split
    all_goals simp

/-! ### The core: what handling a descriptor leaves alone -/

theorem State.face_of_side {s t : State} (h : t.side = s.side) : t.face = s.face := by
  have e : ∀ x : State, x.face = { x.side with regs := [] } := fun _ => rfl
  rw [e, e, h]

theorem State.core_of_face {s t : State} (h : t.face = s.face) : t.core = s.core := by
  have e : ∀ x : State, x.core = { x.face with hif := {} } := fun _ => rfl
  rw [e, e, h]

theorem State.core_of_side {s t : State} (h : t.side = s.side) : t.core = s.core := State.core_of_face (State.face_of_side h)

theorem Matches_of_side {s t : State} (h : t.side = s.side) (ho : ∀ e ∈ s.out, e ∈ t.out) : Sys2Proof.Matches t s :=
  ⟨State.face_of_side h, fun k hk => State.regGet_of_side h k hk, ho⟩

@[simp] theorem State.face_regSet (s : State) (k : Nat) (v : W32) : (s.regSet k v).face = s.face := (rfl)
@[simp] theorem State.face_fset (s : State) (f : RF) (v : Nat) : (s.fset f v).face = s.face := by
  unfold State.fset; split <;> simp
@[simp] theorem State.core_regSet (s : State) (k : Nat) (v : W32) : (s.regSet k v).core = s.core := (rfl)
@[simp] theorem State.core_fset (s : State) (f : RF) (v : Nat) : (s.fset f v).core = s.core := State.core_of_face (State.face_fset ..)
@[simp] theorem State.core_fadd (s : State) (f : RF) (v : Nat) : (s.fadd f v).core = s.core := State.core_fset ..
@[simp] theorem State.core_bump (s : State) (f : RF) : (s.bump f).core = s.core := State.core_fset ..

theorem wordOf_bank (k n : Nat) : wordOf (k + n * 1048576) = wordOf k := by simp [wordOf]
theorem sliceWord_bank (k n : Nat) : sliceWord (k + n * 1048576) = sliceWord k := by simp [sliceWord, wordOf_bank]

@[simp] theorem State.core_led (s : State) (k i : Nat) (c : LedCol) (n : Nat) : (s.led k i c n).core = s.core := State.core_of_side (State.side_led ..)
@[simp] theorem State.core_ledDrop (s : State) (k i r n : Nat) : (s.ledDrop k i r n).core = s.core := State.core_of_side (State.side_ledDrop ..)
@[simp] theorem State.core_emit (s : State) (e : Emission) : (s.emit e).core = s.core := State.core_of_side (State.side_emit ..)
@[simp] theorem State.core_setSlice (s : State) (n : Nat) (x : Slice) : (s.setSlice n x).core = s.core := rfl
@[simp] theorem State.core_hif (s : State) (x : Hif) : ({ s with hif := x } : State).core = s.core := rfl
@[simp] theorem State.core_setStaging (s : State) (m : List Host.Cell) : (s.setStaging m).core = s.core := rfl
@[simp] theorem State.core_checkQuiesced (s : State) (n : Nat) : (s.checkQuiesced n).core = s.core := by
  simp only [State.checkQuiesced]; split <;> simp
@[simp] theorem State.core_complete (s : State) (r : Running) (st v se : Nat) : (s.complete r st v se).core = s.core := by
  simp only [State.complete]
  split
  · split
    · rfl
    · rw [State.core_checkQuiesced]
      split
      · rw [State.core_bump, State.core_fset, State.core_led]; split <;> simp
      · rw [State.core_fset, State.core_led]; split <;> simp
  · split
    · rw [State.core_emit, State.core_bump]; rfl
    · rfl
@[simp] theorem State.core_countFetch (s : State) (n : Nat) : (s.countFetch n).core = s.core := by simp [State.countFetch]
@[simp] theorem State.core_setSess (s : State) (k : Nat) (x : Sess) : (s.setSess k x).core = { s.core with crd := Tab.set s.crd k x } := (rfl)
@[simp] theorem State.core_setModel (s : State) (k : Nat) (x : Model) : (s.setModel k x).core = { s.core with dst := { s.dst with models := Tab.set s.dst.models k x } } := (rfl)

/-! ### What a command leaves of the host interface -/

theorem Tab.set_set {α : Type} (t : Tab α) (k : Nat) (a b : α) : Tab.set (Tab.set t k a) k b = Tab.set t k b := by
  induction t with
  | nil => simp [Tab.set]
  | cons e t ih =>
    obtain ⟨j, x⟩ := e
    simp only [Tab.set]
    split
    · simp [Tab.set]
    · split
      · simp [Tab.set]
      · simp only [Tab.set]; simp_all

@[simp] theorem State.setSlice_setSlice (s : State) (n : Nat) (x y : Slice) : (s.setSlice n x).setSlice n y = s.setSlice n y := by
  simp [State.setSlice, Tab.set_set]

theorem State.checkQuiesced_enabled (s : State) (n : Nat) (h : s.enabled n = true) : s.checkQuiesced n = s := by
  simp [State.checkQuiesced, h]

@[simp] theorem State.enabled_setSlice (s : State) (n m : Nat) (x : Slice) : (s.setSlice n x).enabled m = s.enabled m := rfl

theorem State.regGet_fset_other (s : State) (f : RF) (v k : Nat) (h4 : f.lo + f.w ≤ 32) (hk : k ≠ f.addr) : (s.fset f v).regGet k = s.regGet k := by
  rw [State.fset_narrow _ _ _ h4, State.regGet_regSet_ne _ _ hk]

theorem State.enabled_congr {s t : State} {n : Nat} (h : t.regGet (Reg.SLC_CTRL_ENABLE.at n).addr = s.regGet (Reg.SLC_CTRL_ENABLE.at n).addr) :
    t.enabled n = s.enabled n := by
  have h4 : (Reg.SLC_CTRL_ENABLE.at n).lo + (Reg.SLC_CTRL_ENABLE.at n).w ≤ 32 := by simp [RF.at, Reg.SLC_CTRL_ENABLE]
  unfold State.enabled State.flag
  rw [State.fget_narrow _ _ h4, State.fget_narrow _ _ h4, h]

theorem State.enabled_fset (s : State) (f : RF) (v n : Nat) (h4 : f.lo + f.w ≤ 32) (hf : (Reg.SLC_CTRL_ENABLE.at n).addr ≠ f.addr) :
    (s.fset f v).enabled n = s.enabled n :=
  State.enabled_congr (State.regGet_fset_other _ _ _ _ h4 hf)

@[simp] theorem State.enabled_INFLIGHT (s : State) (n v : Nat) : (s.fset (Reg.SLC_STATUS_INFLIGHT.at n) v).enabled n = s.enabled n :=
  State.enabled_fset _ _ _ _ (by simp [RF.at, Reg.SLC_STATUS_INFLIGHT]) (by simp [RF.at, Reg.SLC_STATUS_INFLIGHT, Reg.SLC_CTRL_ENABLE])
@[simp] theorem State.enabled_CMDHEAD (s : State) (n v : Nat) : (s.fset (Reg.SLC_CMDHEAD_COUNT.at n) v).enabled n = s.enabled n :=
  State.enabled_fset _ _ _ _ (by simp [RF.at, Reg.SLC_CMDHEAD_COUNT]) (by simp [RF.at, Reg.SLC_CMDHEAD_COUNT, Reg.SLC_CTRL_ENABLE])
@[simp] theorem State.enabled_QUIESCED (s : State) (n v : Nat) : (s.fset (Reg.SLC_STATUS_QUIESCED.at n) v).enabled n = s.enabled n :=
  State.enabled_fset _ _ _ _ (by simp [RF.at, Reg.SLC_STATUS_QUIESCED]) (by simp [RF.at, Reg.SLC_STATUS_QUIESCED, Reg.SLC_CTRL_ENABLE])
@[simp] theorem State.enabled_HIF_ERR_AUTH (s : State) (n v : Nat) : (s.fset Reg.HIF_ERR_AUTH v).enabled n = s.enabled n :=
  State.enabled_fset _ _ _ _ (by decide) (by simp [RF.at, Reg.HIF_ERR_AUTH, Reg.SLC_CTRL_ENABLE]; omega)
@[simp] theorem State.enabled_LEA_STATUS_SAT (s : State) (n v : Nat) : (s.fset Reg.LEA_STATUS_SAT v).enabled n = s.enabled n :=
  State.enabled_fset _ _ _ _ (by decide) (by simp [RF.at, Reg.LEA_STATUS_SAT, Reg.SLC_CTRL_ENABLE]; omega)
@[simp] theorem State.enabled_led (s : State) (k i : Nat) (c : LedCol) (m n : Nat) : (s.led k i c m).enabled n = s.enabled n := by
  simp only [State.led]
  split
  · refine Eq.trans ?_ (State.enabled_LEA_STATUS_SAT s n 1)
    exact State.enabled_congr rfl
  · exact State.enabled_congr rfl
@[simp] theorem State.enabled_ledDrop (s : State) (k i r m n : Nat) : (s.ledDrop k i r m).enabled n = s.enabled n := by
  unfold State.ledDrop; split <;> simp

/-- What a completion leaves of the host interface, when the slice is enabled and the command is the only one that runs. -/
theorem State.complete_hif (s : State) (r : Running) (n st v se : Nat) (hs : r.src = .slice n) (hr : (s.slice n).running = [r]) (he : s.enabled n = true) :
    (s.complete r st v se).hif = (s.setSlice n { s.slice n with
      running := [], cplWait := (s.slice n).cplWait ++ [{ opcode := r.opcode, status := st, session := se, value := v, dseq := r.dseq, ct := s.ct, irq := r.d.irq }] }).hif
      ∧ (s.complete r st v se).enabled n = true := by
  simp only [State.complete, hs, hr]
  simp only [List.any_cons, List.any_nil, BEq.rfl, Bool.and_self, Bool.or_false, Bool.not_true, Bool.false_eq_true, if_false]
  rw [State.checkQuiesced_enabled]
  · constructor
    · repeat' split
      all_goals simp [State.bump, State.fadd]
    · repeat' split
      all_goals simp [State.bump, State.fadd, he]
  · repeat' split
    all_goals simp [State.bump, State.fadd, he]

theorem State.complete_hif_mgmt (s : State) (r : Running) (st v se : Nat) (hs : r.src = .mgmt) :
    (s.complete r st v se).hif = { s.hif with mgmtRun := none } := by
  simp only [State.complete, hs]
  split <;> simp [State.bump, State.fadd]

theorem State.complete_out (s : State) (r : Running) (st v se : Nat) (e : Emission) (h : e ∈ s.out) : e ∈ (s.complete r st v se).out := by
  have hq : ∀ (u : State) n, (u.checkQuiesced n).out = u.out := by
    intro u n; simp only [State.checkQuiesced]; split <;> simp
  simp only [State.complete]
  split
  · split
    · exact h
    · rw [hq]
      split
      · rw [State.bump_out, State.fset_out]
        refine State.out_led _ _ _ _ ?_
        split
        · exact State.out_ledDrop _ _ _ _ h
        · exact State.out_led _ _ _ _ h
      · rw [State.fset_out]
        refine State.out_led _ _ _ _ ?_
        split
        · exact State.out_ledDrop _ _ _ _ h
        · exact State.out_led _ _ _ _ h
  · split
    · exact List.mem_cons_of_mem _ (by simpa using h)
    · exact List.mem_cons_of_mem _ h

/-- The response of a management command leaves the block. -/
theorem State.complete_resp (s : State) (r : Running) (st v se : Nat) (hs : r.src = .mgmt) :
    (let x := cplWords r.dseq 1 { opcode := r.opcode, status := st, session := se, value := v, dseq := r.dseq, ct := s.ct, irq := r.d.irq }
     Emission.mgmtResp x.1 x.2 ∈ (s.complete r st v se).out) := by
  simp only [State.complete, hs]
  exact List.mem_cons_self ..

/-! ### Starting a command -/

/-- The state in which the body of a command begins. -/
def State.begun (s : State) (src : Src) (opc : Nat) (d : Desc) (b : Bus) : State :=
  match src with
  | .slice n => (s.countFetch n).setSlice n { s.slice n with running := [Sys2Proof.cmdRun s src opc d b] }
  | .mgmt => { s with hif := { s.hif with mgmtRun := some (Sys2Proof.cmdRun s src opc d b), mgmtCount := s.hif.mgmtCount + 1 } }

/-- A port that takes a command starts it at once. -/
theorem State.command_takes (s : State) (i : Instr) (src : Src) (opc : Nat) (d : Desc) (b : Bus) (perm : Perm) (ns : Bool) (body : State → Running → State)
    (h : Sys2Proof.Takes s src) (hp : permits perm src = true) :
    s.command i src d b opc perm ns body =
      match src with
      | .slice n => (body (s.begun src opc d b) (Sys2Proof.cmdRun s src opc d b)).checkQuiesced n
      | .mgmt => body (s.begun src opc d b) (Sys2Proof.cmdRun s src opc d b) := by
  cases src with
  | slice n =>
    obtain ⟨hc, hf, hr⟩ := h
    have hst : startable (s.slice n) [] d ns = true := by unfold startable; simp [hr]
    simp only [State.command, State.startHost, hf, hc, hst, if_true, hp, State.slice_countFetch, hr, List.nil_append]
    simp only [State.begun, hf]
    rfl
  | mgmt =>
    obtain ⟨h1, h2, h3, h4, h5⟩ := h
    have hw : s.hif.mgmtWait.isEmpty = true := by rw [h3]; rfl
    have : State.mgmtServes { s with hif := { s.hif with mgmtRun := some { src := .mgmt, opcode := opc, dseq := s.hif.mgmtCount % 65536, d, b }, mgmtCount := s.hif.mgmtCount + 1 } } opc = true := by
      unfold State.mgmtServes
      have a : State.stopped { s with hif := { s.hif with mgmtRun := some { src := .mgmt, opcode := opc, dseq := s.hif.mgmtCount % 65536, d, b }, mgmtCount := s.hif.mgmtCount + 1 } } = s.stopped := rfl
      have c : State.running { s with hif := { s.hif with mgmtRun := some { src := .mgmt, opcode := opc, dseq := s.hif.mgmtCount % 65536, d, b }, mgmtCount := s.hif.mgmtCount + 1 } } = s.running := rfl
      rw [a, c, h4, h5]; rfl
    have hm : s.mgmtServes opc = true := this
    have hn : s.hif.mgmtRun.isSome = false := by rw [h2]; rfl
    simp only [State.command, State.startMgmt, h1, hn, hw, hm, hp, if_true, Bool.not_true, Bool.or_false, Bool.false_eq_true, if_false]
    rfl

@[simp] theorem State.core_begun (s : State) (src : Src) (opc : Nat) (d : Desc) (b : Bus) : (s.begun src opc d b).core = s.core := by
  cases src
  · simp only [State.begun, State.core_setSlice, State.core_countFetch]
  · simp only [State.begun, State.core_hif]
@[simp] theorem State.begun_build (s : State) (src : Src) (opc : Nat) (d : Desc) (b : Bus) : (s.begun src opc d b).build = s.build := by
  cases src
  · simp only [State.begun, State.setSlice_build, State.countFetch_build]
  · simp only [State.begun]
@[simp] theorem State.begun_pending (s : State) (src : Src) (opc : Nat) (d : Desc) (b : Bus) : (s.begun src opc d b).pending = s.pending := by
  cases src
  · simp only [State.begun, State.setSlice_pending, State.countFetch_pending]
  · simp only [State.begun]
@[simp] theorem State.begun_imgRegs (s : State) (src : Src) (opc : Nat) (d : Desc) (b : Bus) : (s.begun src opc d b).imgRegs = s.imgRegs := by
  cases src
  · simp only [State.begun, State.setSlice_imgRegs, State.countFetch_imgRegs]
  · simp only [State.begun]
@[simp] theorem State.begun_staged (s : State) (src : Src) (opc : Nat) (d : Desc) (b : Bus) : (s.begun src opc d b).staged = s.staged := by
  cases src
  · simp only [State.begun, State.setSlice_staged, State.countFetch_staged]
  · simp only [State.begun]
@[simp] theorem State.begun_whl (s : State) (src : Src) (opc : Nat) (d : Desc) (b : Bus) : (s.begun src opc d b).whl = s.whl := by
  cases src
  · simp only [State.begun, State.setSlice_whl, State.countFetch_whl]
  · simp only [State.begun]
@[simp] theorem State.begun_str (s : State) (src : Src) (opc : Nat) (d : Desc) (b : Bus) : (s.begun src opc d b).str = s.str := by
  cases src
  · simp only [State.begun, State.setSlice_str, State.countFetch_str]
  · simp only [State.begun]
@[simp] theorem State.begun_snag (s : State) (src : Src) (opc : Nat) (d : Desc) (b : Bus) : (s.begun src opc d b).snag = s.snag := by
  cases src
  · simp only [State.begun, State.setSlice_snag, State.countFetch_snag]
  · simp only [State.begun]
@[simp] theorem State.begun_skn (s : State) (src : Src) (opc : Nat) (d : Desc) (b : Bus) : (s.begun src opc d b).skn = s.skn := by
  cases src
  · simp only [State.begun, State.setSlice_skn, State.countFetch_skn]
  · simp only [State.begun]
@[simp] theorem State.begun_boot (s : State) (src : Src) (opc : Nat) (d : Desc) (b : Bus) : (s.begun src opc d b).boot = s.boot := by
  cases src
  · simp only [State.begun, State.setSlice_boot, State.countFetch_boot]
  · simp only [State.begun]
@[simp] theorem State.begun_drf (s : State) (src : Src) (opc : Nat) (d : Desc) (b : Bus) : (s.begun src opc d b).drf = s.drf := by
  cases src
  · simp only [State.begun, State.setSlice_drf, State.countFetch_drf]
  · simp only [State.begun]
@[simp] theorem State.begun_trc (s : State) (src : Src) (opc : Nat) (d : Desc) (b : Bus) : (s.begun src opc d b).trc = s.trc := by
  cases src
  · simp only [State.begun, State.setSlice_trc, State.countFetch_trc]
  · simp only [State.begun]
@[simp] theorem State.begun_meter (s : State) (src : Src) (opc : Nat) (d : Desc) (b : Bus) : (s.begun src opc d b).meter = s.meter := by
  cases src
  · simp only [State.begun, State.setSlice_meter, State.countFetch_meter]
  · simp only [State.begun]
@[simp] theorem State.begun_reel (s : State) (src : Src) (opc : Nat) (d : Desc) (b : Bus) : (s.begun src opc d b).reel = s.reel := by
  cases src
  · simp only [State.begun, State.setSlice_reel, State.countFetch_reel]
  · simp only [State.begun]
@[simp] theorem State.begun_crd (s : State) (src : Src) (opc : Nat) (d : Desc) (b : Bus) : (s.begun src opc d b).crd = s.crd := by
  cases src
  · simp only [State.begun, State.setSlice_crd, State.countFetch_crd]
  · simp only [State.begun]
@[simp] theorem State.begun_dst (s : State) (src : Src) (opc : Nat) (d : Desc) (b : Bus) : (s.begun src opc d b).dst = s.dst := by
  cases src
  · simp only [State.begun, State.setSlice_dst, State.countFetch_dst]
  · simp only [State.begun]
@[simp] theorem State.begun_tws (s : State) (src : Src) (opc : Nat) (d : Desc) (b : Bus) : (s.begun src opc d b).tws = s.tws := by
  cases src
  · simp only [State.begun, State.setSlice_tws, State.countFetch_tws]
  · simp only [State.begun]
@[simp] theorem State.begun_ply (s : State) (src : Src) (opc : Nat) (d : Desc) (b : Bus) : (s.begun src opc d b).ply = s.ply := by
  cases src
  · simp only [State.begun, State.setSlice_ply, State.countFetch_ply]
  · simp only [State.begun]
@[simp] theorem State.begun_stp (s : State) (src : Src) (opc : Nat) (d : Desc) (b : Bus) : (s.begun src opc d b).stp = s.stp := by
  cases src
  · simp only [State.begun, State.setSlice_stp, State.countFetch_stp]
  · simp only [State.begun]
@[simp] theorem State.begun_tns (s : State) (src : Src) (opc : Nat) (d : Desc) (b : Bus) : (s.begun src opc d b).tns = s.tns := by
  cases src
  · simp only [State.begun, State.setSlice_tns, State.countFetch_tns]
  · simp only [State.begun]
@[simp] theorem State.begun_fresh (s : State) (src : Src) (opc : Nat) (d : Desc) (b : Bus) : (s.begun src opc d b).fresh = s.fresh := by
  cases src
  · simp only [State.begun, State.setSlice_fresh, State.countFetch_fresh]
  · simp only [State.begun]

theorem State.begun_out (s : State) (src : Src) (opc : Nat) (d : Desc) (b : Bus) (e : Emission) (h : e ∈ s.out) : e ∈ (s.begun src opc d b).out := by
  cases src
  · simp only [State.begun, State.setSlice_out, State.countFetch, State.fset_out, State.fadd_out]
    exact State.out_led _ _ _ _ (by simpa using h)
  · exact h

/-- The completion queue's slice when a command's body begins. -/
theorem State.begun_slice (s : State) (n opc : Nat) (d : Desc) (b : Bus) :
    (s.begun (.slice n) opc d b).slice n = { s.slice n with running := [Sys2Proof.cmdRun s (.slice n) opc d b] } := by
  simp [State.begun]

theorem State.begun_hif (s : State) (n opc : Nat) (d : Desc) (b : Bus) :
    (s.begun (.slice n) opc d b).hif = (s.setSlice n { s.slice n with running := [Sys2Proof.cmdRun s (.slice n) opc d b] }).hif := by
  simp [State.begun]

@[simp] theorem State.enabled_countFetch (s : State) (n : Nat) : (s.countFetch n).enabled n = s.enabled n := by
  simp [State.countFetch, State.fadd]

theorem State.begun_enabled (s : State) (n opc : Nat) (d : Desc) (b : Bus) (h : s.canFetch n = true) : (s.begun (.slice n) opc d b).enabled n = true := by
  have he : s.enabled n = true := by
    unfold State.canFetch at h; simp_all
  simp [State.begun, he]

/-! ### Registers that handling a descriptor leaves alone -/

theorem State.regGet_hif (s : State) (x : Hif) (w : Nat) : ({ s with hif := x } : State).regGet w = s.regGet w := (rfl)
theorem State.regGet_setSlice (s : State) (n : Nat) (x : Slice) (w : Nat) : (s.setSlice n x).regGet w = s.regGet w := (rfl)
theorem State.regGet_emit (s : State) (e : Emission) (w : Nat) : (s.emit e).regGet w = s.regGet w := (rfl)

/-- A word that neither an owed effect nor the handling of a descriptor writes. -/
def plainWord (k : Nat) : Bool := quietWord k && !sliceWord k

theorem State.regGet_fset_slice (s : State) (f : RF) (v k : Nat) (hk : plainWord k = true) (h4 : f.lo + f.w ≤ 32) (hf : plainWord f.addr = false) :
    (s.fset f v).regGet k = s.regGet k := by
  refine State.regGet_fset_other s f v k h4 ?_
  rintro rfl; rw [hk] at hf; cases hf

theorem plainWord_bank (k n : Nat) : plainWord (k + n * 1048576) = (plainWord k) := by
  simp [plainWord, quietWord, sliceWord_bank, wordOf_bank]

theorem State.regGet_led (s : State) (k i : Nat) (c : LedCol) (n w : Nat) (hw : plainWord w = true) : (s.led k i c n).regGet w = s.regGet w :=
  State.regGet_of_side (State.side_led ..) w (by simp [plainWord] at hw; exact hw.1)
theorem State.regGet_ledDrop (s : State) (k i r n w : Nat) (hw : plainWord w = true) : (s.ledDrop k i r n).regGet w = s.regGet w :=
  State.regGet_of_side (State.side_ledDrop ..) w (by simp [plainWord] at hw; exact hw.1)
theorem State.regGet_CMDHEAD (s : State) (n v w : Nat) (hw : plainWord w = true) : (s.fset (Reg.SLC_CMDHEAD_COUNT.at n) v).regGet w = s.regGet w :=
  State.regGet_fset_slice _ _ _ _ hw (by simp [RF.at, Reg.SLC_CMDHEAD_COUNT]) (by simp only [RF.at, Reg.SLC_CMDHEAD_COUNT, plainWord_bank]; decide)
theorem State.regGet_INFLIGHT (s : State) (n v w : Nat) (hw : plainWord w = true) : (s.fset (Reg.SLC_STATUS_INFLIGHT.at n) v).regGet w = s.regGet w :=
  State.regGet_fset_slice _ _ _ _ hw (by simp [RF.at, Reg.SLC_STATUS_INFLIGHT]) (by simp only [RF.at, Reg.SLC_STATUS_INFLIGHT, plainWord_bank]; decide)
theorem State.regGet_QUIESCED (s : State) (n v w : Nat) (hw : plainWord w = true) : (s.fset (Reg.SLC_STATUS_QUIESCED.at n) v).regGet w = s.regGet w :=
  State.regGet_fset_slice _ _ _ _ hw (by simp [RF.at, Reg.SLC_STATUS_QUIESCED]) (by simp only [RF.at, Reg.SLC_STATUS_QUIESCED, plainWord_bank]; decide)
theorem State.regGet_AUTH (s : State) (v w : Nat) (hw : plainWord w = true) : (s.fset Reg.HIF_ERR_AUTH v).regGet w = s.regGet w :=
  State.regGet_fset_slice _ _ _ _ hw (by decide) (by decide)

theorem State.regGet_checkQuiesced (s : State) (n w : Nat) (hw : plainWord w = true) : (s.checkQuiesced n).regGet w = s.regGet w := by
  simp only [State.checkQuiesced]
  split
  · rw [State.regGet_QUIESCED _ _ _ _ hw, State.regGet_setSlice]
  · rfl

theorem State.regGet_complete (s : State) (r : Running) (st v se w : Nat) (hw : plainWord w = true) : (s.complete r st v se).regGet w = s.regGet w := by
  have h1 : ∀ (u : State) n x, (u.setSlice n x).regGet w = u.regGet w := fun u n x => State.regGet_setSlice u n x w
  simp only [State.complete]
  split
  · split
    · rfl
    · rw [State.regGet_checkQuiesced _ _ _ hw]
      split
      · rw [State.bump, State.fadd, State.regGet_AUTH _ _ _ hw, State.regGet_INFLIGHT _ _ _ _ hw, State.regGet_led _ _ _ _ _ _ hw]
        split
        · rw [State.regGet_ledDrop _ _ _ _ _ _ hw, h1]
        · rw [State.regGet_led _ _ _ _ _ _ hw, h1]
      · rw [State.regGet_INFLIGHT _ _ _ _ hw, State.regGet_led _ _ _ _ _ _ hw]
        split
        · rw [State.regGet_ledDrop _ _ _ _ _ _ hw, h1]
        · rw [State.regGet_led _ _ _ _ _ _ hw, h1]
  · split
    · rw [State.regGet_emit, State.bump, State.fadd, State.regGet_AUTH _ _ _ hw, State.regGet_hif]
    · rw [State.regGet_emit, State.regGet_hif]

theorem State.regGet_begun (s : State) (src : Src) (opc : Nat) (d : Desc) (b : Bus) (w : Nat) (hw : plainWord w = true) :
    (s.begun src opc d b).regGet w = s.regGet w := by
  cases src with
  | slice n =>
    have e : s.begun (.slice n) opc d b = (s.countFetch n).setSlice n { s.slice n with running := [Sys2Proof.cmdRun s (.slice n) opc d b] } := by
      simp only [State.begun]
    rw [e, State.regGet_setSlice]
    simp only [State.countFetch, State.fadd]
    rw [State.regGet_QUIESCED _ _ _ _ hw, State.regGet_INFLIGHT _ _ _ _ hw, State.regGet_led _ _ _ _ _ _ hw, State.regGet_CMDHEAD _ _ _ _ hw]
  | mgmt =>
    have e : s.begun .mgmt opc d b = { s with hif := { s.hif with mgmtRun := some (Sys2Proof.cmdRun s .mgmt opc d b), mgmtCount := s.hif.mgmtCount + 1 } } := by
      simp only [State.begun]
    rw [e, State.regGet_hif]

/-- What a body may change so that the slice still completes by `command_ended`: nothing of the host interface and nothing of the register that enables the slice. -/
def State.SameHif (x u : State) (src : Src) : Prop :=
  x.hif = u.hif ∧ ∀ n, src = .slice n → x.enabled n = u.enabled n

theorem State.SameHif.refl (u : State) (src : Src) : u.SameHif u src := ⟨rfl, fun _ _ => rfl⟩
theorem State.SameHif.setSess {x u : State} {src : Src} (h : x.SameHif u src) (k : Nat) (v : Sess) : (x.setSess k v).SameHif u src :=
  ⟨h.1, fun n hn => (State.enabled_congr (State.regGet_congr _ rfl rfl rfl)).trans (h.2 n hn)⟩
theorem State.SameHif.setModel {x u : State} {src : Src} (h : x.SameHif u src) (k : Nat) (v : Model) : (x.setModel k v).SameHif u src :=
  ⟨h.1, fun n hn => (State.enabled_congr (State.regGet_congr _ rfl rfl rfl)).trans (h.2 n hn)⟩

/-- Where the host interface stands while a command runs whose effect leads to `w`. -/
def HifRuns (s w x : State) (src : Src) (opc : Nat) (d : Desc) (b : Bus) : Prop :=
  match src with
  | .slice n => x.hif = (w.setSlice n { w.slice n with running := [Sys2Proof.cmdRun s src opc d b] }).hif ∧ x.enabled n = true ∧ (w.slice n).running = []
  | .mgmt => x.hif = { w.hif with mgmtRun := some (Sys2Proof.cmdRun s src opc d b), mgmtCount := s.hif.mgmtCount + 1 } ∧ w.hif.mgmtRun = none

/-- It stands so when neither the body nor the effect touches the host interface. -/
theorem HifRuns_of_same {s w x : State} {src : Src} {opc : Nat} {d : Desc} {b : Bus} (h : Sys2Proof.Takes s src)
    (hx : x.SameHif (s.begun src opc d b) src) (hw : w.hif = s.hif) : HifRuns s w x src opc d b := by
  cases src with
  | slice n =>
    have hwn : w.slice n = s.slice n := State.slice_congr hw n
    refine ⟨hx.1.trans ((State.begun_hif ..).trans ?_), (hx.2 n rfl).trans (State.begun_enabled s n opc d b h.1), by rw [hwn]; exact h.2.2⟩
    simp only [State.setSlice_hif, hwn, hw]
  | mgmt =>
    refine ⟨?_, by rw [hw]; exact h.2.1⟩
    rw [hx.1, hw]; rfl

/-- A management command's result stands in the staging buffer. -/
theorem HifRuns_of_staging {s x : State} {opc : Nat} {d : Desc} {b : Bus} {m : List Host.Cell} (h : Sys2Proof.Takes s .mgmt)
    (hx : x.SameHif (s.begun .mgmt opc d b) .mgmt) : HifRuns s (s.setStaging m) (x.setStaging m) .mgmt opc d b := by
  refine ⟨?_, h.2.1⟩
  have e : (x.setStaging m).hif = { x.hif with staging := m } := rfl
  rw [e, hx.1]; rfl

theorem State.core_buildPending {a c : State} (e : a.core = c.core) : a.build = c.build ∧ a.pending = c.pending :=
  ⟨(congrArg State.build e : a.core.build = c.core.build), (congrArg State.pending e : a.core.pending = c.core.pending)⟩

/-- A command is taken, and its body leads to `x` and completes there. -/
theorem command_ended (s : State) (i : Instr) (src : Src) (opc : Nat) (d : Desc) (b : Bus) (perm : Perm) (ns : Bool) (body : State → Running → State)
    (w x : State) (st v se : Nat) (h : Sys2Proof.Takes s src) (hp : permits perm src = true)
    (hb : body (s.begun src opc d b) (Sys2Proof.cmdRun s src opc d b) = x.complete (Sys2Proof.cmdRun s src opc d b) st v se)
    (hx : HifRuns s w x src opc d b) (hc : x.core = w.core)
    (hr : ∀ k, plainWord k = true → x.regGet k = w.regGet k) (ho : ∀ e ∈ w.out, e ∈ x.out)
    (hbd : w.build = s.build) (hpd : w.pending = s.pending) (hft : x.ct = s.ct) :
    ∃ t, act s (s.command i src d b opc perm ns body) = .next t ∧ Sys2Proof.Ended s t src opc d st v se w := by
  rw [State.command_takes s i src opc d b perm ns body h hp, hb]
  set y := x.complete (Sys2Proof.cmdRun s src opc d b) st v se with hy
  have hcc : y.core = w.core := (State.core_complete ..).trans hc
  have hbp := State.core_buildPending hcc
  have hm : ∀ u : State, u.side = y.side → (∀ e ∈ y.out, e ∈ u.out) → Sys2Proof.CoreMatches u w := fun u hside hout =>
    ⟨(State.core_of_side hside).trans hcc, fun k hq hk => by
        have hpk : plainWord k = true := by simp [plainWord, hq, hk]
        rw [State.regGet_of_side hside k hq, hy, State.regGet_complete _ _ _ _ _ _ hpk, hr k hpk],
      fun e he => hout e (State.complete_out _ _ _ _ _ e (ho e he))⟩
  cases src with
  | slice n =>
    obtain ⟨hx1, hen, hwr⟩ := hx
    have hsl : x.slice n = { w.slice n with running := [Sys2Proof.cmdRun s (.slice n) opc d b] } := by
      rw [State.slice_congr hx1, State.slice_setSlice]
    obtain ⟨h1, h2⟩ := State.complete_hif x (Sys2Proof.cmdRun s (.slice n) opc d b) n st v se rfl (by rw [hsl]) hen
    simp only []
    rw [State.checkQuiesced_enabled _ _ h2]
    obtain ⟨u, hu, hside, hout⟩ := act_out s y (hbp.1.trans hbd) (hbp.2.trans hpd)
    refine ⟨u, hu, hm u hside hout, ?_⟩
    show u.hif = _
    rw [State.hif_of_side hside, hy, h1, hsl]
    simp only [State.setSlice_hif]
    rw [hx1]
    simp only [State.setSlice_hif, Tab.set_set, Sys2Proof.cmdCpl, Sys2Proof.cmdRun, hft]
    rw [← hwr]
  | mgmt =>
    obtain ⟨hx1, hwr⟩ := hx
    simp only []
    obtain ⟨u, hu, hside, hout⟩ := act_out s y (hbp.1.trans hbd) (hbp.2.trans hpd)
    refine ⟨u, hu, hm u hside hout, ?_, ?_⟩
    · rw [State.hif_of_side hside, hy, State.complete_hif_mgmt _ _ _ _ _ rfl, hx1]
      show ({ w.hif with mgmtRun := none, mgmtCount := s.hif.mgmtCount + 1 } : Hif) = _
      rw [← hwr]
    · have hr := State.complete_resp x (Sys2Proof.cmdRun s .mgmt opc d b) st v se rfl
      rw [hft] at hr
      exact hout _ hr

/-- A command is taken, its body leads to `x`, and it runs on. -/
theorem command_runsOn (s : State) (i : Instr) (src : Src) (opc : Nat) (d : Desc) (b : Bus) (perm : Perm) (ns : Bool) (body : State → Running → State)
    (w x : State) (h : Sys2Proof.Takes s src) (hp : permits perm src = true)
    (hb : body (s.begun src opc d b) (Sys2Proof.cmdRun s src opc d b) = x)
    (hx : HifRuns s w x src opc d b) (hc : x.core = w.core)
    (hr : ∀ k, plainWord k = true → x.regGet k = w.regGet k) (ho : ∀ e ∈ w.out, e ∈ x.out)
    (hbd : w.build = s.build) (hpd : w.pending = s.pending) :
    ∃ t, act s (s.command i src d b opc perm ns body) = .next t ∧ Sys2Proof.RunsOn s t src opc d b w := by
  rw [State.command_takes s i src opc d b perm ns body h hp, hb]
  have hbp := State.core_buildPending hc
  have hm : ∀ u : State, u.side = x.side → (∀ e ∈ x.out, e ∈ u.out) → Sys2Proof.CoreMatches u w := fun u hside hout =>
    ⟨(State.core_of_side hside).trans hc, fun k hq hk => by
        rw [State.regGet_of_side hside k hq, hr k (by simp [plainWord, hq, hk])], fun e he => hout e (ho e he)⟩
  obtain ⟨u, hu, hside, hout⟩ := act_out s x (hbp.1.trans hbd) (hbp.2.trans hpd)
  cases src with
  | slice n =>
    obtain ⟨hx1, hen, hwr⟩ := hx
    simp only []
    rw [State.checkQuiesced_enabled _ _ hen]
    exact ⟨u, hu, hm u hside hout, (State.hif_of_side hside).trans hx1⟩
  | mgmt => exact ⟨u, hu, hm u hside hout, (State.hif_of_side hside).trans hx.1⟩

/-- The shared checks of R198 pass. -/
theorem State.check_none (s u : State) (src : Src) (opc : Nat) (d : Desc) (b : Bus) (k : Need) (hc : Sys2Proof.Clean s src d) (hu : u.build = s.build)
    (ha : k.args = true) (hs : k.sess ≠ some false) (hz : k.zero = false) (ht : k.tooLong = false)
    (hr : k.reads = true → b.rd = .good ∨ src = .mgmt) : u.check (Sys2Proof.cmdRun s src opc d b) k = none := by
  obtain ⟨h1, h2⟩ := hc
  unfold State.check
  simp only [Sys2Proof.cmdRun, h1, ha, hz, ht, hu, Running.isMgmt]
  cases src <;> simp at * <;> grind

end Sys2Proof.Machine
end

