-- ==== Sys2Proof/Laws/Stage.lean ====
section
/-! SUPPORT. The staging buffer: every write keeps its canonical form, a read after a write gives what was written, and a write leaves every other byte alone. -/

namespace Sys2Proof.Machine

theorem stagePut_wf (m : List Host.Cell) (a : Nat) (v : Byte) (h : Memory.wf m = true) : Memory.wf (stagePut m a v) = true := by
  simp only [Memory.wf, Bool.and_eq_true, List.all_eq_true, bne_iff_ne, ne_eq] at h ⊢
  unfold stagePut
  split
  · exact ⟨Tab.wf_del m a h.1, fun c hc => h.2 c (Tab.mem_del hc)⟩
  · refine ⟨Tab.wf_set m a v h.1, fun c hc => ?_⟩
    rcases Tab.mem_set hc with rfl | hm
    · assumption
    · exact h.2 c hm

theorem stageGet_put (m : List Host.Cell) (a j : Nat) (v : Byte) (h : Memory.wf m = true) :
    stageGet (stagePut m a v) j = if j = a then v else stageGet m j := by
  have hw : Tab.wf m = true := by simp only [Memory.wf, Bool.and_eq_true] at h; exact h.1
  unfold stageGet stagePut
  split
  · subst v
    split
    · subst j; rw [Tab.get_del_self m a hw]; rfl
    · rw [Tab.get_del_ne m (by assumption)]
  · rw [Tab.get_set]; split <;> rfl

theorem stageFold_wf (l : List (Byte × Nat)) (a : Nat) (m : List Host.Cell) (h : Memory.wf m = true) :
    Memory.wf (l.foldl (fun m e => stagePut m (a + e.2) e.1) m) = true := by
  induction l generalizing m with
  | nil => exact h
  | cons x l ih => exact ih _ (stagePut_wf m (a + x.2) x.1 h)

/-- Every write keeps the canonical form. -/
theorem stageWrite_wf (m : List Host.Cell) (a : Nat) (bs : List Byte) (h : Memory.wf m = true) : Memory.wf (stageWrite m a bs) = true :=
  stageFold_wf _ a m h

theorem stageFold_get (bs : List Byte) (k a j : Nat) (m : List Host.Cell) (h : Memory.wf m = true) :
    stageGet ((bs.zipIdx k).foldl (fun m e => stagePut m (a + e.2) e.1) m) j =
      if a + k ≤ j ∧ j < a + k + bs.length then bs.getD (j - (a + k)) 0 else stageGet m j := by
  induction bs generalizing k m with
  | nil => rw [if_neg (by simp)]; rfl
  | cons x l ih =>
    simp only [List.zipIdx_cons, List.foldl_cons]
    rw [ih (k + 1) _ (stagePut_wf m (a + k) x h), stageGet_put m (a + k) j x h]
    by_cases h1 : j = a + k
    · subst h1
      rw [if_neg (by omega), if_pos rfl, if_pos (by simp only [List.length_cons]; omega)]
      simp
    · by_cases h2 : a + (k + 1) ≤ j ∧ j < a + (k + 1) + l.length
      · rw [if_pos h2, if_pos (by simp only [List.length_cons]; omega)]
        obtain ⟨i, rfl⟩ : ∃ i, j = a + (k + 1) + i := ⟨j - (a + (k + 1)), by omega⟩
        have e1 : a + (k + 1) + i - (a + (k + 1)) = i := by omega
        have e2 : a + (k + 1) + i - (a + k) = i + 1 := by omega
        rw [e1, e2]; simp
      · rw [if_neg h2, if_neg h1, if_neg (by simp only [List.length_cons]; omega)]

/-- A byte inside the written range is the written byte; every other byte is as before. -/
theorem stageGet_write (m : List Host.Cell) (a j : Nat) (bs : List Byte) (h : Memory.wf m = true) :
    stageGet (stageWrite m a bs) j = if a ≤ j ∧ j < a + bs.length then bs.getD (j - a) 0 else stageGet m j :=
  stageFold_get bs 0 a j m h

/-- Reading back what was written gives it. -/
theorem stageRead_write (m : List Host.Cell) (a : Nat) (bs : List Byte) (h : Memory.wf m = true) :
    stageRead (stageWrite m a bs) a bs.length = bs := by
  refine List.ext_getElem (by simp [stageRead]) fun i h1 h2 => ?_
  simp only [stageRead, List.getElem_map, List.getElem_range]
  rw [stageGet_write m a (a + i) bs h, if_pos (by omega)]
  have : a + i - a = i := by omega
  rw [this]; simp [h2]

@[simp] theorem stageGet_nil (a : Nat) : stageGet [] a = 0 := rfl
theorem Memory.wf_nil : Memory.wf [] = true := rfl

end Sys2Proof.Machine
end

