-- ==== Sys2Proof/Tests/Base.lean ====
section
/-! SUPPORT. Small states, operands and checks that the tests are written with. -/

namespace Sys2Proof.Tests

open Sys2Proof Sys2Proof.Machine

/-- Put values into register fields; the other fields of a word not yet listed become 0. -/
def put (s : State) (l : List (RF × Nat)) : State :=
  { s with regs := l.foldl (fun t e =>
      let or := fun (t : Tab W32) (k v : Nat) => Tab.set t k ((Tab.get t k).getD 0 ||| BitVec.ofNat 32 v)
      let t1 := or t e.1.addr (e.2 * 2 ^ e.1.lo)
      if e.1.lo + e.1.w > 32 then or t1 (e.1.addr + 4) (e.2 * 2 ^ e.1.lo / 2 ^ 32) else t1) s.regs }

/-- A block in RUN whose host has enabled slice 0 and put one command in its ring. -/
def run (b : Build) : State :=
  put { State.resetOf b with whl := { clock := true, acc := 1000000 * 2 ^ 40, cyc := 250000 } }
    [(Reg.ID_STATUS_RUN, 1), (Reg.SNG_RSTCAUSE_STATE, 5), (Reg.HIF_CTRL_HOST_EN, 1), (Reg.SLC_CTRL_ENABLE.at 0, 1), (Reg.SLC_STATUS_ENABLED.at 0, 1),
     (Reg.SLC_CMDTAIL_COUNT.at 0, 1), (Reg.SLC_QUOTA_QUOTA.at 0, 8)]
def leaf : State := run .leaf
def hub : State := run .hub

def desc : Desc := { irq := false, fence := false, rsv := 0, session := 0, count := 0, addr := 0, len := 0, arg0 := 0, arg1 := 0 }
def bus : Bus := { data := [], rd := .good, wfail := none }
/-- Operand bytes, and a descriptor of their length. -/
def busOf (ws : List W64) : Bus := { bus with data := wordsBytes ws }
def descOf (ws : List W64) : Desc := { desc with len := BitVec.ofNat 32 (8 * ws.length) }
def acc : Acc := { port := .host, pasid := none, bitAlias := 0, full := true }

/-- The port of a command takes it, and its descriptor is clean. -/
def takes (s : State) (d : Desc) : Src → Bool
  | .slice n => s.canFetch n && decide ((s.slice n).fetched = []) && decide ((s.slice n).running = []) && decide (d.rsv = 0)
      && (decide (d.len = 0) || (decide (d.addr.toNat % 8 = 0) && decide (d.addr.toNat + d.len.toNat ≤ 2 ^ 64)))
  | .mgmt => !s.mgmtHolds && decide (s.hif.mgmtRun = none) && decide (s.hif.mgmtWait = []) && s.running && !s.stopped && decide (d.rsv = 0)
      && (decide (d.len = 0) || (decide (d.addr.toNat % 8 = 0) && decide (d.addr.toNat + d.len.toNat ≤ stagingSize s.build)))

theorem takes_spec (s : State) (d : Desc) (src : Src) (h : takes s d src = true) : Takes s src ∧ Clean s src d := by
  cases src <;> simp [takes] at h <;> simp [Takes, Ready, MgmtReady, Clean] <;> tauto

/-- A state is calm when nothing is owed and no ledger point has counted. -/
theorem calm_of (s : State) (h : s.work = [] ∧ s.lea.pts = []) : Calm s := ⟨h.1, by simp [h.2]⟩

end Sys2Proof.Tests
end

