-- ==== Sys2Proof/Tests/Sessions.lean ====
section
/-! SUPPORT. Witnesses: for the statements on sessions, models, reductions and cuts, states and operands that meet the hypotheses of each clause together. -/

set_option maxRecDepth 20000
set_option Elab.async false

namespace Sys2Proof.Tests

open Sys2Proof Sys2Proof.Machine

/-! ### Sessions, models and reductions -/

def sess0 : Sess := { state := ssOPEN, slice := 0, word0 := 0, word1 := 0, feats := [{ pos := 0, fmt := 0, src := false, group := 0 }] }
def img0 : MImage := { nfeat := 1, depth := 0, base := 0, enter := 1, exit := 0, level := false, modelId := 7, cmps := 0, trees := [{ gmask := 1, root := 0, depth := 0 }], gmap := [0], nodes := [0x8000000000000005] }
def model0 : Model := { state := mRESIDENT, tag := 1, slice := 0, pin := false, width := 0, gen := 1, bytes := 96, addr := 0, img := img0, shares := [{ dom := 0, first := 0, count := 1 }] }
/-- Generator 8 triggers samples: window 64 to 128 of each 256-tick period. -/
def gen8 : Tab Gen := [(8, { run := some { kind := 1, period := 4096, offset := 0, length := 1024, apply := 0 } })]
def setRegs (s : State) : State :=
  put s [(Reg.REEL_SET_EN.at 0, 1), (Reg.REEL_SET_GEN.at 0, 8), (Reg.REEL_SETSTAT_COUNT.at 0, 1)]
def withSess (s : State) (x : Sess) : State :=
  setRegs { s with crd := [(0, x)], dst := { s.dst with models := [(0, model0)] }, whl := { s.whl with gens := gen8 } }
def boundSess : Sess := { sess0 with model := some 1024 }

/-- A session block with one feature entry. -/
def block (child : Nat) : List W64 := [BitVec.ofNat 64 child, 0, 0, 0, if child = 1 then 5 * 8192 else 0]

/-- For the statement SessionsOpenRunAndClose (SESS_OPEN). -/
theorem wit_sessOpen :
    (∀ b ∈ [Build.leaf, Build.hub], let s := run b
      let ws := block (if b.isHub then 1 else 0)
      let d := { descOf ws with count := 1 }
      takes s d (.slice 0) = true ∧ 32 + 4 * d.count.toNat ≤ d.len.toNat ∧
      (let bs := operandOf s (.slice 0) d (busOf ws)
       headerOk s.build (wordAt bs 0) (wordAt bs 2) (wordAt bs 3) = true ∧
       ((List.range d.count.toNat).map fun i => w32At bs (8 + i)).all (featOk s.build.isHub) = true) ∧
      s.openOf 0 < s.fget (Reg.SLC_QUOTA_QUOTA.at 0) ∧ s.keysUsed + 32 ≤ keyStore s.build ∧ s.openSess = [] ∧ s.sess 0 = none) := by
  decide +kernel

/-- For the statement SessionsOpenRunAndClose (SESS_CLOSE). -/
theorem wit_sessClose :
    (let s := withSess leaf boundSess
     takes s desc (.slice 0) = true ∧ s.sess 0 = some boundSess ∧ Tab.wf s.crd = true ∧ boundSess.resv = none ∧ s.dst.evals = [] ∧
      (∀ e ∈ s.dst.models, e.2.state = mRESIDENT) ∧ s.ownPaths 0 = []) := by decide +kernel

/-- For the statement SessionsOpenRunAndClose (SESS_START). -/
theorem wit_sessStart :
    (let s := withSess leaf boundSess
     let d := { desc with arg1 := 2000000 }
     takes s d (.slice 0) = true ∧ s.sess 0 = some boundSess ∧ s.ft < d.arg1.toNat ∧ boundSess.state = ssOPEN ∧ (s.modelOf boundSess).isSome = true ∧
      s.samples (s.sessGen boundSess) = true ∧ s.flag (Reg.REEL_SET_EN.at boundSess.set_) = true ∧
      ∀ f ∈ boundSess.feats, f.pos < s.fget (Reg.REEL_SETSTAT_COUNT.at boundSess.set_)) := by decide +kernel

/-- For the statement SessionsOpenRunAndClose (SESS_STOP). -/
theorem wit_sessStop :
    (∀ st ∈ [ssRUNNING, ssSTARTING],
     let x := { boundSess with state := st, startFt := 2000000 }
     let s := withSess leaf x
     let d := { desc with arg1 := 2000000 }
     takes s d (.slice 0) = true ∧ s.sess 0 = some x ∧ s.ft < d.arg1.toNat ∧ d.arg1.toNat ≤ x.startFt) := by decide +kernel

/-- The block with its up-port 0 and its links fit for reservations. -/
def admitting : State := put (withSess leaf boundSess) [(Reg.STR_PSTAT_STATE.at 32, 3), (Reg.STR_PSTAT_STATE.at 33, 3),
  (Reg.STR_PSTAT_RESERVABLE.at 32, 1), (Reg.STR_PSTAT_RESERVABLE.at 33, 1), (Reg.BOB_RSHARE_SHARE, 4096), (Reg.STR_PCFG_LANES.at 32, 2), (Reg.STR_PCFG_LANES.at 33, 2),
  (Reg.TNS_BURST_BUDGET.at 0, 4096), (Reg.TNS_BURST_BUDGET.at 1, 4096), (Reg.TNS_BURST_BUDGET.at 2, 4096)]
def admitBlock : List W64 := [0x0000010000000004, 1000, 0, 0]

/-- For the statement SessionIsAdmittedAndReleased (SESS_ADMIT). -/
theorem wit_sessAdmit :
    (let s := admitting
     let d := descOf admitBlock
     let w := wordAt (operandOf s (.slice 0) d (busOf admitBlock))
     takes s d (.slice 0) = true ∧ s.sess 0 = some boundSess ∧ 32 ≤ d.len.toNat ∧ bits (w 0) 31 3 = 0 ∧ bits (w 1) 63 40 = 0 ∧ bits (w 2) 63 40 = 0 ∧ w 3 = 0 ∧
      bits (w 0) 2 0 = 4 ∧ bits (w 0) 63 32 = 256 ∧ bits (w 1) 39 0 = 1000 ∧ boundSess.resv = none ∧ s.admitPorts = [(32, false)] ∧
      s.str.paths.length + 1 ≤ s.pathCap ∧
      s.pathCheck none (some 32) 256 1000 0 (s.spindlesFit (s.spindleCharge boundSess (bits (w 2) 31 0))) false = adOK) := by decide +kernel

def resv0 : Resv := { cls := 4, burst := 256, rate := 1000, cmps := 0, merges := 0, anum := 0, held := true, ft := 0, answers := [], paths := 1, cmd := none, charge := [], window := 4096, tokens := 0 }
def heldSess : Sess := { boundSess with resv := some resv0 }
/-- For the statement SessionIsAdmittedAndReleased (SESS_RELEASE). -/
theorem wit_sessRelease : (let s := withSess leaf heldSess
    takes s desc (.slice 0) = true ∧ s.sess 0 = some heldSess ∧ heldSess.admitted = true) := by decide +kernel

/-- For the statement QueriesReturnEntries. -/
theorem wit_queries :
    (let s := withSess leaf boundSess
     let d := { desc with len := 64 }
     takes s d (.slice 0) = true ∧ takes s d .mgmt = true ∧ s.sess 0 = some boundSess ∧
     takes s { desc with len := 32, arg0 := 1024 } (.slice 0) = true ∧ s.sliceModel 1024 0 = some (0, model0) ∧ takes s { desc with len := 32 } .mgmt = true) := by
  decide +kernel

/-- A model image of one tree, one leaf: header, tree table, group map and node, with its CRC-32 in word 7. -/
def imageWords (check : Nat) : List W64 :=
  [BitVec.ofNat 64 (0x50535A54 + 2 ^ 32), BitVec.ofNat 64 (1 + 2 ^ 32), BitVec.ofNat 64 1, BitVec.ofNat 64 1, 7 <<< 32,
   BitVec.ofNat 64 (64 * 2 ^ 32), BitVec.ofNat 64 (72 + 80 * 2 ^ 32), BitVec.ofNat 64 check, 1, 0, 0x8000000000000005]
def image : List W64 := imageWords (crcOf polyIeee (wordsBytes (imageWords 0)))

/-- For the statement ModelLoads: the image passes every check. -/
theorem wit_image : (match validate (wordsBytes image) 88 (limitsOf .leaf 0 0 0 1 1) with
    | .ok i => decide (i.trees.length = 1) && decide (i.nodes.length = 1) | .error _ => false) = true := by decide +kernel

/-- For the statement ModelLoads. -/
theorem wit_modelLoad :
    (let d := descOf image
     (∀ n ∈ [0, 1024], let s : State := { put leaf [] with dst := { leaf.dst with models := if n = 0 then [] else [(0, { model0 with shares := [{ dom := 0, first := 0, count := 1 }] })] } }
      takes s d (.slice 0) = true ∧ 64 ≤ d.len.toNat ∧ (∀ e ∈ s.dst.models, e.2.state = mRESIDENT) ∧
      (n = 0 → Tab.get s.dst.models 0 = none) ∧ (n ≠ 0 → Tab.get s.dst.models 1 = none))) := by decide +kernel

/-- A load finds its place in an empty store; on a Hub whose Spindles are all fenced it does not. -/
def loading : Model := { state := mLOADING, tag := 1, slice := 0, pin := false, width := 1, gen := 0, bytes := 88, addr := 0, img := img0, cmd := none }
def noStores : State := { hub with snag := { hub.snag with unitFence := (List.range 64).map fun k => (0x40 + k, ()) } }
/-- For the statement ModelLoads: with a place, and without one. -/
theorem wit_modelPlaces : (leaf.setModel 0 loading).placeFree loading = some [{ dom := 0, first := 0, count := 1 }] ∧
    (noStores.setModel 0 loading).placeFree loading = none := by decide +kernel

/-- For the statement ModelsAreBoundAndLeave (MODEL_BIND). -/
theorem wit_modelBind :
    (let s := withSess leaf sess0
     let d := { desc with arg0 := 1024 }
     takes s d (.slice 0) = true ∧ s.sess 0 = some sess0 ∧ s.sliceModel 1024 0 = some (0, model0) ∧ sess0.state = ssOPEN ∧ model0.state ≠ mBROKEN ∧
     s.cacheRoom 0 sess0 model0 = true ∧ badBinding model0.img sess0 = none) := by decide +kernel

/-- For the statement ModelsAreBoundAndLeave (MODEL_EVICT, MODEL_DISCARD). -/
theorem wit_modelEvict :
    (∀ st ∈ [mRESIDENT, mEVICTED],
     let m := { model0 with state := st }
     let s : State := { leaf with dst := { models := [(0, m)] } }
     let d := { desc with arg0 := 1024 }
     takes s d (.slice 0) = true ∧ s.sliceModel 1024 0 = some (0, m) ∧ m.evicting = false ∧ s.protected_ 0 m = false ∧ s.boundTo 0 m = [] ∧ m.shares ≠ []) := by
  decide +kernel

/-- RED_BIND blocks: SUM of one lane at a Leaf, and a sink of a Hub. -/
def redLeaf : List W64 := [BitVec.ofNat 64 (5 + 2 ^ 16 + 1 * 2 ^ 21 + 1 * 2 ^ 24), 0, 0, 0, 0, 0]
def redHub : List W64 := [BitVec.ofNat 64 (5 + 2 ^ 16 + 2 ^ 20 + 1 * 2 ^ 21 + 1 * 2 ^ 24), 4096, 12, 0, 0, 0]
def sess1 : Sess := { sess0 with feats := [{ pos := 0, fmt := 4, src := false, group := 0 }] }

/-- For the statement ReductionsBindAndUnbind, on a Leaf. -/
theorem wit_redBind_leaf :
    (∀ k ∈ [0, 1], let s := withSess leaf sess1
     let d := descOf redLeaf
     let b := if k = 0 then busOf redLeaf else { busOf redLeaf with data := clearOp (busOf redLeaf).data }
     let r := readRed (operandOf s (.slice 0) d b)
     takes s d (.slice 0) = true ∧ d.len.toNat ≤ b.data.length ∧ s.sess 0 = some sess1 ∧ sess1.isChild = false ∧ s.redOk r (some sess1) = true ∧
     (k = 0 → r.op = 1) ∧ (k = 1 → r.op = 0)) := by decide +kernel

/-- For the statement ReductionsBindAndUnbind, on a Hub. -/
theorem wit_redBind_hub :
    (∀ k ∈ [0, 1], let d := descOf redHub
     let b := if k = 0 then busOf redHub else { busOf redHub with data := clearOp (busOf redHub).data }
     let r := readRed (operandOf hub (.slice 0) d b)
     takes hub d (.slice 0) = true ∧ hub.redOk r none = true ∧ (k = 0 → r.op = 1) ∧ (k = 1 → r.op = 0) ∧ hub.tws.sinks = []) := by decide +kernel

def cutReq0 : CutReq := { t := 2000000, origin := 0, onum := 3, lnum := 3, subtree := false, reel := false, slice := some 0 }

def cutRes0 : CutRes := { req := cutReq0, cutFt := 900000, late := false, mismatch := false, whorl := 0, ports := [], merges := [], dumps := [], children := [], timeout := false }
def cutting : State := { leaf with tws := { leaf.tws with auth := [(0, 0)], cuts := [cutReq0], cut := some cutRes0, sats := [List.replicate 12 1], lnum := 4 } }

/-- For the statement CutsAreCommanded. -/
theorem wit_cuts :
    (takes cutting { desc with arg1 := 2000000 } (.slice 0) = true ∧ (0, 0) ∈ cutting.tws.auth ∧ cutting.ft < 2000000 ∧
      (cutting.tws.cuts.filter fun q => q.slice.isSome).length < 4) ∧
    (takes cutting { desc with arg0 := 3 } (.slice 0) = true ∧ ∀ y ∈ cutting.tws.cuts, y.lnum = 3 → y = cutReq0) ∧
    (∀ src ∈ [Src.slice 0, .mgmt], takes cutting { desc with len := 64, arg0 := 3 } src = true ∧ cutRes0.req.lnum = 3 ∧
      takes cutting { desc with len := 96 } src = true ∧ ∀ r ∈ cutting.tws.sats, r ≠ []) := by decide +kernel

/-- Words staged for a management command. -/
def staged (s : State) (ws : List W64) : State := { s with hif := { s.hif with staging := stageWrite [] 0 (wordsBytes ws) } }
/-- For the statement CutsAreCommanded (SNAP_AUTH). -/
theorem wit_snapAuth :
    (let s := staged hub [0x43]
     let d := { desc with count := 1, len := 8 }
     takes s d .mgmt = true ∧ ∀ w ∈ [wordAt (operandOf s .mgmt d bus) 0].map BitVec.toNat, w = 0x43) := by decide +kernel

end Sys2Proof.Tests
end

