-- ==== Sys2Proof/Tests/Units.lean ====
section
/-! SUPPORT. Witnesses: for the statements on jobs, Trace, counters, tables, Staple, the log, dumps, images and slices, states and operands that meet the hypotheses of each clause together. -/

set_option maxRecDepth 20000
set_option Elab.async false

namespace Sys2Proof.Tests

open Sys2Proof Sys2Proof.Machine

/-! ### Jobs, units and tables -/

/-- A VOTER block of two replicas, and a REPLICA block whose vote point is the block itself. -/
def voter : List W64 := [1, 0, 0, 0, 0, 4096, 12, 0, 0x100, 0x101]
def replBlock : List W64 := [BitVec.ofNat 64 (2 ^ 32 + 7 * 2 ^ 16), 0, 0x100, 0, 12, 0, 0, 0]
def voterDesc : Desc := { descOf voter with count := 2 }

/-- For the statement JobsAreDeclared. -/
theorem wit_jobDeclare :
    (let d := voterDesc
     let w := wordAt (operandOf hub (.slice 0) d (busOf voter))
     takes hub d (.slice 0) = true ∧ 64 + 8 * d.count.toNat ≤ d.len.toNat ∧ w 0 = 1 ∧ w 1 = 0 ∧ w 2 = 0 ∧ w 3 = 0 ∧ w 4 = 0 ∧
      (w 5).toNat % 4096 = 0 ∧ bits (w 6) 4 0 = 12 ∧ bits (w 6) 63 6 = 0 ∧ (w 7).toNat % 8 = 0 ∧
      hub.badReplica ((List.range d.count.toNat).map fun i => w (8 + i)) = none ∧ Tab.get hub.ply.jobs 0 = none) ∧
    (let d := descOf replBlock
     let w := wordAt (operandOf leaf (.slice 0) d (busOf replBlock))
     takes leaf d (.slice 0) = true ∧ 64 ≤ d.len.toNat ∧ bits (w 0) 15 0 = 0 ∧ bits (w 0) 63 56 = 0 ∧ bits (w 1) 63 56 = 0 ∧ bits (w 2) 63 53 = 0 ∧ bits (w 4) 63 5 = 0 ∧
      w 5 = 0 ∧ w 6 = 0 ∧ w 7 = 0 ∧ (w 3).toNat % 4096 = 0 ∧ bits (w 4) 4 0 = 12 ∧ bits (w 0) 55 32 ≠ 0 ∧
      (BitVec.ofNat 48 (bits (w 1) 47 0) : Hank) = leaf.unit 0 ∧ sameBlock (BitVec.ofNat 48 (bits (w 2) 47 0)) leaf.self = true ∧
      0x100 ≤ hSub (BitVec.ofNat 48 (bits (w 2) 47 0)) ∧ leaf.ply.repls = []) := by decide +kernel

def job0 : Job := { slice := 0, replicas := [{ addr := 0x100, expelled := true, suspect := true }, { addr := 0x101 }] }
def withJob (s : State) (j : Job) : State := { s with ply := { s.ply with jobs := [(0, j)] } }
def policyBlock : List W64 := [BitVec.ofNat 64 (8 * 2 ^ 16), 0, 0, 0]

/-- For the statement JobsRunTheirCourse. -/
theorem wit_jobs :
    (∀ b ∈ [Build.leaf, Build.hub], let s := withJob (run b) job0
     let d := { desc with arg1 := 1000000000 }
     takes s d (.slice 0) = true ∧ Tab.get s.ply.jobs 0 = some job0 ∧ s.str.starts = [] ∧
      s.ft + s.fget Reg.STR_STARTCFG_MIN * us ≤ d.arg1.toNat ∧ s.ft < d.arg1.toNat ∧ Tab.get s.whl.timers 1 = none) ∧
    (let s := withJob leaf job0
     let d := descOf policyBlock
     let w := wordAt (operandOf s (.slice 0) d (busOf policyBlock))
     takes s d (.slice 0) = true ∧ bits (w 0) 15 8 = 0 ∧ bits (w 0) 63 62 = 0 ∧ bits (w 1) 63 17 = 0 ∧ w 2 = 0 ∧ w 3 = 0 ∧ bits (w 0) 31 16 ≠ 0 ∧
      bits (w 0) 7 0 = 0) ∧
    (takes (withJob leaf job0) desc (.slice 0) = true ∧ (∀ a ∈ job0.attrs, a.cmd = none) ∧ leaf.ply.repls = [] ∧ takes leaf desc (.slice 0) = true) := by
  decide +kernel

def overBlock (a : Nat) : List W64 := [BitVec.ofNat 64 (a + (if a = 1 then 2 ^ 16 else 0) + (if a = 5 then 2 ^ 32 else 0)), 0]
def dig (i v : Nat) : Digest := { unit := 0, index := i, incomplete := false, step := 0, nseen := 1, digest := BitVec.ofNat 64 v, subs := [], words := [] }
def judgedJob : Job := { job0 with closed := some { step := 0, openFt := 0, got := [dig 0 1, dig 1 2] } }
/-- For the statement OperatorsOverride. -/
theorem wit_override :
    (∀ a ∈ [0, 1, 2, 3, 4, 5],
     let s := put (withJob hub judgedJob) [(Reg.PLY_BUD_STORM.at 0, 1), (Reg.PLY_BUD_TOKENS.at 0, 1), (Reg.HIF_FNSTAT_MODE, 8)]
     let d := { descOf (overBlock a) with session := 3 }
     let w := wordAt (operandOf s (.slice 0) d (busOf (overBlock a)))
     takes s d (.slice 0) = true ∧ 16 ≤ d.len.toNat ∧ bits (w 0) 2 0 = a ∧ bits (w 0) 7 3 = 0 ∧ bits (w 0) 23 21 = 0 ∧ bits (w 0) 31 28 = 0 ∧ bits (w 0) 63 48 = 0 ∧ w 1 = 0 ∧
     bits (w 0) 15 8 = 0 ∧ judgedJob.replicas[bits (w 0) 20 16]?.map (·.expelled) = some (a != 1) ∧
     s.fget (Reg.PLY_BUD_TOKENS.at (s.budgetPart 0x101)) ≠ 0 ∧ bits (w 0) 27 24 < nParts s.build ∧
     s.flag (Reg.PLY_BUD_STORM.at (bits (w 0) 27 24)) = true ∧ s.assisted 3 = true ∧ s.ply.repls = [] ∧ judgedJob.policy.attrLim ≠ 0 ∧
     (digestOf [dig 0 1, dig 1 2] (bits (w 0) 20 16)).isSome = true ∧ (digestOf [dig 0 1, dig 1 2] (bits (w 0) 47 32 % 32)).isSome = true) := by decide +kernel

def cfgBlock : List W64 := [0, 0, 0, 0]
def cfg0 : TrcCfg := { base := 0, log2 := 0, mode := false, dest := 0, pre := 0, mirror := false, autoDrain := false, mirAddr := 0, srcMask := 1 }
def frozen : State :=
  put { leaf with trc := { leaf.trc with cfg := some cfg0, pkts := [(0, [0x100, 1])] } }
    [(Reg.TRC_STATUS_STATE, 3), (Reg.TRC_STATUS_VALID, 1), (Reg.TRC_WRCNT_COUNT, 16)]
def arch0 : ArchRec := { ft := 1, origin := 0, kind := 0, seq := 1, oseq := 1, set := 0, hdrFt := 1, data := List.replicate 64 0 }

/-- For the statement TraceIsCommanded. -/
theorem wit_trace :
    (let d := descOf cfgBlock
     takes leaf d (.slice 0) = true ∧ leaf.trcNotOwner 0 = false ∧ leaf.trcState = tIDLE ∧
      leaf.trcCfgBad (operandOf leaf (.slice 0) d (busOf cfgBlock)) (trcCfgOf (operandOf leaf (.slice 0) d (busOf cfgBlock))) = false) ∧
    (let s := frozen
     let d := { desc with len := 64 }
     takes s d (.slice 0) = true ∧ s.trc.cfg = some cfg0 ∧ s.trcNotOwner 0 = false ∧ s.trcState = tFROZEN ∧ s.traceOff = false ∧ (s.fnSwitch 7).assisted 7 = false ∧
      s.fget Reg.TRC_OLDCNT_COUNT = 0 ∧ s.fget Reg.TRC_WRCNT_COUNT = 16 ∧ s.rawTrace 0 16 ≠ [] ∧ s.trc.releasing = none ∧ s.trcState ≠ tSTREAM) ∧
    (let s := put { hub with trc := { hub.trc with archive := [arch0] } } [(Reg.HIF_FNSTAT_MODE, 128), (Reg.TRC_ARCHSEQ_NEWEST, 1)]
     let d := { desc with len := 128, arg0 := 1 }
     takes s d (.slice 0) = true ∧ (s.fnSwitch 7).assisted 7 = true ∧ arch0.seq = d.arg0 ∧ seqLt (s.fget Reg.TRC_ARCHSEQ_NEWEST) d.arg0.toNat = false ∧
      arch0.size ≤ d.len.toNat) := by decide +kernel

def sels0 : List W64 := [0x6001]
def schedBlock : List W64 := [4096, BitVec.ofNat 64 (12 + 2 ^ 16), 0, 0]
def sample0 : Sample := { ft := 256, locked := true, gap := false, entries := [{ value := 1, delta := 1, first := true, off := false }] }
/-- For the statement CountersAreCommanded. -/
theorem wit_counters :
    (let d := { descOf sels0 with count := 1 }
     let sels := selList (operandOf leaf (.slice 0) d (busOf sels0)) 1
     takes leaf d (.slice 0) = true ∧ (∀ x ∈ sels, leaf.selPresent x = true) ∧ leaf.flag (Reg.REEL_SETSTAT_BOUND.at 0) = false ∧ leaf.tableUsed 0 + 1 ≤ 8192) ∧
    (let s : State := { leaf with reel := { leaf.reel with sets := [(0, { sels := [0x6001], latest := some sample0 })], tags := [{}] } }
     let d := { desc with len := 64 }
     takes s d (.slice 0) = true ∧ (s.rset 0).latest = some sample0 ∧ ceilDiv (32 + 8 * (s.rset 0).sels.length) 64 * 64 ≤ d.len.toNat ∧ s.reel.tags ≠ []) ∧
    (let d := descOf schedBlock
     let w := wordAt (operandOf leaf (.slice 0) d (busOf schedBlock))
     takes leaf d (.slice 0) = true ∧ bits (w 1) 7 5 = 0 ∧ bits (w 1) 15 12 = 0 ∧ bits (w 1) 63 35 = 0 ∧ w 3 = 0 ∧ bits (w 1) 33 32 = 0 ∧
      bits (w 0) 11 0 = 0 ∧ bits (w 1) 4 0 = 12 ∧ bits (w 2) 2 0 = 0) := by decide +kernel

/-- For the statement TimeAndTablesAreCommanded. -/
theorem wit_tables :
    (takes leaf desc (.slice 0) = true ∧ takes leaf desc .mgmt = true) ∧
    (let s := staged leaf [37]
     let d := { desc with len := 8 }
     takes s d .mgmt = true ∧ 8 + 8 * bits (wordAt (operandOf s .mgmt d bus) 0) 23 16 ≤ d.len.toNat ∧ leapOk (operandOf s .mgmt d bus) = true) ∧
    (let s := staged leaf [BitVec.ofNat 64 (5 * 2 ^ 32), 1, 0, 0]
     let d := { desc with len := 32 }
     let w := wordAt (operandOf s .mgmt d bus)
     takes s d .mgmt = true ∧ bits (w 0) 31 8 = 0 ∧ bits (w 1) 63 51 = 0 ∧ bits (w 2) 63 48 = 0 ∧ w 3 = 0 ∧ bits (w 0) 7 0 = hSite s.self) := by decide +kernel

def test0 : STest := { unit := 0x100, interval := 1000, expect := 0, dur := 10, rdur := 10, prog := [], rest := [] }
def pkg0 : Package := { pkgid := 5, ver := 1, bytes := [], tests := [test0] }
/-- For the statement StapleIsCommanded; its package that passes every check is wit_goodPackage. -/
theorem wit_staple :
    (let s : State := { leaf with stp := { leaf.stp with pkgs := [(1, pkg0)] } }
     let d := { desc with arg1 := 5 }
     takes s d .mgmt = true ∧ s.stp.changes = [] ∧ s.stp.changeCmds = [] ∧ s.stp.run = none ∧ bits d.arg1 63 32 = 0 ∧ Tab.get s.stp.pkgs 1 = some pkg0 ∧
      pkg0.pkgid.toNat = bits d.arg1 31 0 ∧ ∀ e ∈ s.stp.pkgs, e.2.pkgid = pkg0.pkgid → e.1 = 1) ∧
    (let d := { desc with arg0 := 1000, arg1 := 2000000, count := 1 }
     takes leaf d (.slice 0) = true ∧ leaf.ft < d.arg1.toNat ∧
      ((leaf.setPoints (leaf.stp.points ++ [{ start := 2000000, len := 1000, mask := 1, opened := false, ran := [] }])).armSafe).2 = true) ∧
    (let s : State := { leaf with stp := { leaf.stp with results := [{}] } }
     let d := { desc with len := 64 }
     takes s d (.slice 0) = true ∧ takes s d .mgmt = true ∧ s.stp.results ≠ []) := by decide +kernel

/-- A log record with sequence number 9. -/
def rec9 : Rec × Rec := ({ w2 := 9 }, {})
def dumpLive : Dump := { port := 0, auto := false, mask := 1, startFt := 0, endFt := 0, bytes := List.replicate 64 0, pos := 0 }
/-- For the statement LogIsReadAndCleared. -/
theorem wit_log :
    (let s : State := { leaf with skn := { leaf.skn with recs := [rec9] } }
     let d := { desc with len := 64, arg1 := 1 }
     takes s d (.slice 0) = true ∧ takes s d .mgmt = true ∧ s.skn.read = none ∧ (s.logFrom (bit d.arg1 0) d.arg0.toNat).take (d.len.toNat / 64) ≠ [] ∧
      (leaf.logFrom true 0).take 1 = [] ∧ takes leaf d (.slice 0) = true ∧ takes s { desc with arg1 := 1 } .mgmt = true ∧ (s.work = [] ∧ s.lea.pts = []) ∧
      s.logHeld.length < 2 ^ 32) := by decide +kernel

/-- For the statement DumpsAndImagesAreCommanded. -/
theorem wit_dumpImages :
    (takes leaf { desc with arg1 := 255 } .mgmt = true ∧ leaf.skn.dump = none ∧ leaf.skn.capture = none ∧ leaf.work = [] ∧ leaf.lea.pts = []) ∧
    (let s : State := { leaf with skn := { leaf.skn with dump := some dumpLive } }
     let d := { desc with len := 64, arg1 := 8 }
     takes s d .mgmt = true ∧ 8 ≤ min d.len.toNat (dumpLive.bytes.length - d.arg1.toNat) / 8 * 8 ∧ d.arg1.toNat % 8 = 0 ∧ takes s desc .mgmt = true ∧ s.skn.capture = none) ∧
    (takes leaf { desc with len := 64 } .mgmt = true ∧ leaf.imageBusy = false ∧ leaf.bootStep ≠ 1) ∧
    (let s := State.resetOf .leaf
     s.imageBusy = false ∧ s.hif.mgmtHeld = [] ∧ s.hif.mgmtRun = none ∧ s.hif.mgmtWait = [] ∧ s.running = false ∧ s.stopped = false ∧
      (put s [(Reg.SNG_RSTCAUSE_STATE, 1)]).bootStep = 1) := by decide +kernel

/-- For the statement SlicesAreCommanded. -/
theorem wit_slices :
    (let d := { desc with arg0 := 1, arg1 := 5 }
     takes leaf d (.slice 0) = true ∧ bits d.arg1 63 20 = 0 ∧ 1 < nSlices leaf.build ∧ leaf.bound 1 = false) ∧
    (let d := { desc with arg0 := 1, count := 4 }
     takes leaf d (.slice 0) = true ∧ takes leaf d .mgmt = true ∧ leaf.quotaSum - leaf.fget (Reg.SLC_QUOTA_QUOTA.at 1) + d.count.toNat ≤ nSessions leaf.build) ∧
    (let s := put leaf [(Reg.SLC_PASID_BOUND.at 1, 1)]
     let d := { desc with arg0 := 1 }
     takes s d (.slice 0) = true ∧ takes s d .mgmt = true ∧ s.bound 1 = true ∧ s.enabled 1 = false ∧ Tab.wf s.hif.slices = true ∧
      s.openSess = [] ∧ s.dst.models = [] ∧ s.tws.sinks = [] ∧ s.flag Reg.TRC_STATUS_OWNED = false ∧ decide ((s.slice 1) = {}) = true) ∧
    (takes leaf { desc with len := 64 } (.slice 0) = true ∧ takes leaf { desc with len := 64 } .mgmt = true) := by decide +kernel

end Sys2Proof.Tests
end

