-- ==== Sys2Proof/Tests/Writes.lean ====
section
/-! SUPPORT. Witnesses: for the statements on register writes, doorbells, resets and unit controls, states and operands that meet the hypotheses of each clause together. -/

set_option maxRecDepth 20000
set_option Elab.async false

namespace Sys2Proof.Tests

open Sys2Proof Sys2Proof.Machine

/-! ### Register writes -/

/-- For the statement WritesReachTheirPlaces: a word that holds its bits. -/
theorem wit_writes :
    [Build.leaf, Build.hub].all (fun b => let s := run b
      (rowOf 0x2078).any (fun r => r.w1c == 0 && s.writeBits 0x2078 r != 0) && decide (s.place .mgmt 0x2078 = .word 0 2 0x78) && !s.mgmtHolds &&
        heldWord (2 * 4096 + 0x78) && decide (s.bankKey .mgmt 0x2078 = some 0x2078) && decide (s.work = [])) = true := by decide +kernel

/-- For the statement WritesReachTheirPlaces: the other places, and the staging buffer. -/
theorem wit_writesNowhere :
    (hub.place .host 0x2078 = .word 0 2 0x78 ∧ leaf.place .host 0x0078 = .word 0 (leaf.windowTarget 0x78 |> fun | .word _ p _ => p | _ => 99) 0x78 ∧
      hub.place .host 0x400000 = .unmapped ∧ leaf.place .host 0x7C00 = .unmapped ∧ leaf.place .mgmt 0x400000 = .unmapped ∧ hub.mgmtHolds = false ∧
      Tab.wf hub.hif.staging = true ∧ 4 + 8 ≤ stagingSize .leaf) := by decide +kernel

/-- For the statement SlicesAreEnabledAndDisabled. -/
theorem wit_enable :
    (let s := put leaf [(Reg.SLC_SEL_SLICE, 1), (Reg.SLC_PASID_BOUND.at 1, 1), (Reg.SLC_RINGSZ_CMD.at 1, 6), (Reg.SLC_RINGSZ_CPL.at 1, 6), (Reg.SLC_RINGSZ_VRD.at 1, 6)]
     s.selGet .host Reg.SLC_SEL_SLICE = 1 ∧ s.enabled 1 = false ∧ s.enableCause 1 = none) ∧
    (let s := leaf
     s.selGet .host Reg.SLC_SEL_SLICE = 0 ∧ s.enabled 0 = true ∧ (s.slice 0).running = [] ∧ (s.slice 0).cplWait = [] ∧ (s.slice 0).unbind = none ∧ (s.slice 0).fetched = []) ∧
    (let s := leaf.setSlice 0 { fetched := [{ opcode := 0x60, d := desc, b := bus, dseq := 0 }] }
     s.enabled 0 = true ∧ (s.slice 0).running = [] ∧ (s.slice 0).fetched.length = 1) := by decide +kernel

/-- For the statement DoorbellsMoveCounts. -/
theorem wit_doorbells :
    (∀ b ∈ [Build.leaf, Build.hub], let s := put (run b) [(Reg.SLC_RINGSZ_CMD.at 0, 6), (Reg.SLC_CPLTAIL_COUNT.at 0, 3), (Reg.SLC_VRDTAIL_COUNT.at 0, 2)]
     s.bound 0 = true ∧ s.enabled 0 = true ∧ s.cmdOcc 0 ≤ mod32 64 (s.fget (Reg.SLC_CMDHEAD_COUNT.at 0)) ∧ mod32 64 (s.fget (Reg.SLC_CMDHEAD_COUNT.at 0)) ≤ s.cmdSize 0 ∧
      s.cmdSize 0 < mod32 65 (s.fget (Reg.SLC_CMDHEAD_COUNT.at 0)) ∧ mod32 0 (s.fget (Reg.SLC_CMDHEAD_COUNT.at 0)) < s.cmdOcc 0 ∧
      mod32 3 (s.fget (Reg.SLC_CPLHEAD_COUNT.at 0)) ≤ s.cplOcc 0 ∧ mod32 2 (s.fget (Reg.SLC_VRDHEAD_COUNT.at 0)) ≤ s.vrdOcc 0 ∧
      s.flag (Reg.SLC_CTRL_VDEST.at 0) = false ∧ (s.work = [] ∧ s.lea.pts = []) ∧
      let w := s.fset (Reg.SLC_CTRL_VDEST.at 0) 1
      w.flag (Reg.SLC_CTRL_VDEST.at 0) = true ∧ w.enabled 0 = true ∧ mod32 1 (w.fget (Reg.SLC_VRDHEAD_COUNT.at 0)) ≤ w.vrdOcc 0) := by decide +kernel

/-- For the statement VerdictWindowAnswers. -/
theorem wit_window :
    (∀ vq ∈ [[({} : Rec)], []],
     let s := (put leaf [(Reg.SLC_CTRL_VDEST.at 0, 1), (Reg.SLC_CTRL_VMODE.at 0, vq.length), (Reg.SLC_CTRL_STALL_LIM.at 0, 1)]).setSlice 0 { vq }
     s.selGet .host Reg.SLC_SEL_SLICE = 0 ∧ s.selGet .mgmt Reg.SLC_SEL_SLICE = 0 ∧ s.flag (Reg.SLC_CTRL_VDEST.at 0) = true ∧ (s.slice 0).vq = vq ∧
      s.fget (Reg.SLC_CTRL_STALL_LIM.at 0) ≠ 0 ∧ s.work = []) ∧
    (let s := (put leaf [(Reg.SLC_CTRL_VDEST.at 0, 1), (Reg.SLC_CTRL_VMODE.at 0, 1), (Reg.SLC_CTRL_STALL_LIM.at 0, 1)]).setSlice 0 { stalls := [(.host, 0)] }
     (s.slice 0).stalls = [(.host, 0)] ∧ 0 + 500 * s.fget (Reg.SLC_CTRL_STALL_LIM.at 0) ≤ s.now) := by decide +kernel

def assisting (s : State) (k : Nat) : State := put s [(Reg.HIF_FNSTAT_MODE, 2 ^ k)]
def pulseGen : State := { leaf with regs := Tab.set (Tab.set (Tab.set leaf.regs 0x1304 4096) 0x130C 4000) 0x1310 2000000 }
/-- For the statement ModesAndClocksAreWritten. -/
theorem wit_modes :
    (let s := assisting leaf 0
     s.assisted 0 = true ∧ s.whl.slew = 0 ∧ (sext 32 1000).natAbs * 5000 ≤ 2 ^ 40 ∧ sext 32 0xFFFFFF00 < 0 ∧ 0 < sext 32 1000 ∧ s.running = true ∧ s.work = []) ∧
    (let s := pulseGen
     let w := s.mwWrite 0x1300 7 acc 0x00070005
     let s1 := s.regSet 0x1300 (mergeBits 3 (s.regGet 0x1300) w)
     bit w 2 = true ∧ genOk (s1.shadow 8) = true ∧ s.ft < (s1.shadow 8).apply) ∧
    (let s := leaf
     let w := s.mwWrite 0x1300 7 acc 0x00070007
     let s1 := s.regSet 0x1300 (mergeBits 3 (s.regGet 0x1300) w)
     bit w 2 = true ∧ genOk (s1.shadow 8) = false) := by decide +kernel

/-- The image that gives a block its tier. -/
def ofTier (s : State) (t : Nat) : State := { s with imgRegs := [(0xD000, (BitVec.ofNat 32 t, 7))] }
/-- For the statement SnagIsCommanded. -/
theorem wit_snag :
    (let s : State := { leaf with snag := { leaf.snag with fq := [{}] } }
     s.snag.fq = [{}] ∧ s.work = [] ∧ s.lea.pts = []) ∧
    (let v : W32 := 0x2800A
     bit v 17 = true ∧ bits v 16 15 = 1 ∧ bits v 10 0 = 10 ∧ unitExists leaf.build 10 = true ∧ leaf.isFenced 10 = false) ∧
    (let v : W32 := 0x31800
     bit v 17 = true ∧ bits v 16 15 = 2 ∧ bits v 14 11 = 3 ∧ leaf.partFenced 3 = false ∧ leaf.stopped = false ∧ leaf.partUnits 3 = []) ∧
    (bit (0x38000 : W32) 17 = true ∧ bits (0x38000 : W32) 16 15 = 3) ∧
    (let s := put (ofTier { hub with snag := { hub.snag with dies := [(4, { state := 5, expelled := true })] } } 1) [(Reg.SNG_DSEL_PORT, 4), (Reg.STR_ROUTE_VALID.at 4, 1)]
     s.selGet .host Reg.SNG_DSEL_PORT = 4 ∧ s.tier = 1 ∧ s.routeValid 4 = true ∧ (s.die 4).state = 5) := by decide +kernel

/-- For the statement ResetsAreCommanded. -/
theorem wit_resets :
    (let s : State := { leaf with staged := [(0x2090, 0x8100)], snag := { leaf.snag with unitFence := [(10, ())], resets := [(10, 0)], partResets := [(3, 0)] } }
     let t := (s.writeHigh 0x2090 0xFFFF acc 1).fget Reg.SNG_CLAIM_SUBJECT
     s.tier ≠ 1 ∧ namesNothing (BitVec.ofNat 48 t) = false ∧ s.snagOff = false ∧ hPlace (BitVec.ofNat 48 t) ≠ hPlace s.self ∧
      (Tab.get s.snag.resets 10).isSome = true ∧ s.isFenced 10 = true) ∧
    (∀ b ∈ [Build.leaf, Build.hub], (run b).stopped = false ∧ resettable b 0x10 = true ∧ 3 < nParts b) ∧
    (let s : State := { leaf with snag := { leaf.snag with partResets := [(3, 0)] } }
     (Tab.get s.snag.partResets 3).isSome = true ∧ s.snag.unitFence = [] ∧ s.partUnits 3 = []) := by decide +kernel

def ranking : State :=
  put { leaf with crd := [(0, sess0)], tws := { leaf.tws with sources := [(0, { rid := 9, op := 5, final := 0, n := 1, first := 0, publish := true, edges := [] })] } }
    [(Reg.TWS_RKSRC_RID.at 0, 9)]
def publishing : State := { hub with tws := { hub.tws with sinks := [{ rid := 0, publish := true, slice := 0, base := 0, log2 := 12, mirror := false, mir := 0, bytes := 0, tc := 0 }] } }
/-- For the statement TraceAndRanksAreWritten. -/
theorem wit_traceRanks :
    (∀ b ∈ [tARMED, tPOST, tSTREAM], let s := put { leaf with trc := { leaf.trc with cfg := some cfg0 } } [(Reg.TRC_STATUS_STATE, b), (Reg.TRC_TRIG_CAUSES, 2)]
     s.traceOff = false ∧ s.trcState = b ∧ (∀ i < 32, (s.trSrc i).buf.length < 2 ^ 32) ∧ s.trigEnabled 1 0 = true ∧ cfg0.pre < 16) ∧
    (let s := ranking
     let w := s.mwWrite (Reg.TWS_RKCTRL_EN.at 0).addr 0x1F acc 0x00010001
     s.selGet .host Reg.TWS_RKSEL_RULE = 0 ∧ s.rankOn 0 = false ∧ bit w 0 = true ∧ s.rankAllowed 0 w = true ∧ leaf.rankAllowed 0 w = false) ∧
    (hub.tws.sinks = [] ∧ ∃ y ∈ publishing.tws.sinks, y.rid = bits (publishing.pubWords.getD 1 0) 15 0) ∧
    (let w := fun i => publishing.pubWords.getD i 0
     bits (w 1) 23 22 = 0 ∧ bits (w 1) 63 40 = 0 ∧ bits (w 3) 63 48 = 0 ∧ ∀ i < 55, pubKey publishing.pubWords i ≤ pubKey publishing.pubWords (i + 1)) := by
  decide +kernel

/-- For the statement QueuesAndBucketsAreWritten. -/
theorem wit_queues :
    (let s := put hub [(Reg.DRF_BRATE_RATE.at 0, 5), (Reg.DRF_BBURST_BURST.at 0, 1000)]
     hasPort s.build (s.selGet .host Reg.DRF_SEL_PORT) = true ∧
      (∀ c < 4, 0 < s.fget (Reg.DRF_BRATE_RATE.at (64 * c)) → 256 + s.fget (Reg.DRF_POVH_OVH.at 0) ≤ s.fget (Reg.DRF_BBURST_BURST.at (64 * c))) ∧
      (∀ c < 8, 4 ≤ c → s.fget (Reg.DRF_BRATE_RATE.at (64 * c)) = 0)) ∧
    (let s := put hub [(Reg.DRF_BRATE_RATE.at 0, 5), (Reg.DRF_BBURST_BURST.at 0, 100)]
     0 < s.fget (Reg.DRF_BRATE_RATE.at 0) ∧ s.fget (Reg.DRF_BBURST_BURST.at 0) < 256 + s.fget (Reg.DRF_POVH_OVH.at 0)) ∧
    (leaf.selQueue .host = some 0 ∧ ownGuar leaf.build 0 = true ∧
      (let sum := fun (v : W32) => sumN ((commonQueues leaf.build).map fun k => if k = 0 then (maskedWord 0 (leaf.regGet (Reg.BOB_QGUAR_GUAR.at 0).addr) v).toNat else leaf.qGuar k)
       sum 0xFFFF0004 ≤ leaf.commonPart ∧ leaf.commonPart < sum 0xFFFFFFFF) ∧
      (maskedWord 0 (leaf.regGet (Reg.BOB_QLEVEL_LEVEL.at 0).addr) 0xFFFF0005).toNat = 5 ∧ (leaf.slice 0).vq.length < 5) := by decide +kernel

/-- For the statement CheckValuesAreTaken, and `Reaches` on both ports. -/
theorem wit_check : (leaf.work = [] ∧ bit (leaf.mwWrite Reg.CVU_CTRL_POLY.addr 3 acc 0x00020002) 1 = true ∧
    bit (leaf.mwWrite Reg.CVU_CTRL_POLY.addr 3 acc 0x00010001) 1 = false ∧ acc.bitAlias = 0) ∧ Reaches leaf acc ∧ Reaches hub acc ∧ Reaches leaf { acc with port := .mgmt } := by
  refine ⟨by decide +kernel, ?_, ?_, ?_⟩ <;> (simp [Reaches, acc]; try decide +kernel)

/-- A block with one test that is due, and an open safe point. -/
def testing : State :=
  put { leaf with stp := { leaf.stp with pkgs := [(0, pkg0)], tests := [(0, { loadFt := 0 })], points := [{ start := 0, len := 2000000, mask := 0, opened := true, ran := [] }],
                                         health := [(0x100, { suspect := true, fail := 3 })] } } [(Reg.HIF_FNSTAT_MODE, 32), (Reg.STP_CTRL_EN, 1), (Reg.STP_USEL_UNIT, 0x100)]
/-- For the statement TestsAndPortsAreWritten. -/
theorem wit_testsPorts :
    (let s := testing
     let w := s.mwWrite Reg.STP_RUN_TEST.addr 0x7FF acc 0x04000400
     let s1 := s.regSet Reg.STP_RUN_TEST.addr (w &&& 0x3FF#32)
     s1.fget Reg.STP_RUN_SLOT = 0 ∧ s1.fget Reg.STP_RUN_TEST = 0 ∧ bit w 10 = true ∧ s.stapleOff = false ∧ s.assisted 5 = true ∧ s.stp.run = none ∧
      s.stest 0 0 = some test0 ∧ s.mayRun 0 0 test0 = true ∧ s.selGet .host Reg.STP_USEL_UNIT = 0x100 ∧ (s.health 0x100).suspect = true ∧ s.work = [] ∧ s.lea.pts = []) ∧
    (let s := put leaf [(Reg.STR_PCTRL_EN.at 32, 0)]
     let s1 := s.regSet (Reg.STR_PCTRL_EN.at 32).addr (s.mwWrite (Reg.STR_PCTRL_EN.at 32).addr 0x3D acc 0x00010001)
     s.flag (Reg.STR_PCTRL_EN.at 32) = false ∧ s1.flag (Reg.STR_PCTRL_EN.at 32) = true ∧ s.pState 32 = 0 ∧ 4 ≤ s.bootStep ∧ s.stopped = false ∧ s.portFenced 32 = false) ∧
    (let s := put leaf [(Reg.STR_PCTRL_EN.at 32, 1), (Reg.STR_PSTAT_STATE.at 32, 2)]
     let s1 := s.regSet (Reg.STR_PCTRL_EN.at 32).addr (s.mwWrite (Reg.STR_PCTRL_EN.at 32).addr 0x3D acc 0x00010000)
     s.tws.cut = none ∧ (s.port 32).partials = [] ∧ s.flag (Reg.STR_PCTRL_EN.at 32) = true ∧ s1.flag (Reg.STR_PCTRL_EN.at 32) = false ∧ s.pState 32 = 2) := by decide +kernel

end Sys2Proof.Tests
end

