-- ==== Sys2Proof/Tests/Frames.lean ====
section
/-! SUPPORT. Witnesses: for the statements on frames received, parents, records and reservations, states and operands that meet the hypotheses of each clause together. -/

set_option maxRecDepth 20000
set_option Elab.async false

namespace Sys2Proof.Tests

open Sys2Proof Sys2Proof.Machine

/-! ### Frames received -/

/-- A frame that is a message by itself, with SEQ 0 and a good check. -/
def frameOf (typ tc : Nat) (dest : Hank) (ws : List W64) : Frame :=
  let f : Frame := { tc := BitVec.ofNat 3 tc, first := true, last := true, replay := false, poison := false, locked := true, ct := 0, seq := 0, lack := 1, cack := 0,
                     rcred := 5, bcred := 6, dest, payload := ws, crc := 0 }
  { f with crc := frameCrc typ f }

/-- The frame is taken and makes a message, and the block it leaves and the message have a property. -/
def got (s : State) (p typ tc : Nat) (dest : Hank) (ws : List W64) (P : State → Msg → Bool) : Bool :=
  match s.rx p typ (frameOf typ tc dest ws) with
  | (s1, some m) => s1.work.isEmpty && (s1.lea.pts.all fun e => decide (e.2.inn ≤ 2 ^ 63 ∧ e.2.copy ≤ 2 ^ 63 ∧ e.2.out ≤ 2 ^ 63 ∧ e.2.dup ≤ 2 ^ 63 ∧
      e.2.d0 ≤ 2 ^ 63 ∧ e.2.d1 ≤ 2 ^ 63 ∧ e.2.d2 ≤ 2 ^ 63 ∧ e.2.d3 ≤ 2 ^ 63)) && decide (m.seqs.length < 2 ^ 32) && decide (m.words.length < 2 ^ 32) && P s1 m
  | _ => false

theorem got_spec (s : State) (p typ tc : Nat) (dest : Hank) (ws : List W64) (P : State → Msg → Bool) (h : got s p typ tc dest ws P = true) :
    ∃ s1 m, Gets s p typ (frameOf typ tc dest ws) s1 m ∧ P s1 m = true := by
  unfold got at h
  split at h
  · next s1 m e =>
    simp only [Bool.and_eq_true, List.all_eq_true, decide_eq_true_eq, List.isEmpty_iff] at h
    exact ⟨s1, m, ⟨e, h.1.1.1.1, fun x hx => h.1.1.1.2 x hx, h.1.1.2, h.1.2⟩, h.2⟩
  · cases h

/-- A block whose ports `ps` are up. -/
def up (s : State) (ps : List Nat) : State := put s (ps.flatMap fun p => [(Reg.STR_PSTAT_STATE.at p, 3), (Reg.STR_PSTAT_RESERVABLE.at p, 1)])
/-- A Leaf with its parent behind port 32. -/
def child : State := up leaf [32]
/-- A tray Hub with a Leaf of place 1 behind port 3, and its parent behind port 32. -/
def parent : State :=
  put (ofTier hub 1) [(Reg.STR_PSTAT_STATE.at 3, 3), (Reg.STR_PSTAT_STATE.at 32, 3), (Reg.STR_PSTAT_RESERVABLE.at 3, 1), (Reg.STR_PSTAT_RESERVABLE.at 32, 1),
    (Reg.STR_ROUTE_VALID.at 3, 1), (Reg.STR_ROUTE_ACTIVE.at 3, 1), (Reg.STR_ROUTE_DEPTH.at 3, 6), (Reg.STR_ROUTE_PREFIX.at 3, 1)]
def always : State → Msg → Bool := fun _ _ => true

/-- For the statement FramesAreTaken. -/
theorem wit_frames :
    (child.pState 32 = 3 ∧ hasPort child.build 32 = true ∧ child.portFenced 32 = false ∧ child.fget (Reg.STR_PRXSEQ_SEQ.at 32) = 0 ∧
      (let f := { frameOf 1 7 0 [0, 0] with crc := 0 }; f.crc ≠ frameCrc 1 f) ∧
      (let f := { frameOf 1 7 0 [0, 0] with seq := 4 }; ({ f with crc := frameCrc 1 f } : Frame).seq.toNat ≠ 0 ∧ seqLt 0 4 = true ∧ seqLt 0 0xFFFFFFFF = false)) ∧
    (child.work = [] ∧ child.lea.pts = [] ∧ child.tws.cut = none ∧ child.accepts 32 1 = true ∧ Tab.get (child.port 32).partials 7 = none) ∧
    got child 32 1 7 0 [0, 0] always = true ∧ got child 32 0x15 2 0 [0, 0, 0, 0] (fun s _ => s.fget (Reg.STR_PRXSEQ_SEQ.at 32) == 1) = true := by decide +kernel

def initing (s : State) (p : Nat) : State := put s [(Reg.STR_PSTAT_STATE.at p, 2), (Reg.STR_PCFG_LANES.at p, 2)]
/-- For the statement LinkFramesAct. -/
theorem wit_link :
    ((∀ typ ∈ [2, 3], (frameOf typ 7 0 []).crc = frameCrc typ (frameOf typ 7 0 [])) ∧ (initing leaf 32).pState 32 = 2 ∧ (initing leaf 32).tws.cut = none) ∧
    got (initing leaf 32) 32 5 7 0 [0x4800, 2] (fun s m => s.pState 32 == 2 && !(s.port 32).initGot && !(s.port 32).initSent && s.initFits 32 m.words) = true ∧
    got child 32 1 7 0 [0, 0] (fun s _ => !s.isPeer 32 && s.tier != 1) = true ∧
    got { parent with snag := { parent.snag with dies := [(3, { state := 1 })] } } 3 1 7 0 [0, 0] (fun s m => !s.isPeer 3 && s.evaluates 3 && !s.snagOff && !(s.die 3).expelled &&
      (s.die 3).state == 1 && !bit (m.words.getD 0 0) 32) = true ∧
    (∀ typ ∈ [0x13, 0x25, 0], child.accepts 32 typ = false ∧ (frameOf typ 2 0 []).crc = frameCrc typ (frameOf typ 2 0 []) ∧ carryOf typ ≠ .routed) := by decide +kernel

/-- A tray Hub whose child behind port 3 has an alternate route there. -/
def alternate : State := put parent [(Reg.STR_ROUTE_ALT.at 3, 1)]
def attaching : State := { child with str := { child.str with homing := .attaching 32 0 } }
def rootHub : State := up (ofTier hub 5) [32]
/-- For the statement ParentsAreChosen. -/
theorem wit_parents :
    got (up hub [3]) 3 6 7 0 [0] (fun s _ => !s.routeValid 3) = true ∧ got parent 3 6 7 0 [0] (fun s _ => s.routeValid 3 && !s.flag (Reg.STR_ROUTE_ALT.at 3)) = true ∧
    [0, 2 ^ 48].all (fun w => got alternate 3 6 7 0 [BitVec.ofNat 64 w] (fun s m => s.routeValid 3 && s.flag (Reg.STR_ROUTE_ALT.at 3) && (bit (m.words.getD 0 0) 48 == (w != 0)))) = true ∧
    [0, 1].all (fun w => got attaching 32 7 7 0 [BitVec.ofNat 64 w] (fun s m => decide (s.str.homing = .attaching 32 0) && (bit (m.words.getD 0 0) 0 == (w != 0)) &&
      decide (s.childUps = [32]) && decide ((s.port 32).rtx = [] ∧ (s.port 32).held = [] ∧ (s.port 32).stalled = []) && (s.port 32).egress.all (·.isEmpty))) = true ∧
    got alternate 3 8 7 0 [] (fun s _ => s.routeActive 3 && s.flag (Reg.STR_ROUTE_ALT.at 3)) = true ∧
    got parent 3 9 7 0 [BitVec.ofNat 64 (2 ^ 14 + 6 * 2 ^ 48)] (fun s _ => decide (s.str.adopt.length < 1024)) = true ∧
    got parent 3 0xA 7 0 [BitVec.ofNat 64 (2 ^ 14 + 6 * 2 ^ 48)] always = true ∧
    got child 32 0xB 7 0 [] (fun s _ => decide (s.curUp = some 32)) = true ∧
    got parent 32 0xF 7 0x800 [BitVec.ofNat 64 (2 ^ 14 + 2 * 2 ^ 48), 1] (fun s m => (s.forward m).isNone && s.tier == 1 && decide (s.portOfPlace 1 = some 3) &&
      decide (hPlace (BitVec.ofNat 48 (bits (m.words.getD 0 0) 47 0)) = 1) && bits (m.words.getD 0 0) 50 48 == 2) = true ∧
    got rootHub 32 0x24 7 0 [3] (fun _ m => (m.words.getD 0 0).toNat != 1 && (m.words.getD 0 0).toNat != 2) = true := by decide +kernel

/-- For the statement RecordsPassUp. -/
theorem wit_records :
    got parent 3 0x13 2 0 [1, 2, 3, 4] (fun s _ => s.fget Reg.STR_CTRL_VSLICE == 0 && s.qFits 0 1) = true ∧
    got parent 3 0x18 6 0 [1, 2, 3, 4] (fun s _ => decide (s.snag.fq.length < 256)) = true ∧
    got (put parent [(Reg.TRC_ARCHSIZE_SIZE, 1048576), (Reg.TRC_ARCHCTRL_WRAP, 0)]) 3 0x23 0 0 [1, 2, 3, 4] (fun s m => !s.isFenced 7 && !s.stopped && !s.flag Reg.TRC_ARCHCTRL_WRAP && decide (s.trc.archive = []) &&
      decide (archUsed s.trc.archive + 32 + ceilDiv (wordsBytes m.words).length 64 * 64 ≤ s.fget Reg.TRC_ARCHSIZE_SIZE)) = true ∧
    got parent 3 0x1B 6 0 [1, BitVec.ofNat 64 (5 * 2 ^ 60), 0, 4] (fun s m => s.build.isHub && recKind (recOfWords m.words) == 5 && decide (s.snag.hard.length < 1024) && decide (bits (recOfWords m.words).w2 47 32 / 64 % 2 = 0)) = true ∧
    got parent 3 0x19 6 0x4000 [5, 0] (fun s m => decide (s.evalPort m.dest = some 3)) = true ∧
    got parent 3 0x1A 6 0x4000 [0, 0] (fun s m => decide (s.evalPort m.dest = some 3)) = true := by decide +kernel

def admitWords0 : List W64 := [7 * 2 ^ 48, 2 ^ 18 + 2 ^ 22, 256, 1000]
def path0 : PathRes := { (readAdmit admitWords0) with arrived := some 3, onward := some 32 }
/-- For the statement PathsAreHeldAndReleased (ADMIT). -/
theorem wit_paths :
    got parent 3 0xC 7 0 [0, 0, 0, 0] (fun s m => decide ((readAdmit m.words).final ≤ s.tier) && !s.stopped) = true ∧
    got (put parent [(Reg.BOB_RSHARE_SHARE, 4096)]) 3 0xC 7 0 [0, 2 ^ 16, 256, 1] (fun s m => let a := readAdmit m.words
      decide (a.final ≤ s.tier) && s.pathCheck (some 3) none a.burst a.rate a.merges true false == adOK) = true ∧
    got (put parent [(Reg.TNS_STATUS_MSTATE, 2)]) 3 0xC 7 0 [0, 2 ^ 16, 256, 1] (fun s m => let a := readAdmit m.words
      s.pathCheck (some 3) none a.burst a.rate a.merges true false != adOK) = true ∧
    got (put parent [(Reg.STR_HOMING_CUR_PARENT, 2)]) 3 0xC 7 0 [0, 3 * 2 ^ 16, 256, 1] (fun s m => !s.isRoot && decide (s.tier < (readAdmit m.words).final) && s.upPort.isNone) = true ∧
    got (put parent [(Reg.BOB_RSHARE_SHARE, 4096), (Reg.STR_PCFG_LANES.at 32, 2), (Reg.TNS_BURST_BUDGET.at 0, 4096), (Reg.TNS_BURST_BUDGET.at 1, 4096), (Reg.TNS_BURST_BUDGET.at 2, 4096)])
      3 0xC 7 0 [0, 3 * 2 ^ 16, 256, 1] (fun s m => let a := readAdmit m.words
        decide (s.upPort = some 32) && s.pathCheck (some 3) (some 32) a.burst a.rate a.merges true false == adOK) = true := by decide +kernel

/-- For the statement PathsAreHeldAndReleased (ADMITTED, ADMIT_RELEASE, ADMIT_TIMEOUT). -/
theorem wit_answers :
    got { parent with str := { parent.str with paths := [path0] } } 32 0xD 7 0 admitWords0
      (fun s m => decide ((s.str.paths.find? fun x => x.same (readAdmit m.words) && x.onward == some 32) = some path0)) = true ∧
    (let p : PathRes := { path0 with arrived := none, onward := some 32 }
     got { child with str := { child.str with paths := [p] }, crd := [(7, { boundSess with resv := some { resv0 with held := false, cmd := some (cmdRun leaf (.slice 0) 3 desc bus) } })] }
      32 0xD 7 0 admitWords0 (fun s m => decide ((s.str.paths.find? fun x => x.same (readAdmit m.words) && x.onward == some 32) = some p) && p.session == 7 &&
        (s.sess 7).any (fun y => y.resv.any fun r => !r.held && r.anum == p.anum && decide (r.answers = []) && r.paths == 1 && r.cmd.isSome))) = true ∧
    [none, some 32].all (fun o => got { parent with str := { parent.str with paths := [{ path0 with onward := o }] } } 3 0xE 7 0 admitWords0
      (fun s m => decide ((s.str.paths.find? fun x => x.same (readAdmit m.words) && (x.onward == some 3 || x.arrived == some 3)) = some { path0 with onward := o }))) = true ∧
    (let y := { boundSess with resv := some { resv0 with cmd := some (cmdRun leaf (.slice 0) 3 desc bus) } }
     let s : State := { leaf with crd := [(0, y)], whl := { leaf.whl with cyc := 2000000 } }
     s.sess 0 = some y ∧ resv0.ft + ms ≤ s.now) := by decide +kernel

end Sys2Proof.Tests
end

