-- ==== Sys2Proof/Tests/Items.lean ====
section
/-! SUPPORT. Witnesses: for the statements on items of the tree, votes, broadcasts, starts and timers, states and operands that meet the hypotheses of each clause together. -/

set_option maxRecDepth 20000
set_option Elab.async false

namespace Sys2Proof.Tests

open Sys2Proof Sys2Proof.Machine

/-! ### Items, votes, broadcasts -/

def childSess : Sess := { sess0 with state := ssRUNNING, word0 := BitVec.ofNat 64 (1 + 9 * 2 ^ 16), gather := some { ft := 5, recs := [] } }
def gathering : State := { parent with crd := [(4, childSess)] }
def vecWords : List W64 := [5, BitVec.ofNat 64 (0x8000 + 9 * 2 ^ 48), 1, 0, 77, 0]
def contribWords : List W64 := [2000000, BitVec.ofNat 64 (8 + 5 * 2 ^ 16 + 2 * 2 ^ 21), 0x4000, 77]
def merge0 (closed : Bool) : Merge :=
  { rid := 8, ft := 1000, group := 0, depth := 5, tc := 4, reserved := true, queue := none, raw := false, item := none, replayed := false, inputs := 1, covers := [],
    ins := [], ports := [3], held := [], closed, amend := none }
/-- A broadcast of the parent: header, FT and RID 9. -/
def bcastWords : List W64 := [0x800, 1, 0, 5, 9] ++ List.replicate 27 0
def ranked : State :=
  put { child with tws := { child.tws with ranks := [(0, { held := [(5, none, false)] })] } } [(Reg.TWS_RKCTRL_EN.at 0, 1), (Reg.TWS_RKSRC_RID.at 0, 9)]

/-- For the statement ItemsAreMerged: frames. -/
theorem wit_items :
    got gathering 3 0x10 0 0 vecWords (fun s m => let r := readVector m.words
      decide (s.childOf (bits (m.words.getD 1 0) 63 48) = some 4) && !s.carderFenced && vectorWhole m.words && decide (s.sess 4 = some childSess) &&
      decide (childSess.pend = []) && !(s.dst.evals.any fun e => e.sess == 4) && childSess.takes r.ft && decide (s.windowOf childSess.gen r.ft = s.windowOf childSess.gen 5) &&
      decide (childSess.members = [] ∧ childSess.early = []) && (s.leafMembers.any fun h => r.origin != h)) = true ∧
    got (put parent [(Reg.TWS_CTRL_EN, 1)]) 3 0x11 4 0 contribWords (fun s m => let i := (readInput m).item
      !s.isFenced 0xB && !s.stopped && itemWhole m.words && !(readInput m).replay && !(readInput m).amend && decide (s.ft ≤ s.closeAt i.ft) && decide (s.tws.merges = []) &&
      s.flag Reg.TWS_CTRL_EN && decide (4 ≤ m.tc)) = true ∧
    got parent 32 0x12 5 0 bcastWords (fun s m => let r := s.takeBcast m
      r.2.isSome && decide (r.1.work = []) && r.1.build.isHub) = true ∧
    got ranked 32 0x12 5 0 bcastWords (fun s m => let r := s.takeBcast m
      match r.2 with
      | some (_, ws) => decide (r.1.work = []) && !r.1.isFenced 0xB && !r.1.stopped && bits (ws.getD 1 0) 15 0 == 9 && r.1.rankOn 0 && !r.1.rankCohort 0 &&
          r.1.fget (Reg.TWS_RKSRC_RID.at 0) == 9 && ((List.range 15).all fun j => !r.1.rankOn (j + 1)) &&
          decide ((r.1.rank 0).held.find? (·.1 == (ws.getD 0 0).toNat) = some ((ws.getD 0 0).toNat, none, false))
      | none => false) = true := by decide +kernel

/-- For the statement ItemsAreMerged: the ends of intervals. -/
theorem wit_closes :
    (∀ c ∈ [false, true], let s : State := { hub with whl := { hub.whl with acc := 2 ^ 70 }, tws := { hub.tws with merges := [merge0 c] } }
     s.isFenced 0xB = false ∧ s.stopped = false ∧ (∃ x ∈ s.tws.merges, x.ft = 1000 ∧ x.closed = c) ∧ s.closeAt 1000 ≤ s.ft ∧ s.amendAt 1000 ≤ s.ft) ∧
    (let s : State := { hub with whl := { hub.whl with acc := 2 ^ 70 }, tws := { hub.tws with satPorts := [(3, { shed := [0, 2, 0, 0] })] } }
     let x := Tab.getD s.tws.satPorts 3 {}
     s.work = [] ∧ hasPort s.build 3 = true ∧ x.lastFt < s.ft / s.satIvl * s.satIvl ∧ ∃ n ∈ x.shed, n ≠ 0) := by decide +kernel

/-- A digest of replica 0 of job 0 at step 8, and what a tree brings of votes. -/
def digestWords : List W64 := [0x4000, 0, 0x4100, 8] ++ List.replicate 9 0
def voting : State := { (withJob parent { job0 with replicas := [{ addr := 0x4100 }, { addr := 0x4101 }] }) with tws := {} }
def entry0 : ReplEntry := { slice := 0, tag := 7, nblk := 5, vp := 0x800, job := 0, unit := 0x100, index := 0, base := 0, log2 := 12 }
def replica : State := put { child with ply := { child.ply with repls := [(2, entry0)] } } [(Reg.PLY_CTRL_EN, 1)]
def attr0 : Attribution :=
  { step := 8, ft := 0, since := 0, result := 1, got := [dig 0 1, dig 1 2], present := 3, winner := 1, losers := [1], ref := some 0, asks := [(1, 1, true), (0, 1, false)],
    answers := [], cmd := none }
def leafAttr0 (phase : Nat) (todo : List Nat) : LeafAttr :=
  { entry := 2, step := 8, mask := 3, loser := true, todo, subs := [], memerr := false, pass := false, phase, c2 := 0, status := 0 }
/-- For the statement VotesAreCounted: frames. -/
theorem wit_votes :
    got (put voting [(Reg.PLY_CTRL_EN, 1)]) 3 0x14 5 0x800 digestWords (fun s m => let d := readDigest m.words
      !s.plyOff && (s.forward m).isNone && bits (m.words.getD 1 0) 55 48 == 0 && d.index == 0 && decide (d.unit = 0x4100) && d.step % (Policy.every {}) == 0 &&
      s.flag Reg.PLY_CTRL_EN && decide ((Tab.get s.ply.jobs 0).isSome)) = true ∧
    got replica 32 0x15 5 0 [0, 0x800, 0, 0] (fun s m => !s.plyOff && (s.forward m).isNone && Tab.wf s.ply.repls && decide (Tab.get s.ply.repls 2 = some entry0) &&
      decide (entry0.vp = BitVec.ofNat 48 (bits (m.words.getD 1 0) 47 0)) && bits (m.words.getD 1 0) 55 48 == 0) = true ∧
    got replica 32 0x16 5 0 [0x800, BitVec.ofNat 64 (2 ^ 53), BitVec.ofNat 64 (8 + 3 * 2 ^ 32), 0] (fun s m => !s.plyOff && (s.forward m).isNone &&
      (s.ply.repls.find? fun e => e.2.vp == BitVec.ofNat 48 (bits (m.words.getD 0 0) 47 0) && e.2.job == bits (m.words.getD 0 0) 55 48 && e.2.index == bits (m.words.getD 1 0) 52 48).isSome) = true ∧
    got (withJob voting { job0 with attrs := [attr0] }) 3 0x17 5 0x800 [0x800, BitVec.ofNat 64 (2 ^ 48), BitVec.ofNat 64 (8 + 2 ^ 32), 0] (fun s m =>
      let w := fun i => m.words.getD i 0
      !s.plyOff && (s.forward m).isNone && (attr0.step == bits (w 2) 31 0) && bits (w 1) 52 48 == 1 && decide (BitVec.ofNat 16 (bits (w 2) 47 32) = (1 : W16)) &&
      (Tab.get s.ply.jobs (bits (w 0) 55 48)).isSome && (answerOf attr0 0 1).isNone) = true := by decide +kernel

/-- For the statement VotesAreCounted: the tap, timers and budgets. -/
theorem wit_taps :
    (replica.work = [] ∧ replica.plyOff = false ∧ replica.flag Reg.PLY_CTRL_EN = true ∧ ∀ e ∈ replica.ply.repls, e.2.tag ≠ 8) ∧
    (let e := { entry0 with opened := true, step := 8, high := some 8 }
     let s : State := put { child with ply := { child.ply with repls := [(2, e)] } } [(Reg.PLY_CTRL_EN, 1)]
     (s.ply.repls.find? fun e => e.2.tag == 7) = some (2, e) ∧ e.nseen + 1 < e.nblk) ∧
    (let j := { job0 with rounds := [{ step := 8, openFt := 0, got := [] }], attrs := [attr0], policy := { wait := 1, attrLim := 1 } }
     let s : State := { (withJob hub j) with whl := { hub.whl with cyc := 2000000 } }
     s.plyOff = false ∧ (oldestRound j.rounds).isSome = true ∧ 0 + j.policy.wait * ms ≤ s.now ∧ attr0.since + j.policy.attrLim * ms ≤ s.now) ∧
    ([0, 1, 2].all (fun ph => let a := leafAttr0 ph [4, 5]
     let s : State := { replica with ply := { replica.ply with attrs := [a] } }
     decide (Tab.get s.ply.repls a.entry = some entry0) && !(s.meter.queue.any fun x => x.use_ == .recheck a.entry) &&
      (ph != 0 || decide ((s.ply.attrs.find? fun x => x.phase == 0 && LeafAttr.tag s x == entry0.tag) = some a)))) = true ∧
    (let s := put { hub with ply := { hub.ply with budgets := [(0, { fellFt := some 0 })] }, whl := { hub.whl with acc := 2 ^ 90, cyc := 2 ^ 50 } }
       [(Reg.PLY_BUDCFG_REFILL, 1), (Reg.PLY_BUDCFG_CAP, 3), (Reg.PLY_BUDCFG_QUIET, 1), (Reg.PLY_BUD_TOKENS.at 0, 1), (Reg.PLY_BUD_STORM.at 0, 1)]
     (s.budget 0).fellFt = some 0 ∧ 0 + s.fget Reg.PLY_BUDCFG_REFILL * minuteTicks ≤ s.ft ∧ s.fget Reg.PLY_BUDCFG_REFILL ≠ 0 ∧ s.fget (Reg.PLY_BUD_TOKENS.at 0) < s.fget Reg.PLY_BUDCFG_CAP ∧
      s.flag (Reg.PLY_BUD_STORM.at 0) = true ∧ s.fget Reg.PLY_BUDCFG_QUIET ≠ 0 ∧ (s.budget 0).loserFt + s.fget Reg.PLY_BUDCFG_QUIET * minuteTicks ≤ s.now) := by decide +kernel

def cutWords (t flags : Nat) : List W64 := [0x800, 1, 0, BitVec.ofNat 64 t, BitVec.ofNat 64 (7 + flags * 2 ^ 24)]
/-- For the statement BroadcastsAreTakenOnce: the duplicate table and cuts. -/
theorem wit_bcasts :
    (let m : Msg := { port := 32, typ := 0x12, tc := 5, dest := 0, replay := false, words := bcastWords, seqs := [0] }
     (child.str.dups = []) ∧ (((child.takeBcast m).1.takeBcast m).2.isNone = true) ∧ (child.takeBcast m).1.str.dups.length = 1) ∧
    ([(2000000, 0), (500, 0), (500, 2)].all fun c => got child 32 0x1C 7 0 (cutWords c.1 c.2) fun s m =>
      let w := fun i => m.words.getD i 0
      !s.isFenced 0xB && !s.stopped && (s.dedupe (BitVec.ofNat 48 (bits (w 0) 47 0)) (bits (w 1) 63 48) (bits (w 1) 31 0)).1 &&
      placeMatch (bits (w 1) 34 32) (hPlace s.self) ((w 2).toNat % 2 ^ 48 / 2 ^ 14) && decide (s.tws.cuts.length < 8) && (bit (w 4) 25 == (c.2 == 2)) &&
      (decide (s.ft < (w 3).toNat) == (c.1 == 2000000))) = true ∧
    (let c := { cutRes0 with req := { cutReq0 with origin := 0x800, onum := 7 }, children := [3] }
     got { parent with tws := { parent.tws with cut := some c } } 3 0x1D 7 0 [0x800, 7, 0, 0] (fun s m => !s.isFenced 0xB && !s.stopped && decide (s.tws.cut = some c) &&
       c.req.origin.toNat == bits (m.words.getD 0 0) 47 0 && c.req.onum == bits (m.words.getD 1 0) 23 0) = true) := by decide +kernel

/-- A broadcast of START_PREP, START_COMMIT or START_ABORT: its originator, T, job 0 of number 5, and every member. -/
def startWords (t : Nat) : List W64 := [0x800, 1, 0, BitVec.ofNat 64 t, BitVec.ofNat 64 (5 * 256), 0xFFFFFFFF]
def tracing : State := put { child with trc := { child.trc with cfg := some cfg0 } } [(Reg.TRC_STATUS_STATE, tARMED), (Reg.TRC_TRIG_CAUSES, 0x10)]
def start0 : Start := { job := 0, snum := 5, t := 900000, mask := 3, acks := 0, committed := false, cmd := cmdRun hub (.slice 0) 0x31 desc bus }
/-- For the statement BroadcastsAreTakenOnce: triggers and starts. -/
theorem wit_starts :
    got tracing 32 0x1E 7 0 bcastWords (fun s m => let r := s.takeBcast m
      r.2.isSome && decide (r.1.work = []) && !r.1.traceOff && r.1.trcState == tARMED && r.1.trigEnabled 4 0 && decide (r.1.trc.cfg = some cfg0)) = true ∧
    ([0x1E, 0x1F, 0x21, 0x22].all fun typ => got parent 32 typ 7 0 (startWords 5) fun s m => (s.takeBcast m).2.isSome && decide ((s.takeBcast m).1.work = [])) = true ∧
    ([0x1F, 0x21, 0x22].all fun typ => got replica 32 typ 7 0 (startWords 9000000) fun s m => match s.takeBcast m with
      | (s2, some (orig, ws)) => decide (s2.work = []) && decide ((s2.heldIndices orig (bits (ws.getD 1 0) 7 0) (BitVec.ofNat 32 (ws.getD 2 0).toNat)).1 ≠ 0) &&
          (timerIndices.any fun i => (Tab.get s2.whl.timers i).isNone) && decide (s2.str.leafStarts = []) && decide (s2.ft + 20 * us < (ws.getD 0 0).toNat)
      | _ => false) = true ∧
    got { parent with str := { parent.str with starts := [start0] } } 3 0x20 7 0x800 [BitVec.ofNat 64 (5 * 256), 1] (fun s m => let w := fun i => m.words.getD i 0
      (s.forward m).isNone && decide ((s.str.starts.find? fun x => x.job == bits (w 0) 7 0 && x.snum == bits (w 0) 31 8 && !x.committed) = some start0) &&
      decide (start0.acks ||| (BitVec.ofNat 32 (w 1).toNat &&& start0.mask) ≠ start0.mask)) = true := by decide +kernel

def leafStart0 (c : Bool) : LeafStart := { job := 0, snum := 5, vote := 0x800, t := 900000, mask := 1, slices := [0], commit := c }
/-- For the statement TimersCutAndStart. -/
theorem wit_timers :
    (let s : State := { leaf with tws := { leaf.tws with cuts := [{ cutReq0 with t := 900000 }] } }
     s.work = [] ∧ earliestCut s.tws.cuts = some { cutReq0 with t := 900000 } ∧ 900000 ≤ s.ft ∧ s.stopped = false ∧ s.isFenced 0xB = false) ∧
    (let c := { cutRes0 with children := [3], req := { cutReq0 with t := 0 } }
     let s : State := { hub with whl := { hub.whl with acc := 2 ^ 70 }, tws := { hub.tws with cut := some c } }
     s.tws.cut = some c ∧ c.req.t + ms ≤ s.ft ∧ c.timeout = false) ∧
    (let s : State := put { tracing with whl := { tracing.whl with timers := [(1, { t := 900000, use_ := .trcTrig })] } } [(Reg.TRC_TRIG_CAUSES, 0x20)]
     s.timerDue .trcTrig = some 900000 ∧ s.traceOff = false ∧ s.trcState = tARMED ∧ s.trc.cfg = some cfg0 ∧ s.trigEnabled 5 0 = true) ∧
    (let s : State := { leaf with str := { leaf.str with leafStarts := [leafStart0 true] }, whl := { leaf.whl with timers := [(1, { t := 900000, use_ := .start (startId 0x800 0) })] } }
     ∃ x ∈ s.str.leafStarts, (x.commit && (s.timerDue (.start (startId x.vote x.job))).isSome) = true) ∧
    (let s : State := { hub with str := { hub.str with starts := [start0] } }
     (s.str.starts.find? fun x => x.job == 0 && !x.committed) = some start0 ∧ start0.t ≤ s.ft + s.leadIvl) := by decide +kernel

end Sys2Proof.Tests
end

