-- ==== Sys2Proof/Tests/Links.lean ====
section
/-! SUPPORT. Witnesses: for the statements on links, departures, fabric time, generators, samples and traces, states and operands that meet the hypotheses of each clause together. -/

set_option maxRecDepth 20000
set_option Elab.async false

namespace Sys2Proof.Tests

open Sys2Proof Sys2Proof.Machine

/-! ### Links, time, samples -/

/-- A heartbeat waiting at port 32. -/
def tx0 : TxFrame := { typ := 1, tc := 7, first := true, last := true, replay := false, poison := false, dest := 0, payload := [0, 0], seq := 0, msg := 0, sentFt := 0, covers := [] }
def trained : State := put leaf [(Reg.STR_PCTRL_EN.at 32, 1), (Reg.STR_PSTAT_STATE.at 32, 1), (Reg.STR_PCTRL_UNCORR_LIM.at 32, 2)]
/-- A Leaf with two parents, late enough for every limit. -/
def later (s : State) : State := { s with whl := { s.whl with cyc := 10 ^ 12, acc := 4 * 10 ^ 12 * 2 ^ 40 } }
def dual (cur : Nat) : State := put (later leaf) [(Reg.STR_PSTAT_STATE.at 32, 3), (Reg.STR_PSTAT_STATE.at 33, 3), (Reg.STR_PSTAT_ADMITTED.at 32, 1), (Reg.STR_HOMING_DUAL, 1), (Reg.STR_HOMING_CUR_PARENT, cur),
  (Reg.STR_CTRL_AUTORETURN, 1)]

/-- For the statement LinksComeAndGo. -/
theorem wit_links :
    (let s := put leaf [(Reg.STR_PCTRL_EN.at 32, 1)]
     s.work = [] ∧ s.lea.pts = [] ∧ s.flag (Reg.STR_PCTRL_EN.at 32) = true ∧ s.pState 32 = 0 ∧ 4 ≤ s.bootStep ∧ s.portFenced 32 = false) ∧
    (trained.pState 32 = 1 ∧ (trained.port 32).rtx = [] ∧ (trained.port 32).held = [] ∧ (trained.port 32).egress = List.replicate 8 [] ∧
      1 < max 1 (trained.fget (Reg.STR_PCTRL_UNCORR_LIM.at 32)) ∧ trained.tws.cut = none ∧ (trained.port 32).partials = []) ∧
    (child.portUp 32 = true ∧ child.isRoot = false ∧ child.curUp = some 32 ∧ child.otherUp 32 = none) ∧
    (let s := put (later child) [(Reg.STR_HOMING_CUR_PARENT, 0)]
     s.curUp = some 32 ∧ s.portUp 32 = true ∧ s.stopped = false ∧ (s.port 32).lastRxFt + 21 * us ≤ s.now ∧ s.str.homing = .settled ∧ s.fget Reg.STR_HOMING_CUR_PARENT ≠ 3) ∧
    (let s : State := { (later child) with str := { child.str with homing := .attaching 32 0 } }
     0 + 10 * us ≤ s.now ∧ 0 + 100 * us ≤ s.now ∧ s.portUp 32 = true ∧ ({ s with whl := { s.whl with cyc := 10000 } } : State).now < 0 + 100 * us ∧
       0 + 10 * us ≤ ({ s with whl := { s.whl with cyc := 10000 } } : State).now) := by decide +kernel

/-- For the statement LinksComeAndGo: handovers, returns and their ends. -/
theorem wit_parentsLost :
    (let s : State := { dual 1 with str := { leaf.str with ports := [(32, { upFt := 0, lastHb := 4 * 10 ^ 12 })] } }
     s.isRoot = false ∧ s.mayReturn = true ∧ s.altUp = some 33) ∧
    (let s : State := { (later hub) with str := { hub.str with handovers := [(3, 0)] } }
     Tab.get s.str.handovers 3 = some 0 ∧ 0 + 100 * us ≤ s.now) ∧
    (let s : State := { dual 0 with str := { leaf.str with returnFt := some 0, ports := [(33, { rtx := [tx0] })] } }
     s.altUp = some 33 ∧ 0 + 64 * us ≤ s.now ∧ s.fget Reg.STR_HOMING_CUR_PARENT = 0 ∧ 33 ≠ s.primaryUp ∧ (s.port 33).rtx.length < 2 ^ 16 ∧ ∀ x ∈ (s.port 33).rtx, x.inputs < 2 ^ 16 ∧ x.payload.length ≤ 27) ∧
    (let s : State := { dual 2 with str := { leaf.str with noParentFt := some 0 } }
     0 + 64 * us ≤ s.now ∧ s.fget Reg.STR_HOMING_CUR_PARENT = 2 ∧ ∀ q ∈ s.childUps, s.port q = {}) := by decide +kernel

def sending : State :=
  put { child with str := { child.str with ports := [(32, { egress := [[], [], [], [], [], [], [], [tx0]] })] } } [(Reg.STR_PCRED_RES.at 32, 64), (Reg.STR_PRTXCAP_KIB.at 32, 64)]
/-- For the statement FramesLeave. -/
theorem wit_departures :
    (let s := sending
     s.work = [] ∧ s.lea.pts = [] ∧ hasPort s.build 32 = true ∧ s.pState 32 = 3 ∧ s.lostHere 32 = false ∧ (s.port 32).nakDue = false ∧ (s.port 32).ctrlDue = false ∧ (s.port 32).resend = [] ∧
      s.pickClass 32 = some (7, tx0, false) ∧ (s.port 32).stalled = [] ∧ s.fget Reg.SNG_UNACK_CLASS / 8 % 2 = 0) ∧
    (let s : State := { (later child) with str := { child.str with ports := [(32, { rtx := [{ tx0 with seq := 1 }], nakWait := true, sentLack := 9 })] } }
     s.portSends 32 = true ∧ (∃ x ∈ (s.port 32).rtx, seqLt x.seq (s.port 32).lack = false) ∧ (s.port 32).lackFt + 2 * us ≤ s.now ∧ (s.port 32).nakWait = true ∧
      (s.port 32).lastNakFt + us ≤ s.now ∧ (s.port 32).sentLack ≠ s.fget (Reg.STR_PRXSEQ_SEQ.at 32) ∧ (s.port 32).txFt + us ≤ s.now) ∧
    (child.stopped = false ∧ child.portUp (32 + 0) = true ∧ child.isPeer (32 + 0) = false ∧ child.drf.refillFt < child.ft / 256 ∧ child.drf.commits = []) := by decide +kernel

/-- A time message: its type and sequence number, and 56 bytes of zeros. -/
def ptpWords (mt seq : Nat) : List W64 := [BitVec.ofNat 64 mt, 0, 0, BitVec.ofNat 64 (seq % 256 * 2 ^ 56 + seq / 256 % 256 * 2 ^ 48), 0, 0, 0]
def timed : State := { child with whl := { child.whl with delays := [(0, [100])], reqs := [(0, (0, 5))], leap := some { header := 37, base := 37, expiry := 0, entries := [] } } }
/-- For the statement TimeMessagesAreTaken. -/
theorem wit_time :
    got timed 32 4 7 0 (ptpWords ptpSYNC 0) (fun s m => isUp 32 && !(s.isPeer 32 && s.rootActive) && ptpType m.words == ptpSYNC && !s.flag Reg.WHL_CTRL_FORCE_HOLD &&
      !(Tab.getD s.whl.delays 0 []).isEmpty && decide (s.timePort = some 32)) = true ∧
    got timed 32 4 7 0 (ptpWords ptpPDELAY_REQ 0) (fun _ m => ptpType m.words != ptpSYNC) = true ∧
    got parent 3 4 7 0 (ptpWords ptpPDELAY_REQ 0) (fun s m => ptpType m.words == ptpPDELAY_REQ && !s.portFenced 3 && s.qFits (egressQ 3 7) (cellsOf (frameBytesLen 7)) &&
      decide ((s.port 3).stalled = []) && (s.port 3).egress.length == 8) = true ∧
    got timed 32 4 7 0 (ptpWords ptpPDELAY_RESP 0) (fun s m => ptpType m.words == ptpPDELAY_RESP && Tab.wf s.whl.reqs && decide (Tab.get s.whl.reqs 0 = some (ptpSeq m.words, 5))) = true ∧
    got timed 32 4 7 0 (ptpWords ptpANNOUNCE 0) (fun s m => ptpType m.words == ptpANNOUNCE && s.whl.leap.isSome) = true := by decide +kernel

/-- A root Hub in force with its timing port on. -/
def root : State :=
  put (ofTier (later hub) 5) [(Reg.WHL_PPS_IN_EN, 1), (Reg.WHL_PPS_OUT_EN, 1), (Reg.WHL_TOD_EN, 1), (Reg.STR_TIER_ROOT_ACTIVE, 1), (Reg.WHL_REF_PPS_PRESENT, 1), (Reg.WHL_STATUS_STATE, 2)]
/-- "TZ,T,2000-01-01T00:00:00*hh" and its end. -/
def lineBytes (y : Nat) : List Byte :=
  let l : List Nat := [84, 90, 84, 44, 84, 44, 50, 48, 48 + y / 10, 48 + y % 10, 45, 48, 49, 45, 48, 49, 84, 48, 48, 58, 48, 48, 58, 48, 48]
  let x := (l.drop 3).foldl (· ^^^ ·) 0
  let h := fun (n : Nat) => if n < 10 then 48 + n else 55 + n
  (l ++ [42, h (x / 16), h (x % 16), 13, 10]).map (BitVec.ofNat 8)
/-- For the statement ClockFollowsItsSources. -/
theorem wit_clock :
    (root.work = [] ∧ root.flag Reg.WHL_PPS_IN_EN = true ∧ root.whl.lineDue = none ∧ root.rootActive = true ∧ root.flag Reg.WHL_TOD_EN = true ∧ root.fget Reg.WHL_TOD_BAUD ≤ 4) ∧
    (let s : State := { (put (later hub) [(Reg.WHL_PPS_IN_EN, 1)]) with whl := { hub.whl with lineDue := some (9, 5) } }
     s.flag Reg.WHL_PPS_IN_EN = true ∧ (s.rootActive || (s.isRoot && s.awaitsTime && !s.str.peerActive)) = false) ∧
    ((readLine (lineBytes 20)).bind (fun r => labelTai none r.1 r.2)).isSome = true ∧ readLine [] = none ∧
    (let s : State := { root with whl := { root.whl with lastSync := some 0, lastPps := some 0 } }
     (s.wState = 2) ∧ 0 + 4 * s.syncTicks ≤ s.now ∧ 0 + 4400000000 ≤ s.ft ∧ s.flag Reg.WHL_REF_PPS_PRESENT = true) ∧
    (let s : State := put { root with whl := { root.whl with lastSync := some 0 }, regs := [] } [(Reg.WHL_STATUS_STATE, 3), (Reg.WHL_HOLD_STAB, 1000)]
     s.wState = 3 ∧ s.flag Reg.WHL_STATUS_DEGRADED = false ∧ s.fget Reg.WHL_HOLD_STAB * (s.now - 0) > s.fget Reg.WHL_HOLD_LIMIT * 4000000000) ∧
    (let s : State := { leaf with whl := { leaf.whl with acc := ftMax * 2 ^ 40 } }
     s.ft = ftMax ∧ s.whl.ftMaxed = false) ∧
    (root.whl.clock = true ∧ (root.ft + ceilDiv (root.fget Reg.WHL_PPSLAT_OUT_LAT) 64) % 4000000000 < 5) := by decide +kernel

def genSet (kind : Nat) : GenSet := { kind, period := 4096, offset := 0, length := if kind = 1 then 4000 else 4000, apply := 0 }
def genned (g : Gen) : State := put { (setRegs leaf) with whl := { leaf.whl with gens := [(8, g)] } } [(Reg.REEL_CTRL_EN, 1), (Reg.REEL_SET_OPEN_LATCH.at 0, 1)]
/-- For the statement GeneratorsMarkTime. -/
theorem wit_gens :
    ([0, 1, 2].all fun k => let s := genned { pend := some (genSet k) }
      decide ((s.gen 8).pend = some (genSet k)) && decide ((genSet k).apply ≤ s.ft)) = true ∧
    (let s : State := { genned { run := some (genSet 1), nextOpen := 0, nextMain := 4000 } with crd := [(0, { boundSess with state := 2, startFt := 5 })] }
     s.work = [] ∧ s.genRuns 8 1 = some (genSet 1) ∧ (s.gen 8).nextMain ≤ s.ft ∧ s.reelOff = false ∧ s.setsOf 8 false ≠ [] ∧ s.reel.reads = [] ∧ (∀ e ∈ s.crd, e.2.isChild = false) ∧
      s.sessGen boundSess = 8) ∧
    (let s := put (genned { run := some (genSet 1), nextOpen := 0 }) [(Reg.REEL_SET_EN.at 0, 1)]
     (s.gen 8).nextOpen ≤ s.ft ∧ s.reelOff = false ∧ s.reel.reads = []) ∧
    ([false, true].all fun q => let s := genned { run := some (genSet 2), nextOpen := 0, nextMain := 0, nextClose := 4000, quiet := q }
      decide (s.genRuns 8 2 = some (genSet 2)) && decide ((s.gen 8).nextOpen ≤ s.ft ∧ (s.gen 8).nextMain ≤ s.ft ∧ (s.gen 8).nextClose ≤ s.ft) && (genSet 2).length != 0) = true := by decide +kernel

def readout0 : Readout := { ft := 900000, locked := true, shadow := 0, cut := none, sets := [{ set_ := 0, sels := [5], gap := false, stale := false, opening := false }], stats := [] }
def tagging (cd : Option Nat) (asleep : Bool) : State :=
  put { (later leaf) with reel := { leaf.reel with srcs := [(0, { countdown := cd, asleep })] } } [(Reg.REEL_CTRL_TAG_EN, 1), (Reg.REEL_TAGSEL_SEL, 1), (Reg.REEL_TAGSRC_SRC, 1), (Reg.REEL_TAG_TIMEOUT, 5), (Reg.REEL_TAG_PERIOD, 8)]
/-- For the statement SamplesAndTagsAreTaken. -/
theorem wit_samples :
    (let s : State := { leaf with reel := { leaf.reel with reads := [readout0] } }
     s.reel.reads = [readout0] ∧ s.stopped = false ∧ (failedRead readout0 [(5, 2, 0)]).isSome = true ∧ failedRead readout0 [(5, 0, 9)] = none ∧ selSpace 5 = 0) ∧
    (let s := tagging (some 100) false
     s.work = [] ∧ s.lea.pts = [] ∧ s.reelOff = false ∧ s.tagged 0 = true ∧ (s.tagSrc 0).asleep = false ∧ (s.tagSrc 0).countdown.isSome = true ∧
      s.fget Reg.REEL_TAG_TIMEOUT ≠ 0 ∧ (s.tagSrc 0).sentFt + s.fget Reg.REEL_TAG_TIMEOUT * us ≤ s.now ∧ s.qFits 66 1 = true) ∧
    (let s := tagging none true
     (s.tagSrc 0).countdown = none ∧ s.tagged 0 = true) := by decide +kernel

/-- Trace source 0 of one, enabled, its gate open, and one packet in its buffer. -/
def capturing (st : Nat) (gate : Nat) (x : TrSrc) : State :=
  put { leaf with trc := { leaf.trc with cfg := some { cfg0 with dest := 1 }, srcs := [(0, x)] } }
    [(Reg.TRC_STATUS_STATE, st), (Reg.TRC_SIZES_SOURCES, 1), (Reg.TRC_SRCSTAT_GATE.at 0, gate)]
/-- For the statement TraceIsCaptured: items, power-downs and wakes. -/
theorem wit_capture :
    ([(1, ({} : TrSrc)), (0, {}), (1, { buf := List.replicate 9 (List.replicate 57 0) })].all fun c => let s := capturing 1 c.1 c.2
      !s.traceOff && decide (0 < s.nTrace) && s.srcEnabled 0 && ((List.range 16).all fun k => !s.cmpNames k 0) && (s.gateOpen 0 == (c.1 == 1)) &&
      (decide (bufBytes (s.trSrc 0) + pktBytes [0x202, 0, 0] ≤ 4096) == decide (c.2.buf = []))) = true ∧
    itemOk [] = false ∧ (∃ ws ∈ ([[0x202, 0], [0x2, 0], [0x5], [0x205, 0]] : List (List W64)), itemOk ws = true ∧ bits (ws.headD 0) 3 0 ≠ 7) := by decide +kernel

/-- For the statement TraceIsCaptured: the Flyer and segments. -/
theorem wit_flyer :
    ([1, 2, 4].all fun st => let x : TrSrc := { buf := [[1, 0, 0, 0]], lastSync := some 900000 }
      let s := capturing st 1 x
      decide (s.flyerPick = some 0) && decide ((s.trSrc 0).buf = [[1, 0, 0, 0]]) && pktType [1, 0, 0, 0] == 1 && decide (pktBytes [1, 0, 0, 0] ≤ 4096) && s.trcState == st) = true ∧
    (let s : State := put (later (capturing 4 1 {})) [(Reg.TRC_WRCNT_COUNT, 100)]
     s.draining = true ∧ s.trc.releasing = none ∧ min 65536 (s.sinceArm - s.trc.segPos) ≠ 0 ∧ s.trc.segFt + s.syncIvl ≤ s.now ∧ s.srcEnabled 0 = true) ∧
    (leaf.srcEnabled 0 = false ∧ 0 < (capturing 0 0 {}).nTrace ∧ (capturing 0 0 {}).srcEnabled 0 = false) := by decide +kernel

/-- Two peers pulsed, and a standing reservation of 64 bytes. -/
def twoPeers : State :=
  put { leaf with snag := { leaf.snag with peerBits := 3 } }
    [(Reg.SNG_PEER_VALID.at 0, 1), (Reg.SNG_PEER_PEER.at 0, 0x1234), (Reg.SNG_PEER_VALID.at 1, 1), (Reg.SNG_PEER_PEER.at 1, 0x1235), (Reg.SNG_RES_BURST, 64), (Reg.SNG_RES_RATE, 16)]
/-- R523, R525: the first message of 64 bytes takes the burst, and the second waits for tokens. -/
theorem test_peer_seen_shaped : twoPeers.peerSeenSend.str.msgs = 1 ∧ twoPeers.peerSeenSend.snag.peerHeld.length = 1 ∧ twoPeers.peerSeenSend.snag.peerDebt = 64 * 65536 := by decide +kernel

end Sys2Proof.Tests
end

