-- ==== Sys2Proof/Tests/Runs.lean ====
section
/-! SUPPORT. Witnesses: for the statements on evaluation, liveness, margins, tests, rings, transfers, bring-up and the debug port, states and operands that meet the hypotheses of each clause together. -/

set_option maxRecDepth 20000
set_option Elab.async false

namespace Sys2Proof.Tests

open Sys2Proof Sys2Proof.Machine

/-! ### Evaluation, liveness, tests, rings, bring-up -/

def vec0 : Vec :=
  { ft := 900000, origin := 0, member := 0, keys := [7], nans := [false], mask := 0, nan := false, off := false, full := true, gap := false, first := false, late := false,
    locked := true, seq := 0 }
def part0 (todo now : List Nat) : Part := { spindle := 0, all := [0], todo, now }
def eval0 (todo now : List Nat) : Eval :=
  { sess := 0, slot := 0, gen := 1, ft := 900000, streamed := false, scorer := 0, vecs := [{ vec := vec0, need := [0], news := [] }], parts := [part0 todo now] }
/-- A session with a model, and what its domain has under way. -/
def evaluating (x : Sess) (m : Model) (es : List Eval) : State := { leaf with crd := [(0, x)], dst := { leaf.dst with models := [(0, m)], evals := es } }
def running0 : Sess := { heldSess with state := ssRUNNING }
def free0 : Sess := { boundSess with state := ssRUNNING }

/-- For the statement ItemsAreEvaluated: batches and stops. -/
theorem wit_batches :
    (let x := { childSess with gather := some { ft := 5, recs := [readVector vecWords] }, word1 := BitVec.ofNat 64 (1000 * 2 ^ 32), queue := some 500 }
     let s : State := { parent with crd := [(4, x)] }
     s.sess 4 = some x ∧ x.collect ≠ 0 ∧ 5 + 4 * x.collect ≤ s.ft ∧ s.carderFenced = false ∧ (s.modelOf x).isNone = true ∧ x.pend.length < s.pendLimit) ∧
    (let x := { sess0 with state := 4, stopFt := 900000 }
     let s := withSess leaf x
     s.sess 0 = some x ∧ x.stopFt ≤ s.ft ∧ s.sessIdle 0 x = true) := by decide +kernel

/-- For the statement ItemsAreEvaluated: domain boundaries. -/
theorem wit_boundaries :
    (let e := eval0 [0] []
     let s := evaluating running0 model0 [e]
     s.reservedNext 0 = some 0 ∧ (domSpindles s.build 0).contains 0 = true ∧ Tab.get s.dst.models e.slot = some model0 ∧ s.stopped = false ∧ s.isFenced 0xA = false ∧
      (∀ k, k < nSpindles s.build → s.isFenced (0x40 + k) = false) ∧ (∀ e ∈ s.dst.models, ∀ y ∈ e.2.shares, y.dom < nSpindles s.build)) ∧
    (let s := evaluating free0 model0 [eval0 [0] []]
     s.reservedNext 0 = none ∧ s.burstOn 0 = none ∧ s.paced 0 = false ∧ (s.bestEffort 0).any (fun r => r.1 == 0) = true) ∧
    (let b : Batch := { ft := 900000, vecs := [vec0] }
     let x := { running0 with pend := [b] }
     let s := evaluating x model0 []
     s.reservedNext 0 = some 0 ∧ s.sess 0 = some x ∧ (s.modelOf x).any (fun r => r.1 == 0) = true ∧ model0.state = 2) ∧
    ([{ model0 with evicting := true, evict := [(0, 1)] }, { model0 with state := mLOADING, bursts := [(0, 1)] }].all fun m =>
      let s := evaluating free0 m []
      decide (s.reservedNext 0 = none) && (s.burstOn 0).isSome && !(s.domain 0).burstLast) = true := by decide +kernel

/-- For the statement ItemsAreEvaluated: passes; ScoresAndLoadsEnd: scores, loads and evictions. -/
theorem wit_passes :
    (let s := evaluating free0 model0 [eval0 [] [0]]
     s.work = [] ∧ Tab.get s.dst.models 0 = some model0 ∧ s.sess 0 = some free0 ∧ model0.state = 2) ∧
    (let s := evaluating free0 model0 [eval0 [] []]
     s.stopped = false ∧ s.scorable 0 = some (eval0 [] []) ∧ free0.isChild = false) ∧
    ([none, some (cmdRun leaf (.slice 0) 0x10 desc bus)].all fun c =>
      let m := { model0 with state := 1, cmd := c }
      let s := evaluating free0 m []
      Tab.wf s.dst.models && decide (Tab.get s.dst.models 0 = some m) && m.shares.all fun x => s.domFits x.dom) = true ∧
    ([false, true].all fun d =>
      let m := { model0 with evicting := true, discard := d }
      let s := evaluating free0 m []
      !s.inUse 0 && (s.crd.all fun e => decide (e.2.pend = []))) = true := by decide +kernel

/-- A session of a model that is EVICTED waits; another is blocked. -/
def starving (m : Model) : State :=
  { (later leaf) with
    crd := [(0, { free0 with pend := [{ ft := 5, vecs := [vec0] }] }), (1, { free0 with model := some 1025, pend := [{ ft := 900000, vecs := [vec0] }] })]
    dst := { leaf.dst with models := [(0, { m with state := 4, shares := [] }), (1, { model0 with shares := [] })] } }
/-- For the statement ScoresAndLoadsEnd: the grace time. -/
theorem wit_grace :
    (let s := later leaf
     s.grace ≠ 0 ∧ s.fget Reg.HIF_FNSTAT_PENDING / 2 ^ 6 % 2 = 0 ∧ s.oldestWaiting = none) ∧
    (let s := starving model0
     (s.oldestWaiting.any fun r => r.1 == 0 && (s.modelOf r.2).any fun q => q.2.state == 4) = true ∧ s.loadRuns = false) := by decide +kernel

def watched : State :=
  put (later parent) [(Reg.SNG_STATUS_ALIVE_RUN, 1), (Reg.SNG_WDOG_LIM, 1000), (Reg.SNG_ALIVEW_WIRED, 8)]
/-- For the statement LivenessIsWatched. -/
theorem wit_live :
    (let s := { watched with snag := { watched.snag with probes := [(10, 0)], stopFt := some 0, partIdle := [(1, 0)], warmWarn := true } }
     s.work = [] ∧ s.flag Reg.SNG_STATUS_ALIVE_RUN = true ∧ s.whl.clock = true ∧ s.snag.aliveNext ≤ s.whl.cyc ∧ s.fget Reg.SNG_WDOG_LIM ≠ 0 ∧
      Tab.get s.snag.probes 10 = some 0 ∧ 0 + s.fget Reg.SNG_WDOG_LIM * us ≤ s.now ∧ s.tier = 1 ∧ s.aliveWired 3 = true ∧ s.evaluates 3 = true ∧
      (∀ q, q < 32 → q ≠ 3 → s.evaluates q = false) ∧ s.snagOff = false ∧ 0 + 2 * us ≤ s.now ∧ Tab.get s.snag.partIdle 1 = some 0) ∧
    ([(1 : Nat), 0].all fun st =>
      let s := { watched with snag := { watched.snag with dies := [(3, { state := st, anyHb := true, tHb := 4 * 10 ^ 12 })] } }
      ((s.die 3).rule s.ft s.silentIvl s.deadIvl s.stallIvl (s.aliveWired 3)).1 == 1) = true ∧
    (leaf.snag.peerNext ≤ leaf.now ∧ leaf.snagOff = false) := by decide +kernel

/-- For the statement MarginsAreKept. -/
theorem wit_margins :
    ([none, some 0, some 999999].all fun b => let s : State := { leaf with tns := { leaf.tns with sensors := [(1, { level := 2, margin := 5, belowFt := b })] } }
      decide ((s.sensor 1).level ≠ 0) && decide ((s.sensor 1).belowFt = b) && decide (s.ft = 1000000) && decide (s.work = [])) = true ∧
    (let s := put leaf [(Reg.TNS_CTRL_REPLAN_EN, 1)]
     s.replanDue = true ∧ s.tns.days.length < 7) := by decide +kernel

def runOf (restoring : Bool) (pc : Nat) : Run :=
  { slot := 0, test := 0, ft := 900000, since := 0, restoring, restFt := 0, pc, sig := 0, sigDone := false, result := 0, abandoned := false, opFt := 0, ending := false }
/-- A test whose programs wait and end, and its run. -/
def runs (restoring : Bool) (pc : Nat) (flying : Bool) : State :=
  let t := { test0 with prog := [(3, 5, 0), (0, 0, 0)], rest := [(3, 5, 0), (0, 0, 0)] }
  { testing with
    stp := { testing.stp with pkgs := [(0, { pkg0 with tests := [t] })], points := [], run := some (runOf restoring pc) }
    meter := { testing.meter with queue := if flying then [{ cls := 3, use_ := .test, slice := 0, addr := 0, data := [], left := 8, waited := false, flying := true }] else [] } }
/-- For the statement TestsAreRun: the running test. -/
theorem wit_tests :
    ([(false, 0, false), (false, 1, false), (false, 1, true), (true, 1, false), (true, 1, true)].all fun c => let s := runs c.1 c.2.1 c.2.2
      !s.stapleOff && decide (s.stp.run = some (runOf c.1 c.2.1)) && (s.stest 0 0).any (fun t => decide (0 + t.dur * us ≤ s.now ∧ 0 + t.rdur * us ≤ s.now ∧ t.unit < 2048)) &&
      ((s.curOp (runOf c.1 c.2.1)).1 == if c.2.1 = 0 then 3 else 0) && decide (0 + 4 * (s.curOp (runOf c.1 c.2.1)).2.1.toNat ≤ s.now) && (s.testFlying == c.2.2) && s.qFits 65 1 &&
      decide (s.stp.points = [] ∧ s.stp.changes = []) && decide (s.stp.changeCmds = [])) = true := by decide +kernel

/-- For the statement TestsAreRun: safe points, limits and halving. -/
theorem wit_points :
    ([(true, 0), (false, 0), (false, 1)].all fun c =>
      let p : SafePoint := { start := 900000, len := 500000, mask := 0, opened := false, ran := [] }
      let s : State := put { testing with stp := { testing.stp with points := [p] }, whl := { testing.whl with timers := [(1, { t := 900000, use_ := .safePoint 0 })] }, regs := leaf.regs }
        [(Reg.HIF_FNSTAT_MODE, if c.1 then 32 else 0), (Reg.STP_CTRL_EN, c.2)]
      let opened := s.setPoints [{ p with opened := true }]
      !s.stapleOff && decide (s.timerDue (.safePoint 0) = some 900000) && decide (s.stp.run = none) && (s.assisted 5 == c.1) && ((opened.pickTest.isSome) == (c.2 == 1)) &&
      s.fget Reg.HIF_FNSTAT_PENDING / 2 ^ 5 % 2 == 0) = true ∧
    (let p : SafePoint := { start := 0, len := 1000, mask := 0, opened := true, ran := [] }
     let s : State := { testing with stp := { testing.stp with points := [p] } }
     (s.stp.points.filter fun q => q.opened && decide (q.stop ≤ s.ft)) = [p] ∧ Tab.wf s.stp.pkgs = true ∧ (∀ e ∈ s.stp.pkgs, e.2.tests.length ≤ 256) ∧
      s.stest 0 0 = some test0 ∧ s.isDue 0 0 test0 = true ∧ p.covers s test0.unit = true ∧ p.ran.contains (tkey 0 0) = false) ∧
    (let s := put { testing with whl := { testing.whl with acc := 2 ^ 100 } } [(Reg.STP_MAXDEF_HOURS, 1), (Reg.STP_HHALF_HOURS, 1)]
     s.fget Reg.STP_MAXDEF_HOURS ≠ 0 ∧ (s.tstate (tkey 0 0)).overdue = false ∧ s.dueFt 0 0 test0 + s.fget Reg.STP_MAXDEF_HOURS * hourTicks ≤ s.ft ∧ s.running = true ∧
      s.stp.halveFt + s.fget Reg.STP_HHALF_HOURS * hourTicks ≤ s.ft) := by decide +kernel

def cpl0 : Cpl := { opcode := 0x60, status := 0, session := 0, value := 0, dseq := 0, ct := 0, irq := false }
/-- For the statement RingsAreServed. -/
theorem wit_rings :
    (∀ b ∈ [Build.leaf, Build.hub], let s := run b
     s.canFetch 0 = true ∧ (s.slice 0).fetched = [] ∧ (s.slice 0).running = [] ∧ assigned 0x60 = true ∧ assigned 0x77 = false) ∧
    (∀ b ∈ [Build.leaf, Build.hub], let s := ((later (run b)).setSlice 0 { cplWait := [cpl0], vq := [{}] })
     (s.slice 0).cplWait = [cpl0] ∧ s.enabled 0 = true ∧ s.cplOcc 0 < s.cplSize 0 ∧ (s.build.isHub = true ∨ s.meterTakes 40 = true ∧ s.meterTakes 16 = true) ∧ (s.slice 0).unbind = none ∧
      (s.slice 0).vq = [{}] ∧ s.flag (Reg.SLC_CTRL_VDEST.at 0) = false ∧ s.vrdOcc 0 < s.vrdSize 0) := by decide +kernel

def xfer0 (flying : Bool) : Xfer := { cls := 2, use_ := .dump 0, slice := 0, addr := 0, data := List.replicate 32 0, left := 32, waited := false, flying }
def xferLog (flying : Bool) : Xfer := { cls := 2, use_ := .log, slice := 0, addr := 0, data := List.replicate 64 0, left := 64, waited := false, flying }
def reading : Running := cmdRun leaf (.slice 0) 0x80 desc bus
def logging (flying : Bool) : State :=
  ({ (later leaf) with skn := { leaf.skn with read := some reading, readLen := 64 }, meter := { leaf.meter with queue := [xferLog flying] } } : State).setSlice 0 { running := [reading] }
/-- For the statement TransfersLogAndDumpsEnd. -/
theorem wit_transfers :
    ([0, 256 * 800].all fun tk => let s : State := { leaf with whl := { leaf.whl with cyc := 0 }, meter := { tokens := tk, queue := [xfer0 false] } }
      decide (s.meter.busy = none) && !s.stopped && decide (nextXfer s.meter.queue = some (0, xfer0 false)) && (decide (32 * 800 ≤ s.meterRefill.meter.tokens) == (tk != 0))) = true ∧
    ([16, 32].all fun n => let s : State := { leaf with meter := { leaf.meter with busy := some n, queue := [xfer0 true] } }
      decide (s.meter.queue.findIdx? (·.flying) = some 0) && decide (s.meter.queue[0]? = some (xfer0 true)) && (decide (n < (xfer0 true).left) == (n == 16))) = true ∧
    ([false, true].all fun fl => let s := logging fl
      decide (s.skn.read = some reading) && decide (s.skn.readFt + max 1 (s.fget Reg.SKN_FRZ_LIM) * us ≤ s.now) &&
      decide (s.meter.queue.find? (fun y => y.use_ == XferUse.log) = some (xferLog fl)) && decide (s.skn.waiting = []) && decide (reading ∈ (s.slice 0).running)) = true ∧
    (let c : Capture := { mask := 1, port := 0, auto := false, start := 0, cmd := none }
     (∀ b ∈ [Build.leaf, Build.hub], let s : State := { (run b) with skn := { (run b).skn with capture := some c }, boot := { (run b).boot with hbmReady := true } }
      s.skn.capture = some c ∧ s.work = [] ∧ (s.build = .leaf ∨ s.boot.hbmReady = true))) := by decide +kernel

/-- The words of an image without records, and one that starts wrong. -/
def verifying (ws : List W64) (step : Nat) (rom : Tab (Nat × Nat)) : State :=
  let s := State.resetOf .leaf
  { put s [(Reg.SNG_RSTCAUSE_STATE, step)] with boot := { rom, verify := some (cmdRun s .mgmt 0x83 (descOf ws) (busOf ws)) } }
def image0 : Image := { imgid := 5, self := 0x4000, keyid := 0, fields := [], stapleKey := [] }
/-- For the statement BlockComesUp; its image that passes every check is wit_goodImage. -/
theorem wit_boot :
    (let s := verifying [0, 0, 0, 0, 0, 0, 0, 0] 1 []
     s.boot.verify.isSome = true ∧ bits (wordAt (busOf [0, 0, 0, 0, 0, 0, 0, 0]).data 0) 31 0 ≠ 0x4D495A54 ∧ decide (∀ e ∈ s.boot.rom, e.1 ≠ 0) = true ∧
      (match s.validate (busOf [0, 0, 0, 0, 0, 0, 0, 0]).data with | .inl c => decide (c = (1, 0)) | .inr _ => false) = true) ∧
    (let s := State.resetOf .leaf
     s.whl.clock = false ∧ s.bootStep = 0 ∧ s.skn.staged = [] ∧ s.work = []) ∧
    (let s : State := { put (State.resetOf .leaf) [(Reg.SNG_RSTCAUSE_STATE, 3)] with boot := { leaf.boot with image := some image0 } }
     s.boot.image = some image0 ∧ s.bootStep = 3) ∧
    (let s := put (later (State.resetOf .leaf)) [(Reg.SNG_RSTCAUSE_STATE, 4)]
     s.awaitsTime = true ∧ s.boot.linksFt + 40000000000 ≤ s.now) := by decide +kernel

/-- For the statement DebugPortShifts. -/
theorem wit_debug :
    (leaf.work = [] ∧ leaf.skn.dump = none ∧ leaf.skn.capture = none ∧ Tab.get leaf.regs Reg.ID_IDCODE_IDCODE.addr = none ∧ Tab.get leaf.imgRegs Reg.ID_IDCODE_IDCODE.addr = none) ∧
    (let s : State := { leaf with skn := { leaf.skn with dump := some dumpLive, dbgPos := 56 } }
     s.skn.dbgPos + 8 ≤ dumpLive.bytes.length) ∧
    (((leaf.skn.dump.map (·.bytes.length)).getD 0) < leaf.skn.dbgPos + 8) := by decide +kernel

/-- For the statement StepRunsFront, StagingStaysCanonical, BadDescriptorsAreRejected and ReconstructsTime. -/
theorem wit_steps :
    (let s := { leaf with pending := [.idcode, .ftMax] }
     s.pending = Instr.idcode :: [.ftMax]) ∧
    (leaf.pending = [] ∧ leaf.hif.mgmtHeld = [] ∧ leaf.hif.mgmtWait = [] ∧ leaf.hif.slices = [] ∧ leaf.whl.clock = true ∧ leaf.whl.ftMaxed = false ∧ leaf.whl.slew = 0 ∧
      (State.resetOf .leaf).whl.clock = false) ∧
    Memory.wf State.reset.hif.staging = true ∧
    (let s := put leaf [(Reg.SLC_CTRL_ENABLE.at 1, 1), (Reg.SLC_CMDTAIL_COUNT.at 1, 1)]
     takes s { desc with rsv := 1 } (.slice 0) = false ∧ takes s desc .mgmt = true ∧ s.canFetch 1 = true ∧ (s.slice 1).fetched = []) ∧
    ((5 : Nat) < 2 ^ 40 ∧ (2 ^ 63 : Nat) < 2 ^ 64) := by decide +kernel

end Sys2Proof.Tests
end

