-- ==== Sys2Proof/Tests/Signed.lean ====
section
/-! SUPPORT. Witnesses: for the statements on a signed image and a signed package that pass every check, states and operands that meet the hypotheses of each clause together. -/

set_option maxRecDepth 20000
set_option Elab.async false

namespace Sys2Proof.Tests

open Sys2Proof Sys2Proof.Machine

/-! ### Signed images and packages: the key is the curve's base point, and the signature's secret number is 1 -/

def sigR : Nat := 0xAA87CA22BE8B05378EB1C71EF320AD746E1D3B628BA79B9859F741E082542A385502F25DBF55296C3A545E3872760AB7
def be48 (n : Nat) : List Byte := (List.range 48).map fun i => BitVec.ofNat 8 (n / 256 ^ (47 - i))
/-- An image of one record, the host bandwidth, for the Leaf at 0x4000. -/
def goodImage : List Byte :=
  wordsBytes [0x14D495A54, 0x1234, 0x10000, 0x4000, 0, 0, 0, 0, 0x6400060101, 0xFFFF] ++ be48 sigR ++
    be48 0x3E748B028EF1781C4AFCBCF47BF460D08D01B22F212344F957BDAC7A4FC28977D5E583545B2DE6429505E827B564F0FE
def goodPackage : List Byte :=
  wordsBytes [0x153545A50, 0x100000005, 0x10000, 0x30, 0, 0, 0, 0, 0x10100, 0x1000000020, 0x1000000020, 0xA0000000A, 0, 0] ++ be48 sigR ++
    be48 0xF90872E46F98EE4329D45400E6F91092D662799A1E6D2227271B36CDFA9FD4E5AFF4BCFA79FAF2DE8A63029CA1F0AC13
def keyed : State :=
  { leaf with boot := { leaf.boot with rom := [(0, (gx384, gy384))], image := some { image0 with stapleKey := be48 gx384 ++ be48 gy384 } } }

/-- For the statement BlockComesUp: an image that passes every check. -/
theorem wit_goodImage : (match keyed.validate goodImage with | .inr i => decide (i.self = 0x4000 ∧ i.fields.length = 1) | .inl _ => false) = true := by decide +kernel

/-- For the statement StapleIsCommanded: a package that passes every check. -/
theorem wit_goodPackage :
    (takes keyed { desc with len := BitVec.ofNat 32 goodPackage.length } .mgmt = true ∧ keyed.pkgBad goodPackage = none ∧ (pkgOf goodPackage).tests.length = 1 ∧
     sumN (keyed.stp.pkgs.map fun e => e.2.size) + (pkgOf goodPackage).size ≤ 262144) := by decide +kernel

end Sys2Proof.Tests
end

