-- ==== Sys2Proof/Tests/Slice0.lean ====
section
/-! SUPPORT. Tests: well-formedness refuses a term for each of its checks, and the values that the spec's worked examples state. -/

set_option maxRecDepth 20000
set_option Elab.async false

namespace Sys2Proof.Tests

open Sys2Proof Sys2Proof.Machine

/-! ### Well-formedness refuses what names nothing -/

def longFrame : Frame :=
  { tc := 0, first := true, last := true, replay := false, poison := false, locked := true, ct := 0, seq := 0, lack := 0, cack := 0, rcred := 0, bcred := 0, dest := 0,
    payload := List.replicate 28 0, crc := 0 }
def shortFrame : Frame := { longFrame with payload := [] }
/-- One ill-formed command for each check. -/
theorem test_ill_formed :
    ([.sessOpen (.slice 64) desc bus, .stageWrite 2097150 [0, 0, 0], .stageRead 2097152 1, .dbCmdtail none 64 0, .dbCplhead none 64 0, .dbVrdhead none 64 0,
   .verdictStallExpiry 64, .whlAsymWrite acc 4 0, .genArm acc 64 0, .unitResetEnd 2048, .partitionResetEnd 16, .strPctrlEn acc 36 0, .strPctrlRetrain acc 36, .bypass 0x30,
   .heartbeat 36 shortFrame, .heartbeat 0 longFrame, .unusedMsgFrame 36 0x25 shortFrame, .linkDown 36 0, .handoverTimeout 36, .retryTimeout 36, .pdelayReqSend 4,
   .frameDepart 36 0 false, .genApply 64, .sampleTrigger 12] : List Instr).all (fun i => !i.wf) = true := by decide +kernel
theorem test_ill_formed_events :
    ([.startDeadline 256, .tagReturn 64 0 0 0, .tagTimeout 64, .traceItem 64 [], .batchCollectExpiry 4096, .domainBoundary 64, .passDone 64 0, .scoreStageDone 64,
   .modelStoreLoadDone 1024 0, .evictionDone 1024, .graceExpiry 4096, .satIntervalEnd 36, .tapRecord 64 [], .roundDeadline 256, .secondPolynomialDone 64 0 0, .budgetRefill 16,
   .watchdogExpiry 2048, .droopCrossing 16 0, .aliveInEdge 36, .peerRxPulse 64, .partitionFenceIdle 16, .overdueLimit 1024 0, .overdueLimit 0 256, .scrubDone [(8192, 0)],
   .descriptorFetch 64 .failed, .completionWrite 64 true, .admitTimeout 4096, .dumpUnitTimeout 2048, .stopFtReached 4096, .droopIntervalEnd 16] : List Instr).all (fun i => !i.wf) = true := by decide +kernel
theorem test_well_formed : [Instr.sessOpen (.slice 63) desc bus, .imgLoad .mgmt desc bus, .heartbeat 35 shortFrame, .bypass 0x07, .stageRead 2097151 1].all Instr.wf = true := by decide

/-! ### Values that the spec's worked examples state -/

/-- Whorl: a compact stamp across the wrap of its low 40 bits. -/
theorem test_reconstruct : reconstruct 0x0000000800 0x000001FFFFFFF000 = 0x0000020000000800 := by decide +kernel
/-- Check values: the running value over "1234", and both check values over "123456789". -/
theorem test_crc :
    crcBytes polyIeee 0xFFFFFFFF (toBytes 4 0x34333231) = 0x641C1F5C ∧ crcOf polyC (toBytes 9 0x393837363534333231) = 0xE3069283 ∧
      crcOf polyIeee (toBytes 9 0x393837363534333231) = 0xCBF43926 := by decide +kernel
/-- Check values, step 2: four bytes are taken by a write of `CVU_DATA`. -/
theorem test_cvu_data :
    (match exec (.cvuData acc 0x34333231 false) (put leaf [(Reg.CVU_RUN_RUN, 0xFFFFFFFF)]) with
     | .next t => t.fget Reg.CVU_RUN_RUN == 0x641C1F5C && t.fget Reg.CVU_LEN_LEN == 4 | _ => false) = true := by decide +kernel
/-- Check values, step 9 ends: the last byte of five is taken by a write of `CVU_TAIL`. -/
theorem test_cvu_tail :
    (match exec (.cvuTail acc 0x01000039 false) (put leaf [(Reg.CVU_RUN_RUN, crcBytes polyIeee 0x641C1F5C (toBytes 4 0x38373635)), (Reg.CVU_LEN_LEN, 8)]) with
     | .next t => (t.fget Reg.CVU_RUN_RUN ^^^ 0xFFFFFFFF) == 0xCBF43926 && t.fget Reg.CVU_LEN_LEN == 9 | _ => false) = true := by decide +kernel
/-- Address map: `ID_SCRATCH` after a native write and a write of the toggle alias. -/
theorem test_toggle : writtenWord .rw 0xFFFFFFFF 3 0x000000F0 0x00000011 = 0x000000E1 := by decide
/-- Address map: one address, three ports. -/
theorem test_places :
    leaf.place .host 0x4800 = .word 1 2 0 ∧ hub.place .host 0x102000 = .word 1 2 0 ∧ leaf.place .mgmt 0x102000 = .word 1 2 0 ∧ hub.place .host 0x01240C = .word 0 0x12 0xC ∧
      hub.place .host 0x0A1008 = .word 0 0xA1 8 ∧ leaf.place .host 0x3D48 = .doorbell 5 8 ∧
      (put leaf [(Reg.ID_LBANK_PAGE, 0xA1)]).place .host 0x3808 = .word 0 0xA1 8 := by decide +kernel
/-- Fleet and places: a route prefix from its place fields. -/
theorem test_prefix : 3 * 2 ^ 26 + 1 * 2 ^ 22 + 17 * 2 ^ 16 + 9 * 2 ^ 10 + 4 * 2 ^ 5 = 0x0C512480 ∧
    (let s : State := { hub with regs := Tab.set (Tab.set hub.regs (Reg.STR_ROUTE_PREFIX.at 16).addr 0x0C512480) ((Reg.STR_ROUTE_PREFIX.at 16).addr + 4) 0x0000A018 }
     s.fget (Reg.STR_ROUTE_PREFIX.at 16) = 0x0C512480 ∧ s.fget (Reg.STR_ROUTE_DEPTH.at 16) = 6 ∧ s.flag (Reg.STR_ROUTE_ALT.at 16) = true ∧ s.flag (Reg.STR_ROUTE_VALID.at 16) = true ∧
       s.flag (Reg.STR_ROUTE_ACTIVE.at 16) = false) := by decide +kernel
/-- Host interface: a legal completion head is taken, and one beyond the tail is not. -/
theorem test_cplhead :
    (let s := put leaf [(Reg.SLC_RINGSZ_CPL.at 0, 6), (Reg.SLC_CPLHEAD_COUNT.at 0, 62), (Reg.SLC_CPLTAIL_COUNT.at 0, 65)]
     (match exec (.dbCplhead none 0 65) s with | .next t => t.fget (Reg.SLC_CPLHEAD_COUNT.at 0) == 65 && !t.flag (Reg.SLC_STATUS_RING_ERR.at 0) | _ => false) = true ∧
     (match exec (.dbCplhead none 0 66) s with
      | .next t => t.fget (Reg.SLC_CPLHEAD_COUNT.at 0) == 62 && t.flag (Reg.SLC_STATUS_RING_ERR.at 0) && t.fget (Reg.SLC_STATUS_CAUSE.at 0) == 3 && t.fget Reg.HIF_ERR_DBELL == 1
      | _ => false) = true) := by decide +kernel
/-- Carder: the keys of windows 1 and 3. -/
theorem test_keys :
    (let k := fun (fmt : Nat) (src : Bool) (v d : Nat) => featKey { pos := 0, fmt, src, group := 0 } { value := v, delta := d, first := false, off := false }
     k 2 false 0x3FC00000 0 = 0xBFC00000 ∧ k 3 false 0x8000 0 = 0x80000000 ∧ k 3 false 0x0000 0 = 0x80000000 ∧ k 0 true 0 5000000000 = 0xFFFFFFFF ∧ k 1 false (2 ^ 48 - 3) 0 = 0x7FFFFFFD ∧
       k 2 false 0xFF800000 0 = 0x007FFFFF ∧ k 3 false 0x0001 0 = 0xB3800000 ∧ k 0 true 0 70000 = 0x00011170) := by decide +kernel
/-- Spindle: the three trees of the example, in windows 1 and 3. -/
def exampleImage : MImage :=
  { nfeat := 4, depth := 2, base := 0, enter := 0x40000, exit := 0x20000, level := false, modelId := 1, cmps := 4, gmap := [0, 1, 1, 2],
    trees := [{ gmask := 1, root := 0, depth := 1 }, { gmask := 2, root := 3, depth := 2 }, { gmask := 4, root := 8, depth := 1 }]
    nodes := [0x00000800C0000000, 0x8000000000000000, 0x8000000000034000, 0x0000080280000000, 0x80000000FFFF8000, 0x0000080180000000, 0x8000000000010000, 0x8000000000004000,
              0x000008037FFFFFFE, 0x800000000000C000, 0x80000000FFFFC000] }
theorem test_trees :
    (let w := fun (k : List Key) => (List.range 3).map fun t => exampleImage.eval t k
     w [0xBFC00000, 0x80000000, 0xFFFFFFFF, 0x7FFFFFFD] = [0, 0x4000, 0xC000] ∧ (w [0xFFFFFFFF, 0x80000000, 0xFFFFFFFF, 0x7FFFFFFD]).take 1 = [0x34000] ∧
       w [0x007FFFFF, 0xB3800000, 0x00011170, 0x7FFFFFFD] = [0, -0x8000, 0xC000]) := by decide +kernel
/-- Draft: a rate of 1,000 MB/s gives 64 bytes at each refill. -/
theorem test_refill : refillAdd (1000 * 1000000) = 64 * 65536 := by decide
/-- Spec: no table row gives a command bits, so no word spells one. -/
theorem test_no_words : decodeTableWord 32 0 = none ∧ State.reset.withFetchWord 32 0 = State.reset := ⟨rfl, rfl⟩

end Sys2Proof.Tests
end

section
/-! SUPPORT. Masked writes and aliases bit by bit (R10, R167, R168): each operation on words, by its rule on one bit. -/

namespace Sys2Proof.Machine

/-- What the page of an access makes of one bit that reads as `old`, by the bit written (R167). -/
def aliasBit (al : BitVec 2) (old written : Bool) : Bool :=
  match al.toNat with | 0 => written | 1 => old || written | 2 => old && !written | _ => xor old written

/-- The register page and its set, clear and toggle aliases are the only pages of a word. -/
theorem alias_cases (al : BitVec 2) : al = 0 ∨ al = 1 ∨ al = 2 ∨ al = 3 := by
  revert al; decide

/-- Bit by bit, the word that takes `new` where `sel` is 1 and keeps `old` elsewhere: the shape of both kinds of mask. -/
theorem bit_select (sel old new : W32) {i : Nat} (hi : i < 32) :
    bit ((old &&& ~~~sel) ||| (new &&& sel)) i = if bit sel i then bit new i else bit old i := by
  unfold bit
  rw [BitVec.getLsbD_or, BitVec.getLsbD_and, BitVec.getLsbD_and, BitVec.getLsbD_not]
  by_cases hsel : sel.getLsbD i = true
  · rw [if_pos hsel, hsel]; simp
  · rw [if_neg hsel, Bool.eq_false_of_not_eq_true hsel]; simp [hi]

theorem bit_mergeBits (mask : Nat) (old new : W32) {i : Nat} (hi : i < 32) :
    bit (mergeBits mask old new) i = if bit (BitVec.ofNat 32 mask) i then bit new i else bit old i :=
  bit_select _ old new hi

theorem bit_aliasWord (al : BitVec 2) (old v : W32) {i : Nat} (hi : i < 32) :
    bit (aliasWord al old v) i = aliasBit al (bit old i) (bit v i) := by
  obtain rfl | rfl | rfl | rfl := alias_cases al
  · rfl
  · exact BitVec.getLsbD_or
  · simp [bit, aliasWord, aliasBit, hi]
  · exact BitVec.getLsbD_xor

theorem bit_and_lowHalf (w : W32) {i : Nat} (hi : i < 16) : bit (w &&& 0xFFFF#32) i = bit w i := by
  have hmask : (0xFFFF#32).getLsbD i = true := by revert i; decide
  simp [bit, BitVec.getLsbD_and, hmask]

/-- A plain write takes the low bits whose bit in the high half is 1 (R10); an alias acts on the low half without a mask (R168). -/
theorem bit_maskedWord (al : BitVec 2) (old v : W32) {i : Nat} (hi : i < 16) :
    bit (maskedWord al old v) i =
      if al = 0 then (if bit v (i + 16) then bit v i else bit old i) else aliasBit al (bit old i) (bit v i) := by
  have hi' : i < 32 := by omega
  by_cases hal : al = 0
  · have hshift : bit (v >>> 16) i = bit v (i + 16) := by simp [bit, Nat.add_comm]
    rw [maskedWord, if_pos hal, if_pos hal, bit_and_lowHalf _ hi, bit_select _ _ _ hi', hshift]
  · rw [maskedWord, if_neg hal, if_neg hal, bit_and_lowHalf _ hi, bit_aliasWord _ _ _ hi', bit_and_lowHalf _ hi]

/-- Settles O18: a bit that the mask makes writable follows its page's rule, and any other bit stays. -/
theorem writesThroughAliases : Obligations.WritesThroughAliases := by
  intro m i al old v hi
  constructor
  · rw [writtenWord, bit_mergeBits _ _ _ hi, bit_aliasWord _ _ _ hi]
    rfl
  · intro hlow
    rw [writtenWord, bit_mergeBits _ _ _ hi, bit_maskedWord _ _ _ hlow]
    obtain rfl | rfl | rfl | rfl := alias_cases al <;> rfl

end Sys2Proof.Machine
end

section
/-! SUPPORT. What queueing, counting and replaying frames leave alone: `State.steady` is the part of the state that no such operation touches, registers of the route table, of the homing and of the ports' states included. -/

namespace Sys2Proof.Machine

/-! ### The steady part -/

/-- Register words that queues, ledger points, the fault queue, the log and the Whorl do not write. -/
def steadyWord (k : Nat) : Bool :=
  decide (wordOf k / 4096 ≠ 1) && decide (wordOf k ∉ [0x2008, 0x2010, 0x3004, 0x4008, 0xE018, 0xE11C, 0x12004])
    && !(decide (0x80 ≤ wordOf k / 4096) && decide (wordOf k % 4096 = 0x18))

/-- Registers outside those words, the build, the queue, and Strand without its ports' queues. -/
def State.steady (s : State) : Tab W32 × Build × List Instr × Tab (W32 × W32) × Strand :=
  (s.regs.filter fun e => steadyWord e.1, s.build, s.pending, s.imgRegs, { s.str with ports := [], msgs := 0 })

theorem State.build_of_steady {s t : State} (h : t.steady = s.steady) : t.build = s.build := congrArg (fun x => x.2.1) h
theorem State.pending_of_steady {s t : State} (h : t.steady = s.steady) : t.pending = s.pending := congrArg (fun x => x.2.2.1) h
theorem State.imgRegs_of_steady {s t : State} (h : t.steady = s.steady) : t.imgRegs = s.imgRegs := congrArg (fun x => x.2.2.2.1) h
theorem State.adopt_of_steady {s t : State} (h : t.steady = s.steady) : t.str.adopt = s.str.adopt := congrArg (fun x => x.2.2.2.2.adopt) h
theorem State.homing_of_steady {s t : State} (h : t.steady = s.steady) : t.str.homing = s.str.homing := congrArg (fun x => x.2.2.2.2.homing) h
theorem State.lostPort_of_steady {s t : State} (h : t.steady = s.steady) : t.str.lostPort = s.str.lostPort := congrArg (fun x => x.2.2.2.2.lostPort) h
theorem State.noParentFt_of_steady {s t : State} (h : t.steady = s.steady) : t.str.noParentFt = s.str.noParentFt := congrArg (fun x => x.2.2.2.2.noParentFt) h

theorem State.regGet_of_steady {s t : State} (h : t.steady = s.steady) (k : Nat) (hk : steadyWord k = true) : t.regGet k = s.regGet k := by
  refine State.regGet_congr k ?_ (State.build_of_steady h) (State.imgRegs_of_steady h)
  have hr : t.regs.filter (fun e => steadyWord e.1) = s.regs.filter fun e => steadyWord e.1 := congrArg (fun x => x.1) h
  rw [← Tab.get_filter t.regs k steadyWord hk, ← Tab.get_filter s.regs k steadyWord hk, hr]

/-- A field of steady words is untouched. -/
theorem State.fget_of_steady {s t : State} (h : t.steady = s.steady) (f : RF) (hk : steadyWord f.addr = true)
    (h4 : f.lo + f.w ≤ 32 ∨ steadyWord (f.addr + 4) = true) : t.fget f = s.fget f := by
  by_cases hw : f.lo + f.w ≤ 32
  · rw [State.fget_narrow _ _ hw, State.fget_narrow _ _ hw, State.regGet_of_steady h _ hk]
  · rw [State.fget_wide _ _ (by omega), State.fget_wide _ _ (by omega)]
    unfold State.word64
    rw [State.regGet_of_steady h _ hk, State.regGet_of_steady h _ (h4.resolve_left hw)]

theorem State.regSet_steady (s : State) (k : Nat) (v : W32) (h : steadyWord k = false) : (s.regSet k v).steady = s.steady := by
  simp only [State.steady, State.regSet]
  rw [Tab.filter_set _ _ _ _ fun _ => h]

theorem State.fset_steady (s : State) (f : RF) (v : Nat) (h : steadyWord f.addr = false)
    (h4 : f.lo + f.w ≤ 32 ∨ steadyWord (f.addr + 4) = false) : (s.fset f v).steady = s.steady := by
  by_cases hw : f.lo + f.w ≤ 32
  · rw [State.fset_narrow _ _ _ hw, State.regSet_steady _ _ _ h]
  · rw [State.fset_wide _ _ _ (by omega), State.regSet_steady _ _ _ (h4.resolve_left hw), State.regSet_steady _ _ _ h]

/-! ### Ledger points, queues and sending -/

@[simp] theorem State.steady_emit (s : State) (e : Emission) : (s.emit e).steady = s.steady := rfl
@[simp] theorem State.steady_raise (s : State) (c l : Nat) (h : Hank) (i : Nat) : (s.raise c l h i).steady = s.steady := rfl
@[simp] theorem State.steady_setPort (s : State) (p : Nat) (x : Port) : (s.setPort p x).steady = s.steady := rfl
@[simp] theorem State.steady_modPort (s : State) (p : Nat) (f : Port → Port) : (s.modPort p f).steady = s.steady := rfl
@[simp] theorem State.steady_modSat (s : State) (p : Nat) (f : SatPort → SatPort) : (s.modSat p f).steady = s.steady := rfl
@[simp] theorem State.steady_custodyDone (s : State) (c : Nat × Nat) : (s.custodyDone c).steady = s.steady := rfl
@[simp] theorem State.steady_setWhl (s : State) (f : Whorl → Whorl) : (setWhl s f).steady = s.steady := rfl

theorem foldl_steady {β : Type} (l : List β) (f : State → β → State) (s : State) (h : ∀ s, ∀ x ∈ l, (f s x).steady = s.steady) :
    (l.foldl f s).steady = s.steady := by
  induction l generalizing s with
  | nil => rfl
  | cons x l ih =>
    rw [List.foldl_cons, ih _ fun s y hy => h s y (List.mem_cons_of_mem _ hy), h s x (List.mem_cons_self ..)]

@[simp] theorem State.steady_led (s : State) (k i : Nat) (c : LedCol) (n : Nat) : (s.led k i c n).steady = s.steady := by
  simp only [State.led]
  split
  · rw [State.steady_raise, State.fset_steady _ _ _ (by decide) (by decide)]; rfl
  · rfl

@[simp] theorem State.steady_ledDrop (s : State) (k i r n : Nat) : (s.ledDrop k i r n).steady = s.steady := by
  unfold State.ledDrop; split <;> simp

@[simp] theorem State.steady_inputsOut (s : State) (n : Nat) : (s.inputsOut n).steady = s.steady := by
  unfold State.inputsOut; split <;> simp

@[simp] theorem State.steady_endFrames (s : State) (fs : List TxFrame) : (s.endFrames fs).steady = s.steady := by
  unfold State.endFrames
  rw [State.steady_inputsOut, foldl_steady]; intros; simp

@[simp] theorem State.steady_countShed (s : State) (p c n : Nat) : (s.countShed p c n).steady = s.steady := by
  have hw : wordOf (Reg.DRF_CSTAT_SHED.at (p + 64 * c)).addr = 0xE11C := by simp only [wordOf, RF.at, Reg.DRF_CSTAT_SHED]; omega
  rw [State.countShed, State.steady_modSat, State.fadd, State.fset_steady _ _ _ (by simp only [steadyWord, hw]; decide)
    (Or.inl (by simp [RF.at, Reg.DRF_CSTAT_SHED]))]

@[simp] theorem State.steady_satOffer (s : State) (p : Nat) (fs : List TxFrame) : (s.satOffer p fs).steady = s.steady := by
  unfold State.satOffer; split <;> simp

@[simp] theorem State.steady_enqueue (s : State) (p c : Nat) (fs : List TxFrame) : (s.enqueue p c fs).steady = s.steady := by
  simp [State.enqueue]

theorem State.steady_shedOne {s t : State} {p c : Nat} (h : s.shedOne p c = some t) : t.steady = s.steady := by
  unfold State.shedOne at h
  split at h
  · cases h
  · simp only [Option.some.injEq] at h; subst h; simp

theorem State.steady_makeRoom (fuel : Nat) (s : State) (p c n : Nat) : (State.makeRoom fuel s p c n).steady = s.steady := by
  induction fuel generalizing s with
  | zero => rfl
  | succ k ih =>
    unfold State.makeRoom
    split
    · rfl
    · split
      · rename_i h
        obtain ⟨x, -, hx⟩ := List.exists_of_findSome?_eq_some h
        rw [ih, State.steady_shedOne hx]
      · rfl

@[simp] theorem State.steady_dropAtDraft (s : State) (p c r : Nat) (fs : List TxFrame) : (s.dropAtDraft p c r fs).steady = s.steady := by
  simp [State.dropAtDraft]

@[simp] theorem State.steady_bump_RSTALL (s : State) : (s.bump Reg.BOB_STAT_RSTALL).steady = s.steady :=
  State.fset_steady _ _ _ (by decide) (by decide)

@[simp] theorem State.steady_sendFrames (s : State) (p c : Nat) (fs : List TxFrame) : (s.sendFrames p c fs).steady = s.steady := by
  simp only [State.sendFrames]
  repeat' split
  all_goals simp [State.steady_makeRoom]

@[simp] theorem State.steady_sendN (s : State) (p typ tc : Nat) (d : Hank) (r : Bool) (w : List W64) (c : List (Nat × Nat)) (i : Nat) :
    (s.sendN p typ tc d r w c i).steady = s.steady := by
  rw [State.sendN, State.steady_sendFrames]; rfl

@[simp] theorem State.steady_send (s : State) (p typ tc : Nat) (d : Hank) (r : Bool) (w : List W64) (c : List (Nat × Nat)) :
    (s.send p typ tc d r w c).steady = s.steady := State.steady_sendN ..

@[simp] theorem State.steady_sendUp (s : State) (typ tc : Nat) (d : Hank) (r : Bool) (w : List W64) (c : List (Nat × Nat)) :
    (s.sendUp typ tc d r w c).steady = s.steady := by
  simp only [State.sendUp, State.sendUpN]
  repeat' split
  all_goals simp

theorem State.steady_sendRouted {s t : State} {typ tc : Nat} {d : Hank} {w : List W64} (h : s.sendRouted typ tc d w = some t) : t.steady = s.steady := by
  unfold State.sendRouted at h
  split at h <;> cases h <;> simp

@[simp] theorem State.steady_routeHandover (s : State) (d : Hank) (w : List W64) : (s.routeHandover d w).steady = s.steady := by
  unfold State.routeHandover
  cases h : s.sendRouted 0x0F 6 d w with
  | none => rfl
  | some t => exact State.steady_sendRouted h

@[simp] theorem State.steady_logLost (s : State) : s.logLost.steady = s.steady := by
  rw [State.logLost, State.bump, State.fadd, State.fset_steady _ _ _ (by decide) (by decide), State.steady_ledDrop]

/-! ### Room in the ledger points -/

theorem Tab.mem_of_get {α : Type} {t : Tab α} {k : Nat} {v : α} (h : Tab.get t k = some v) : (k, v) ∈ t := by
  induction t with
  | nil => cases h
  | cons e t ih =>
    obtain ⟨j, w⟩ := e
    simp only [Tab.get] at h
    split at h
    · rename_i hj
      cases h; subst hj; exact List.mem_cons_self ..
    · exact List.mem_cons_of_mem _ (ih h)

/-- Nothing is owed, and no counter of a ledger point is beyond `n`: a count of few more saturates none (R150). -/
def State.Roomy (s : State) (n : Nat) : Prop := s.work = [] ∧ ∀ e ∈ s.lea.pts, Ledger.below e.2 n

theorem State.Roomy.of_eq {s t : State} {n : Nat} (h : s.Roomy n) (hw : t.work = s.work) (hl : t.lea = s.lea) : t.Roomy n := by
  unfold State.Roomy; rw [hw, hl]; exact h

theorem Ledger.below_mono {l : Ledger} {m n : Nat} (h : Ledger.below l m) (hm : m ≤ n) : Ledger.below l n := by
  unfold Ledger.below at *; omega

theorem State.Roomy.mono {s : State} {m n : Nat} (h : s.Roomy m) (hm : m ≤ n) : s.Roomy n :=
  ⟨h.1, fun e he => Ledger.below_mono (h.2 e he) hm⟩

theorem Ledger.below_get {l : Ledger} {n : Nat} (h : Ledger.below l n) (c : LedCol) : l.get c ≤ n := by
  obtain ⟨h1, h2, h3, h4, h5, h6, h7, h8⟩ := h
  unfold Ledger.get
  split <;> assumption

theorem Ledger.below_put {l : Ledger} {n v : Nat} (h : Ledger.below l n) (c : LedCol) (hv : v ≤ n) : Ledger.below (l.put c v) n := by
  obtain ⟨h1, h2, h3, h4, h5, h6, h7, h8⟩ := h
  unfold Ledger.put
  split <;> exact ⟨by assumption, by assumption, by assumption, by assumption, by assumption, by assumption, by assumption, by assumption⟩

theorem State.Roomy.ledGet_below {s : State} {n : Nat} (h : s.Roomy n) (k i : Nat) : Ledger.below (s.ledGet k i) n := by
  unfold State.ledGet Tab.getD
  cases hg : Tab.get s.lea.pts (ledKey k i) with
  | none => simp [Ledger.below]
  | some l => exact h.2 _ (Tab.mem_of_get hg)

/-- With room a count is written, and nothing is raised. -/
theorem State.Roomy.led_eq {s : State} {m : Nat} (h : s.Roomy m) (k i : Nat) (c : LedCol) (n : Nat) (hn : m + n < ftMax) :
    ∃ pts, s.led k i c n = { s with lea := { s.lea with pts } } ∧ ∀ e ∈ pts, Ledger.below e.2 (m + n) := by
  have hb := h.ledGet_below k i
  have hg := Ledger.below_get hb c
  have hv : satAdd ftMax ((s.ledGet k i).get c) n = (s.ledGet k i).get c + n := by
    unfold satAdd; rw [if_neg (by omega)]
  refine ⟨Tab.set s.lea.pts (ledKey k i) ((s.ledGet k i).put c ((s.ledGet k i).get c + n)), ?_, ?_⟩
  · simp only [State.led, hv]
    rw [if_neg (by omega)]
  · intro e he
    rcases Tab.mem_set he with rfl | he
    · exact Ledger.below_put (Ledger.below_mono hb (by omega)) _ (by omega)
    · exact Ledger.below_mono (h.2 e he) (by omega)

theorem State.Roomy.led {s : State} {m : Nat} (h : s.Roomy m) (k i : Nat) (c : LedCol) (n : Nat) (hn : m + n < ftMax) :
    (s.led k i c n).Roomy (m + n) := by
  obtain ⟨pts, he, hp⟩ := h.led_eq k i c n hn
  rw [he]; exact ⟨h.1, hp⟩

theorem State.Roomy.ledDrop {s : State} {m : Nat} (h : s.Roomy m) (k i r n : Nat) (hn : m + n < ftMax) :
    (s.ledDrop k i r n).Roomy (m + n) := by
  unfold State.ledDrop
  split
  · exact h.led _ _ _ _ hn
  · exact h.mono (by omega)

/-! ### Messages of the reserved classes that carry no custody -/

/-- Frames with which no custody and no merge input ends. -/
def Bare (fs : List TxFrame) : Prop := ∀ f ∈ fs, f.covers = [] ∧ f.inputs = 0

theorem sumN_eq_sum (l : List Nat) : sumN l = l.sum := by
  rw [sumN, List.sum_eq_foldl]

theorem State.endFrames_bare (s : State) {fs : List TxFrame} (h : Bare fs) : s.endFrames fs = s := by
  have hc : fs.flatMap (·.covers) = [] := List.flatMap_eq_nil_iff.2 fun f hf => (h f hf).1
  have hi : sumN (fs.map (·.inputs)) = 0 := by
    rw [sumN_eq_sum]; exact List.sum_eq_zero fun x hx => by
      obtain ⟨f, hf, rfl⟩ := List.mem_map.1 hx
      exact (h f hf).2
  rw [State.endFrames, hc, hi]; rfl

theorem framesF_length (n : Nat) (ws : List W64) : (framesF n ws).length ≤ n := by
  induction n generalizing ws with
  | zero => exact Nat.le_refl 0
  | succ n ih =>
    unfold framesF
    split
    · simp
    · simpa using ih _

theorem framesF_word_le (n : Nat) (ws l : List W64) (h : l ∈ framesF n ws) : l.length ≤ 27 := by
  induction n generalizing ws with
  | zero => cases h
  | succ n ih =>
    unfold framesF at h
    split at h
    · rename_i hl
      rwa [List.mem_singleton.1 h]
    · rcases List.mem_cons.1 h with rfl | h
      · simp
      · exact ih _ h

theorem mkFrames_bare (typ tc msg : Nat) (d : Hank) (r : Bool) (w : List W64) : Bare (mkFramesN typ tc msg d r w [] 0) := by
  intro f hf
  obtain ⟨e, -, rfl⟩ := List.mem_map.1 hf
  simp

theorem mkFrames_length (typ tc msg : Nat) (d : Hank) (r : Bool) (w : List W64) (c : List (Nat × Nat)) (i : Nat) :
    (mkFramesN typ tc msg d r w c i).length ≤ w.length + 1 := by
  simpa [mkFramesN] using framesF_length (w.length + 1) w

/-- A frame is at most 256 bytes long: four cells (R571, R607). -/
theorem mkFrames_cells (typ tc msg : Nat) (d : Hank) (r : Bool) (w : List W64) (c : List (Nat × Nat)) (i : Nat) :
    ∀ f ∈ mkFramesN typ tc msg d r w c i, f.cells ≤ 4 := by
  intro f hf
  obtain ⟨e, he, rfl⟩ := List.mem_map.1 hf
  have hl : e.1.length ≤ 27 := framesF_word_le _ _ _ (List.fst_mem_of_mem_zipIdx he)
  simp only [TxFrame.cells, TxFrame.bytes, cellsOf, frameBytesLen, ceilDiv]
  omega

theorem cellsSum_le {fs : List TxFrame} (h : ∀ f ∈ fs, f.cells ≤ 4) : cellsSum fs ≤ 4 * fs.length := by
  rw [cellsSum, sumN_eq_sum]
  have := List.sum_le_card_nsmul (fs.map TxFrame.cells) 4 (by simpa using h)
  simpa [Nat.mul_comm] using this

/-- What queueing bare frames of a reserved class does on a port: nothing is owed after it as long as there was room, and of the ports only this one's queues change. -/
structure Queued (p n : Nat) (s t : State) : Prop where
  steady : t.steady = s.steady
  roomy : ∀ m, s.Roomy m → m + n < ftMax → t.Roomy (m + n)
  other : ∀ q, q ≠ p → t.port q = s.port q
  rtx : (t.port p).rtx = (s.port p).rtx
  held : (t.port p).held = (s.port p).held

theorem State.port_setPort (s : State) (p q : Nat) (x : Port) : (s.setPort p x).port q = if q = p then x else s.port q := by
  unfold State.port State.setPort Tab.getD
  rw [Tab.get_set]
  split <;> rfl

theorem State.port_congr {s t : State} (h : t.str.ports = s.str.ports) (q : Nat) : t.port q = s.port q := by
  unfold State.port; rw [h]

@[simp] theorem State.port_led (s : State) (k i : Nat) (c : LedCol) (n q : Nat) : (s.led k i c n).port q = s.port q := State.port_congr (by simp) q
@[simp] theorem State.port_ledDrop (s : State) (k i r n q : Nat) : (s.ledDrop k i r n).port q = s.port q := State.port_congr (by simp) q
@[simp] theorem State.port_fset (s : State) (f : RF) (v q : Nat) : (s.fset f v).port q = s.port q := State.port_congr (by simp) q
@[simp] theorem State.port_bump (s : State) (f : RF) (q : Nat) : (s.bump f).port q = s.port q := State.port_congr (by simp) q

theorem Queued.sendFrames (s : State) (p c : Nat) {fs : List TxFrame} (hc : 4 ≤ c) (hb : Bare fs) (h4 : ∀ f ∈ fs, f.cells ≤ 4) :
    Queued p (5 * fs.length) s (s.sendFrames p c fs) := by
  have hcells := cellsSum_le h4
  have hsteady := State.steady_sendFrames s p c fs
  by_cases hf : s.portFenced p = true
  · have he : s.sendFrames p c fs = (s.led 6 (draftPt p c) .inn fs.length).ledDrop 6 (draftPt p c) rsnFENCED fs.length := by
      simp only [State.sendFrames, hf, if_true, State.dropAtDraft, State.endFrames_bare _ hb]
    rw [he] at hsteady ⊢
    exact ⟨hsteady, fun m hm hn => ((hm.led _ _ _ _ (by omega)).ledDrop _ _ _ _ (by omega)).mono (by omega), by simp, by simp, by simp⟩
  · by_cases hq : (s.qFits (egressQ p c) (cellsSum fs) && (s.port p).stalled.isEmpty) = true
    · have he : s.sendFrames p c fs = s.enqueue p c fs := by
        simp only [State.sendFrames, hf, if_false, ge_iff_le, hc, if_true, hq, Bool.false_eq_true]
      rw [he] at hsteady ⊢
      refine ⟨hsteady, fun m hm hn => ?_, fun q hq => ?_, ?_, ?_⟩
      · have h0 : (s.modPort p fun x => { x with egress := listSet x.egress c (x.egress.getD c [] ++ fs) }).Roomy m := hm.of_eq rfl rfl
        exact ((h0.led _ _ _ _ (by omega)).led _ _ _ _ (by omega)).mono (by omega)
      · simp [State.enqueue, State.modPort, State.port_setPort, hq]
      · simp [State.enqueue, State.modPort, State.port_setPort]
      · simp [State.enqueue, State.modPort, State.port_setPort]
    · have he : s.sendFrames p c fs = (s.modPort p fun x => { x with stalled := x.stalled ++ [fs] }).bump Reg.BOB_STAT_RSTALL := by
        simp only [State.sendFrames, hf, if_false, ge_iff_le, hc, if_true, hq, Bool.false_eq_true]
      rw [he] at hsteady ⊢
      refine ⟨hsteady, fun m hm hn => (hm.of_eq (by simp [State.modPort]) (by simp [State.modPort])).mono (by omega), fun q hq => ?_, ?_, ?_⟩
      · simp [State.modPort, State.port_setPort, hq]
      · simp [State.modPort, State.port_setPort]
      · simp [State.modPort, State.port_setPort]

end Sys2Proof.Machine
end

section
/-! SUPPORT. How children and parents find each other (R27, R38, R40, R55, R593 to R597): what a block owes after it has taken one of their messages, which is nothing, and what each message writes. -/

namespace Sys2Proof.Machine

/-! ### Sending with room -/

theorem State.sendN_queued (s : State) (p typ tc : Nat) (d : Hank) (r : Bool) (w : List W64) (hc : 4 ≤ tc) :
    Queued p (5 * (w.length + 1)) s (s.sendN p typ tc d r w [] 0) := by
  have hl := mkFrames_length typ tc s.str.msgs d r w [] 0
  have h := Queued.sendFrames { s with str := { s.str with msgs := s.str.msgs + 1 } } p tc hc (mkFrames_bare typ tc s.str.msgs d r w)
    (mkFrames_cells typ tc s.str.msgs d r w [] 0)
  exact ⟨h.steady, fun m hm hn => (h.roomy m hm (by omega)).mono (by omega), h.other, h.rtx, h.held⟩

theorem State.send_queued (s : State) (p typ tc : Nat) (d : Hank) (r : Bool) (w : List W64) (hc : 4 ≤ tc) :
    Queued p (5 * (w.length + 1)) s (s.send p typ tc d r w []) := State.sendN_queued s p typ tc d r w hc

theorem State.Roomy.sendUp {s : State} {m : Nat} (h : s.Roomy m) (typ tc : Nat) (d : Hank) (r : Bool) (w : List W64) (hc : 4 ≤ tc)
    (hn : m + 5 * (w.length + 1) < ftMax) : (s.sendUp typ tc d r w []).Roomy (m + 5 * (w.length + 1)) := by
  have hl := mkFrames_length typ tc 0 d r w [] 0
  have hb := mkFrames_bare typ tc 0 d r w
  unfold State.sendUp State.sendUpN
  split
  · exact (State.sendN_queued s _ typ tc d r w hc).roomy m h hn
  · simp only
    split
    · rw [State.endFrames_bare _ hb]; exact h.mono (by omega)
    · split
      · exact (State.sendN_queued s _ typ tc d r w hc).roomy m h hn
      · rw [State.dropAtDraft, State.endFrames_bare _ hb]
        exact ((h.led _ _ _ _ (by omega)).ledDrop _ _ _ _ (by omega)).mono (by omega)

theorem State.Roomy.routeHandover {s : State} {m : Nat} (h : s.Roomy m) (d : Hank) (w : List W64) (hn : m + 5 * (w.length + 1) < ftMax) :
    (s.routeHandover d w).Roomy (m + 5 * (w.length + 1)) := by
  unfold State.routeHandover State.sendRouted
  split
  · exact h.mono (by omega)
  · exact (State.send_queued s _ 0x0F 6 d false w (by decide)).roomy m h hn
  · exact h.sendUp 0x0F 6 d false w (by decide) hn
  · exact h.mono (by omega)

/-! ### A message received whole -/

theorem State.side_releaseTo (s : State) (p cack : Nat) (hp : p < 64) : (s.releaseTo p cack).side = s.side := by
  have hshow (u : State) : (u.rtxShow p).side = u.side := by
    rw [State.rtxShow, State.side_fset_STR_PRTX_KIB _ _ _ hp, State.side_fset_STR_PRTX_FRAMES _ _ _ hp]
  simp only [State.releaseTo]
  split
  · rfl
  · rw [hshow, State.side_led, State.side_endFrames, State.side_setPort]

theorem State.side_takeAcks (s : State) (p : Nat) (f : Frame) (hp : p < 64) : (s.takeAcks p f).side = s.side := by
  have hfirst (u : State) (x : Port) (c : Bool) : (if c = true then u.setPort p x else u).side = u.side := by split <;> rfl
  have hcred (u : State) (a b : Nat) :
      ((u.fadd (Reg.STR_PCRED_RES.at p) a).fadd (Reg.STR_PCRED_BE.at p) b).side = u.side := by
    rw [State.fadd, State.side_fset_STR_PCRED_BE _ _ _ hp, State.fadd, State.side_fset_STR_PCRED_RES _ _ _ hp]
  simp only [State.takeAcks]
  split
  · rw [hcred, State.side_releaseTo _ _ _ hp, hfirst]
  · rw [State.side_led, hcred, State.side_releaseTo _ _ _ hp, hfirst]

theorem pair_none_ne_some {α β : Type} {a b : α} {m : β} (h : (a, none) = (b, some m)) : False := by cases h

/-- Reassembly hands over a message of this port, and drops a broken one with a fault raised. -/
theorem State.assemble_some {s s1 : State} {p typ : Nat} {f : Frame} {m : Msg} (h : s.assemble p typ f = (s1, some m)) :
    s1.side = s.side ∧ m.port = p := by
  unfold State.assemble at h
  extract_lets c pt broken keep at h
  have hbroken (n : Nat) : (broken s n).side = s.side := by simp [broken]
  have hkeep {u : State} {r : Partial} (hk : keep u r = (s1, some m)) : s1.side = u.side ∧ m.port = p := by
    by_cases hl : f.last = true
    · simp only [keep, hl, if_true] at hk
      cases hk; exact ⟨rfl, rfl⟩
    · simp only [keep, if_neg hl] at hk
      exact (pair_none_ne_some hk).elim
  split at h
  · exact hkeep h
  · split at h
    · exact hkeep h
    · exact (pair_none_ne_some h).elim
  · exact (pair_none_ne_some h).elim
  · obtain ⟨hs, hm⟩ := hkeep h
    exact ⟨hs.trans (hbroken _), hm⟩

/-- A port that hands a message to its unit exists, the message names it, and what no owed effect touches is as before. -/
theorem State.rx_some {s s1 : State} {p typ : Nat} {f : Frame} {m : Msg} (h : s.rx p typ f = (s1, some m)) :
    s1.side = s.side ∧ m.port = p ∧ p < 36 := by
  unfold State.rx at h
  split at h
  · exact (pair_none_ne_some h).elim
  rename_i hport
  have hp : p < 36 := by
    unfold hasPort at hport
    split at hport
    · simpa using hport
    · simp only [Bool.not_eq_true', Bool.not_eq_false, Bool.or_eq_true, beq_iff_eq] at hport; omega
  split at h
  · exact (pair_none_ne_some h).elim
  split at h
  · exact (pair_none_ne_some h).elim
  extract_lets u next v d cells n w x at h
  split at h
  · exact (pair_none_ne_some h).elim
  split at h
  · exact (pair_none_ne_some h).elim
  split at h
  · exact (pair_none_ne_some h).elim
  have hv : v.side = s.side := by
    show (State.led _ 8 p .inn 1).side = _
    rw [State.side_led]
    split
    · rfl
    · exact State.side_takeAcks _ _ _ (by omega)
  split at h
  · exact (pair_none_ne_some h).elim
  have hx : x.side = s.side := by
    show (State.cutFrame _ p f.ct.toNat).side = _
    rw [State.side_cutFrame, State.side_modPort, State.side_fset_STR_PRXSEQ_SEQ _ _ _ (by omega), hv]
  split at h
  · exact (pair_none_ne_some h).elim
  split at h
  · exact (pair_none_ne_some h).elim
  split at h
  · exact (pair_none_ne_some h).elim
  obtain ⟨hs, hm⟩ := State.assemble_some h
  exact ⟨hs.trans hx, hm, hp⟩

/-! ### What a block owes after a message -/

/-- The block with other ledger counters: all that a message's way past the receive point changes. -/
def State.withLea (s : State) (l : Lea) : State := { s with lea := l }
@[simp] theorem State.withLea_build (s : State) (l : Lea) : (s.withLea l).build = s.build := rfl
@[simp] theorem State.withLea_pending (s : State) (l : Lea) : (s.withLea l).pending = s.pending := rfl

theorem State.rxPass_roomy {s1 : State} {n : Nat} (p : Nat) (h : s1.Roomy (2 ^ 63)) (hn : n < 2 ^ 32) :
    ∃ l : Lea, s1.rxPass p n = s1.withLea l ∧ (s1.withLea l).Roomy (2 ^ 63 + 2 ^ 32) := by
  obtain ⟨pts, he, hp⟩ := h.led_eq 8 p .out n (by unfold ftMax; omega)
  exact ⟨{ s1.lea with pts }, he, h.1, fun e hm => Ledger.below_mono (hp e hm) (by omega)⟩

section Message
variable {s s1 : State} {p typ : Nat} {f : Frame} {m : Msg} (h : Gets s p typ f s1 m)
include h

/-- The message's frames pass the receive point: of the block's state only ledger points change, and they have room. -/
theorem gets_pass : ∃ l : Lea, s1.rxPass p m.seqs.length = s1.withLea l ∧ (s1.withLea l).Roomy (2 ^ 63 + 2 ^ 32) := by
  obtain ⟨-, hwork, hpts, hseqs, -⟩ := h
  exact State.rxPass_roomy p ⟨hwork, hpts⟩ hseqs

theorem gets_port : m.port = p ∧ p < 36 := (State.rx_some h.1).2

/-- A block that owes nothing after a message ends its step there. -/
theorem gets_act {t : State} {n : Nat} (hr : t.Roomy n) (hb : t.build = s1.build) (hp : t.pending = s1.pending) : act s t = .next t := by
  have hside := (State.rx_some h.1).1
  exact act_of_calm s t hr.1 (hb.trans (State.build_of_side hside)) (hp.trans (State.pending_of_side hside))

theorem gets_act_steady {t u : State} {n : Nat} (hr : t.Roomy n) (ht : t.steady = u.steady) (hb : u.build = s1.build) (hp : u.pending = s1.pending) :
    act s t = .next t :=
  gets_act h hr ((State.build_of_steady ht).trans hb) ((State.pending_of_steady ht).trans hp)

end Message

theorem State.Roomy.fset {s : State} {n : Nat} (h : s.Roomy n) (f : RF) (v : Nat) : (s.fset f v).Roomy n := h.of_eq (by simp) (by simp)

theorem State.Roomy.takeover {s : State} {n : Nat} (h : s.Roomy n) : s.takeover.Roomy n := by
  simp only [State.takeover]
  split
  · exact h.of_eq (by simp) (by simp)
  · exact h

theorem State.takeover_build (s : State) : s.takeover.build = s.build := State.build_of_side (State.side_takeover s)
theorem State.takeover_pending (s : State) : s.takeover.pending = s.pending := State.pending_of_side (State.side_takeover s)

/-- A change of role writes the tier register alone. -/
theorem State.fget_takeover (s : State) (f : RF) (hf : f.addr ≠ 0xD000 ∧ f.addr ≠ 0xD004 ∧ f.addr + 4 ≠ 0xD000) : s.takeover.fget f = s.fget f := by
  simp only [State.takeover]
  split
  · exact (State.fget_fset_other _ Reg.STR_TIER_ROLE_EPOCH f _ hf).trans (State.fget_fset_other _ Reg.STR_TIER_ROOT_ACTIVE f _ hf)
  · rfl

/-! ### ATTACH and DETACH at a parent -/

theorem exec_attach {s s1 : State} {p : Nat} {f : Frame} {m : Msg} (h : Gets s p 6 f s1 m) :
    exec (.attach p f) s = act s ((s1.rxPass p m.seqs.length).takeAttach p (m.words.getD 0 0)) := by
  show execAttach p f s = _
  rw [execAttach, h.1]

theorem exec_detach {s s1 : State} {p : Nat} {f : Frame} {m : Msg} (h : Gets s p 8 f s1 m) :
    exec (.detach p f) s = act s (let s2 := s1.rxPass p m.seqs.length
      if s2.routeActive p ∧ s2.flag (Reg.STR_ROUTE_ALT.at p) then
        let s3 := (s2.fset (Reg.STR_ROUTE_ACTIVE.at p) 0).fset (Reg.STR_PSTAT_HOMED.at p) 0
        (s3.sendUp 0x0A 7 0 false (s3.adoptWords p) []).giveBack p
      else s2) := by
  show execDetach p f s = _
  rw [execDetach, h.1]

/-- The route to the child of port `p` is active or not, and the child is homed here or not. -/
def State.routeChild (s : State) (p v : Nat) : State := (s.fset (Reg.STR_ROUTE_ACTIVE.at p) v).fset (Reg.STR_PSTAT_HOMED.at p) v

theorem State.Roomy.routeChild {s : State} {n : Nat} (h : s.Roomy n) (p v : Nat) : (s.routeChild p v).Roomy n := (h.fset _ _).fset _ _
@[simp] theorem State.routeChild_build (s : State) (p v : Nat) : (s.routeChild p v).build = s.build := by simp [State.routeChild]
@[simp] theorem State.routeChild_pending (s : State) (p v : Nat) : (s.routeChild p v).pending = s.pending := by simp [State.routeChild]

theorem State.routeChild_active (s : State) {p : Nat} (hp : p < 36) : (s.routeChild p 1).fget (Reg.STR_ROUTE_ACTIVE.at p) = 1 := by
  rw [State.routeChild, State.fget_fset_other, State.fget_fset]
  · rfl
  · simp [RF.at, Reg.STR_ROUTE_ACTIVE]
  · simp only [RF.at, Reg.STR_ROUTE_ACTIVE, Reg.STR_PSTAT_HOMED]; omega

theorem State.routeChild_homed (s : State) (p : Nat) : (s.routeChild p 1).fget (Reg.STR_PSTAT_HOMED.at p) = 1 := by
  rw [State.routeChild, State.fget_fset]
  · rfl
  · simp [RF.at, Reg.STR_PSTAT_HOMED]

theorem State.answerAttach_roomy {s : State} {n : Nat} (h : s.Roomy n) (p : Nat) (ok : Bool) (hn : n + 10 < ftMax) :
    (s.answerAttach p ok).Roomy (n + 10) :=
  (State.send_queued s p 0x07 7 0 false [BitVec.ofNat 64 (b2n ok)] (by decide)).roomy n h hn

@[simp] theorem State.steady_answerAttach (s : State) (p : Nat) (ok : Bool) : (s.answerAttach p ok).steady = s.steady := State.steady_send ..

theorem State.askHandover_roomy {s : State} {n : Nat} (h : s.Roomy n) (p : Nat) (hn : n + 10 < ftMax) : (s.askHandover p).Roomy (n + 10) := by
  simp only [State.askHandover]
  split
  · exact h.mono (by omega)
  · exact State.Roomy.routeHandover (s := { s with str := { s.str with handovers := Tab.set s.str.handovers p s.now } }) (h.of_eq rfl rfl)
      (primaryTray (s.childAddr p)) [BitVec.ofNat 64 (s.childAddr p).toNat] hn

theorem State.giveBack_roomy {s : State} {n : Nat} (h : s.Roomy n) (p : Nat) (hn : n + 15 < ftMax) : (s.giveBack p).Roomy (n + 15) := by
  simp only [State.giveBack]
  split
  · exact h.mono (by omega)
  · exact State.Roomy.routeHandover h _ _ hn

@[simp] theorem State.steady_giveBack (s : State) (p : Nat) : (s.giveBack p).steady = s.steady := by
  simp only [State.giveBack]; split <;> simp

/-- Asking for a handover is noted in Strand and leaves the steady registers, the build and the queue. -/
theorem State.askHandover_steady (s : State) (p : Nat) : ∃ x, (s.askHandover p).steady = ({ s with str := x } : State).steady := by
  simp only [State.askHandover]
  split
  · exact ⟨s.str, rfl⟩
  · exact ⟨_, State.steady_routeHandover ..⟩

theorem room_ok : 2 ^ 63 + 2 ^ 32 + 100 < ftMax := by decide

/-- What an alternate makes of an ATTACH that is no return (R38, R593). -/
def State.adoptChild (s : State) (p : Nat) : State :=
  ((((s.routeChild p 1).sendUp 0x09 7 0 false ((s.routeChild p 1).adoptWords p) []).askHandover p).answerAttach p true).takeover

theorem State.takeAttach_refused {s : State} {p : Nat} {w : W64}
    (h : s.routeValid p = false ∨ s.flag (Reg.STR_ROUTE_ALT.at p) = true ∧ bit w 48 = true) : s.takeAttach p w = s.answerAttach p false := by
  refine if_pos ?_
  rcases h with hv | ⟨ha, hb⟩
  · rw [hv]; rfl
  · rw [ha, hb]; simp

theorem State.takeAttach_primary {s : State} {p : Nat} {w : W64} (hv : s.routeValid p = true) (ha : s.flag (Reg.STR_ROUTE_ALT.at p) = false) :
    s.takeAttach p w = (s.routeChild p 1).answerAttach p true := by
  simp only [State.takeAttach, hv, ha, Bool.not_true, Bool.false_and, Bool.or_self, Bool.false_eq_true, if_false, State.routeChild]

theorem State.takeAttach_alternate {s : State} {p : Nat} {w : W64} (hv : s.routeValid p = true) (ha : s.flag (Reg.STR_ROUTE_ALT.at p) = true)
    (hb : bit w 48 = false) : s.takeAttach p w = s.adoptChild p := by
  simp only [State.takeAttach, hv, ha, hb, Bool.not_true, Bool.true_and, Bool.or_self, Bool.false_eq_true, if_false, if_true, State.adoptChild, State.routeChild]

section Attach
variable {s s1 : State} {p : Nat} {f : Frame} {m : Msg}

/-- ATTACH is refused where no route entry is valid, and at an alternate where the child says that it returns to its primary. -/
theorem attach_refused (h : Gets s p 6 f s1 m)
    (hr : s1.routeValid p = false ∨ s1.flag (Reg.STR_ROUTE_ALT.at p) = true ∧ bit (m.words.getD 0 0) 48 = true) :
    exec (.attach p f) s = .next ((s1.rxPass p m.seqs.length).answerAttach p false) := by
  obtain ⟨l, he, hroom⟩ := gets_pass h
  rw [exec_attach h, he, State.takeAttach_refused (s := s1.withLea l) hr]
  exact gets_act_steady h (State.answerAttach_roomy hroom p false (by have := room_ok; omega)) (State.steady_answerAttach ..) rfl rfl

/-- The primary parent takes its child, whose route becomes active, and says so. -/
theorem attach_primary (h : Gets s p 6 f s1 m) (hv : s1.routeValid p = true) (ha : s1.flag (Reg.STR_ROUTE_ALT.at p) = false) :
    exec (.attach p f) s = .next (((s1.rxPass p m.seqs.length).routeChild p 1).answerAttach p true) := by
  obtain ⟨l, he, hroom⟩ := gets_pass h
  rw [exec_attach h, he, State.takeAttach_primary (s := s1.withLea l) hv ha]
  exact gets_act_steady h (State.answerAttach_roomy (hroom.routeChild p 1) p true (by have := room_ok; omega)) (State.steady_answerAttach ..) (by simp) (by simp)

theorem State.adoptChild_roomy {s : State} {n : Nat} (h : s.Roomy n) (p : Nat) (hn : n + 35 < ftMax) : (s.adoptChild p).Roomy (n + 35) := by
  have hup := (h.routeChild p 1).sendUp 0x09 7 0 false ((s.routeChild p 1).adoptWords p) (by decide)
    (by simp only [State.adoptWords, List.length_cons, List.length_nil]; omega)
  simp only [State.adoptWords, List.length_cons, List.length_nil] at hup
  have hask := State.askHandover_roomy hup p (by omega)
  exact (State.answerAttach_roomy hask p true (by omega)).takeover.mono (by omega)

/-- The alternate's messages change none of its steady registers outside the tier register, nor the build and the queue. -/
theorem State.adoptChild_frame (s : State) (p : Nat) :
    (s.adoptChild p).build = s.build ∧ (s.adoptChild p).pending = s.pending ∧
    ∀ g : RF, steadyWord g.addr = true → (g.lo + g.w ≤ 32 ∨ steadyWord (g.addr + 4) = true) →
      g.addr ≠ 0xD000 ∧ g.addr ≠ 0xD004 ∧ g.addr + 4 ≠ 0xD000 → (s.adoptChild p).fget g = (s.routeChild p 1).fget g := by
  have hup := State.steady_sendUp (s.routeChild p 1) 0x09 7 0 false ((s.routeChild p 1).adoptWords p) []
  obtain ⟨x, hask⟩ := State.askHandover_steady ((s.routeChild p 1).sendUp 0x09 7 0 false ((s.routeChild p 1).adoptWords p) []) p
  have hans := (State.steady_answerAttach (((s.routeChild p 1).sendUp 0x09 7 0 false ((s.routeChild p 1).adoptWords p) []).askHandover p) p true).trans hask
  refine ⟨?_, ?_, fun g hg h4 ho => ?_⟩
  · rw [State.adoptChild, State.takeover_build, State.build_of_steady hans]
    exact (State.build_of_steady hup).trans (State.routeChild_build ..)
  · rw [State.adoptChild, State.takeover_pending, State.pending_of_steady hans]
    exact (State.pending_of_steady hup).trans (State.routeChild_pending ..)
  · rw [State.adoptChild, State.fget_takeover _ g ho, State.fget_of_steady hans g hg h4]
    exact State.fget_of_steady hup g hg h4

theorem attach_adopted (h : Gets s p 6 f s1 m) (hv : s1.routeValid p = true) (ha : s1.flag (Reg.STR_ROUTE_ALT.at p) = true)
    (hb : bit (m.words.getD 0 0) 48 = false) :
    ∃ t, exec (.attach p f) s = .next t ∧ t.flag (Reg.STR_ROUTE_ACTIVE.at p) = true ∧ t.flag (Reg.STR_PSTAT_HOMED.at p) = true := by
  obtain ⟨l, he, hroom⟩ := gets_pass h
  obtain ⟨-, hp⟩ := gets_port h
  obtain ⟨hbuild, hpend, hframe⟩ := State.adoptChild_frame (s1.withLea l) p
  refine ⟨(s1.withLea l).adoptChild p, ?_, ?_, ?_⟩
  · rw [exec_attach h, he, State.takeAttach_alternate (s := s1.withLea l) hv ha hb]
    exact gets_act h (State.adoptChild_roomy hroom p (by have := room_ok; omega)) hbuild hpend
  · have hsteady : ∀ q, q < 36 → steadyWord (Reg.STR_ROUTE_ACTIVE.at q).addr = true ∧ steadyWord ((Reg.STR_ROUTE_ACTIVE.at q).addr + 4) = true := by decide
    rw [State.flag, hframe _ (hsteady p hp).1 (Or.inr (hsteady p hp).2), State.routeChild_active _ hp]
    · rfl
    · simp only [RF.at, Reg.STR_ROUTE_ACTIVE]; omega
  · have hsteady : ∀ q, q < 36 → steadyWord (Reg.STR_PSTAT_HOMED.at q).addr = true := by decide
    rw [State.flag, hframe _ (hsteady p hp) (Or.inl (by simp [RF.at, Reg.STR_PSTAT_HOMED])), State.routeChild_homed]
    · rfl
    · simp only [RF.at, Reg.STR_PSTAT_HOMED]; omega

/-- An alternate that the child leaves makes the route inactive, releases the adoption and gives the die entry back. -/
theorem detach_released (h : Gets s p 8 f s1 m) (hr : s1.routeActive p = true) (ha : s1.flag (Reg.STR_ROUTE_ALT.at p) = true) :
    exec (.detach p f) s =
      .next ((((s1.rxPass p m.seqs.length).routeChild p 0).sendUp 0x0A 7 0 false (((s1.rxPass p m.seqs.length).routeChild p 0).adoptWords p) []).giveBack p) := by
  obtain ⟨l, he, hroom⟩ := gets_pass h
  have hup := (hroom.routeChild p 0).sendUp 0x0A 7 0 false (((s1.withLea l).routeChild p 0).adoptWords p) (by decide)
    (by have := room_ok; simp only [State.adoptWords, List.length_cons, List.length_nil]; omega)
  have hback := State.giveBack_roomy hup p (by have := room_ok; simp only [State.adoptWords, List.length_cons, List.length_nil]; omega)
  have hcond : (s1.withLea l).routeActive p = true ∧ (s1.withLea l).flag (Reg.STR_ROUTE_ALT.at p) = true := ⟨hr, ha⟩
  rw [exec_detach h, he]
  simp only [hcond, and_self, if_true]
  exact gets_act_steady h hback ((State.steady_giveBack ..).trans (State.steady_sendUp ..)) (State.routeChild_build ..) (State.routeChild_pending ..)

end Attach

/-! ### The Whorl's part in a change of parent -/

/-- What the Whorl's own operations leave alone: the steady part, what is owed, the ledger points and Strand. -/
def State.beyondWhl (s : State) : (Tab W32 × Build × List Instr × Tab (W32 × W32) × Strand) × List Work × Lea × Strand := (s.steady, s.work, s.lea, s.str)

theorem State.beyondWhl_fset (s : State) (f : RF) (v : Nat) (h : steadyWord f.addr = false)
    (h4 : f.lo + f.w ≤ 32 ∨ steadyWord (f.addr + 4) = false) : (s.fset f v).beyondWhl = s.beyondWhl := by
  simp [State.beyondWhl, State.fset_steady _ _ _ h h4]

@[simp] theorem State.beyondWhl_setWhl (s : State) (f : Whorl → Whorl) : (setWhl s f).beyondWhl = s.beyondWhl := rfl

@[simp] theorem State.beyondWhl_freeDiv (s : State) (a : Int) (b : Nat) : (s.freeDiv a b).2.beyondWhl = s.beyondWhl := by
  unfold State.freeDiv; split <;> rfl

@[simp] theorem State.beyondWhl_rateOf (s : State) (n : Int) (d : Nat) : (s.rateOf n d).2.beyondWhl = s.beyondWhl := State.beyondWhl_freeDiv ..

@[simp] theorem State.beyondWhl_applyRate (s : State) : s.applyRate.beyondWhl = s.beyondWhl := by
  simp only [State.applyRate]
  split
  · exact State.beyondWhl_fset _ _ _ (by decide) (by decide)
  · rw [State.beyondWhl_fset _ _ _ (by decide) (by decide), State.beyondWhl_freeDiv]

@[simp] theorem State.beyondWhl_lastRate (s : State) : s.lastRate.beyondWhl = s.beyondWhl := by
  have hcorr : (s.corrRate s.whl.integ).2.beyondWhl = s.beyondWhl := by
    simp only [State.corrRate]; split <;> simp
  rw [State.lastRate, setBase, State.beyondWhl_applyRate, State.beyondWhl_setWhl, hcorr]

@[simp] theorem State.beyondWhl_startSlew (s : State) (d : Int) : (s.startSlew d).beyondWhl = s.beyondWhl := by
  rw [State.startSlew, State.beyondWhl_applyRate, State.beyondWhl_setWhl]

@[simp] theorem State.beyondWhl_acquire (s : State) : s.acquire.beyondWhl = s.beyondWhl := by
  rw [State.acquire, State.beyondWhl_setWhl]
  exact State.beyondWhl_fset s Reg.WHL_STATUS_STATE wACQUIRE (by decide) (by decide)

@[simp] theorem State.beyondWhl_endSlew (s : State) : s.endSlew.beyondWhl = s.beyondWhl := rfl

/-! ### Frames that a child sends its new parent -/

theorem Queued.of_beyondWhl {s t : State} (p : Nat) (h : t.beyondWhl = s.beyondWhl) : Queued p 0 s t := by
  simp only [State.beyondWhl, Prod.mk.injEq] at h
  obtain ⟨hs, hw, hl, hstr⟩ := h
  have hp (q : Nat) : t.port q = s.port q := State.port_congr (by rw [hstr]) q
  exact ⟨hs, fun m hm _ => hm.of_eq hw hl, fun q _ => hp q, by rw [hp], by rw [hp]⟩

theorem Queued.trans {s t u : State} {p a b : Nat} (h : Queued p a s t) (g : Queued p b t u) : Queued p (a + b) s u :=
  ⟨g.steady.trans h.steady, fun m hm hn => (g.roomy _ (h.roomy m hm (by omega)) (by omega)).mono (by omega),
    fun q hq => (g.other q hq).trans (h.other q hq), g.rtx.trans h.rtx, g.held.trans h.held⟩

theorem Queued.mono {s t : State} {p a b : Nat} (h : Queued p a s t) (hab : a ≤ b) : Queued p b s t :=
  ⟨h.steady, fun m hm hn => (h.roomy m hm (by omega)).mono (by omega), h.other, h.rtx, h.held⟩

theorem bytesWordsF_length (n : Nat) (bs : List Byte) : (bytesWordsF n bs).length ≤ n := by
  induction n generalizing bs with
  | zero => simp [bytesWordsF]
  | succ n ih =>
    cases bs with
    | nil => simp [bytesWordsF]
    | cons b bs => simpa [bytesWordsF] using ih _

theorem pdelayReqMsg_length (i q : Nat) : (pdelayReqMsg i q).length ≤ 62 := by
  refine (bytesWordsF_length _ _).trans ?_
  simp [padTo, ptpHeader, beBytes, toBytes]

theorem State.sendPtp_queued (s : State) (p : Nat) (w : List W64) (t2 : Int) : Queued p (5 * (w.length + 1)) s (s.sendPtp p w t2) := by
  have hl := mkFrames_length 0x04 7 s.str.msgs 0 false w [] 0
  have h := Queued.sendFrames { s with str := { s.str with msgs := s.str.msgs + 1 } } p 7
    (fs := (mkFrames 0x04 7 s.str.msgs 0 false w []).map fun f => { f with t2 }) (by decide)
    (fun f hf => by
      obtain ⟨g, hg, rfl⟩ := List.mem_map.1 hf
      exact mkFrames_bare 0x04 7 s.str.msgs 0 false w g hg)
    (fun f hf => by
      obtain ⟨g, hg, rfl⟩ := List.mem_map.1 hf
      exact mkFrames_cells 0x04 7 s.str.msgs 0 false w [] 0 g hg)
  rw [List.length_map] at h
  exact Queued.mono ⟨h.steady, fun m hm hn => h.roomy m hm hn, h.other, h.rtx, h.held⟩ (Nat.mul_le_mul_left 5 hl)

theorem State.askDelay_queued (s : State) (p : Nat) : Queued p 315 s (s.askDelay p) := by
  have h0 : Queued p 0 s (setWhl s.ident.2 fun w => { w with pdSeq := (w.pdSeq + 1) % 65536 }) := Queued.of_beyondWhl p rfl
  simp only [State.askDelay]
  split
  · exact (h0.trans (State.sendPtp_queued _ p (pdelayReqMsg s.ident.1 s.whl.pdSeq) 0)).mono (by have := pdelayReqMsg_length s.ident.1 s.whl.pdSeq; omega)
  · exact (Queued.of_beyondWhl p rfl).mono (by omega)

theorem State.heartbeat_queued (s : State) (p : Nat) : Queued p 15 s (s.heartbeat p) := by
  have h0 : Queued p 0 s { s with fresh := s.fresh + 1 } := Queued.of_beyondWhl p rfl
  simp only [State.heartbeat]
  split
  · exact h0.trans (State.send_queued _ p 0x01 7 0 false [s.heartWord p, 0] (by decide))
  · exact (Queued.of_beyondWhl p rfl).mono (by omega)

theorem State.timeSwitch_queued (s : State) (p : Nat) : Queued p 315 s (s.timeSwitch p) := by
  unfold State.timeSwitch
  extract_lets k s0 s1 s2
  have h0 : Queued p 315 s s0 := by
    show Queued p 315 s (ite _ _ _)
    split
    · exact State.askDelay_queued s p
    · exact (Queued.of_beyondWhl p rfl).mono (by omega)
  have h1 : s1.beyondWhl = s0.beyondWhl := State.beyondWhl_fset _ _ _ (by decide) (by decide)
  have h2 : s2.beyondWhl = s0.beyondWhl := by
    show (ite _ _ _ : State).beyondWhl = _
    split
    · exact h1
    · rw [State.beyondWhl_lastRate, State.beyondWhl_endSlew, h1]
  have hend (t : State) (ht : t.beyondWhl = s2.beyondWhl) : Queued p 315 s t := h0.trans (Queued.of_beyondWhl p (ht.trans h2))
  split
  · exact hend _ (by simp)
  · split
    · exact hend _ rfl
    · split
      · exact hend _ (by simp)
      · exact hend _ (by simp)

/-! ### Replay from ports that hold nothing -/

/-- Port `q` holds no frame for replay and, where it is not the new parent's port `p`, queues none (R594). -/
def HoldsNone (p q : Nat) (x : Port) : Prop :=
  x.rtx = [] ∧ x.held = [] ∧ (q ≠ p → x.stalled = [] ∧ ∀ c, c < 8 → x.egress.getD c [] = [])

/-- Every port of `C` holds none. -/
def State.Emptied (s : State) (p : Nat) (C : List Nat) : Prop := ∀ q ∈ C, HoldsNone p q (s.port q)

theorem State.Emptied.setPort {s : State} {p q : Nat} {C : List Nat} {x : Port} (h : s.Emptied p C) (hx : HoldsNone p q x) :
    (s.setPort q x).Emptied p C := by
  intro r hr
  rw [State.port_setPort]
  split
  · rename_i hrq
    rw [hrq]; exact hx
  · exact h r hr

theorem State.Emptied.of_ports {s t : State} {p : Nat} {C : List Nat} (h : s.Emptied p C) (ht : ∀ q, t.port q = s.port q) : t.Emptied p C :=
  fun q hq => by rw [ht]; exact h q hq

/-- `t` is `s` as far as a replay of nothing goes: the steady part, what is owed, the ledger points, and the emptied ports. -/
structure Unreplayed (p : Nat) (C : List Nat) (s t : State) : Prop where
  steady : t.steady = s.steady
  work : t.work = s.work
  lea : t.lea = s.lea
  emptied : t.Emptied p C

theorem Unreplayed.trans {p : Nat} {C : List Nat} {s t u : State} (h : Unreplayed p C s t) (g : Unreplayed p C t u) : Unreplayed p C s u :=
  ⟨g.steady.trans h.steady, g.work.trans h.work, g.lea.trans h.lea, g.emptied⟩

theorem Unreplayed.modPort {p : Nat} {C : List Nat} {s : State} (h : s.Emptied p C) (q : Nat) (f : Port → Port) (hf : HoldsNone p q (f (s.port q))) :
    Unreplayed p C s (s.modPort q f) := ⟨rfl, rfl, rfl, h.setPort hf⟩

theorem Unreplayed.rtxShow {p q : Nat} {C : List Nat} {s : State} (h : s.Emptied p C) (hq : q < 36) : Unreplayed p C s (s.rtxShow q) := by
  have hw : ∀ r, r < 36 → steadyWord (Reg.STR_PRTX_FRAMES.at r).addr = false := by decide
  refine ⟨?_, by simp [State.rtxShow], by simp [State.rtxShow], h.of_ports fun r => by simp [State.rtxShow]⟩
  rw [State.rtxShow, State.fset_steady _ (Reg.STR_PRTX_KIB.at q) _ (hw q hq) (Or.inl (by simp [RF.at, Reg.STR_PRTX_KIB])),
    State.fset_steady _ _ _ (hw q hq) (Or.inl (by simp [RF.at, Reg.STR_PRTX_FRAMES]))]

/-- The port's frames for replay, taken away. -/
def dropHeld (x : Port) : Port := { x with held := [], rtx := [], resend := [] }

theorem State.takeHeld_nothing {s : State} {q : Nat} (hr : (s.port q).rtx = []) (hh : (s.port q).held = []) :
    s.takeHeld q = ((s.modPort q dropHeld).rtxShow q, []) := by
  simp only [State.takeHeld, hr, hh, List.append_nil, List.filter_nil, List.isEmpty_nil, if_true]
  rw [State.endFrames_bare _ fun f hf => absurd hf List.not_mem_nil]
  rfl

theorem State.replayFrom_nothing {s : State} {p q : Nat} {C : List Nat} (h : s.Emptied p C) (hC : ∀ r ∈ C, r < 36) (hp : p ∈ C) (hq : q ∈ C) :
    Unreplayed p C s (s.replayFrom p q) := by
  obtain ⟨hrtx, hheld, hrest⟩ := h q hq
  have htake := Unreplayed.modPort h q dropHeld ⟨rfl, rfl, hrest⟩
  have hshow := htake.trans (Unreplayed.rtxShow htake.emptied (hC q hq))
  obtain ⟨hprtx, hpheld, hprest⟩ := hshow.emptied p hp
  have hnone : byClass ((((s.modPort q dropHeld).rtxShow q).port p).held ++ []) = [] := by rw [hpheld]; rfl
  have hpass := hshow.trans (Unreplayed.modPort hshow.emptied p (fun x => { x with held := byClass (x.held ++ []) }) ⟨hprtx, hnone, hprest⟩)
  simp only [State.replayFrom, State.takeHeld_nothing hrtx hheld, List.length_nil, or_true, if_true, List.map_nil]
  exact hpass.trans (Unreplayed.rtxShow hpass.emptied (hC p hp))

theorem foldl_unchanged {α β : Type} (f : α → β → α) (a : α) (l : List β) (h : ∀ b ∈ l, f a b = a) : l.foldl f a = a := by
  induction l with
  | nil => rfl
  | cons b l ih => rw [List.foldl_cons, h b (List.mem_cons_self ..), ih fun c hc => h c (List.mem_cons_of_mem _ hc)]

theorem State.moveQueued_nothing {s : State} {p q : Nat} {C : List Nat} (h : s.Emptied p C) (hp : p ∈ C) (hq : q ∈ C) :
    Unreplayed p C s (s.moveQueued p q) := by
  by_cases hpq : p = q
  · rw [State.moveQueued, if_pos hpq]; exact ⟨rfl, rfl, rfl, h⟩
  · obtain ⟨hrtx, hheld, hempty⟩ := h q hq
    obtain ⟨hstalled, hegress⟩ := hempty (Ne.symm hpq)
    have hq' := Unreplayed.modPort h q (fun x => { x with stalled := [] }) ⟨hrtx, hheld, fun _ => ⟨rfl, hegress⟩⟩
    obtain ⟨hprtx, hpheld, hprest⟩ := hq'.emptied p hp
    simp only [State.moveQueued, if_neg hpq]
    rw [foldl_unchanged _ s, hstalled]
    · exact hq'.trans (Unreplayed.modPort hq'.emptied p (fun x => { x with stalled := x.stalled ++ [] }) ⟨hprtx, hpheld, fun hne => absurd rfl hne⟩)
    · intro c hc
      simp only [hegress c (List.mem_range.1 hc), List.filter_nil, List.isEmpty_nil, if_true]

/-! ### ATTACHED at a child -/

theorem State.fget_lt (s : State) (f : RF) : s.fget f < 2 ^ f.w := Nat.mod_lt _ (Nat.two_pow_pos _)

theorem State.childUps_lt (s : State) {q : Nat} (hq : q ∈ s.childUps) : q < 36 := by
  have h1 : s.fget Reg.STR_HOMING_PRIMARY_UP < 4 := s.fget_lt Reg.STR_HOMING_PRIMARY_UP
  have h2 : s.fget Reg.STR_HOMING_ALT_UP < 4 := s.fget_lt Reg.STR_HOMING_ALT_UP
  rcases List.mem_cons.1 hq with rfl | hq
  · unfold State.primaryUp; split <;> omega
  · have ha : s.altUp = some q := Option.mem_toList.1 hq
    unfold State.altUp at ha
    split at ha
    · cases ha
    · split at ha <;> cases ha <;> omega

/-- Taking a port as the current parent's writes registers alone, and shows in CUR_PARENT which port it is (R64). -/
theorem State.homeTo_eq (s : State) (p : Nat) :
    ∃ r : Tab W32, s.homeTo p = ({ s with regs := r } : State).fset Reg.STR_HOMING_CUR_PARENT (b2n (p != s.primaryUp)) := by
  have hfold : ∃ r : Tab W32, s.childUps.foldl (fun s q => s.fset (Reg.STR_PSTAT_HOMED.at q) (b2n (q == p))) s = { s with regs := r } := by
    refine List.foldlRecOn (motive := fun t : State => ∃ r : Tab W32, t = { s with regs := r }) _ _ ⟨s.regs, rfl⟩ ?_
    rintro t ⟨r, rfl⟩ q -
    refine ⟨_, State.fset_narrow _ _ _ ?_⟩
    simp [RF.at, Reg.STR_PSTAT_HOMED]
  obtain ⟨r, hr⟩ := hfold
  exact ⟨r, by simp only [State.homeTo, hr]⟩

/-- The child's own note of its new parent, before any frame leaves: its homing is settled, and a failover is counted (R593, R597). -/
def State.parentNoted (s : State) (p : Nat) (returnFt : Option Nat) (failed : Bool) : State :=
  let s1 := (s.homeTo p).setStr fun x => { x with homing := .settled, lostPort := none, noParentFt := none, returnFt }
  if failed then s1.bump Reg.STR_HOMING_FAILOVERS else s1

/-- `t` has a settled parent, whose port CUR_PARENT shows: what a child notes when it is attached (R593). -/
structure Settled (cur : Nat) (t : State) : Prop where
  cur : t.fget Reg.STR_HOMING_CUR_PARENT = cur
  homing : t.str.homing = .settled
  lostPort : t.str.lostPort = none
  noParentFt : t.str.noParentFt = none

theorem Settled.of_steady {s t : State} {c : Nat} (h : Settled c s) (hs : t.steady = s.steady) : Settled c t :=
  ⟨(State.fget_of_steady hs _ (by decide) (by decide)).trans h.cur, (State.homing_of_steady hs).trans h.homing,
    (State.lostPort_of_steady hs).trans h.lostPort, (State.noParentFt_of_steady hs).trans h.noParentFt⟩

theorem State.fget_bump_FAILOVERS (s : State) :
    (s.bump Reg.STR_HOMING_FAILOVERS).fget Reg.STR_HOMING_CUR_PARENT = s.fget Reg.STR_HOMING_CUR_PARENT := by
  rw [State.bump, State.fadd]
  exact State.fget_fset_beside s Reg.STR_HOMING_FAILOVERS Reg.STR_HOMING_CUR_PARENT _ rfl (by decide) (by decide) (by decide)

theorem Settled.bump_FAILOVERS {s : State} {c : Nat} (h : Settled c s) : Settled c (s.bump Reg.STR_HOMING_FAILOVERS) := by
  have hstr : (s.bump Reg.STR_HOMING_FAILOVERS).str = s.str := State.bump_str ..
  exact ⟨(State.fget_bump_FAILOVERS s).trans h.cur, by rw [hstr, h.homing], by rw [hstr, h.lostPort], by rw [hstr, h.noParentFt]⟩

theorem State.parentNoted_settled (s : State) (p : Nat) (r : Option Nat) (failed : Bool) :
    Settled (b2n (p != s.primaryUp)) (s.parentNoted p r failed) := by
  obtain ⟨regs, hr⟩ := State.homeTo_eq s p
  have hcur : (s.homeTo p).fget Reg.STR_HOMING_CUR_PARENT = b2n (p != s.primaryUp) := by
    rw [hr, State.fget_fset _ _ _ (by decide)]
    cases p != s.primaryUp <;> rfl
  have hnoted : Settled (b2n (p != s.primaryUp)) (s.parentNoted p r false) := ⟨hcur, rfl, rfl, rfl⟩
  cases failed with
  | false => exact hnoted
  | true => exact hnoted.bump_FAILOVERS

theorem State.parentNoted_frame (s : State) (p : Nat) (r : Option Nat) (failed : Bool) :
    (s.parentNoted p r failed).work = s.work ∧ (s.parentNoted p r failed).lea = s.lea ∧ (s.parentNoted p r failed).build = s.build ∧
    (s.parentNoted p r failed).pending = s.pending ∧ ∀ q, (s.parentNoted p r failed).port q = s.port q := by
  obtain ⟨regs, hr⟩ := State.homeTo_eq s p
  have hports : (s.parentNoted p r failed).str.ports = s.str.ports := by cases failed <;> simp [State.parentNoted, hr, State.setStr]
  refine ⟨?_, ?_, ?_, ?_, State.port_congr hports⟩
  all_goals cases failed <;> simp [State.parentNoted, hr, State.setStr]

theorem State.attachedTo_eq (s : State) (p : Nat) :
    ∃ (waits : Bool) (r : Option Nat) (failed : Bool), s.attachedTo p =
      s.childUps.foldl (fun s q => if waits && q != p then s.moveQueued p q else (s.replayFrom p q).moveQueued p q)
        (((s.parentNoted p r failed).timeSwitch p).heartbeat p) := ⟨_, _, _, rfl⟩

/-- A child that holds no frames for replay owes nothing after it is attached, and has a settled parent. -/
theorem State.attachedTo_settled {s : State} {p n : Nat} (hroom : s.Roomy n) (hn : n + 330 < ftMax) (hp : p ∈ s.childUps) (hempty : s.Emptied p s.childUps) :
    Settled (b2n (p != s.primaryUp)) (s.attachedTo p) ∧ (s.attachedTo p).Roomy (n + 330) ∧
    (s.attachedTo p).build = s.build ∧ (s.attachedTo p).pending = s.pending := by
  obtain ⟨waits, r, failed, he⟩ := State.attachedTo_eq s p
  obtain ⟨hwork, hlea, hbuild, hpend, hports⟩ := State.parentNoted_frame s p r failed
  have hsent := (State.timeSwitch_queued (s.parentNoted p r failed) p).trans (State.heartbeat_queued _ p)
  have hstart : State.Emptied (((s.parentNoted p r failed).timeSwitch p).heartbeat p) p s.childUps := by
    intro q hq
    obtain ⟨hrtx, hheld, hrest⟩ := hempty q hq
    by_cases hqp : q = p
    · subst hqp
      exact ⟨hsent.rtx.trans (by rw [hports, hrtx]), hsent.held.trans (by rw [hports, hheld]), fun hne => absurd rfl hne⟩
    · rw [hsent.other q hqp, hports]; exact hempty q hq
  have hfold : Unreplayed p s.childUps (((s.parentNoted p r failed).timeSwitch p).heartbeat p) (s.attachedTo p) := by
    rw [he]
    refine List.foldlRecOn (motive := Unreplayed p s.childUps (((s.parentNoted p r failed).timeSwitch p).heartbeat p)) _ _ ⟨rfl, rfl, rfl, hstart⟩ ?_
    intro t ht q hq
    split
    · exact ht.trans (State.moveQueued_nothing ht.emptied hp hq)
    · have hreplay := ht.trans (State.replayFrom_nothing ht.emptied (fun _ hr => s.childUps_lt hr) hp hq)
      exact hreplay.trans (State.moveQueued_nothing hreplay.emptied hp hq)
  have hsteady := hfold.steady.trans hsent.steady
  refine ⟨(State.parentNoted_settled s p r failed).of_steady hsteady, ?_,
    (State.build_of_steady hsteady).trans hbuild, (State.pending_of_steady hsteady).trans hpend⟩
  exact (hsent.roomy n (hroom.of_eq hwork hlea) hn).of_eq hfold.work hfold.lea

section Attached
variable {s s1 : State} {p : Nat} {f : Frame} {m : Msg}

theorem exec_attached (h : Gets s p 7 f s1 m) : exec (.attached p f) s = act s ((s1.rxPass p m.seqs.length).takeAttached m) := by
  show execAttached p f s = _
  rw [execAttached, h.1]

theorem State.takeAttached_attaching {s : State} {m : Msg} {t0 : Nat} (h : s.str.homing = .attaching m.port t0) :
    s.takeAttached m = if bit (m.words.getD 0 0) 0 then s.attachedTo m.port else s.noParent := by
  simp only [State.takeAttached, h, if_true]

theorem State.noParent_work (s : State) : s.noParent.work = s.work := State.fset_work ..
theorem State.noParent_build (s : State) : s.noParent.build = s.build := State.build_of_side (State.side_noParent s)
theorem State.noParent_pending (s : State) : s.noParent.pending = s.pending := State.pending_of_side (State.side_noParent s)
theorem State.noParent_lea (s : State) : s.noParent.lea = s.lea := State.fset_lea ..

theorem attached_refused (h : Gets s p 7 f s1 m) {t0 : Nat} (hh : s1.str.homing = .attaching p t0) (hb : bit (m.words.getD 0 0) 0 = false) :
    exec (.attached p f) s = .next (s1.rxPass p m.seqs.length).noParent := by
  obtain ⟨l, he, hroom⟩ := gets_pass h
  obtain ⟨hm, -⟩ := gets_port h
  have htake := State.takeAttached_attaching (s := s1.withLea l) (m := m) (t0 := t0) (by rw [hm]; exact hh)
  rw [exec_attached h, he, htake, hb, if_neg Bool.false_ne_true]
  exact gets_act h (hroom.of_eq (State.noParent_work _) (State.noParent_lea _)) (State.noParent_build _) (State.noParent_pending _)

theorem attached_accepted (h : Gets s p 7 f s1 m) {t0 : Nat} (hh : s1.str.homing = .attaching p t0) (hb : bit (m.words.getD 0 0) 0 = true)
    (hp : p ∈ s1.childUps) (hempty : s1.Emptied p s1.childUps) :
    ∃ t, exec (.attached p f) s = .next t ∧ Settled (b2n (p != s1.primaryUp)) t := by
  obtain ⟨l, he, hroom⟩ := gets_pass h
  obtain ⟨hm, -⟩ := gets_port h
  have htake := State.takeAttached_attaching (s := s1.withLea l) (m := m) (t0 := t0) (by rw [hm]; exact hh)
  obtain ⟨hset, hr, hbuild, hpend⟩ := State.attachedTo_settled hroom (by decide) hp hempty
  refine ⟨(s1.withLea l).attachedTo p, ?_, hset⟩
  rw [exec_attached h, he, htake, hb, hm]
  exact gets_act h hr hbuild hpend

end Attached

/-! ### Adoption entries at the Hubs above -/

theorem State.passAdopt_roomy {s : State} {n : Nat} (h : s.Roomy n) (m : Msg) (hn : n + 5 * (m.words.length + 1) < ftMax) :
    (s.passAdopt m).Roomy (n + 5 * (m.words.length + 1)) := by
  simp only [State.passAdopt]
  split
  · exact h.mono (by omega)
  · exact h.sendUp m.typ 7 0 false m.words (by decide) hn

@[simp] theorem State.steady_passAdopt (s : State) (m : Msg) : (s.passAdopt m).steady = s.steady := by
  simp only [State.passAdopt]; split <;> simp

theorem State.mirrorEntry_roomy {s : State} {n : Nat} (h : s.Roomy n) (k : Nat) (w : W64) (hn : n + 15 < ftMax) : (s.mirrorEntry k w).Roomy (n + 15) := by
  simp only [State.mirrorEntry]
  split
  · exact (State.send_queued s 32 0x24 7 0 false [BitVec.ofNat 64 k, w] (by decide)).roomy n h hn
  · exact h.mono (by omega)

@[simp] theorem State.steady_mirrorEntry (s : State) (k : Nat) (w : W64) : (s.mirrorEntry k w).steady = s.steady := by
  simp only [State.mirrorEntry]; split <;> simp

/-- A table of adoption entries, shown to the other root or not, and passed on. -/
def State.shareAdopt (s : State) (l : List Adopt) (mirrored : Bool) (kind : Nat) (w : W64) (m : Msg) : State :=
  (if mirrored then (setAdopt s l).mirrorEntry kind w else setAdopt s l).passAdopt m

theorem State.steady_shareAdopt (s : State) (l : List Adopt) (b : Bool) (k : Nat) (w : W64) (m : Msg) :
    (s.shareAdopt l b k w m).steady = (setAdopt s l).steady := by
  rw [State.shareAdopt, State.steady_passAdopt]; split <;> simp

theorem State.shareAdopt_roomy {s : State} {n : Nat} (h : s.Roomy n) (l : List Adopt) (b : Bool) (k : Nat) (w : W64) (m : Msg)
    (hn : n + 15 + 5 * (m.words.length + 1) < ftMax) : (s.shareAdopt l b k w m).Roomy (n + 15 + 5 * (m.words.length + 1)) := by
  have hset : (setAdopt s l).Roomy n := h.of_eq rfl rfl
  refine State.passAdopt_roomy ?_ m hn
  split
  · exact State.mirrorEntry_roomy hset k w (by omega)
  · exact hset.mono (by omega)

theorem exec_adopt {s s1 : State} {p : Nat} {f : Frame} {m : Msg} (h : Gets s p 9 f s1 m) :
    exec (.adopt p f) s = act s (let w := m.words.getD 0 0
      let r := (s1.rxPass p m.seqs.length).installAdopt p (adoptPrefix w) (bits w 50 48)
      (if r.2 && p != 32 then r.1.mirrorEntry 1 w else r.1).passAdopt m) := by
  show execAdopt p f s = _
  rw [execAdopt, h.1]

theorem exec_release {s s1 : State} {p : Nat} {f : Frame} {m : Msg} (h : Gets s p 0xA f s1 m) :
    exec (.release p f) s = act s (let w := m.words.getD 0 0
      let s2 := s1.rxPass p m.seqs.length
      let s3 := setAdopt s2 (s2.str.adopt.filter fun a => !sameEntry a (adoptPrefix w) (bits w 50 48))
      (if p = 32 then s3 else s3.mirrorEntry 2 w).passAdopt m) := by
  show execRelease p f s = _
  rw [execRelease, h.1]

section Adopted
variable {s s1 : State} {p typ : Nat} {f : Frame} {m : Msg}

/-- A block that shares a table of adoption entries after a message owes nothing, and keeps that table. -/
theorem gets_shareAdopt (h : Gets s p typ f s1 m) {l : Lea} (hroom : (s1.withLea l).Roomy (2 ^ 63 + 2 ^ 32)) (as : List Adopt) (b : Bool) (k : Nat) (w : W64) :
    act s ((s1.withLea l).shareAdopt as b k w m) = .next ((s1.withLea l).shareAdopt as b k w m) ∧
    ((s1.withLea l).shareAdopt as b k w m).str.adopt = as := by
  obtain ⟨-, -, -, -, hwords⟩ := id h
  have hlim : 2 ^ 63 + 2 ^ 32 + 15 + 5 * (2 ^ 32 + 1) < ftMax := by decide
  have hsteady := State.steady_shareAdopt (s1.withLea l) as b k w m
  exact ⟨gets_act_steady h (State.shareAdopt_roomy hroom as b k w m (by omega)) hsteady rfl rfl, (State.adopt_of_steady hsteady).trans rfl⟩

/-- Where the table has room, ADOPT replaces what it names and keeps every other entry (R38, R41). -/
theorem adopt_installed (h : Gets s p 9 f s1 m) (hlen : s1.str.adopt.length < 1024) :
    ∃ t, exec (.adopt p f) s = .next t ∧ t.str.adopt =
      (s1.str.adopt.filter fun a => !sameEntry a (adoptPrefix (m.words.getD 0 0)) (bits (m.words.getD 0 0) 50 48)) ++
        [{ prefix_ := adoptPrefix (m.words.getD 0 0), depth := bits (m.words.getD 0 0) 50 48, port := p }] := by
  obtain ⟨l, he, hroom⟩ := gets_pass h
  have hothers := Nat.lt_of_le_of_lt (List.length_filter_le
    (fun a => !sameEntry a (adoptPrefix (m.words.getD 0 0)) (bits (m.words.getD 0 0) 50 48)) s1.str.adopt) hlen
  have hinstall : (s1.withLea l).installAdopt p (adoptPrefix (m.words.getD 0 0)) (bits (m.words.getD 0 0) 50 48) = _ := if_pos hothers
  obtain ⟨hact, htable⟩ := gets_shareAdopt h hroom _ (p != 32) 1 (m.words.getD 0 0)
  refine ⟨_, ?_, htable⟩
  rw [exec_adopt h, he]
  simp only [hinstall, Bool.true_and]
  exact hact

/-- RELEASE removes the entry that it names, and keeps every other (R40). -/
theorem release_removed (h : Gets s p 0xA f s1 m) :
    ∃ t, exec (.release p f) s = .next t ∧
      t.str.adopt = s1.str.adopt.filter fun a => !sameEntry a (adoptPrefix (m.words.getD 0 0)) (bits (m.words.getD 0 0) 50 48) := by
  obtain ⟨l, he, hroom⟩ := gets_pass h
  obtain ⟨hact, htable⟩ := gets_shareAdopt h hroom
    (s1.str.adopt.filter fun a => !sameEntry a (adoptPrefix (m.words.getD 0 0)) (bits (m.words.getD 0 0) 50 48)) (p != 32) 2 (m.words.getD 0 0)
  refine ⟨_, ?_, htable⟩
  rw [exec_release h, he, ← hact]
  by_cases hp : p = 32
  · subst hp; rfl
  · rw [State.shareAdopt, if_pos (show (p != 32) = true by simpa using hp)]
    simp only [if_neg hp]
    rfl

/-! ### FENCE, HANDOVER and MIRROR -/

theorem exec_fence (h : Gets s p 0xB f s1 m) : exec (.fence p f) s = act s ((s1.rxPass p m.seqs.length).takeFenceMsg p) := by
  show execFence p f s = _
  rw [execFence, h.1]

/-- What FENCE from the parent in use makes of a child (R55, R598). -/
def State.fencedBy (s : State) (p : Nat) : State :=
  s.noParent.setStr fun x => { x with childFenced := some p, homing := .settled, lostPort := some (s.str.lostPort.getD p) }

theorem State.takeFenceMsg_parent {s : State} {p : Nat} (h : s.curUp = some p) : s.takeFenceMsg p = s.fencedBy p := by
  simp only [State.takeFenceMsg, h, beq_self_eq_true, Bool.true_or, if_true]
  rfl

theorem fence_leaves_no_parent (h : Gets s p 0xB f s1 m) (hc : s1.curUp = some p) :
    ∃ t, exec (.fence p f) s = .next t ∧ t.fget Reg.STR_HOMING_CUR_PARENT = 2 ∧ t.str.childFenced = some p ∧ t.str.homing = .settled := by
  obtain ⟨l, he, hroom⟩ := gets_pass h
  refine ⟨(s1.withLea l).fencedBy p, ?_, ?_, rfl, rfl⟩
  · rw [exec_fence h, he, State.takeFenceMsg_parent (s := s1.withLea l) hc]
    exact gets_act h (hroom.of_eq (State.noParent_work _) (State.noParent_lea _)) (State.noParent_build _) (State.noParent_pending _)
  · exact State.fget_fset (s1.withLea l) Reg.STR_HOMING_CUR_PARENT 2 (by decide)

theorem exec_handover (h : Gets s p 0xF f s1 m) (hf : s1.forward m = none) :
    exec (.handover p f) s = act s ((s1.rxPass p m.seqs.length).takeHandover m.words) := by
  show execHandover p f s = _
  rw [execHandover, h.1]
  simp only [hf]

theorem handover_returned (h : Gets s p 0xF f s1 m) (hf : s1.forward m = none) (ht : s1.tier = 1) {q : Nat}
    (hq : s1.portOfPlace (hPlace (BitVec.ofNat 48 (bits (m.words.getD 0 0) 47 0))) = some q) (hk : bits (m.words.getD 0 0) 50 48 = 2) :
    exec (.handover p f) s = .next ((s1.rxPass p m.seqs.length).setDie q (takenDie (s1.die q) (m.words.getD 1 0))) := by
  obtain ⟨l, he, hroom⟩ := gets_pass h
  have htake : (s1.withLea l).takeHandover m.words = (s1.withLea l).setDie q (takenDie (s1.die q) (m.words.getD 1 0)) := by
    have hq' : (s1.withLea l).portOfPlace (hPlace (BitVec.ofNat 48 (bits (m.words.getD 0 0) 47 0))) = some q := hq
    have ht' : (s1.withLea l).tier = 1 := ht
    simp only [State.takeHandover, hq', ht', ne_eq, not_true_eq_false, if_false, hk]
    rfl
  rw [exec_handover h hf, he, htake]
  exact gets_act h (hroom.of_eq rfl rfl) rfl rfl

theorem exec_mirror_words (h : Gets s p 0x24 f s1 m) (h1 : (m.words.getD 0 0).toNat ≠ 1) (h2 : (m.words.getD 0 0).toNat ≠ 2) :
    exec (.mirror p f) s = act s ((s1.rxPass p m.seqs.length).setStr fun x => { x with mirror := m.words }) := by
  show execMirror p f s = _
  simp only [execMirror, h.1]

theorem mirror_kept (h : Gets s p 0x24 f s1 m) (h1 : (m.words.getD 0 0).toNat ≠ 1) (h2 : (m.words.getD 0 0).toNat ≠ 2) :
    exec (.mirror p f) s = .next ((s1.rxPass p m.seqs.length).setStr fun x => { x with mirror := m.words }) := by
  obtain ⟨l, he, hroom⟩ := gets_pass h
  rw [exec_mirror_words h h1 h2, he]
  exact gets_act h (hroom.of_eq rfl rfl) rfl rfl

end Adopted

/-- Settles O32, message by message: each is taken with room left in the ledger points, so that the block owes nothing after it and its step ends where the message's own writes leave it. -/
theorem parentsAreChosen : Obligations.ParentsAreChosen := by
  unfold Obligations.ParentsAreChosen
  intro s p f s1 m s2 alt mine
  refine ⟨fun h => ⟨fun hv => attach_refused h (.inl hv), attach_primary h, fun _ ha hb => attach_refused h (.inr ⟨ha, hb⟩), attach_adopted h⟩,
    fun h t0 hh => ⟨attached_refused h hh, fun hb hp hempty => ?_⟩, detach_released, ⟨fun h hlen => ?_, release_removed⟩,
    fence_leaves_no_parent, fun h hf ht _ => handover_returned h hf ht, mirror_kept⟩
  · have hemptied : s1.Emptied p s1.childUps := fun q hq =>
      have ⟨hrtx, hheld, hstalled, hegress⟩ := hempty q hq
      ⟨hrtx, hheld, fun _ => ⟨hstalled, hegress⟩⟩
    obtain ⟨t, hexec, hset⟩ := attached_accepted h hh hb hp hemptied
    exact ⟨t, hexec, hset.cur, hset.homing, hset.lostPort, hset.noParentFt⟩
  · obtain ⟨t, hexec, htable⟩ := adopt_installed h hlen
    refine ⟨t, hexec, ?_, fun a ha hsame => ?_⟩
    · rw [htable]; exact List.mem_append_right _ (List.mem_singleton_self _)
    · rw [htable]; exact List.mem_append_left _ (List.mem_filter.2 ⟨ha, by rw [hsame]; rfl⟩)

end Sys2Proof.Machine
end

section
/-! SUPPORT. Liveness (R515 to R530): what the entries of the dies say after an update, and what a fault of level 3 does to a block that runs. -/

namespace Sys2Proof.Machine

/-! ### The entries of the dies -/

/-- The build, the queue and the die entries: what an update of one entry is measured by. -/
def State.roll (s : State) : Build × List Instr × Tab Die := (s.build, s.pending, s.snag.dies)

theorem State.roll_of_side {s t : State} (h : t.side = s.side) : t.roll = s.roll := by
  rw [State.roll, State.build_of_side h, State.pending_of_side h, State.snag_dies_of_side h]; rfl

theorem State.roll_of_rest {s t : State} (h : t.rest = s.rest) : t.roll = s.roll :=
  (congrArg (fun u : State => (u.build, u.pending, u.snag.dies)) h :
    (t.rest.build, t.rest.pending, t.rest.snag.dies) = (s.rest.build, s.rest.pending, s.rest.snag.dies))

theorem State.die_of_roll {s t : State} (h : t.roll = s.roll) (p : Nat) : t.die p = s.die p :=
  congrArg (fun r : Build × List Instr × Tab Die => Tab.getD r.2.2 p {}) h

theorem State.die_setDie (s : State) (p : Nat) (e : Die) (q : Nat) : (s.setDie p e).die q = if q = p then e else s.die q := by
  unfold State.die State.setDie Tab.getD
  rw [Tab.get_set]
  split <;> rfl

theorem State.die_setDie_self (s : State) (p : Nat) (e : Die) : (s.setDie p e).die p = e := by rw [State.die_setDie, if_pos rfl]

/-! Records of verdicts, advisories and expulsions enter no entry. -/

theorem State.rest_readOut_fold (l : List (PortId × Nat)) (v : State → W32) (s : State) : (l.foldl (fun s e => s.readOut e.1 (v s)) s).rest = s.rest :=
  List.foldlRecOn (motive := fun t : State => t.rest = s.rest) l _ rfl fun t ht e _ => (State.rest_readOut t e.1 (v t)).trans ht

theorem State.rest_pushVerdict (s : State) (n kind : Nat) (r : Rec) : (s.pushVerdict n kind r).rest = s.rest := by
  have hstall (t : State) : (t.endStall n).rest = t.rest := (State.rest_readOut_fold _ _ _).trans (State.rest_setSlice ..)
  have hirq (c : Prop) [Decidable c] (t : State) : (if c then t.verdictIrq n else t).rest = t.rest := by
    split
    · exact State.rest_irq ..
    · rfl
  have hcount (c : Bool) (t : State) (f : RF) : (if c = true then t.fadd f 1 else t).rest = t.rest := by split <;> simp
  simp only [State.pushVerdict]
  split
  · rw [hstall, hirq, hcount]; simp
  · simp

theorem State.rest_pushTo (s : State) (n kind : Nat) (r : Rec) : (s.pushTo n kind r).rest = s.rest := by
  unfold State.pushTo
  split
  · exact State.rest_pushVerdict ..
  · rfl

@[simp] theorem State.roll_pushVerdict (s : State) (n kind : Nat) (r : Rec) : (s.pushVerdict n kind r).roll = s.roll :=
  State.roll_of_rest (State.rest_pushVerdict ..)
@[simp] theorem State.roll_faultIrq (s : State) : s.faultIrq.roll = s.roll := State.roll_of_side (State.side_faultIrq s)
@[simp] theorem State.roll_raise (s : State) (c l : Nat) (h : Hank) (i : Nat) : (s.raise c l h i).roll = s.roll := rfl
@[simp] theorem State.roll_led (s : State) (k i : Nat) (c : LedCol) (n : Nat) : (s.led k i c n).roll = s.roll := State.roll_of_rest (State.rest_led ..)
@[simp] theorem State.roll_fset (s : State) (f : RF) (v : Nat) : (s.fset f v).roll = s.roll := State.roll_of_rest (State.rest_fset ..)
@[simp] theorem State.roll_bump (s : State) (f : RF) : (s.bump f).roll = s.roll := State.roll_of_rest (State.rest_bump ..)
@[simp] theorem State.roll_freeWord (s : State) : s.freeWord.2.roll = s.roll := rfl
@[simp] theorem State.roll_setBudget (s : State) (p : Nat) (b : Budget) : (s.setBudget p b).roll = s.roll := rfl
@[simp] theorem State.roll_advise (s : State) (c : Nat) (h : Hank) (i : Nat) (b : Bool) : (s.advise c h i b).roll = s.roll :=
  State.roll_of_side (State.side_advise ..)

theorem State.roll_hardTable (s : State) (r : Rec) : (s.hardTable r).roll = s.roll := by
  simp only [State.hardTable]
  repeat' split
  all_goals rfl

@[simp] theorem State.roll_dieRecord (s : State) (p st : Nat) (clear suspect : Bool) : (s.dieRecord p st clear suspect).roll = s.roll := by
  have hirq (c : Bool) (t : State) : (if c = true then t.faultIrq else t).roll = t.roll := by split <;> simp
  simp only [State.dieRecord]
  rw [hirq, State.roll_hardTable, State.roll_of_side (State.side_sendUp ..), State.roll_of_rest (State.rest_pushTo ..)]
  rfl

theorem State.roll_spendToken (s : State) (p : Nat) : (s.spendToken p).roll = s.roll := by
  simp only [State.spendToken]; split <;> simp

@[simp] theorem State.roll_propose (s : State) (p : Nat) (hold : Bool) (idx slice : Option Nat) (info : Nat) :
    (s.propose p hold idx slice info).1.roll = s.roll := by
  simp only [State.propose]
  repeat' split
  all_goals simp [State.roll_spendToken]

/-! ### An update touches one entry -/

/-- Of the build, the queue and the die entries, `t` differs from `s` in the entry of `p` alone, where it holds `e`. -/
structure OneDie (p : Nat) (e : Die) (s t : State) : Prop where
  build : t.build = s.build
  pending : t.pending = s.pending
  others : ∀ q, q ≠ p → t.die q = s.die q
  mine : t.die p = e

theorem OneDie.of_roll {s t : State} (p : Nat) (h : t.roll = s.roll) : OneDie p (s.die p) s t :=
  ⟨congrArg (fun r => r.1) h, congrArg (fun r => r.2.1) h, fun q _ => State.die_of_roll h q, State.die_of_roll h p⟩

theorem OneDie.setDie (s : State) (p : Nat) (e : Die) : OneDie p e s (s.setDie p e) :=
  ⟨rfl, rfl, fun q hq => by rw [State.die_setDie, if_neg hq], State.die_setDie_self ..⟩

theorem OneDie.trans {s t u : State} {p : Nat} {d e : Die} (h : OneDie p d s t) (g : OneDie p e t u) : OneDie p e s u :=
  ⟨g.build.trans h.build, g.pending.trans h.pending, fun q hq => (g.others q hq).trans (h.others q hq), g.mine⟩

theorem OneDie.then {s t u : State} {p : Nat} {e : Die} (h : OneDie p e s t) (hu : u.roll = t.roll) : OneDie p e s u := by
  have g := OneDie.of_roll p hu
  rw [h.mine] at g
  exact h.trans g

theorem State.upheld_die (s : State) (p : Nat) : OneDie p { s.die p with claims := [] } s (s.upheld p) := by
  have hadv (l : List (Hank × Nat)) (t : State) : (l.foldl (fun s c => s.advise 2 (s.childAddr p) c.1.toNat false) t).roll = t.roll :=
    List.foldlRecOn (motive := fun u : State => u.roll = t.roll) l _ rfl fun u hu c _ => (State.roll_advise ..).trans hu
  exact (OneDie.of_roll p (hadv _ s)).trans (OneDie.setDie ..)

/-- The entry after a change: the new state, or EXPELLED where a death is proposed and the budget bears it (R528, R531). -/
structure Changed (st : Nat) (expel : Bool) (e e' : Die) : Prop where
  silent : e'.silent = e.silent
  changes : e'.changes = e.changes + 1
  tAlive : e'.tAlive = e.tAlive
  anyAlive : e'.anyAlive = e.anyAlive
  state : st ≠ 4 ∨ expel = false → e'.state = st

theorem State.dieChange_die (s : State) (p : Nat) (e : Die) (st : Nat) :
    ∃ e', OneDie p e' s (s.dieChange p e st) ∧ Changed st (s.flag Reg.SNG_CTRL_EXPEL_DEAD) e e' := by
  have hset := OneDie.setDie s p { e with state := st, changes := e.changes + 1 }
  have hleft (c : Prop) [Decidable c] (t : State) : (if c then t.dieRecord p e.state true e.suspect else t).roll = t.roll := by split <;> simp
  unfold State.dieChange
  extract_lets s1 s2 r e2 tried e3
  have h2 : OneDie p { e with state := st, changes := e.changes + 1 } s s2 := hset.then (hleft _ s1)
  have hplain : Changed st (s.flag Reg.SNG_CTRL_EXPEL_DEAD) e { e with state := st, changes := e.changes + 1 } := ⟨rfl, rfl, rfl, rfl, fun _ => rfl⟩
  by_cases h4 : st = 4
  · rw [if_pos h4]
    have hr : r.1.roll = s2.roll := by
      show (ite _ _ _ : State × Bool).1.roll = _
      split
      · simp
      · rfl
    have he2 : e2 = { e with state := st, changes := e.changes + 1 } := (h2.then hr).mine
    have hrec := ((h2.then hr).trans (OneDie.setDie r.1 p e3)).then (State.roll_dieRecord (r.1.setDie p e3) p e3.state false e3.suspect)
    have hup := hrec.trans (State.upheld_die _ p)
    rw [hrec.mine] at hup
    refine ⟨_, hup, ?_⟩
    show Changed _ _ _ { (ite _ _ _ : Die) with claims := [] }
    by_cases hx : s.flag Reg.SNG_CTRL_EXPEL_DEAD = true
    · rw [hx]
      split <;> (rw [he2]; exact ⟨rfl, rfl, rfl, rfl, fun hor => by simp [h4] at hor⟩)
    · have hr2 : r.2 = false := by
        show (ite _ _ _ : State × Bool).2 = _
        rw [if_neg hx]
      rw [hr2, if_neg Bool.false_ne_true, he2]
      exact ⟨rfl, rfl, rfl, rfl, fun _ => rfl⟩
  · rw [if_neg h4]
    split
    · exact ⟨_, h2.then (State.roll_dieRecord ..), hplain⟩
    · exact ⟨_, h2, hplain⟩

theorem State.updateDie_unwatched {s : State} {p : Nat} (h : s.evaluates p = false) : s.updateDie p = s := by
  simp only [State.updateDie, h, Bool.not_false, Bool.true_or, if_true]

/-- The rule's verdict on an entry of `s` (R528). -/
def State.ruled (s : State) (p : Nat) : Nat × Bool := (s.die p).rule s.ft s.silentIvl s.deadIvl s.stallIvl (s.aliveWired p)

theorem State.updateDie_changed {s : State} {p : Nat} (he : s.evaluates p = true) (hoff : s.snagOff = false) (h : (s.ruled p).1 ≠ (s.die p).state) :
    s.updateDie p = s.dieChange p { s.die p with silent := (s.ruled p).2 } (s.ruled p).1 := by
  have hon : (!s.evaluates p || s.snagOff) = false := by rw [he, hoff]; rfl
  unfold State.updateDie
  rw [hon, if_neg Bool.false_ne_true]
  exact if_pos h

/-- Where the state stands, an entry takes the rule's SILENT, and its state and count of changes stay. -/
theorem State.updateDie_stands {s : State} {p : Nat} (he : s.evaluates p = true) (hoff : s.snagOff = false) (h : (s.ruled p).1 = (s.die p).state) :
    ∃ n, OneDie p { s.die p with silent := (s.ruled p).2, noEvidence := n } s (s.updateDie p) := by
  have hon : (!s.evaluates p || s.snagOff) = false := by rw [he, hoff]; rfl
  unfold State.updateDie
  rw [hon, if_neg Bool.false_ne_true]
  extract_lets e r e1
  rw [if_neg (show ¬ r.1 ≠ e.state from not_not.2 h)]
  split
  · exact ⟨true, (OneDie.setDie ..).then (State.roll_advise ..)⟩
  · exact ⟨e.noEvidence, OneDie.setDie ..⟩

/-- An update touches its own entry alone, and keeps what it knows of ALIVE. -/
theorem State.updateDie_die (s : State) (p : Nat) : ∃ e, OneDie p e s (s.updateDie p) ∧ e.tAlive = (s.die p).tAlive ∧ e.anyAlive = (s.die p).anyAlive := by
  by_cases hon : (!s.evaluates p || s.snagOff) = true
  · have he : s.updateDie p = s := if_pos hon
    rw [he]
    exact ⟨_, OneDie.of_roll p rfl, rfl, rfl⟩
  · simp only [Bool.or_eq_true, Bool.not_eq_true', not_or, Bool.not_eq_false, Bool.not_eq_true] at hon
    obtain ⟨he, hoff⟩ := hon
    by_cases h : (s.ruled p).1 = (s.die p).state
    · obtain ⟨n, hd⟩ := State.updateDie_stands he hoff h
      exact ⟨_, hd, rfl, rfl⟩
    · obtain ⟨e', hd, hc⟩ := State.dieChange_die s p { s.die p with silent := (s.ruled p).2 } (s.ruled p).1
      rw [State.updateDie_changed he hoff h]
      exact ⟨e', hd, hc.tAlive, hc.anyAlive⟩

theorem State.updateDies_other {s : State} {p : Nat} (l : List Nat) (h : p ∉ l) : (l.foldl State.updateDie s).die p = s.die p ∧
    (l.foldl State.updateDie s).build = s.build ∧ (l.foldl State.updateDie s).pending = s.pending := by
  refine List.foldlRecOn (motive := fun t : State => t.die p = s.die p ∧ t.build = s.build ∧ t.pending = s.pending) l _ ⟨rfl, rfl, rfl⟩ ?_
  rintro t ⟨hd, hb, hp⟩ q hq
  obtain ⟨e, ho, -⟩ := t.updateDie_die q
  exact ⟨(ho.others p fun hpq => h (hpq ▸ hq)).trans hd, ho.build.trans hb, ho.pending.trans hp⟩

/-- A round over all down-ports updates the one entry that is watched. -/
theorem State.updateDies_die {s : State} {p : Nat} (hp : p < 32) (hone : ∀ q, q < 32 → q ≠ p → s.evaluates q = false) :
    ((List.range 32).foldl State.updateDie s).die p = (s.updateDie p).die p ∧
    ((List.range 32).foldl State.updateDie s).build = s.build ∧ ((List.range 32).foldl State.updateDie s).pending = s.pending := by
  obtain ⟨l1, l2, hl⟩ := List.append_of_mem (List.mem_range.2 hp)
  have hnodup : (l1 ++ p :: l2).Nodup := hl ▸ List.nodup_range
  obtain ⟨-, hn2, hdisj⟩ := List.nodup_append.1 hnodup
  have hbefore : l1.foldl State.updateDie s = s := foldl_unchanged _ _ _ fun q hq => by
    have hq32 : q < 32 := List.mem_range.1 (hl ▸ List.mem_append_left _ hq)
    exact State.updateDie_unwatched (hone q hq32 (hdisj q hq p (List.mem_cons_self ..)))
  obtain ⟨e, ho, -⟩ := s.updateDie_die p
  rw [hl, List.foldl_append, hbefore, List.foldl_cons]
  obtain ⟨hd, hb, hq⟩ := State.updateDies_other (s := s.updateDie p) l2 (List.nodup_cons.1 hn2).1
  exact ⟨hd, hb.trans ho.build, hq.trans ho.pending⟩

/-- No owed effect touches a die entry: what a meaning leaves in it stands after the step. -/
theorem act_die (s t : State) (p : Nat) (hb : t.build = s.build) (hp : t.pending = s.pending) : ∃ u, act s t = .next u ∧ u.die p = t.die p := by
  obtain ⟨u, hu, hside⟩ := act_side s t hb hp
  exact ⟨u, hu, State.die_of_roll (State.roll_of_side hside) p⟩

/-! ### The two events of die states -/

theorem aliveInEdge_noted {s : State} {p : Nat} (ht : s.tier = 1) (hp : p < 32) (hw : s.aliveWired p = true) :
    ∃ t, exec (.aliveInEdge p) s = .next t ∧ (t.die p).tAlive = s.ft ∧ (t.die p).anyAlive = true := by
  obtain ⟨e, ho, ha, hn⟩ := (s.setDie p { s.die p with tAlive := s.ft, anyAlive := true }).updateDie_die p
  have hset := OneDie.setDie s p { s.die p with tAlive := s.ft, anyAlive := true }
  have he : exec (.aliveInEdge p) s = act s ((s.setDie p { s.die p with tAlive := s.ft, anyAlive := true }).updateDie p) := by
    show act s (ite _ _ _) = _
    rw [if_pos ⟨ht, hp, hw⟩]
  obtain ⟨u, hu, hd⟩ := act_die s _ p (ho.build.trans hset.build) (ho.pending.trans hset.pending)
  rw [hset.mine] at ha hn
  exact ⟨u, he.trans hu, by rw [hd, ho.mine, ha], by rw [hd, ho.mine, hn]⟩

theorem State.evaluates_lt {s : State} {p : Nat} (h : s.evaluates p = true) : p < 32 := by
  simp only [State.evaluates, Bool.and_eq_true, decide_eq_true_eq] at h
  obtain ⟨⟨-, hp⟩, -⟩ := h
  exact hp

section Tick
variable {s : State} {p : Nat} (he : s.evaluates p = true) (hone : ∀ q, q < 32 → q ≠ p → s.evaluates q = false)
include he hone

theorem exec_dieStateTick : ∃ t, exec .dieStateTick s = .next t ∧ t.die p = (s.updateDie p).die p := by
  obtain ⟨hd, hb, hq⟩ := State.updateDies_die (State.evaluates_lt he) hone
  obtain ⟨u, hu, hdie⟩ := act_die s _ p hb hq
  exact ⟨u, hu, hdie.trans hd⟩

theorem dieStateTick_stands (hoff : s.snagOff = false) (h : (s.ruled p).1 = (s.die p).state) :
    ∃ t, exec .dieStateTick s = .next t ∧ (t.die p).state = (s.die p).state ∧ (t.die p).silent = (s.ruled p).2 ∧ (t.die p).changes = (s.die p).changes := by
  obtain ⟨t, ht, hd⟩ := exec_dieStateTick he hone
  obtain ⟨n, ho⟩ := State.updateDie_stands he hoff h
  rw [ho.mine] at hd
  exact ⟨t, ht, by rw [hd], by rw [hd], by rw [hd]⟩

theorem dieStateTick_changed (hoff : s.snagOff = false) (h : (s.ruled p).1 ≠ (s.die p).state)
    (hx : (s.ruled p).1 ≠ 4 ∨ s.flag Reg.SNG_CTRL_EXPEL_DEAD = false) :
    ∃ t, exec .dieStateTick s = .next t ∧ (t.die p).state = (s.ruled p).1 ∧
      (t.die p).silent = (s.ruled p).2 ∧ (t.die p).changes = (s.die p).changes + 1 := by
  obtain ⟨t, ht, hd⟩ := exec_dieStateTick he hone
  obtain ⟨e', ho, hc⟩ := State.dieChange_die s p { s.die p with silent := (s.ruled p).2 } (s.ruled p).1
  rw [State.updateDie_changed he hoff h, ho.mine] at hd
  exact ⟨t, ht, by rw [hd, hc.state hx], by rw [hd, hc.silent], by rw [hd, hc.changes]⟩

end Tick

/-! ### A fault of level 3 stops a block that runs -/

@[simp] theorem State.steady_faultIrq (s : State) : s.faultIrq.steady = s.steady := by
  unfold State.faultIrq State.irq; split <;> simp

@[simp] theorem State.steady_nextFaultSeq (s : State) : s.nextFaultSeq.steady = s.steady := rfl

@[simp] theorem State.steady_fqPush (s : State) (r : Rec) (always : Bool) : (s.fqPush r always).steady = s.steady := by
  have hlost (t : State) : (t.bump Reg.SNG_FQSTAT_LOST).steady = t.steady := State.fset_steady _ _ _ (by decide) (by decide)
  have hled := State.steady_led s 5 64 .inn 1
  simp only [State.fqPush]
  repeat' split
  · exact (State.steady_faultIrq _).trans hled
  · exact hled
  · simp [hlost]
  · simp [hlost]

@[simp] theorem State.steady_logEnter (s : State) (r : Rec × Rec) : (s.logEnter r).steady = s.steady := by
  simp only [State.logEnter]
  repeat' split
  · rfl
  · rfl
  · exact State.steady_logLost _
  · exact State.steady_logLost _
  · exact State.steady_logLost _

@[simp] theorem State.steady_logAdd (s : State) (typ ft : Nat) (r : Rec) : (s.logAdd typ ft r).steady = s.steady := by
  have hled := State.steady_led s 0x10 0 .inn 1
  simp only [State.logAdd]
  repeat' split
  · exact hled
  · exact (State.steady_logLost _).trans hled
  · exact (State.steady_logLost _).trans hled
  · exact (State.steady_logEnter _ _).trans hled

@[simp] theorem State.steady_fnSwitch (s : State) (b : Nat) : (s.fnSwitch b).steady = s.steady := by
  simp only [State.fnSwitch]
  split
  · rw [State.fset_steady _ Reg.HIF_FNSTAT_PENDING _ (by decide) (by decide), State.fset_steady _ Reg.HIF_FNSTAT_MODE _ (by decide) (by decide)]
  · rfl

theorem State.stopped_of_steady {s t : State} (h : t.steady = s.steady) : t.stopped = s.stopped := by
  unfold State.stopped State.flag
  rw [State.fget_of_steady h _ (by decide) (by decide)]

theorem State.stopped_RAISED (s : State) (v : Nat) : (s.fset Reg.SNG_STATUS_RAISED v).stopped = s.stopped := by
  unfold State.stopped State.flag
  rw [State.fget_fset_beside s Reg.SNG_STATUS_RAISED Reg.SNG_STATUS_STOPPED v rfl (by decide) (by decide) (by decide)]

theorem State.stopped_LEVEL (s : State) (v : Nat) : (s.fset Reg.SNG_STATUS_LEVEL v).stopped = s.stopped := by
  unfold State.stopped State.flag
  rw [State.fget_fset_beside s Reg.SNG_STATUS_LEVEL Reg.SNG_STATUS_STOPPED v rfl (by decide) (by decide) (by decide)]

/-- The F3 stop drives ALIVE low (R516). -/
theorem State.stopBlock_pin {s : State} (h : s.stopped = false) : .pin .alive false ∈ s.stopBlock.out := by
  simp only [State.stopBlock, h, Bool.false_eq_true, if_false]
  exact State.out_emit_self ..

theorem State.cap_le (s : State) (c : Nat) : s.cap c ≤ 3 := Nat.le_of_lt_succ (Nat.mod_lt _ (by decide))

/-- A fault that is stated at level 3 stays there, and its fence, the stop, is applied (R501, R515). -/
theorem State.takeFault_stops {s : State} (h : s.stopped = false) (ft c : Nat) (subj : Hank) (info : W64) (noFence : Bool) :
    .pin .alive false ∈ (s.takeFault ft c 3 subj info noFence).out := by
  unfold State.takeFault
  extract_lets a ub unack last e how r s1 src s2 s3 s4 s5 s6 s7
  have he : e = 3 := by
    have := a.cap_le c
    show ite _ _ _ = _
    split <;> omega
  have hhow : how = .apply := by
    show a.fenceHow e subj = _
    rw [he]; rfl
  have h2 : s2.stopped = false := by
    show (State.bump _ _).stopped = false
    rw [State.bump, State.fadd, State.stopped_RAISED, State.stopped_of_steady (State.fset_steady _ Reg.SNG_UNACK_CLASS _ (by decide) (by decide)),
      State.stopped_of_steady (State.steady_fnSwitch ..), h]
  have h3 : s3.stopped = false := by
    show (State.nextFaultSeq _).stopped = false
    rw [State.stopped_of_steady (State.steady_nextFaultSeq _), State.stopped_of_steady (State.steady_fqPush ..), State.stopped_LEVEL, h2]
  have h4 : s4.steady = s3.steady := by
    show (ite _ _ _ : State).steady = _
    split <;> simp
  have h5 : s5.steady = s4.steady := by
    show (ite _ _ _ : State).steady = _
    split <;> simp
  have h6 : .pin .alive false ∈ s6.out := by
    show _ ∈ (ite _ _ _ : State).out
    rw [if_pos hhow, he]
    exact State.stopBlock_pin ((State.stopped_of_steady (h5.trans h4)).trans h3)
  have h7 : .pin .alive false ∈ s7.out := by
    show _ ∈ (ite _ _ _ : State).out
    split <;> exact h6
  exact State.out_traceTrigger _ _ _ h7

theorem nextWork_one (w : Work) : nextWork [w] = some (w, []) := by
  simp [nextWork]

/-- The one effect that is owed is carried out first. -/
theorem State.settle_one {t : State} {w : Work} (hw : t.work = [w]) : t.settle = settleF 71 ({ t with work := [] }.doWork w) := by
  unfold State.settle
  rw [hw]
  show settleF (71 + 1) t = _
  rw [settleF, hw, nextWork_one]

/-- A block that owes a fault of level 3, and nothing else, drives ALIVE low. -/
theorem State.settle_level3 {t : State} {c : Nat} {subj : Hank} {info : W64} (hw : t.work = [.fault c 3 subj info]) (hr : t.stopped = false) :
    .pin .alive false ∈ t.settle.out := by
  rw [State.settle_one hw]
  exact State.out_settleF _ (State.takeFault_stops (s := { t with work := [] }) hr ..)

/-! ### ALIVE and the watchdog -/

theorem aliveToggle_toggles {s : State} (h0 : s.work = []) (hrun : s.flag Reg.SNG_STATUS_ALIVE_RUN = true) (hclock : s.whl.clock = true)
    (hdue : s.snag.aliveNext ≤ s.whl.cyc) :
    ∃ t, exec .aliveToggle s = .next t ∧ t.snag = { s.snag with aliveLevel := !s.snag.aliveLevel, aliveNext := s.snag.aliveNext + 10000 } ∧
      .pin .alive (!s.snag.aliveLevel) ∈ t.out := by
  have hdue' : (s.flag Reg.SNG_STATUS_ALIVE_RUN && s.whl.clock && decide (s.snag.aliveNext ≤ s.whl.cyc)) = true := by simp [hrun, hclock, hdue]
  refine ⟨{ s with snag := { s.snag with aliveLevel := !s.snag.aliveLevel, aliveNext := s.snag.aliveNext + 10000 } }.emit (.pin .alive (!s.snag.aliveLevel)),
    ?_, rfl, State.out_emit_self ..⟩
  show act s (ite _ _ _) = _
  rw [if_pos hdue']
  exact act_of_calm _ _ h0 rfl rfl

/-- A unit is probed: its output shows it, and the first probe that it has not answered is noted (R518). -/
def State.probeUnit (s : State) (u : Nat) : State :=
  { s with snag := { s.snag with probes := Tab.set s.snag.probes u ((Tab.get s.snag.probes u).getD s.now) } }.emit (.probe u)

theorem State.probeUnit_probes (s : State) (u v : Nat) :
    Tab.get (s.probeUnit u).snag.probes v = if v = u then some ((Tab.get s.snag.probes u).getD s.now) else Tab.get s.snag.probes v := Tab.get_set ..

/-- A probe of a unit that waits already keeps the time of its first one. -/
theorem State.probeUnit_since (s : State) (u v : Nat) :
    (Tab.get (s.probeUnit u).snag.probes v).getD (s.probeUnit u).now = (Tab.get s.snag.probes v).getD s.now := by
  rw [State.probeUnit_probes]
  split
  · rename_i h; rw [h]; rfl
  · rfl

theorem State.probeUnits_frame (l : List Nat) (s : State) :
    (l.foldl State.probeUnit s).work = s.work ∧ (l.foldl State.probeUnit s).build = s.build ∧ (l.foldl State.probeUnit s).pending = s.pending :=
  List.foldlRecOn (motive := fun t : State => t.work = s.work ∧ t.build = s.build ∧ t.pending = s.pending) l _ ⟨rfl, rfl, rfl⟩ fun _ ht _ _ => ht

theorem State.probeUnits_kept (l : List Nat) (s : State) (u : Nat) (h : u ∉ l) : Tab.get (l.foldl State.probeUnit s).snag.probes u = Tab.get s.snag.probes u := by
  refine List.foldlRecOn (motive := fun t : State => Tab.get t.snag.probes u = Tab.get s.snag.probes u) l _ rfl fun t ht v hv => ?_
  rw [State.probeUnit_probes, if_neg (show ¬ u = v from fun he => h (he ▸ hv)), ht]

theorem State.probeUnits_probed (l : List Nat) (s : State) (u : Nat) (h : u ∈ l) :
    .probe u ∈ (l.foldl State.probeUnit s).out ∧
    Tab.get (l.foldl State.probeUnit s).snag.probes u = some ((Tab.get s.snag.probes u).getD s.now) := by
  induction l generalizing s with
  | nil => cases h
  | cons v l ih =>
    rw [List.foldl_cons]
    by_cases hl : u ∈ l
    · obtain ⟨hout, hprobe⟩ := ih (s.probeUnit v) hl
      exact ⟨hout, hprobe.trans (congrArg some (s.probeUnit_since v u))⟩
    · obtain rfl : u = v := (List.mem_cons.1 h).resolve_right hl
      refine ⟨foldl_out l _ (State.out_emit_self ..) fun t w ht => List.mem_cons_of_mem _ ht, ?_⟩
      rw [State.probeUnits_kept l _ u hl, State.probeUnit_probes, if_pos rfl]

theorem watchdogProbe_probes {s : State} (h0 : s.work = []) (hrun : s.stopped = false) (hlim : s.fget Reg.SNG_WDOG_LIM ≠ 0) :
    ∃ t, exec .watchdogProbe s = .next t ∧ ∀ u ∈ probedUnits s.build, .probe u ∈ t.out ∧
      Tab.get t.snag.probes u = some ((Tab.get s.snag.probes u).getD s.now) := by
  have hon : ¬ (s.stopped || s.fget Reg.SNG_WDOG_LIM == 0) = true := by simp [hrun, hlim]
  obtain ⟨hw, hb, hp⟩ := State.probeUnits_frame (probedUnits s.build) s
  refine ⟨(probedUnits s.build).foldl State.probeUnit s, ?_, State.probeUnits_probed _ s⟩
  show act s (ite _ _ _) = _
  rw [if_neg hon]
  exact act_of_calm _ _ (hw.trans h0) hb hp

theorem watchdogExpiry_stops {s : State} (h0 : s.work = []) (hrun : s.stopped = false) (hlim : s.fget Reg.SNG_WDOG_LIM ≠ 0) {u t0 : Nat}
    (hprobed : Tab.get s.snag.probes u = some t0) (hdue : t0 + s.fget Reg.SNG_WDOG_LIM * us ≤ s.now) :
    ∃ t, exec (.watchdogExpiry u) s = .next t ∧ .pin .alive false ∈ t.out := by
  have hexpires : exec (.watchdogExpiry u) s = act s (s.raise fHANG 3 (s.unit u) (s.fget Reg.SNG_WDOG_LIM)) := by
    show execWatchdogExpiry u s = _
    rw [execWatchdogExpiry, hprobed]
    simp only [hrun, hlim, Nat.not_lt.2 hdue, Bool.false_eq_true, or_self, if_false]
  refine ⟨_, hexpires, ?_⟩
  exact State.settle_level3 (by rw [State.raise_work, h0]; rfl) hrun

/-! ### Temperature -/

/-- What a crossing makes of the two warm marks, and the faults that it raises (R519). -/
def State.heated (s : State) (temp : Int) : State :=
  let info := (temp % 65536).toNat
  let warn := decide (temp > s.fget Reg.SNG_THERM_WARN) && !s.snag.warmWarn
  let trip := decide (temp > s.fget Reg.SNG_THERM_TRIP) && !s.snag.warmTrip
  let s1 : State := { s with snag := { s.snag with warmWarn := s.snag.warmWarn || warn, warmTrip := s.snag.warmTrip || trip } }
  let s2 := if warn then s1.raise fTHERMAL 0 (s.unit 0) info else s1
  if trip then s2.raise fTHERMAL 3 (s.unit 0) info else s2

theorem State.heated_snag (s : State) (temp : Int) : (s.heated temp).snag =
    { s.snag with warmWarn := s.snag.warmWarn || decide (temp > s.fget Reg.SNG_THERM_WARN),
                  warmTrip := s.snag.warmTrip || decide (temp > s.fget Reg.SNG_THERM_TRIP) } := by
  have hkeep (b c : Bool) : (b || (c && !b)) = (b || c) := by cases b <;> simp
  simp only [State.heated, hkeep]
  repeat' split
  all_goals rfl

/-- Above the trip limit alone, a stop is the one thing owed. -/
theorem State.heated_trip {s : State} {temp : Int} (h0 : s.work = []) (hwarn : s.snag.warmWarn = true) (htrip : s.snag.warmTrip = false)
    (hhot : temp > s.fget Reg.SNG_THERM_TRIP) :
    (s.heated temp).work = [.fault fTHERMAL 3 (s.unit 0) (BitVec.ofNat 64 (temp % 65536).toNat)] := by
  simp only [State.heated, hwarn, htrip, decide_eq_true hhot, Bool.not_true, Bool.not_false, Bool.and_false, Bool.and_true, Bool.false_eq_true, if_false, if_true,
    State.raise_work, h0]
  rfl

theorem State.heated_stopped (s : State) (temp : Int) : (s.heated temp).stopped = s.stopped := by
  simp only [State.stopped, State.flag, State.heated]
  repeat' split
  all_goals rfl

theorem State.settle_warm (t : State) : t.settle.snag.warmWarn = t.snag.warmWarn ∧ t.settle.snag.warmTrip = t.snag.warmTrip :=
  have h := State.side_settle t
  ⟨(congrArg (fun u : State => u.snag.warmWarn) h : t.settle.side.snag.warmWarn = t.side.snag.warmWarn),
    (congrArg (fun u : State => u.snag.warmTrip) h : t.settle.side.snag.warmTrip = t.side.snag.warmTrip)⟩

theorem thermalCrossing_warms {s : State} (h0 : s.work = []) (temp : Int) :
    ∃ t, exec (.thermalCrossing temp) s = .next t ∧
      t.snag.warmWarn = (s.snag.warmWarn || decide (temp > s.fget Reg.SNG_THERM_WARN)) ∧
      t.snag.warmTrip = (s.snag.warmTrip || decide (temp > s.fget Reg.SNG_THERM_TRIP)) ∧
      (s.stopped = false → s.snag.warmWarn = true → s.snag.warmTrip = false → temp > s.fget Reg.SNG_THERM_TRIP → .pin .alive false ∈ t.out) := by
  obtain ⟨hwarn, htrip⟩ := (s.heated temp).settle_warm
  refine ⟨_, (rfl : exec (.thermalCrossing temp) s = act s (s.heated temp)), ?_, ?_, fun hrun hw ht hhot => ?_⟩
  · exact hwarn.trans (by rw [State.heated_snag])
  · exact htrip.trans (by rw [State.heated_snag])
  · exact State.settle_level3 (State.heated_trip h0 hw ht hhot) ((State.heated_stopped ..).trans hrun)

theorem thermalFall_rearms {s : State} (h0 : s.work = []) (temp : Int) :
    ∃ t, exec (.thermalFall temp) s = .next t ∧
      t.snag.warmWarn = (s.snag.warmWarn && decide (s.fget Reg.SNG_THERM_WARN < temp + 5)) ∧
      t.snag.warmTrip = (s.snag.warmTrip && decide (s.fget Reg.SNG_THERM_TRIP < temp + 5)) := by
  have hlow (lim : Nat) : (!decide (temp ≤ (lim : Int) - 5)) = decide ((lim : Int) < temp + 5) := by
    rw [← decide_not]; exact decide_eq_decide.2 (by omega)
  refine ⟨_, act_of_calm s _ h0 rfl rfl, ?_, ?_⟩
  · exact congrArg (s.snag.warmWarn && ·) (hlow _)
  · exact congrArg (s.snag.warmTrip && ·) (hlow _)

/-! ### What a Leaf notes of its peers and of its steps -/

/-- What messages to peers leave alone. -/
def State.peerNote (s : State) : Build × List Instr × W32 × Nat := (s.build, s.pending, s.snag.peerBits, s.snag.peerNext)

theorem State.peerNote_of_side {s t : State} (h : t.side = s.side) : t.peerNote = s.peerNote :=
  (congrArg (fun u : State => (u.build, u.pending, u.snag.peerBits, u.snag.peerNext)) h :
    (t.side.build, t.side.pending, t.side.snag.peerBits, t.side.snag.peerNext) = (s.side.build, s.side.pending, s.side.snag.peerBits, s.side.snag.peerNext))

theorem State.side_sendRouted {s t : State} {typ tc : Nat} {d : Hank} {w : List W64} (h : s.sendRouted typ tc d w = some t) : t.side = s.side := by
  unfold State.sendRouted at h
  split at h <;> cases h <;> simp

theorem State.peerNote_sent (s : State) (typ tc : Nat) (d : Hank) (w : List W64) : ((s.sendRouted typ tc d w).getD s).peerNote = s.peerNote := by
  cases h : s.sendRouted typ tc d w with
  | none => rfl
  | some t => exact State.peerNote_of_side (State.side_sendRouted h)

theorem State.peerNote_drainPeer (n : Nat) (s : State) : (s.drainPeer n).peerNote = s.peerNote := by
  induction n generalizing s with
  | zero => rfl
  | succ n ih =>
    unfold State.drainPeer
    split
    · rfl
    · simp only
      split
      · rw [ih, State.peerNote_sent]; rfl
      · rfl

section Leaf
variable {s : State} (h0 : s.work = []) (hleaf : s.build = .leaf)
include h0 hleaf

theorem peerRxPulse_noted {n : Nat} (hn : n < 32) :
    exec (.peerRxPulse n) s = .next { s with snag := { s.snag with peerBits := s.snag.peerBits ||| (1#32 <<< n) } } := by
  have hmine : ¬ (s.build.isHub = true ∨ 32 ≤ n) := by rw [hleaf]; simp [Build.isHub, hn]
  show act s (ite _ _ _) = _
  rw [if_neg hmine]
  exact act_of_calm s _ h0 rfl rfl

theorem stepPulse_counted : exec .stepPulse s = .next { s with snag := { s.snag with steps := s.snag.steps + 1 } } := by
  have hmine : ¬ s.build.isHub = true := by rw [hleaf]; decide
  show act s (ite _ _ _) = _
  rw [if_neg hmine]
  exact act_of_calm s _ h0 rfl rfl

omit h0 in
theorem peerSeenSend_starts_afresh (hoff : s.snagOff = false) (hdue : s.snag.peerNext ≤ s.now) :
    ∃ t, exec .peerSeenSend s = .next t ∧ t.snag.peerBits = 0 ∧ t.snag.peerNext = s.now + s.peerIvl := by
  have hon : (s.build.isHub || s.snagOff || decide (s.now < s.snag.peerNext)) = false := by
    rw [hleaf, hoff, decide_eq_false (Nat.not_lt.2 hdue)]; rfl
  have hnote : s.peerSeenSend.peerNote = (s.build, s.pending, 0, s.now + s.peerIvl) := by
    unfold State.peerSeenSend
    rw [hon, if_neg Bool.false_ne_true]
    exact State.peerNote_drainPeer _ _
  obtain ⟨t, ht, hside⟩ := act_side s s.peerSeenSend (congrArg (fun x => x.1) hnote) (congrArg (fun x => x.2.1) hnote)
  have hend := (State.peerNote_of_side hside).trans hnote
  exact ⟨t, ht, congrArg (fun x => x.2.2.1) hend, congrArg (fun x => x.2.2.2) hend⟩

end Leaf

/-! ### Lanes that go idle -/

/-- What each turn of a fold emits is emitted at its end. -/
theorem foldl_emits {β : Type} (f : State → β → State) (e : β → Emission) (hself : ∀ s x, e x ∈ (f s x).out)
    (hkeep : ∀ s x a, a ∈ s.out → a ∈ (f s x).out)
    (l : List β) (s : State) : ∀ x ∈ l, e x ∈ (l.foldl f s).out := by
  intro x hx
  obtain ⟨l1, l2, rfl⟩ := List.append_of_mem hx
  rw [List.foldl_append, List.foldl_cons]
  exact foldl_out l2 f (hself _ x) fun t y => hkeep t y _

theorem State.allIdle_lanes (s : State) {p : Nat} (hp : p < 36) (hs : s.pState p ≠ 0) : .lanes p true ∈ s.allIdle.out := by
  refine foldl_emits _ (Emission.lanes · true) (fun t q => State.out_emit_self ..) (fun t q a ha => ?_) _ s p
    (List.mem_filter.2 ⟨List.mem_range.2 hp, by simpa using hs⟩)
  exact List.mem_cons_of_mem _ ((State.cutLost_out (t.leaveUp q 0) q).symm ▸ State.out_leaveUp q 0 ha)

theorem State.side_allIdle (s : State) : s.allIdle.side = s.side := by
  refine foldl_side _ _ _ fun t p hp => ?_
  have hp36 : p < 36 := List.mem_range.1 (List.mem_filter.1 hp).1
  rw [State.side_emit, State.side_cutLost, State.side_leaveUp _ _ _ (by omega)]

theorem f3LaneIdle_idles {s : State} {t0 : Nat} (hstop : s.snag.stopFt = some t0) (hdue : t0 + 2 * us ≤ s.now) :
    ∃ t, exec .f3LaneIdle s = .next t ∧ ∀ p, p < 36 → s.pState p ≠ 0 → .lanes p true ∈ t.out := by
  have he : exec .f3LaneIdle s = act s s.allIdle := by
    show execF3LaneIdle s = _
    rw [execF3LaneIdle, hstop]
    exact congrArg (act s) (if_neg (Nat.not_lt.2 hdue))
  obtain ⟨t, ht, -, hout⟩ := act_out s s.allIdle (State.build_of_side s.side_allIdle) (State.pending_of_side s.side_allIdle)
  exact ⟨t, he.trans ht, fun p hp hs => hout _ (s.allIdle_lanes hp hs)⟩

/-- The lanes of a fenced partition's ports go idle (R54). -/
def State.partIdled (s : State) (n : Nat) : State :=
  let s1 := (s.partPorts n).foldl (fun s p => (s.linkDown p 4).emit (.lanes p true)) s
  { s1 with snag := { s1.snag with partIdle := Tab.del s1.snag.partIdle n } }

theorem State.partIdled_lanes (s : State) (n : Nat) : ∀ p ∈ s.partPorts n, .lanes p true ∈ (s.partIdled n).out :=
  foldl_emits (fun s p => (s.linkDown p 4).emit (.lanes p true)) (Emission.lanes · true) (fun _ _ => State.out_emit_self ..)
    (fun _ q _ ha => List.mem_cons_of_mem _ (State.out_linkDown q 4 ha)) _ s

theorem State.side_partIdled (s : State) (n : Nat) : (s.partIdled n).side = s.side := by
  have hfold : ((s.partPorts n).foldl (fun s p => (s.linkDown p 4).emit (.lanes p true)) s).side = s.side := by
    refine foldl_side _ _ _ fun t p hp => ?_
    have hp32 : p < 32 := List.mem_range.1 (List.mem_filter.1 hp).1
    rw [State.side_emit, State.side_linkDown _ _ _ (by omega)]
  exact hfold

theorem partitionFenceIdle_idles {s : State} {n t0 : Nat} (hidle : Tab.get s.snag.partIdle n = some t0) (hdue : t0 ≤ s.now) :
    ∃ t, exec (.partitionFenceIdle n) s = .next t ∧ ∀ p ∈ s.partPorts n, .lanes p true ∈ t.out := by
  have he : exec (.partitionFenceIdle n) s = act s (s.partIdled n) := by
    show execPartitionFenceIdle n s = _
    rw [execPartitionFenceIdle, hidle]
    exact congrArg (act s) (if_neg (Nat.not_lt.2 hdue))
  obtain ⟨t, ht, -, hout⟩ := act_out s (s.partIdled n) (State.build_of_side (s.side_partIdled n)) (State.pending_of_side (s.side_partIdled n))
  exact ⟨t, he.trans ht, fun p hp => hout _ (s.partIdled_lanes n p hp)⟩

/-- Settles O48, event by event: what each notes stands after the step, since no owed effect touches it, and a fault stated at level 3 stops the block that runs. -/
theorem livenessIsWatched : Obligations.LivenessIsWatched := by
  unfold Obligations.LivenessIsWatched
  intro s h0
  exact ⟨aliveToggle_toggles h0,
    fun hrun hlim => ⟨watchdogProbe_probes h0 hrun hlim, fun _ _ => watchdogExpiry_stops h0 hrun hlim⟩,
    fun temp => ⟨thermalCrossing_warms h0 temp, thermalFall_rearms h0 temp⟩,
    fun hleaf => ⟨fun _ => peerRxPulse_noted h0 hleaf, stepPulse_counted h0 hleaf, peerSeenSend_starts_afresh hleaf⟩,
    fun _ => aliveInEdge_noted,
    fun _ he hone hoff => ⟨dieStateTick_stands he hone hoff, dieStateTick_changed he hone hoff⟩,
    fun _ => f3LaneIdle_idles,
    fun _ _ => partitionFenceIdle_idles⟩

end Sys2Proof.Machine
end

section
/-! SUPPORT. Compact stamps and steps (R69, R71, R76, R91): the value a stamp is reconstructed to, and what a step does with an empty queue. -/

namespace Sys2Proof.Machine

/-- Of the 2^40 values around a sync point, the one whose low 40 bits are the stamp, brought into the range of FT (R76). -/
theorem reconstruct_eq (ct sp : Nat) (hsp : sp < 2 ^ 64) :
    let base : Int := (sp : Int) - 2 ^ 39
    let ft : Int := base + ((ct : Int) - base) % 2 ^ 40
    (reconstruct ct sp : Int) = if ft < 0 then ft + 2 ^ 40 else if 2 ^ 64 - 1 < ft then ft - 2 ^ 40 else ft := by
  simp only [reconstruct]
  split
  · omega
  · split <;> omega

/-- Settles O60: the window around the sync point holds one value of each residue, and a wrap keeps the residue. -/
theorem reconstructsTime : Obligations.ReconstructsTime := by
  intro ct sp hct hsp base ft
  have hval := reconstruct_eq ct sp hsp
  have hwindow : base ≤ ft ∧ ft < (sp : Int) + 2 ^ 39 := by omega
  have hresidue : ft % 2 ^ 40 = ct := by omega
  refine ⟨hval, hwindow, ?_⟩
  change (reconstruct ct sp : Int) = if ft < 0 then _ else _ at hval
  split at hval
  · omega
  · split at hval <;> omega

/-- With nothing held, waiting or unbinding, what the block does between commands is nothing. -/
theorem State.serve_idle (s : State) (hheld : s.hif.mgmtHeld = []) (hwait : s.hif.mgmtWait = [])
    (hunbind : ∀ e ∈ s.hif.slices, e.2.unbind = none) : s.serve = .next s := by
  have hnone : (s.hif.slices.filter fun e => e.2.unbind.isSome) = [] :=
    List.filter_eq_nil_iff.2 fun e he => by simp [hunbind e he]
  rw [State.serve, hnone, List.foldl_nil, State.serveMgmt, hheld, hwait]
  cases s.hif.mgmtRun <;> rfl

theorem State.tick_still (s : State) (h : s.whl.clock = false) : s.tick = s := by simp [State.tick, h]

/-- A cycle without a slew adds the rate (R69, R91). -/
theorem State.tick_runs (s : State) (hclock : s.whl.clock = true) (hmax : s.whl.ftMaxed = false) (hslew : s.whl.slew = 0) :
    s.tick = { s with whl := { s.whl with acc := min (s.whl.acc + s.fget Reg.WHL_RATE_RATE) (ftMax * 2 ^ 40), cyc := s.whl.cyc + 1 } } := by
  have hadd : ((s.whl.acc : Int) + (s.fget Reg.WHL_RATE_RATE : Nat)).toNat = s.whl.acc + s.fget Reg.WHL_RATE_RATE := by omega
  simp only [State.tick, hclock, hmax, hslew, cycleAdd, if_true, hadd, Bool.not_true, Bool.false_eq_true, if_false, ne_eq, not_true_eq_false, false_and]

/-- Settles O55: the queue decides whether a command or a cycle comes. -/
theorem stepRunsFront : Obligations.StepRunsFront := by
  intro s
  refine ⟨fun c q hq => by rw [step, hq], fun hq hheld hwait hunbind => ?_⟩
  have hstep : step s = s.tick.serve := by rw [step, hq]
  refine ⟨fun hclock => ?_, fun hclock hmax hslew => ?_⟩
  · rw [hstep, State.tick_still s hclock, State.serve_idle s hheld hwait hunbind]
  · rw [hstep, State.tick_runs s hclock hmax hslew]
    exact State.serve_idle _ hheld hwait hunbind

end Sys2Proof.Machine
end

section
/-! SUPPORT. Time and tables by command (R115, R205, R697): what TIME_READ, LEAP_LOAD and SITE_LOAD complete with, and what they change. -/

namespace Sys2Proof.Machine

/-! ### Plain registers -/

theorem State.fget_congr {s t : State} (f : RF) (h : t.regGet f.addr = s.regGet f.addr) (h4 : f.lo + f.w ≤ 32 ∨ t.regGet (f.addr + 4) = s.regGet (f.addr + 4)) :
    t.fget f = s.fget f := by
  by_cases hw : f.lo + f.w ≤ 32
  · rw [State.fget_narrow _ _ hw, State.fget_narrow _ _ hw, h]
  · rw [State.fget_wide _ _ (by omega), State.fget_wide _ _ (by omega), State.word64, State.word64, h, h4.resolve_left hw]

/-- Two states hold the same in every register word that neither an owed effect nor the handling of a descriptor writes. -/
def PlainEq (t s : State) : Prop := ∀ k, plainWord k = true → t.regGet k = s.regGet k

theorem PlainEq.fset {s t : State} (h : PlainEq t s) (f : RF) (v : Nat) (hw : f.lo + f.w ≤ 32) : PlainEq (t.fset f v) (s.fset f v) := by
  intro k hk
  rw [State.fset_narrow _ _ _ hw, State.fset_narrow _ _ _ hw, State.regGet_regSet, State.regGet_regSet]
  split
  · rename_i hkf; subst hkf; rw [h _ hk]
  · exact h k hk

theorem PlainEq.begun (s : State) (src : Src) (opc : Nat) (d : Desc) (b : Bus) : PlainEq (s.begun src opc d b) s :=
  fun k hk => State.regGet_begun s src opc d b k hk

@[simp] theorem State.ct_fset (s : State) (f : RF) (v : Nat) : (s.fset f v).ct = s.ct := by simp [State.ct, State.ft]
@[simp] theorem State.ct_begun (s : State) (src : Src) (opc : Nat) (d : Desc) (b : Bus) : (s.begun src opc d b).ct = s.ct := by simp [State.ct, State.ft]

/-! ### TIME_READ -/

/-- A descriptor without an operand passes the shared checks. -/
theorem State.checked_clean {s : State} {src : Src} {d : Desc} (hc : Clean s src d) (opc : Nat) (b : Bus) (body : State → State) :
    (s.begun src opc d b).checked (cmdRun s src opc d b) {} body = body (s.begun src opc d b) := by
  rw [State.checked, State.check_none s _ src opc d b {} hc (by simp) rfl (by simp) rfl rfl (by simp)]

theorem timeRead_ended {s : State} {src : Src} (d : Desc) (b : Bus) (ht : Takes s src) (hc : Clean s src d) :
    ∃ t, exec (.timeRead src d b) s = .next t ∧ Ended s t src 0x60 d stOK (s.fget Reg.WHL_STATUS_STATE) d.session.toNat s := by
  have hstate : (s.begun src 0x60 d b).wState = s.fget Reg.WHL_STATUS_STATE :=
    State.fget_congr _ (State.regGet_begun _ _ _ _ _ _ (by decide)) (.inl (by decide))
  refine command_ended s _ src 0x60 d b .hm false _ s (s.begun src 0x60 d b) stOK _ _ ht (by cases src <;> rfl) ?_
    (HifRuns_of_same ht (.refl _ _) rfl) (by simp) (fun k hk => PlainEq.begun s _ _ d b k hk) (fun e he => State.begun_out _ _ _ _ _ e he) rfl rfl (by simp)
  rw [State.checked_clean hc, hstate]
  rfl

/-! ### LEAP_LOAD -/

theorem State.core_setLeap (s : State) (l : Option Leap) :
    (setWhl s fun w => { w with leap := l }).core = { s.core with whl := { s.core.whl with leap := l } } := rfl

/-- A management command's operand does not depend on what starting the command changed. -/
theorem State.operand_begun_mgmt (s : State) (opc : Nat) (d : Desc) (b : Bus) :
    (s.begun .mgmt opc d b).operand (cmdRun s .mgmt opc d b) = operandOf s .mgmt d b := rfl

/-- A management command's operand of the length it needs passes the shared checks. -/
theorem State.checked_operand {s : State} {d : Desc} (hc : Clean s .mgmt d) {n : Nat} (hn : 0 < n) (hlen : n ≤ d.len.toNat) (opc : Nat) (b : Bus) (long : Bool)
    (hlong : long = false) (body : State → State) :
    (s.begun .mgmt opc d b).checked (cmdRun s .mgmt opc d b) { zero := decide (d.len.toNat = 0), tooLong := long, reads := true } body
      = body (s.begun .mgmt opc d b) := by
  have hzero : decide (d.len.toNat = 0) = false := decide_eq_false (by omega)
  rw [State.checked, State.check_none s _ .mgmt opc d b _ hc (by simp) rfl (by simp) hzero hlong (fun _ => Or.inr rfl)]

/-- What a legal leap table changes (R115). -/
def State.withLeap (s : State) (bs : List Byte) : State :=
  ((setWhl s fun w => { w with leap := some (readLeap bs) }).fset Reg.WHL_UTC_ENTRIES (bits (wordAt bs 0) 23 16)).fset Reg.WHL_UTC_LOADED 1

theorem leapLoad_ended {s : State} (d : Desc) (b : Bus) (ht : Takes s .mgmt) (hc : Clean s .mgmt d)
    (hlen : 8 + 8 * bits (wordAt (operandOf s .mgmt d b) 0) 23 16 ≤ d.len.toNat) (hok : leapOk (operandOf s .mgmt d b) = true) :
    ∃ t, exec (.leapLoad .mgmt d b) s = .next t ∧
      Ended s t .mgmt 0x61 d stOK (bits (wordAt (operandOf s .mgmt d b) 0) 23 16) d.session.toNat (s.withLeap (operandOf s .mgmt d b)) := by
  set bs := operandOf s .mgmt d b with hbs
  set u := s.begun .mgmt 0x61 d b with hu
  set y := u.withLeap bs with hy
  set x := y.logAdd 5 y.ft { w0 := (readLeap bs).header, w1 := BitVec.ofNat 64 (signed 16 y.utcNow), w2 := 0, w3 := 0 } with hx
  have hside : x.side = y.side := State.side_logAdd ..
  have hyhif : y.hif = u.hif := by simp [y, State.withLeap, setWhl]
  have hplain : PlainEq y (s.withLeap bs) :=
    ((show PlainEq (setWhl u _) (setWhl s _) from PlainEq.begun s .mgmt 0x61 d b).fset _ _ (by decide)).fset _ _ (by decide)
  refine command_ended s _ .mgmt 0x61 d b .m false State.leapLoad (s.withLeap bs) x stOK _ _ ht rfl ?_
    (HifRuns_of_same ht ⟨(State.hif_of_side hside).trans hyhif, fun n hn => by cases hn⟩ (by simp [State.withLeap, setWhl])) ?_
    (fun k hk => (State.regGet_of_side hside k (by simp [plainWord] at hk; exact hk.1)).trans (hplain k hk)) ?_
    (by simp [State.withLeap, setWhl]) (by simp [State.withLeap, setWhl]) ?_
  · have hover : (decide (d.len.toNat < 8) || decide (d.len.toNat < 8 + 8 * bits (wordAt bs 0) 23 16)) = false := by
      simp only [Bool.or_eq_false_iff, decide_eq_false_iff_not]; omega
    rw [State.leapLoad, State.operand_begun_mgmt, ← hbs]
    simp only []
    refine (State.checked_operand hc (n := 8) (by decide) (by omega) _ _ _ hover _).trans ?_
    simp only [hok, Bool.not_true, Bool.false_eq_true, if_false]
    rfl
  · rw [State.core_of_side hside, hy, State.withLeap, State.withLeap, State.core_fset, State.core_fset, State.core_fset, State.core_fset, State.core_setLeap,
      State.core_setLeap, State.core_begun]
  · intro e he
    refine State.out_logAdd _ _ _ ?_
    simp only [y, State.withLeap, State.fset_out] at he ⊢
    exact State.begun_out s .mgmt 0x61 d b e he
  · rw [State.ct, State.ft_of_side hside]
    simp [y, State.withLeap, setWhl, State.ct, State.ft, u]

/-! ### SITE_LOAD -/

/-- What a site table of the block's own site changes (R697). -/
def State.withSite (s : State) (w : Nat → W64) : State :=
  (((((((s.fset Reg.TWS_CLOSE0_NS (bits (w 1) 15 0)).fset Reg.TWS_STEP_NS (bits (w 1) 31 16)).fset Reg.TWS_AMEND_US (bits (w 1) 47 32)).fset
    Reg.WHL_CTRL_SYNC_IVL (bits (w 1) 50 48)).fset Reg.SNG_DEAD_US (bits (w 2) 15 0)).fset Reg.SNG_SILENT_US (bits (w 2) 31 16)).fset
    Reg.STR_STARTCFG_LEAD (bits (w 2) 47 32)).fset Reg.ID_TABLEID_TABLEID (bits (w 0) 63 32)

theorem PlainEq.withSite {s t : State} (h : PlainEq t s) (w : Nat → W64) : PlainEq (t.withSite w) (s.withSite w) :=
  (((((((h.fset _ _ (by decide)).fset _ _ (by decide)).fset _ _ (by decide)).fset _ _ (by decide)).fset _ _ (by decide)).fset _ _ (by decide)).fset
    _ _ (by decide)).fset _ _ (by decide)

theorem siteLoad_ended {s : State} (d : Desc) (b : Bus) (ht : Takes s .mgmt) (hc : Clean s .mgmt d) (hlen : 32 ≤ d.len.toNat)
    (hok : let w := wordAt (operandOf s .mgmt d b)
      bits (w 0) 31 8 = 0 ∧ bits (w 1) 63 51 = 0 ∧ bits (w 2) 63 48 = 0 ∧ w 3 = 0 ∧ bits (w 0) 7 0 = hSite s.self) :
    ∃ t, exec (.siteLoad .mgmt d b) s = .next t ∧
      Ended s t .mgmt 0x62 d stOK 0 d.session.toNat (s.withSite (wordAt (operandOf s .mgmt d b))) := by
  obtain ⟨h0, h1, h2, h3, hsite⟩ := hok
  set w := wordAt (operandOf s .mgmt d b) with hw
  set u := s.begun .mgmt 0x62 d b with hu
  have hself : u.self = s.self := rfl
  refine command_ended s _ .mgmt 0x62 d b .m false State.siteLoad (s.withSite w) (u.withSite w) stOK 0 _ ht rfl ?_
    (HifRuns_of_same ht ⟨by simp [State.withSite, u], fun n hn => by cases hn⟩ (by simp [State.withSite])) (by simp [State.withSite, u])
    ((PlainEq.begun s .mgmt 0x62 d b).withSite w) ?_ (by simp [State.withSite]) (by simp [State.withSite]) (by simp [State.withSite, u])
  · have hover : decide (d.len.toNat < 32) = false := decide_eq_false (by omega)
    rw [State.siteLoad, State.operand_begun_mgmt, ← hw]
    simp only []
    refine (State.checked_operand hc (n := 32) (by decide) hlen _ _ _ hover _).trans ?_
    rw [State.guarded, ← hu, hself]
    simp [firstFail, h0, h1, h2, h3, hsite]
    rfl
  · intro e he
    simp only [State.withSite, State.fset_out] at he ⊢
    exact State.begun_out s .mgmt 0x62 d b e he

/-- Settles O13, command by command. -/
theorem timeAndTablesAreCommanded : Obligations.TimeAndTablesAreCommanded :=
  ⟨fun _ _ d b ht hc => timeRead_ended d b ht hc, fun _ d b ht hc =>
    ⟨fun hlen hok => leapLoad_ended d b ht hc hlen hok, fun hlen h0 h1 h2 h3 hsite => siteLoad_ended d b ht hc hlen ⟨h0, h1, h2, h3, hsite⟩⟩⟩

end Sys2Proof.Machine
end

section
/-! SUPPORT. Register writes of modes, clocks and generators (R87, R92, R93, R107, R214): what a write that reaches its page leaves, and what a step of FT keeps. -/

namespace Sys2Proof.Machine

/-! ### Register accesses that reach their page -/

@[simp] theorem State.side_answer (s : State) (a : Acc) : (s.answer a).side = s.side := by unfold State.answer; split <;> rfl
@[simp] theorem State.answer_work (s : State) (a : Acc) : (s.answer a).work = s.work := by unfold State.answer; split <;> rfl

theorem State.regAccess_reaches {s : State} {a : Acc} (h : Reaches s a) (i : Instr) (page : Nat) (body : State → State) :
    s.regAccess i a page body = (body s).answer a := by
  unfold Reaches at h
  unfold State.regAccess State.answer
  split <;> rename_i hport <;> rw [hport] at h <;> simp only at h
  · simp [h]
  · obtain ⟨hfull, hub | hpasid⟩ := h
    · simp [hfull, hub]
    · simp [hfull, hpasid]

/-- A write that owes nothing ends where its meaning leaves it. -/
theorem regAccess_next {s : State} {a : Acc} (h : Reaches s a) (i : Instr) (page : Nat) (body : State → State)
    (hw : (body s).work = []) (hb : (body s).build = s.build) (hp : (body s).pending = s.pending) :
    act s (s.regAccess i a page body) = .next ((body s).answer a) := by
  rw [State.regAccess_reaches h]
  exact act_of_calm _ _ (by simp [hw]) ((State.build_of_side (by simp)).trans hb) ((State.pending_of_side (by simp)).trans hp)

theorem regAccess_side {s : State} {a : Acc} (h : Reaches s a) (i : Instr) (page : Nat) (body : State → State)
    (hb : (body s).build = s.build) (hp : (body s).pending = s.pending) :
    ∃ t, act s (s.regAccess i a page body) = .next t ∧ t.side = (body s).side := by
  rw [State.regAccess_reaches h]
  obtain ⟨t, ht, hside⟩ := act_side s ((body s).answer a) ((State.build_of_side (by simp)).trans hb) ((State.pending_of_side (by simp)).trans hp)
  exact ⟨t, ht, hside.trans (by simp)⟩

@[simp] theorem State.answer_regGet (s : State) (a : Acc) (k : Nat) : (s.answer a).regGet k = s.regGet k := by unfold State.answer; split <;> rfl
@[simp] theorem State.answer_fget (s : State) (a : Acc) (f : RF) : (s.answer a).fget f = s.fget f := by simp [State.fget]

theorem State.fget_regSet_other (s : State) (f : RF) (k : Nat) (v : W32) (h : f.addr ≠ k) (h4 : f.lo + f.w ≤ 32) : (s.regSet k v).fget f = s.fget f :=
  State.fget_congr f (State.regGet_regSet_ne s v h) (.inl h4)

/-- A field of another word than the one written, both within one word. -/
theorem State.fget_fset_apart (s : State) {f g : RF} (v : Nat) (hf : f.lo + f.w ≤ 32) (hg : g.lo + g.w ≤ 32) (h : g.addr ≠ f.addr) :
    (s.fset f v).fget g = s.fget g :=
  State.fget_congr g (State.regGet_fset_other s f v _ hf h) (.inl hg)

/-! ### Function modes (R214) -/

theorem xor_div_mod_two (x y i : Nat) : (x ^^^ y) / 2 ^ i % 2 = 1 ↔ x / 2 ^ i % 2 ≠ y / 2 ^ i % 2 := by
  have h : (x ^^^ y).testBit i = (x.testBit i ^^ y.testBit i) := Nat.testBit_xor ..
  simp only [Nat.testBit_eq_decide_div_mod_eq] at h
  have hiff := congrArg (· = true) h
  rw [eq_iff_iff, decide_eq_true_iff, Bool.xor_iff_ne, ne_eq, decide_eq_decide] at hiff
  rw [hiff]
  omega

/-- The modes that pend after a write of HIF_FNMODE are those in which it differs from the modes in force. -/
theorem State.fnmodeWrite_pending (s : State) (a : Acc) (v : W32) (i : Nat) :
    (s.fnmodeWrite a v).fget Reg.HIF_FNSTAT_PENDING / 2 ^ i % 2 = 1 ↔
      (s.fnmodeWrite a v).fget Reg.HIF_FNMODE_MODE / 2 ^ i % 2 ≠ s.fget Reg.HIF_FNSTAT_MODE / 2 ^ i % 2 := by
  unfold State.fnmodeWrite
  extract_lets key s1
  have hmode : s1.fget Reg.HIF_FNSTAT_MODE = s.fget Reg.HIF_FNSTAT_MODE := State.fget_regSet_other _ _ _ _ (by decide) (by decide)
  have hlt (f : RF) (hf : f.w = 8) : s1.fget f < 2 ^ 8 := by rw [← hf]; exact Nat.mod_lt _ (Nat.two_pow_pos _)
  have hxor := Nat.xor_lt_two_pow (hlt Reg.HIF_FNMODE_MODE rfl) (hlt Reg.HIF_FNSTAT_MODE rfl)
  rw [State.fget_fset _ _ _ (by decide), show Reg.HIF_FNSTAT_PENDING.w = 8 from rfl, Nat.mod_eq_of_lt hxor,
    State.fget_fset_apart _ _ (by decide) (by decide) (by decide), ← hmode]
  exact xor_div_mod_two _ _ i

theorem fnmodeWrite_pends {s : State} {a : Acc} (v : W32) (ha : Reaches s a) (hw : s.work = []) :
    let s1 := s.regSet Reg.HIF_FNMODE_MODE.addr (s.mwWrite Reg.HIF_FNMODE_MODE.addr (if s.build.isHub then 0xFF else 0xF5) a v)
    ∃ t, exec (.hifFnmodeWrite a v) s = .next t ∧ t.fget Reg.HIF_FNMODE_MODE = s1.fget Reg.HIF_FNMODE_MODE ∧
      ∀ i < 8, t.fget Reg.HIF_FNSTAT_PENDING / 2 ^ i % 2 = 1 ↔ s1.fget Reg.HIF_FNMODE_MODE / 2 ^ i % 2 ≠ s.fget Reg.HIF_FNSTAT_MODE / 2 ^ i % 2 := by
  intro s1
  have hfn : (s.fnmodeWrite a v).fget Reg.HIF_FNMODE_MODE = s1.fget Reg.HIF_FNMODE_MODE := State.fget_fset_apart _ _ (by decide) (by decide) (by decide)
  refine ⟨_, regAccess_next ha _ 4 _ (by simp [State.fnmodeWrite, hw]) (by simp [State.fnmodeWrite]) (by simp [State.fnmodeWrite]), by simpa using hfn, fun i _ => ?_⟩
  simpa [hfn] using s.fnmodeWrite_pending a v i

/-! ### Rates (R93) -/

theorem freeDiv_exact (s : State) (q : Int) {b : Nat} (hb : 0 < b) : s.freeDiv (q * b) b = (q, s) := by
  have hdiv : q * b / (b : Int) = q := Int.mul_ediv_cancel q (by omega)
  rw [State.freeDiv, if_pos (Int.mul_emod_left q b), hdiv]

/-- Within ±200 ppm the rate of an adjustment is exact. -/
theorem State.rateOf_exact (s : State) {d : Int} (hd : d.natAbs * 5000 ≤ 2 ^ 40) : s.rateOf d (2 ^ 40) = ((2 ^ 42 + 4 * d).toNat, s) := by
  have hclamp : clampPpm d (2 ^ 40) = (d, 2 ^ 40) := by
    unfold clampPpm
    rw [if_neg (by omega), if_neg (by omega)]
  have hdiv : s.freeDiv (2 ^ 42 * d) (2 ^ 40) = (4 * d, s) := by
    have h := freeDiv_exact s (4 * d) (b := 2 ^ 40) (by decide)
    rwa [show 4 * d * ((2 ^ 40 : Nat) : Int) = 2 ^ 42 * d by omega] at h
  simp only [State.rateOf, hclamp, hdiv]

/-- Without a slew the base rate is the rate. -/
theorem setBase_still {r : Nat × State} (h : r.2.whl.slew = 0) : setBase r = (setWhl r.2 fun w => { w with base := r.1 }).fset Reg.WHL_RATE_RATE r.1 :=
  if_pos h

theorem writtenWord_rw_plain (old v : W32) : writtenWord .rw 0xFFFFFFFF 0 old v = v := by
  have hones : BitVec.ofNat 32 0xFFFFFFFF = BitVec.allOnes 32 := by decide
  simp only [writtenWord, mergeBits, aliasWord, if_true, hones, BitVec.not_allOnes, BitVec.and_zero, BitVec.zero_or, BitVec.and_allOnes]

theorem whlAdjWrite_rates {s : State} {a : Acc} (v : W32) (ha : Reaches s a) (hw : s.work = []) (hal : a.bitAlias = 0) (hassist : s.assisted 0 = true)
    (hslew : s.whl.slew = 0) (hd : (sext 32 v.toNat).natAbs * 5000 ≤ 2 ^ 40) :
    let r := (2 ^ 42 + 4 * sext 32 v.toNat).toNat
    exec (.whlAdjWrite a v) s =
      .next ((({ s.regSet Reg.WHL_ADJ_ADJ.addr v with whl := { s.whl with base := r } } : State).fset Reg.WHL_RATE_RATE r).answer a) := by
  intro r
  set s1 := s.regSet Reg.WHL_ADJ_ADJ.addr v with hs1
  have hadj : s1.fget Reg.WHL_ADJ_ADJ = v.toNat := by
    rw [State.fget_narrow _ _ (by decide), hs1, State.regGet_regSet_self]
    simp only [Reg.WHL_ADJ_ADJ, Nat.pow_zero, Nat.div_one]
    exact Nat.mod_eq_of_lt v.isLt
  have hbody : s.adjWrite a v = ({ s1 with whl := { s.whl with base := r } } : State).fset Reg.WHL_RATE_RATE r := by
    have hw1 : s.adjWrite a v = s1.hostRate := by rw [State.adjWrite, hal, writtenWord_rw_plain, ← hs1, if_pos hassist]
    rw [hw1, State.hostRate, hadj, State.rateOf_exact s1 hd, setBase_still hslew]
    rfl
  exact (regAccess_next ha _ 1 _ (by simp [hbody, s1, hw]) (by simp [hbody, s1]) (by simp [hbody, s1])).trans (by rw [hbody])

/-! ### What a step of FT passes over (R92) -/

/-- A state without what the generators and the quiet windows hold and drive: their own entries and registers, the meter, and what left the block. -/
def State.offGens (s : State) : State :=
  { s with regs := s.regs.filter fun e => decide (e.1 < 0x1200), whl := { s.whl with gens := [] }, meter := {}, hif := { s.hif with quietOpen := [] }, out := [] }

theorem State.build_of_offGens {s t : State} (h : t.offGens = s.offGens) : t.build = s.build :=
  (congrArg State.build h : t.offGens.build = s.offGens.build)
theorem State.pending_of_offGens {s t : State} (h : t.offGens = s.offGens) : t.pending = s.pending :=
  (congrArg State.pending h : t.offGens.pending = s.offGens.pending)
theorem State.imgRegs_of_offGens {s t : State} (h : t.offGens = s.offGens) : t.imgRegs = s.imgRegs :=
  (congrArg State.imgRegs h : t.offGens.imgRegs = s.offGens.imgRegs)
theorem State.whl_acc_of_offGens {s t : State} (h : t.offGens = s.offGens) : t.whl.acc = s.whl.acc :=
  (congrArg (fun x => x.whl.acc) h : t.offGens.whl.acc = s.offGens.whl.acc)

theorem State.regGet_of_offGens {s t : State} (h : t.offGens = s.offGens) {k : Nat} (hk : k < 0x1200) : t.regGet k = s.regGet k := by
  refine State.regGet_congr k ?_ (State.build_of_offGens h) (State.imgRegs_of_offGens h)
  have hr : t.regs.filter (fun e => decide (e.1 < 0x1200)) = s.regs.filter fun e => decide (e.1 < 0x1200) := congrArg State.regs h
  rw [← Tab.get_filter t.regs k (fun k => decide (k < 0x1200)) (by simpa using hk), ← Tab.get_filter s.regs k (fun k => decide (k < 0x1200)) (by simpa using hk), hr]

theorem State.offGens_fset (s : State) (f : RF) (v : Nat) (hw : f.lo + f.w ≤ 32) (hf : 0x1200 ≤ f.addr) : (s.fset f v).offGens = s.offGens := by
  rw [State.fset_narrow _ _ _ hw]
  simp only [State.offGens, State.regSet]
  rw [Tab.filter_set _ _ _ _ fun _ => decide_eq_false (by omega)]

@[simp] theorem State.offGens_setGen (s : State) (g : Nat) (x : Gen) : (s.setGen g x).offGens = s.offGens := rfl
@[simp] theorem State.offGens_emit (s : State) (e : Emission) : (s.emit e).offGens = s.offGens := rfl
@[simp] theorem State.offGens_quietSet (s : State) (l : Tab Unit) : (s.quietSet l).offGens = s.offGens := rfl

theorem State.offGens_quietDrive (s : State) (g : Nat) (on : Bool) : (s.quietDrive g on).offGens = s.offGens := by
  simp only [State.quietDrive]
  repeat' split
  all_goals simp

theorem State.offGens_genSkip (s : State) (old new g : Nat) : (s.genSkip old new g).offGens = s.offGens := by
  simp only [State.genSkip]
  repeat' split
  all_goals first
    | rfl
    | rw [State.offGens_quietDrive, State.fadd, State.offGens_fset _ _ _ (by simp [RF.at, Reg.WHL_GEN_SKIPPED]) (by simp [RF.at, Reg.WHL_GEN_SKIPPED]; omega),
        State.offGens_setGen]

/-- What each step of a fold keeps, the fold keeps. -/
theorem foldl_invariant {β γ : Type} (φ : State → γ) (l : List β) (f : State → β → State) (s : State) (h : ∀ s, ∀ x ∈ l, φ (f s x) = φ s) : φ (l.foldl f s) = φ s := by
  induction l generalizing s with
  | nil => rfl
  | cons x l ih => rw [List.foldl_cons, ih _ fun s y hy => h s y (List.mem_cons_of_mem _ hy), h s x (List.mem_cons_self ..)]

theorem State.side_heartbeats (s : State) : s.heartbeats.side = s.side := by
  refine foldl_side _ _ _ fun t p _ => ?_
  unfold State.heartbeat
  split
  · rw [State.side_send]; rfl
  · rfl

/-- FT moves by `d` ticks, the registers below the generators' stay, and so do the build and the queue. -/
theorem State.shiftFt_spec (s : State) (d : Int) :
    (s.shiftFt d).whl.acc = min ((s.whl.acc : Int) + d).toNat (ftMax * 2 ^ 40) ∧ (s.shiftFt d).build = s.build ∧ (s.shiftFt d).pending = s.pending ∧
      ∀ k < 0x1200, quietWord k = true → (s.shiftFt d).regGet k = s.regGet k := by
  unfold State.shiftFt
  extract_lets old whl1 s1 s2 moved along whl2 drf2 s3
  have hs2 : s2.offGens = s1.offGens := by
    show (ite _ _ _ : State).offGens = _
    split
    · exact foldl_invariant State.offGens _ _ _ fun t g _ => State.offGens_genSkip ..
    · rfl
  have hside : (s3.traceResync.heartbeats).side = s3.traceResync.side := State.side_heartbeats _
  have hbuild : s2.build = s1.build := State.build_of_offGens hs2
  have hpending : s2.pending = s1.pending := State.pending_of_offGens hs2
  refine ⟨(State.whl_acc_of_side hside).trans (State.whl_acc_of_offGens hs2), (State.build_of_side hside).trans hbuild,
    (State.pending_of_side hside).trans hpending, fun k hk hq => ?_⟩
  exact (State.regGet_of_side hside k hq).trans (State.regGet_of_offGens hs2 hk)

/-! ### WHL_STEP, WHL_ASYM and GEN_ARM (R87, R93, R107) -/

theorem State.whlStep_forward {s : State} {v : W32} (hassist : s.assisted 0 = true) (hd : 0 < sext 32 v.toNat) :
    s.whlStep v = (s.bump Reg.WHL_STATUS_STEPS).shiftFt (sext 32 v.toNat * 2 ^ 40) := by
  simp only [State.whlStep, hassist, Bool.not_true, Bool.false_eq_true, false_or]
  rw [if_neg (by omega), if_pos hd]
  rfl

theorem whlStep_forward_next {s : State} {a : Acc} {v : W32} (ha : Reaches s a) (hal : a.bitAlias = 0) (hassist : s.assisted 0 = true)
    (hd : 0 < sext 32 v.toNat) :
    ∃ t, exec (.whlStep a v) s = .next t ∧ t.ft = min (s.ft + (sext 32 v.toNat).toNat) (2 ^ 64 - 1) ∧
      t.fget Reg.WHL_STATUS_STEPS = (s.fget Reg.WHL_STATUS_STEPS + 1) % 65536 := by
  set u := s.bump Reg.WHL_STATUS_STEPS with hu
  obtain ⟨hacc, hbuild, hpending, hregs⟩ := u.shiftFt_spec (sext 32 v.toNat * 2 ^ 40)
  have hbody : (if a.bitAlias = 0 then s.whlStep v else s) = u.shiftFt (sext 32 v.toNat * 2 ^ 40) := by
    rw [if_pos hal, State.whlStep_forward hassist hd]
  obtain ⟨t, ht, hside⟩ := regAccess_side ha (.whlStep a v) 1 (fun s => if a.bitAlias = 0 then s.whlStep v else s)
    (by rw [hbody, hbuild]; simp [u]) (by rw [hbody, hpending]; simp [u])
  rw [hbody] at hside
  refine ⟨t, ht, ?_, ?_⟩
  · rw [State.ft_of_side hside, State.ft, hacc, State.ft, hu, State.bump_whl, ftMax]
    omega
  · rw [State.fget_of_side hside _ (by decide) (.inl (by decide)),
      State.fget_congr (s := u) _ (hregs _ (by decide) (by decide)) (.inl (by decide)), hu, State.bump, State.fadd, State.fget_fset _ _ _ (by decide)]
    rfl

/-- A state without its registers and its counter of free values. -/
def State.offRegs (s : State) : State := { s with regs := [], fresh := 0 }

theorem State.whl_of_offRegs {s t : State} (h : t.offRegs = s.offRegs) : t.whl = s.whl := (congrArg State.whl h : t.offRegs.whl = s.offRegs.whl)
theorem State.build_of_offRegs {s t : State} (h : t.offRegs = s.offRegs) : t.build = s.build := (congrArg State.build h : t.offRegs.build = s.offRegs.build)
theorem State.pending_of_offRegs {s t : State} (h : t.offRegs = s.offRegs) : t.pending = s.pending :=
  (congrArg State.pending h : t.offRegs.pending = s.offRegs.pending)

@[simp] theorem State.offRegs_fset (s : State) (f : RF) (v : Nat) : (s.fset f v).offRegs = s.offRegs := by unfold State.fset; split <;> rfl
@[simp] theorem State.offRegs_freeDiv (s : State) (a : Int) (b : Nat) : (s.freeDiv a b).2.offRegs = s.offRegs := by
  unfold State.freeDiv; split <;> rfl

@[simp] theorem State.offRegs_applyRate (s : State) : s.applyRate.offRegs = s.offRegs := by
  simp only [State.applyRate]
  split <;> simp

/-- A backward step is made by slewing once the block runs. -/
theorem whlStep_backward_next {s : State} {a : Acc} {v : W32} (ha : Reaches s a) (hal : a.bitAlias = 0) (hassist : s.assisted 0 = true)
    (hd : sext 32 v.toNat < 0) (hrun : s.running = true) :
    ∃ t, exec (.whlStep a v) s = .next t ∧ t.ft = s.ft ∧ t.whl.slew = s.whl.slew - sext 32 v.toNat * 2 ^ 40 := by
  set u := setWhl s fun w => { w with slew := s.whl.slew - sext 32 v.toNat * 2 ^ 40 }
  have hbody : (if a.bitAlias = 0 then s.whlStep v else s) = u.applyRate := by
    simp only [State.whlStep, hassist, Bool.not_true, Bool.false_eq_true, false_or]
    rw [if_pos hal, if_neg (by omega), if_neg (by omega), if_pos hrun]
    rfl
  have hu : u.applyRate.offRegs = u.offRegs := u.offRegs_applyRate
  have hwhl := State.whl_of_offRegs hu
  obtain ⟨t, ht, hside⟩ := regAccess_side ha (.whlStep a v) 1 (fun s => if a.bitAlias = 0 then s.whlStep v else s)
    (by rw [hbody]; exact (State.build_of_offRegs hu).trans rfl) (by rw [hbody]; exact (State.pending_of_offRegs hu).trans rfl)
  rw [hbody] at hside
  refine ⟨t, ht, ?_, ?_⟩
  · rw [State.ft_of_side hside, State.ft, hwhl]
    rfl
  · rw [State.whl_slew_of_side hside, hwhl]
    rfl

theorem whlAsymWrite_sets {s : State} {a : Acc} (v : W32) {k : Nat} (ha : Reaches s a) (hw : s.work = []) (hk : k < if s.build.isHub then 4 else 2) :
    exec (.whlAsymWrite a k v) s = .next ((s.regSet (Reg.WHL_ASYM_ASYM.at k).addr
      (writtenWord .rw 0xFFFFFFFF a.bitAlias (s.regGet (Reg.WHL_ASYM_ASYM.at k).addr) v)).answer a) := by
  have hbody : s.asymWrite a k v = s.regSet (Reg.WHL_ASYM_ASYM.at k).addr (s.rwWrite (Reg.WHL_ASYM_ASYM.at k).addr 0xFFFFFFFF a v) := if_pos hk
  exact (regAccess_next ha _ 1 _ (by simp [hbody, hw]) (by simp [hbody]) (by simp [hbody])).trans (by rw [hbody]; rfl)

/-- A write that sets ARM arms the generator with the kind that the write gives it. -/
theorem State.genWrite_arms {s : State} {a : Acc} {n : Nat} {v : W32} (hn : n < 12) (harm : bit (s.mwWrite (0x1200 + 32 * n) 7 a v) 2 = true) :
    s.genWrite a n v = (s.regSet (0x1200 + 32 * n) (mergeBits 3 (s.regGet (0x1200 + 32 * n)) (s.mwWrite (0x1200 + 32 * n) 7 a v))).genArm n := by
  simp only [State.genWrite, if_neg (Nat.not_le.2 hn), harm, if_true]

theorem genArm_arms {s : State} {a : Acc} {n : Nat} (v : W32) (ha : Reaches s a) (hw : s.work = []) (hn : n < 12) :
    let key := 0x1200 + 32 * n
    let w := s.mwWrite key 7 a v
    let s1 := s.regSet key (mergeBits 3 (s.regGet key) w)
    bit w 2 = true →
      (genOk (s1.shadow n) = true → s.ft < (s1.shadow n).apply →
        exec (.genArm a n v) s = .next (((s1.fset (Reg.WHL_GEN_ERR.at n) 0).setGen n { s.gen n with pend := some (s1.shadow n) }).answer a)) ∧
      (genOk (s1.shadow n) = false → exec (.genArm a n v) s = .next ((s1.fset (Reg.WHL_GEN_ERR.at n) 1).answer a)) := by
  intro key w s1 harm
  have hbody : s.genWrite a n v = s1.genArm n := State.genWrite_arms hn harm
  refine ⟨fun hok hft => ?_, fun hbad => ?_⟩
  · have hft1 : ¬ (s1.shadow n).apply ≤ s1.ft := Nat.not_le.2 hft
    have hpend : s1.genArm n = (s1.fset (Reg.WHL_GEN_ERR.at n) 0).setGen n { s.gen n with pend := some (s1.shadow n) } := by
      simp only [State.genArm, hok, Bool.not_true, Bool.false_eq_true, if_false, if_neg hft1, State.gen, State.fset_whl]
      rfl
    rw [hpend] at hbody
    exact (regAccess_next ha _ 1 _ (by simp [hbody, s1, hw]) (by simp [hbody, s1]) (by simp [hbody, s1])).trans (by rw [hbody])
  · have herr : s1.genArm n = s1.fset (Reg.WHL_GEN_ERR.at n) 1 := by
      simp only [State.genArm, hbad, Bool.not_false, if_true]
    rw [herr] at hbody
    exact (regAccess_next ha _ 1 _ (by simp [hbody, s1, hw]) (by simp [hbody, s1]) (by simp [hbody, s1])).trans (by rw [hbody])

/-- Settles O23, register by register. -/
theorem modesAndClocksAreWritten : Obligations.ModesAndClocksAreWritten := by
  unfold Obligations.ModesAndClocksAreWritten
  intro s a v ha hw
  exact ⟨fnmodeWrite_pends v ha hw, fun hal hassist hslew hd => whlAdjWrite_rates v ha hw hal hassist hslew hd,
    fun hal hassist => ⟨fun hd => whlStep_forward_next ha hal hassist hd, fun hd hrun => whlStep_backward_next ha hal hassist hd hrun⟩,
    fun k hk => whlAsymWrite_sets v ha hw hk, fun n hn => genArm_arms v ha hw hn⟩

end Sys2Proof.Machine
end

section
/-! SUPPORT. Generators (R106 to R109, R223, R229, R297): what a set in force, a strobe, a session's turn and a quiet window leave, and the instants made of them. -/

namespace Sys2Proof.Machine

/-! ### Generator entries -/

theorem State.gen_congr {s t : State} (h : t.whl.gens = s.whl.gens) (g : Nat) : t.gen g = s.gen g := by unfold State.gen; rw [h]
@[simp] theorem State.gen_setGen (s : State) (g : Nat) (x : Gen) : (s.setGen g x).gen g = x := by simp [State.gen, State.setGen, Tab.getD]
@[simp] theorem State.gen_fset (s : State) (f : RF) (v g : Nat) : (s.fset f v).gen g = s.gen g := State.gen_congr (by simp) g
@[simp] theorem State.gen_emit (s : State) (e : Emission) (g : Nat) : (s.emit e).gen g = s.gen g := rfl
@[simp] theorem State.gen_quietSet (s : State) (l : Tab Unit) (g : Nat) : (s.quietSet l).gen g = s.gen g := rfl

theorem State.work_of_offGens {s t : State} (h : t.offGens = s.offGens) : t.work = s.work :=
  (congrArg State.work h : t.offGens.work = s.offGens.work)

/-- A meaning that touches the generators and what they drive owes nothing. -/
theorem act_offGens {s t : State} (hw : s.work = []) (h : t.offGens = s.offGens) : act s t = .next t :=
  act_of_calm s t ((State.work_of_offGens h).trans hw) (State.build_of_offGens h) (State.pending_of_offGens h)

/-! ### Quiet windows (R106, R109, R253) -/

@[simp] theorem State.gen_quietDrive (s : State) (g : Nat) (on : Bool) : (s.quietDrive g on).gen g = { s.gen g with quiet := on } := by
  simp only [State.quietDrive]
  split
  · rename_i hon
    rw [← hon]
  · repeat' split
    all_goals simp

/-- A Leaf drives the signal of a quiet window that opens or closes. -/
theorem State.quietDrive_pin {s : State} {g : Nat} {on : Bool} (hleaf : s.build = .leaf) (hon : (s.gen g).quiet ≠ on) (hg : 8 ≤ g) :
    .pin (.quiet (g - 8)) on ∈ (s.quietDrive g on).out := by
  have hhub : s.build.isHub = false := by rw [hleaf]; rfl
  simp only [State.quietDrive, if_neg hon, hhub, hg, decide_true, Bool.not_false, Bool.and_self, if_true]
  repeat' split
  all_goals exact List.mem_cons_self ..

/-- A window that opens holds the meter's regime, where the mask names its generator, and cuts its tokens (R253). -/
theorem State.quietDrive_opens {s : State} {g : Nat} (hleaf : s.build = .leaf) (hquiet : (s.gen g).quiet = false)
    (hmask : s.fget Reg.REEL_QUIET_GENMASK / 2 ^ g % 2 = 1) :
    (s.quietDrive g true).hif.quietOpen = Tab.set s.hif.quietOpen g () ∧ (s.quietDrive g true).meter.tokens ≤ 64 * 800 := by
  have hhub : s.build.isHub = false := by rw [hleaf]; rfl
  have hon : (s.gen g).quiet ≠ true := by simp [hquiet]
  have hdrive : s.quietDrive g true = State.quietSet (if 8 ≤ g then (s.setGen g { s.gen g with quiet := true }).emit (.pin (.quiet (g - 8)) true)
      else s.setGen g { s.gen g with quiet := true }) (Tab.set s.hif.quietOpen g ()) := by
    simp only [State.quietDrive, if_neg hon, hhub, Bool.not_false, Bool.true_and, decide_eq_true_eq, Bool.false_eq_true, if_false, if_true, if_pos hmask]
    split <;> rfl
  have hne : (Tab.set s.hif.quietOpen g ()).isEmpty = false := by
    cases h : Tab.set s.hif.quietOpen g () with
    | nil => have := Tab.get_set_self s.hif.quietOpen g (); rw [h] at this; cases this
    | cons e l => rfl
  rw [hdrive]
  refine ⟨rfl, (Nat.min_le_left ..).trans ?_⟩
  simp [State.meterCap, State.quiet, hne]

theorem State.quietDrive_closes {s : State} {g : Nat} (hleaf : s.build = .leaf) (hquiet : (s.gen g).quiet = true) :
    (s.quietDrive g false).hif.quietOpen = Tab.del s.hif.quietOpen g := by
  have hhub : s.build.isHub = false := by rw [hleaf]; rfl
  simp only [State.quietDrive, hquiet, hhub, Bool.not_false, Bool.true_and, decide_eq_true_eq, Bool.false_eq_true, if_false, Bool.true_eq_false]
  split <;> rfl

/-! ### A pending set takes over (R107) -/

theorem State.offGens_genStart (s : State) (g : Nat) (x : GenSet) (b : Nat) : (s.genStart g x b).offGens = s.offGens := by
  have hrunning (u : State) (v : Nat) : (u.fset (Reg.WHL_GEN_RUNNING.at g) v).offGens = u.offGens :=
    State.offGens_fset _ _ _ (by simp [RF.at, Reg.WHL_GEN_RUNNING]) (by simp [RF.at, Reg.WHL_GEN_RUNNING])
  simp only [State.genStart]
  split <;> rw [hrunning, State.offGens_setGen, State.offGens_quietDrive]

theorem State.flag_fset_RUNNING (s : State) (g v : Nat) : (s.fset (Reg.WHL_GEN_RUNNING.at g) v).flag (Reg.WHL_GEN_RUNNING.at g) = (v % 2 != 0) := by
  rw [State.flag, State.fget_fset _ _ _ (by simp [RF.at, Reg.WHL_GEN_RUNNING])]
  rfl

theorem genApply_takes {s : State} {g : Nat} (hw : s.work = []) {x : GenSet} (hpend : (s.gen g).pend = some x) (hft : x.apply ≤ s.ft) :
    ∃ t, exec (.genApply g) s = .next t ∧
      (x.kind = 0 → t.gen g = { s.gen g with run := none, pend := none, quiet := false } ∧ t.flag (Reg.WHL_GEN_RUNNING.at g) = false) ∧
      (x.kind ≠ 0 → t.flag (Reg.WHL_GEN_RUNNING.at g) = true ∧ t.gen g =
        { run := some x, pend := none, quiet := false, nextOpen := x.apply + x.offset, nextClose := x.apply + x.offset + x.length
          nextMain := if x.kind = 1 then x.apply + x.offset + x.length else x.apply }) := by
  have hexec : exec (.genApply g) s = act s (s.genStart g x x.apply) := by
    show execGenApply g s = _
    simp only [execGenApply, hpend, if_neg (Nat.not_lt.2 hft)]
  refine ⟨_, hexec.trans (act_offGens hw (s.offGens_genStart g x x.apply)), fun hkind => ?_, fun hkind => ?_⟩
  · simp only [State.genStart, if_pos hkind]
    exact ⟨by simp, State.flag_fset_RUNNING ..⟩
  · simp only [State.genStart, if_neg hkind]
    exact ⟨State.flag_fset_RUNNING .., by simp⟩

/-! ### Slots and quiet windows (R106, R109) -/

section Calendar
variable {s : State} {g : Nat} {x : GenSet} (hw : s.work = []) (hrun : s.genRuns g 2 = some x)
include hw hrun

theorem slotPulse_fires (hft : (s.gen g).nextMain ≤ s.ft) :
    ∃ t, exec (.slotPulse g) s = .next t ∧ t.gen g = { s.gen g with nextMain := (s.gen g).nextMain + x.period } ∧
      (s.build = .leaf → 8 ≤ g → .pulse (.slot (g - 8)) ∈ t.out) := by
  set u := s.setGen g { s.gen g with nextMain := (s.gen g).nextMain + x.period }
  have hexec : exec (.slotPulse g) s = act s (if !s.build.isHub && decide (8 ≤ g) then u.emit (.pulse (.slot (g - 8))) else u) := by
    show execSlotPulse g s = _
    simp only [execSlotPulse, hrun, if_neg (Nat.not_lt.2 hft)]
    rfl
  refine ⟨_, hexec.trans (act_offGens hw (by split <;> rfl)), by split <;> simp [u], fun hleaf hg => ?_⟩
  rw [if_pos (by simp [hleaf, hg, Build.isHub])]
  exact List.mem_cons_self ..

theorem quietWindowOpen_opens (hlen : x.length ≠ 0) (hft : (s.gen g).nextOpen ≤ s.ft) :
    ∃ t, exec (.quietWindowOpen g) s = .next t ∧ t.gen g = { s.gen g with nextOpen := (s.gen g).nextOpen + x.period, quiet := true } ∧
      (s.build = .leaf → (s.gen g).quiet = false →
        (8 ≤ g → .pin (.quiet (g - 8)) true ∈ t.out) ∧
        (s.fget Reg.REEL_QUIET_GENMASK / 2 ^ g % 2 = 1 → t.hif.quietOpen = Tab.set s.hif.quietOpen g () ∧ t.meter.tokens ≤ 64 * 800)) := by
  set u := s.setGen g { s.gen g with nextOpen := (s.gen g).nextOpen + x.period } with hu
  have hexec : exec (.quietWindowOpen g) s = act s (u.quietDrive g true) := by
    show execQuietWindowOpen g s = _
    simp only [execQuietWindowOpen, hrun, if_neg (not_or.2 ⟨hlen, Nat.not_lt.2 hft⟩)]
    rfl
  have hquiet : (u.gen g).quiet = (s.gen g).quiet := by simp [u]
  refine ⟨_, hexec.trans (act_offGens hw (State.offGens_quietDrive u g true)), by simp [u], fun hleaf hclosed => ⟨fun hg => ?_, fun hmask => ?_⟩⟩
  · exact State.quietDrive_pin (s := u) hleaf (by simp [hquiet, hclosed]) hg
  · exact State.quietDrive_opens (s := u) hleaf (hquiet.trans hclosed) hmask

theorem quietWindowClose_closes (hlen : x.length ≠ 0) (hft : (s.gen g).nextClose ≤ s.ft) :
    ∃ t, exec (.quietWindowClose g) s = .next t ∧ t.gen g = { s.gen g with nextClose := (s.gen g).nextClose + x.period, quiet := false } ∧
      (s.build = .leaf → (s.gen g).quiet = true →
        (8 ≤ g → .pin (.quiet (g - 8)) false ∈ t.out) ∧ t.hif.quietOpen = Tab.del s.hif.quietOpen g) := by
  set u := s.setGen g { s.gen g with nextClose := (s.gen g).nextClose + x.period } with hu
  have hexec : exec (.quietWindowClose g) s = act s (u.quietDrive g false) := by
    show execQuietWindowClose g s = _
    simp only [execQuietWindowClose, hrun, if_neg (not_or.2 ⟨hlen, Nat.not_lt.2 hft⟩)]
    rfl
  have hquiet : (u.gen g).quiet = (s.gen g).quiet := by simp [u]
  refine ⟨_, hexec.trans (act_offGens hw (State.offGens_quietDrive u g false)), by simp [u], fun hleaf hopen => ⟨fun hg => ?_, ?_⟩⟩
  · exact State.quietDrive_pin (s := u) hleaf (by simp [hquiet, hopen]) hg
  · exact State.quietDrive_closes (s := u) hleaf (hquiet.trans hopen)

end Calendar

/-! ### What sessions leave of the Whorl and the Reel -/

/-- From `s` to `t` the Whorl and the Reel stay, and no emission is taken back. -/
structure Keeps (s t : State) : Prop where
  whl : t.whl = s.whl
  reel : t.reel = s.reel
  out : ∀ e ∈ s.out, e ∈ t.out

theorem Keeps.refl (s : State) : Keeps s s := ⟨rfl, rfl, fun _ h => h⟩
theorem Keeps.trans {s t u : State} (h : Keeps s t) (h' : Keeps t u) : Keeps s u :=
  ⟨h'.whl.trans h.whl, h'.reel.trans h.reel, fun e he => h'.out e (h.out e he)⟩

theorem Keeps.foldl {β : Type} {s t : State} (h : Keeps s t) (l : List β) (f : State → β → State) (hf : ∀ t, ∀ x ∈ l, Keeps t (f t x)) :
    Keeps s (l.foldl f t) := by
  induction l generalizing t with
  | nil => exact h
  | cons x l ih => exact ih (h.trans (hf t x (List.mem_cons_self ..))) fun t y hy => hf t y (List.mem_cons_of_mem _ hy)

section Keeps
variable {s t : State} (h : Keeps s t)
include h

theorem Keeps.fset (f : RF) (v : Nat) : Keeps s (t.fset f v) := h.trans ⟨by simp, by simp, by simp⟩
theorem Keeps.bump (f : RF) : Keeps s (t.bump f) := h.fset ..
theorem Keeps.setSess (n : Nat) (x : Sess) : Keeps s (t.setSess n x) := h.trans ⟨rfl, rfl, fun _ h => h⟩
theorem Keeps.setModel (k : Nat) (m : Model) : Keeps s (t.setModel k m) := h.trans ⟨rfl, rfl, fun _ h => h⟩
theorem Keeps.led (k i : Nat) (c : LedCol) (n : Nat) : Keeps s (t.led k i c n) := h.trans ⟨by simp, by simp, fun _ => State.out_led _ _ _ _⟩
theorem Keeps.fnSwitch (b : Nat) : Keeps s (t.fnSwitch b) := by
  refine h.trans ⟨?_, ?_, fun _ => State.out_fnSwitch _⟩ <;> (simp only [State.fnSwitch]; split <;> simp)
theorem Keeps.faultIrq : Keeps s t.faultIrq := by
  refine h.trans ⟨?_, ?_, fun _ => State.out_irq _ _⟩ <;> (unfold State.faultIrq State.irq; split <;> rfl)
theorem Keeps.completeOk (r : Running) (v : Nat) : Keeps s (t.completeOk r v) :=
  h.trans ⟨by simp, by simp, fun e => State.complete_out _ _ _ _ _ e⟩

theorem Keeps.setWant (v : Bool) : Keeps s (t.setWant v) := by
  unfold State.setWant
  split
  · split
    · exact h
    · exact ((h.fset _ _).bump _).faultIrq
  · exact h.fset _ _

theorem Keeps.evictFor (m : Model) (p : List MShare) : Keeps s (t.evictFor m p) := by
  refine h.foldl _ _ fun u x _ => ?_
  simp only
  split
  · exact .refl u
  · split
    · refine (Keeps.refl u).foldl _ _ fun u v _ => ?_
      split
      · exact ((Keeps.refl u).setModel _ _).bump _
      · exact .refl u
    · exact .refl u

/-- The eviction rule works on models and on Distaff's own registers. -/
theorem Keeps.evictRule : Keeps s t.evictRule := by
  have hsw := h.fnSwitch 6
  simp only [State.evictRule]
  repeat' split
  · exact hsw.setWant _
  · exact hsw
  · exact hsw
  · exact (hsw.setWant _).setModel _ _
  · exact hsw.setWant _
  · exact hsw.setWant _
  · exact hsw.setWant _
  · exact (hsw.evictFor _ _).setModel _ _

theorem Keeps.registerModel (k : Nat) (m : Model) : Keeps s (t.registerModel k m) := by
  simp only [State.registerModel]
  split
  · exact ((h.fset _ _).setModel _ _).completeOk _ _
  · exact (h.fset _ _).setModel _ _

theorem Keeps.kick : Keeps s t.kick := by
  unfold State.kick
  repeat' split
  · exact h
  · exact h.setModel _ _
  · exact (h.setModel _ _).evictRule
  · exact h.setModel _ _
  · exact h.registerModel _ _
  · exact h.evictRule

theorem Keeps.gotWork (n : Nat) : Keeps s (t.gotWork n) := by
  unfold State.gotWork
  repeat' split
  · exact h.kick
  · exact h
  · exact h

theorem Keeps.dynFail : Keeps s t.dynFail := by
  unfold State.dynFail
  split
  · exact h.bump _
  · exact h

theorem Keeps.buildBatch (n ft : Nat) (recs : List ChildRec) (late : Bool) : Keeps s (t.buildBatch n ft recs late) := by
  unfold State.buildBatch
  split
  · split
    · exact h
    · split
      · refine Keeps.led (Keeps.setSess ?_ _ _) _ _ _ _
        split
        · exact h.dynFail
        · exact h
      · exact (h.setSess _ _).led _ _ _ _
  · exact h

theorem Keeps.closeBatch (n : Nat) : Keeps s (t.closeBatch n) := by
  unfold State.closeBatch
  repeat' split
  · exact (h.setSess _ _).buildBatch _ _ _ _
  · exact h
  · exact h

theorem Keeps.addRecord (n : Nat) (x : Sess) (g : Gather) (r : ChildRec) : Keeps s (t.addRecord n x g r) := by
  simp only [State.addRecord]
  split
  · exact (h.setSess _ _).closeBatch _
  · exact h.setSess _ _

theorem Keeps.stopCheck (n : Nat) : Keeps s (t.stopCheck n) := by
  have hcheck {u : State} (hu : Keeps s u) (k : Nat) : Keeps s (u.checkBound k) := by
    unfold State.checkBound
    split
    · exact hu
    · exact hu.fset _ _
  simp only [State.stopCheck]
  repeat' split
  · exact h.setSess _ _
  · exact hcheck (h.setSess _ _) _
  · exact h.trans ⟨rfl, rfl, fun _ h => h⟩
  · exact h
  · exact h

theorem Keeps.childTrigger (n ft : Nat) : Keeps s (t.childTrigger n ft) := by
  unfold State.childTrigger
  split
  · exact h
  extract_lets s0
  have h0 : Keeps s s0 := by
    simp only [s0]
    split
    · split
      · exact h.closeBatch _
      · exact h
    · exact h
  split
  · exact h0
  split
  · exact h0
  extract_lets w mine old s1 s2 s3
  have h1 : Keeps s s1 := by
    simp only [s1]
    split
    · exact h0.closeBatch _
    · exact h0
  have h2 : Keeps s s2 := by
    show Keeps s (State.modSess _ _ _)
    unfold State.modSess
    split
    · exact h1.setSess _ _
    · exact h1
  have h3 : Keeps s s3 := h2.foldl _ _ fun u r _ => (Keeps.refl u).buildBatch _ _ _ _
  refine Keeps.gotWork (h3.foldl _ _ fun u r _ => ?_) n
  split
  · split
    · exact (Keeps.refl u).addRecord _ _ _ _
    · exact (Keeps.refl u).buildBatch _ _ _ _
  · exact .refl u

theorem Keeps.sessTrigger (g ft : Nat) : Keeps s (t.sessTrigger g ft) := by
  refine h.foldl _ _ fun u n _ => ?_
  split
  · rename_i x _
    have h1 : Keeps u (if x.state = ssSTARTING ∧ x.startFt ≤ ft then u.setSess n { x with state := ssRUNNING } else u) := by
      split
      · exact (Keeps.refl u).setSess _ _
      · exact .refl u
    refine Keeps.stopCheck ?_ n
    split
    · exact h1.childTrigger _ _
    · exact h1
  · exact .refl u

end Keeps

/-! ### Strobes (R223, R229) -/

/-- A state without the Reel, its count of refused strobes, and what owed effects touch. -/
def State.offReel (s : State) : State :=
  { s.side with reel := {}, regs := s.side.regs.filter fun e => e.1 != Reg.REEL_STATUS_OVERRUNS.addr }

theorem State.offReel_of_side {s t : State} (h : t.side = s.side) : t.offReel = s.offReel := by unfold State.offReel; rw [h]

theorem State.whl_gens_of_offReel {s t : State} (h : t.offReel = s.offReel) : t.whl.gens = s.whl.gens :=
  (congrArg (fun x => x.whl.gens) h : t.offReel.whl.gens = s.offReel.whl.gens)
theorem State.crd_of_offReel {s t : State} (h : t.offReel = s.offReel) : t.crd = s.crd := (congrArg State.crd h : t.offReel.crd = s.offReel.crd)

theorem State.regGet_of_offReel {s t : State} (h : t.offReel = s.offReel) {k : Nat} (hk : quietWord k = true) (hne : k ≠ Reg.REEL_STATUS_OVERRUNS.addr) :
    t.regGet k = s.regGet k := by
  have hbuild : t.build = s.build := (congrArg State.build h : t.offReel.build = s.offReel.build)
  have himg : t.imgRegs = s.imgRegs := (congrArg State.imgRegs h : t.offReel.imgRegs = s.offReel.imgRegs)
  have hget (u : State) : Tab.get u.offReel.regs k = Tab.get u.regs k :=
    (Tab.get_filter u.side.regs k (· != Reg.REEL_STATUS_OVERRUNS.addr) (by simpa using hne)).trans (Tab.get_filter u.regs k quietWord hk)
  exact State.regGet_congr k (by rw [← hget t, ← hget s, h]) hbuild himg

theorem State.offReel_bump_OVERRUNS (s : State) : (s.bump Reg.REEL_STATUS_OVERRUNS).offReel = s.offReel := by
  rw [State.bump, State.fadd, State.fset_narrow _ _ _ (by decide)]
  simp only [State.offReel, State.side, State.regSet, List.filter_filter]
  rw [Tab.filter_set _ _ _ _ fun _ => by simp]

theorem State.offReel_strobe (s : State) (sets : List Nat) (opening : Bool) (cut : Option Nat) : (s.strobe sets opening cut).offReel = s.offReel := by
  have hsets (u : State) (b : Bool) : (sets.foldl (fun s n => s.setRset n { s.rset n with gapDue := b }) u).offReel = u.offReel :=
    foldl_invariant State.offReel _ _ _ fun _ _ _ => rfl
  unfold State.strobe
  split
  · rfl
  extract_lets rd count clear shares l bumped reel1 s1 r
  have hcount (u : State) : (count u).offReel = u.offReel := by
    simp only [count]
    split
    · rfl
    · exact State.offReel_of_side (State.side_led ..)
  have hclear (u : State) : (clear u).offReel = u.offReel := by
    simp only [clear]
    split
    · rfl
    · exact hsets u false
  split
  · rw [hclear, hcount]; rfl
  · split
    · refine (hsets s1 true).trans ?_
      simp only [s1]
      split
      · rfl
      · exact s.offReel_bump_OVERRUNS
    · rw [hclear, hcount]; rfl

/-- A set in a strobe, with the list and the GAP flag that it has there. -/
def State.strobed (s : State) (opening : Bool) (n : Nat) : RdSet :=
  { set_ := n, sels := (s.rset n).sels, gap := (s.rset n).gapDue && !opening, stale := false, opening }

/-- With no read-out open a strobe starts one, of the sets given. -/
theorem State.strobe_first {s : State} {sets : List Nat} (opening : Bool) (hoff : s.reelOff = false) (hsets : sets ≠ []) (hreads : s.reel.reads = []) :
    (s.strobe sets opening none).reel.reads =
        [{ ft := s.ft, locked := s.locked, shadow := s.reel.shadow, cut := none, sets := sets.map (s.strobed opening), stats := s.reel.stats }] ∧
      .strobe (ringReads (sets.map (s.strobed opening))) ∈ (s.strobe sets opening none).out := by
  have hne : sets.isEmpty = false := by simpa using hsets
  unfold State.strobe
  rw [if_neg (by simp [hoff, hne])]
  extract_lets rd count clear shares l bumped reel1 s1 r
  have hshares : shares = false := by simp only [shares, hreads]; rfl
  have hclear (u : State) : (clear u).reel.reads = u.reel.reads ∧ (clear u).out = u.out := by
    simp only [clear]
    split
    · exact ⟨rfl, rfl⟩
    · exact ⟨foldl_invariant (fun u => u.reel.reads) _ _ _ fun _ _ _ => rfl, foldl_invariant State.out _ _ _ fun _ _ _ => rfl⟩
  have hcount (u : State) : (count u).reel.reads = u.reel.reads ∧ ∀ e ∈ u.out, e ∈ (count u).out := by
    simp only [count]
    split
    · exact ⟨rfl, fun _ h => h⟩
    · exact ⟨by simp, fun _ => State.out_led _ _ _ _⟩
  rw [hshares, if_neg (by decide), if_neg (by simp [hreads]), (hclear _).1, (hclear _).2, (hcount _).1]
  refine ⟨?_, (hcount _).2 _ (List.mem_cons_self ..)⟩
  show s.reel.reads ++ [r] = _
  rw [hreads]
  rfl

/-! ### Sessions at a trigger (R297) -/

/-- What a trigger makes of one session of its generator. -/
def State.sessTurn (s : State) (ft n : Nat) : State :=
  match s.sess n with
  | some x =>
    let s1 := if x.state = ssSTARTING ∧ x.startFt ≤ ft then s.setSess n { x with state := ssRUNNING } else s
    (if x.isChild then s1.childTrigger n ft else s1).stopCheck n
  | none => s

theorem State.sessTrigger_eq (s : State) (g ft : Nat) :
    s.sessTrigger g ft = ((s.crd.filter fun e => s.sessGen e.2 == g).map (·.1)).foldl (fun s n => s.sessTurn ft n) s := rfl

/-- No session is a CHILD session. -/
def NoChild (s : State) : Prop := ∀ e ∈ s.crd, e.2.isChild = false

theorem NoChild.sess {s : State} (h : NoChild s) {n : Nat} {x : Sess} (hx : s.sess n = some x) : x.isChild = false := h _ (Tab.mem_of_get hx)

theorem NoChild.setSess {s : State} (h : NoChild s) (n : Nat) {x : Sess} (hx : x.isChild = false) : NoChild (s.setSess n x) := by
  intro e he
  rcases Tab.mem_set he with rfl | he
  · exact hx
  · exact h e he

theorem State.checkBound_crd (s : State) (k : Nat) : (s.checkBound k).crd = s.crd := by
  unfold State.checkBound; split <;> simp

theorem NoChild.stopCheck {s : State} (h : NoChild s) (n : Nat) : NoChild (s.stopCheck n) := by
  unfold State.stopCheck
  split
  · rename_i x hx
    have hchild : x.isChild = false := h.sess hx
    have hset : NoChild (s.setSess n { x with state := ssOPEN }) := h.setSess n hchild
    simp only
    repeat' split
    · exact hset
    · unfold NoChild; rw [State.checkBound_crd]; exact hset
    · exact fun e he => h e (Tab.mem_del he)
    · exact h
  · exact h

theorem State.sess_setSess_ne (s : State) {m n : Nat} (x : Sess) (h : n ≠ m) : (s.setSess m x).sess n = s.sess n := Tab.get_set_ne _ _ h

theorem State.sess_stopCheck_ne (s : State) {m n : Nat} (h : n ≠ m) : (s.stopCheck m).sess n = s.sess n := by
  unfold State.stopCheck
  split
  · simp only
    repeat' split
    · exact s.sess_setSess_ne _ h
    · rw [State.sess, State.checkBound_crd]; exact s.sess_setSess_ne _ h
    · exact Tab.get_del_ne _ h
    · rfl
  · rfl

/-- A running session that is open is no matter of a look at stopping sessions. -/
theorem State.stopCheck_running {s : State} {n : Nat} {x : Sess} (hx : s.sess n = some x) (hstate : x.state = ssRUNNING) (hn : n < closedKey) :
    s.stopCheck n = s := by
  simp only [State.stopCheck, hx, hstate]
  rw [if_neg (by simp), if_neg fun h => Nat.not_le.2 hn h.1]

theorem NoChild.sessTurn {s : State} (h : NoChild s) (ft n : Nat) : NoChild (s.sessTurn ft n) := by
  unfold State.sessTurn
  split
  · rename_i x hx
    have hchild := h.sess hx
    simp only [hchild, Bool.false_eq_true, if_false]
    refine NoChild.stopCheck ?_ n
    split
    · exact h.setSess n hchild
    · exact h
  · exact h

theorem NoChild.sess_sessTurn_ne {s : State} (h : NoChild s) (ft : Nat) {m n : Nat} (hmn : n ≠ m) : (s.sessTurn ft m).sess n = s.sess n := by
  unfold State.sessTurn
  split
  · rename_i x hx
    simp only [h.sess hx, Bool.false_eq_true, if_false]
    rw [State.sess_stopCheck_ne _ hmn]
    split
    · exact s.sess_setSess_ne _ hmn
    · rfl
  · rfl

section Turn
variable {n ft : Nat} {y : Sess} (hn : n < closedKey) (hstate : y.state = ssSTARTING) (hft : y.startFt ≤ ft)
include hn hstate hft

/-- A session that waits for its start runs after its turn, and one that runs goes on. -/
theorem NoChild.sess_sessTurn {s : State} (h : NoChild s) (hs : s.sess n = some y ∨ s.sess n = some { y with state := ssRUNNING }) :
    (s.sessTurn ft n).sess n = some { y with state := ssRUNNING } := by
  rcases hs with hs | hs
  · have hset : (s.setSess n { y with state := ssRUNNING }).sess n = some { y with state := ssRUNNING } := Tab.get_set_self ..
    simp only [State.sessTurn, hs, h.sess hs, Bool.false_eq_true, if_false]
    rw [if_pos ⟨hstate, hft⟩, State.stopCheck_running hset rfl hn, hset]
  · simp only [State.sessTurn, hs]
    have hchild := h.sess hs
    rw [if_neg (by simp [hchild]), if_neg (by simp), State.stopCheck_running hs rfl hn, hs]

theorem sess_foldl_sessTurn (l : List Nat) {s : State} (h : NoChild s)
    (hs : (n ∈ l ∧ s.sess n = some y) ∨ s.sess n = some { y with state := ssRUNNING }) :
    (l.foldl (fun s n => s.sessTurn ft n) s).sess n = some { y with state := ssRUNNING } := by
  induction l generalizing s with
  | nil => exact hs.resolve_left (by simp)
  | cons m l ih =>
    refine ih (h.sessTurn ft m) ?_
    by_cases hm : n = m
    · subst hm
      exact .inr (h.sess_sessTurn hn hstate hft (hs.imp_left (·.2)))
    · rw [h.sess_sessTurn_ne ft hm]
      exact hs.imp_left fun ⟨hmem, hget⟩ => ⟨(List.mem_cons.1 hmem).resolve_left hm, hget⟩

theorem State.sessTrigger_starts {s : State} (h : NoChild s) (hs : s.sess n = some y) :
    (s.sessTrigger (s.sessGen y) ft).sess n = some { y with state := ssRUNNING } := by
  rw [State.sessTrigger_eq]
  refine sess_foldl_sessTurn hn hstate hft _ h (.inl ⟨?_, hs⟩)
  exact List.mem_map.2 ⟨(n, y), List.mem_filter.2 ⟨Tab.mem_of_get hs, by simp⟩, rfl⟩

end Turn

/-! ### Sample triggers and window openings -/

theorem quietWord_set_gen : ∀ n < 16, quietWord (Reg.REEL_SET_GEN.at n).addr = true := by decide

/-- What a step leaves of the generators, the Reel and the sessions is what its meaning leaves. -/
theorem act_parts (s t : State) : ∃ u, act s t = .next u ∧ u.whl.gens = t.whl.gens ∧ u.reel = t.reel ∧ u.crd = t.crd ∧ ∀ e ∈ t.out, e ∈ u.out :=
  ⟨_, rfl, State.whl_gens_of_side (s := t) (t := t.settle) (State.side_settle t), State.reel_of_side (s := t) (t := t.settle) (State.side_settle t),
    State.crd_of_side (s := t) (t := t.settle) (State.side_settle t), fun _ => State.out_settle⟩

section Sample
variable {s : State} {g : Nat} {x : GenSet} (hrun : s.genRuns g 1 = some x)
include hrun

theorem sampleTrigger_fires (hft : (s.gen g).nextMain ≤ s.ft) :
    ∃ t, exec (.sampleTrigger g) s = .next t ∧ t.gen g = { s.gen g with nextMain := (s.gen g).nextMain + x.period } ∧
      (s.reelOff = false → s.setsOf g false ≠ [] → s.reel.reads = [] →
        ∃ r, t.reel.reads = [r] ∧ r.ft = s.ft ∧ r.locked = s.locked ∧ r.cut = none ∧ r.sets.map (·.set_) = s.setsOf g false ∧
          (∀ q ∈ r.sets, q.sels = (s.rset q.set_).sels ∧ q.gap = (s.rset q.set_).gapDue ∧ q.opening = false) ∧ .strobe (ringReads r.sets) ∈ t.out) ∧
      ((∀ e ∈ s.crd, e.2.isChild = false) → ∀ n y, n < 65536 → s.sess n = some y → s.sessGen y = g → y.state = 2 → y.startFt ≤ s.ft →
        t.sess n = some { y with state := 3 }) := by
  set u := s.setGen g { s.gen g with nextMain := (s.gen g).nextMain + x.period } with hu
  set v := u.strobe (s.setsOf g false) false none with hv
  have hexec : exec (.sampleTrigger g) s = act s (v.sessTrigger g s.ft) := by
    show execSampleTrigger g s = _
    simp only [execSampleTrigger, hrun, if_neg (Nat.not_lt.2 hft)]
    rfl
  have hoff : v.offReel = u.offReel := State.offReel_strobe ..
  have hkeeps : Keeps v (v.sessTrigger g s.ft) := (Keeps.refl v).sessTrigger g s.ft
  obtain ⟨t, ht, hgens, hreel, hcrd, hout⟩ := act_parts s (v.sessTrigger g s.ft)
  refine ⟨t, hexec.trans ht, ?_, fun hreelOn hsets hreads => ?_, fun hchild n y hn hsess hgen hstate hstart => ?_⟩
  · rw [State.gen_congr (s := u) (hgens.trans ((congrArg Whorl.gens hkeeps.whl).trans (State.whl_gens_of_offReel hoff))), hu, State.gen_setGen]
  · obtain ⟨hr, hemit⟩ := State.strobe_first (s := u) false hreelOn hsets hreads
    refine ⟨_, (congrArg Reel.reads (hreel.trans hkeeps.reel)).trans hr, rfl, rfl, rfl, by simp [State.strobed, Function.comp_def], fun q hq => ?_, hout _ (hkeeps.out _ hemit)⟩
    obtain ⟨n, -, rfl⟩ := List.mem_map.1 hq
    exact ⟨rfl, Bool.and_true _, rfl⟩
  · have hcrdv : v.crd = u.crd := State.crd_of_offReel hoff
    have hgenv : v.sessGen y = g := by
      have hset : v.fget (Reg.REEL_SET_GEN.at y.set_) = u.fget (Reg.REEL_SET_GEN.at y.set_) := by
        refine State.fget_congr _ (State.regGet_of_offReel hoff ?_ ?_) (.inl (by simp [RF.at, Reg.REEL_SET_GEN]))
        · exact quietWord_set_gen y.set_ (Nat.mod_lt _ (by decide))
        · simp only [RF.at, Reg.REEL_SET_GEN, Reg.REEL_STATUS_OVERRUNS]; omega
      rw [← hgen]
      unfold State.sessGen
      rw [hset]
      rfl
    have hstarts := State.sessTrigger_starts (s := v) (n := n) (y := y) hn hstate hstart (by unfold NoChild; rw [hcrdv]; exact hchild)
      (by rw [State.sess, hcrdv]; exact hsess)
    rw [hgenv] at hstarts
    rw [State.sess, hcrd]
    exact hstarts

theorem sampleWindowOpen_strobes (hft : (s.gen g).nextOpen ≤ s.ft) :
    ∃ t, exec (.sampleWindowOpen g) s = .next t ∧ t.gen g = { s.gen g with nextOpen := (s.gen g).nextOpen + x.period } ∧
      (s.reelOff = false → s.setsOf g true ≠ [] → s.reel.reads = [] →
        ∃ r, t.reel.reads = [r] ∧ r.ft = s.ft ∧ r.sets.map (·.set_) = s.setsOf g true ∧ (∀ q ∈ r.sets, q.opening = true) ∧
          .strobe (ringReads r.sets) ∈ t.out) := by
  set u := s.setGen g { s.gen g with nextOpen := (s.gen g).nextOpen + x.period } with hu
  set v := u.strobe (s.setsOf g true) true none with hv
  have hexec : exec (.sampleWindowOpen g) s = act s v := by
    show execSampleWindowOpen g s = _
    simp only [execSampleWindowOpen, hrun, if_neg (Nat.not_lt.2 hft)]
    rfl
  have hoff : v.offReel = u.offReel := State.offReel_strobe ..
  obtain ⟨t, ht, hgens, hreel, -, hout⟩ := act_parts s v
  refine ⟨t, hexec.trans ht, ?_, fun hreelOn hsets hreads => ?_⟩
  · rw [State.gen_congr (s := u) (hgens.trans (State.whl_gens_of_offReel hoff)), hu, State.gen_setGen]
  · obtain ⟨hr, hemit⟩ := State.strobe_first (s := u) true hreelOn hsets hreads
    refine ⟨_, (congrArg Reel.reads hreel).trans hr, rfl, by simp [State.strobed, Function.comp_def], fun q hq => ?_, hout _ hemit⟩
    obtain ⟨n, -, rfl⟩ := List.mem_map.1 hq
    rfl

end Sample

/-- Settles O43, instant by instant. -/
theorem generatorsMarkTime : Obligations.GeneratorsMarkTime := by
  unfold Obligations.GeneratorsMarkTime
  intro s g hw
  exact ⟨fun _ hpend hft => genApply_takes hw hpend hft,
    fun _ hrun => ⟨sampleTrigger_fires hrun, sampleWindowOpen_strobes hrun⟩,
    fun _ hrun => ⟨slotPulse_fires hw hrun, quietWindowOpen_opens hw hrun, quietWindowClose_closes hw hrun⟩⟩

end Sys2Proof.Machine
end

section
/-! SUPPORT. The departure of a frame whose cells fail, and a freeze that raises LEDGER (R150, R277, R616): the statement FramesLeave fails. -/

namespace Sys2Proof.Machine

/-! ### A freeze that drops more packets than a ledger counter can count (R150, R277) -/

/-- The part that a source has in a freeze. -/
def State.freezeSource (s : State) (i : Nat) : State :=
  let x := s.trSrc i
  let s1 := if s.srcEnabled i then s.emit (.pin (.traceEnable i) false) else s
  if x.buf.isEmpty then s1 else ((s1.dropFrozen i x.buf.length).setTrSrc i { x with buf := [] })

/-- The freeze of a buffer that has not wrapped and is not drained, of whose sources the first has given up `n` packets. -/
def State.freezeAfter (s : State) (n : Nat) : State :=
  let s1 := (List.range' 1 31).foldl State.freezeSource ((s.dropFrozen 0 n).setTrSrc 0 { s.trSrc 0 with buf := [] })
  ((s1.fset Reg.TRC_OLDCNT_COUNT 0).fset Reg.TRC_STATUS_VALID 1).fset Reg.TRC_STATUS_STATE tFROZEN

theorem State.freezeSource_of_buf {s : State} {i : Nat} (hoff : s.srcEnabled i = false) (hb : (s.trSrc i).buf ≠ []) :
    s.freezeSource i = (s.dropFrozen i (s.trSrc i).buf.length).setTrSrc i { s.trSrc i with buf := [] } := by
  simp [State.freezeSource, hoff, hb]

theorem State.traceFreeze_eq_freezeAfter {s : State} {c : TrcCfg} (hc : s.trc.cfg = some c) (hauto : c.autoDrain = false)
    (hwr : s.fget Reg.TRC_WRCNT_COUNT ≤ trcBuffer) (hoff : s.srcEnabled 0 = false) (hb : (s.trSrc 0).buf ≠ []) :
    s.traceFreeze = s.freezeAfter (s.trSrc 0).buf.length := by
  have hfold : (List.range 32).foldl State.freezeSource s =
      (List.range' 1 31).foldl State.freezeSource ((s.dropFrozen 0 (s.trSrc 0).buf.length).setTrSrc 0 { s.trSrc 0 with buf := [] }) := by
    rw [List.range_eq_range', List.range'_succ, List.foldl_cons, State.freezeSource_of_buf hoff hb]
  unfold State.traceFreeze State.freezeAfter
  rw [← hfold]
  simp only [hc, hauto, if_pos hwr]
  rfl

/-- What Snag does with a fault of a class that is not unacknowledged, at F0, before it offers the Trace unit the trigger. -/
def State.noteFault (s : State) (ft c : Nat) (subj : Hank) (info : W64) : State :=
  let s := s.fnSwitch 4
  let r := faultRec s ft c 0 0 {} subj info
  let s1 := (s.fset Reg.SNG_UNACK_CLASS (putBits (s.fget Reg.SNG_UNACK_CLASS) (c - 1) 1 1)).bump Reg.SNG_STATUS_RAISED
  let s2 := { s1 with snag := { s1.snag with last := Tab.set s1.snag.last c 0 } }
  let s3 := ((s2.fset Reg.SNG_STATUS_LEVEL (s2.fget Reg.SNG_STATUS_LEVEL)).fqPush r false).nextFaultSeq
  if bit (BitVec.ofNat 16 (s.fget Reg.SNG_LOGMASK_MASK)) (c - 1) then s3.logAdd 1 ft r else s3

theorem State.takeFault_first {s : State} {c : Nat} (h : (s.fnSwitch 4).fget Reg.SNG_UNACK_CLASS / 2 ^ (c - 1) % 2 = 0) (hc : c ≠ fHANG)
    (ft : Nat) (subj : Hank) (info : W64) :
    s.takeFault ft c 0 subj info false = (s.noteFault ft c subj info).traceTrigger 3 0 (s.fnSwitch 4).ft := by
  have hub : ((s.fnSwitch 4).fget Reg.SNG_UNACK_CLASS / 2 ^ (c - 1) % 2 == 1) = false := by rw [h]; rfl
  have hnone : ∀ u : State, u.fenceHow 0 subj = .none := fun _ => rfl
  have h1 : ¬ (0 : Nat) ≥ 1 := by decide
  have h3 : (0 : Nat) ≠ 3 := by decide
  unfold State.takeFault State.noteFault
  simp only [hub, hnone, h1, h3, hc, Bool.false_eq_true, if_false, false_and, or_self, decide_false, reduceCtorEq, Nat.zero_max, Bool.false_and, Bool.false_or]
  rfl

/-- An ARMED Trace unit at a trigger, before it looks at the count since the trigger. -/
def State.atTrigger (s : State) (cause arg ft : Nat) : State :=
  let pkt := [pktHeader 9 0 1 s.locked (fld 4 0 cause + fld 4 4 (if cause = 0 then arg else 0)) ft, BitVec.ofNat 64 ft]
  let s1 := (s.fset Reg.TRC_TRIGCNT_COUNT (s.fget Reg.TRC_WRCNT_COUNT)).fset Reg.TRC_STATUS_CAUSE cause
  (s1.fset Reg.TRC_STATUS_STATE tPOST).putPacket pkt

theorem State.traceTrigger_armed {s : State} {cause arg : Nat} (hleaf : s.build.isHub = false) (hon : s.trigEnabled cause arg = true)
    (harmed : s.trcState = tARMED) (ft : Nat) : s.traceTrigger cause arg ft = (s.atTrigger cause arg ft).checkTarget := by
  simp [State.traceTrigger, hleaf, hon, harmed, State.atTrigger]

theorem State.checkTarget_reached {s : State} {c : TrcCfg} (hc : s.trc.cfg = some c) (hpre : c.pre = 16) (hpost : s.trcState = tPOST) :
    s.checkTarget = s.traceFreeze := by
  simp [State.checkTarget, hc, TrcCfg.target, hpre, hpost]

/-! ### The counterexample -/

/-- More packets than a ledger counter can count. -/
def hugeBuf : List (List W64) := List.replicate (2 ^ 64) []

theorem hugeBuf_length : hugeBuf.length = 2 ^ 64 := List.length_replicate

/-- A heartbeat at the head of class 6. -/
def lastBeat : TxFrame :=
  { typ := 1, tc := 6, first := true, last := true, replay := false, poison := false, dest := 0, payload := [0, 0], seq := 0, msg := 0, sentFt := 0, covers := [] }

/-- Post-trigger target 0: a trigger freezes at once. -/
def atOnce : TrcCfg :=
  { base := 0, log2 := 0, mode := false, dest := 0, pre := 16, mirror := false, autoDrain := false, mirAddr := 0, srcMask := 0 }

/-- A Leaf with a frame at its uplink, whose Trace unit waits for a fault, with more packets in a source's buffer than a counter can
count, and whose LEDGER class is unacknowledged and may rise to F1. -/
def brimming : State :=
  let s := [(Reg.STR_PSTAT_STATE.at 32, 3), (Reg.STR_PCRED_RES.at 32, 64), (Reg.STR_PRTXCAP_KIB.at 32, 64), (Reg.SNG_UNACK_CLASS, 4),
    (Reg.SNG_CAP_CAPS, 0x10), (Reg.TRC_TRIG_CAUSES, 8), (Reg.TRC_TRIG_FLVL, 0), (Reg.TRC_STATUS_STATE, tARMED),
    (Reg.STR_HOMING_CUR_PARENT, 0)].foldl (fun (s : State) e => s.fset e.1 e.2) (State.resetOf .leaf)
  { s with
    str := { s.str with ports := [(32, { egress := [[], [], [], [], [], [], [lastBeat], []] })] }
    trc := { s.trc with cfg := some atOnce, srcs := [(0, { buf := hugeBuf })] } }

/-- The block with its frame dropped, the STORE fault owed. -/
def brimmingDropped : State := brimming.dropBadHead 32

/-- The subject and the information of the fault: the Bobbin unit, the cell and the queue. -/
def brimmingInfo : W64 :=
  match brimmingDropped.work with
  | [.fault _ _ _ i] => i
  | _ => 0

/-- The block at the trigger that the STORE fault gives. -/
def brimmingTriggered : State :=
  let s := { brimmingDropped with work := [] }
  (s.noteFault s.ft fSTORE (brimming.unit 0xE) brimmingInfo).atTrigger 3 0 (s.fnSwitch 4).ft

theorem brimming_calm : Calm brimming := ⟨rfl, by
  have h : brimming.lea.pts = [] := rfl
  simp [h]⟩

theorem brimming_modest : Modest (brimming.port 32) := by
  have h : brimming.port 32 = { egress := [[], [], [], [], [], [], [lastBeat], []] } := rfl
  rw [h]
  simp [Modest, lastBeat]

theorem brimmingDropped_work : brimmingDropped.work = [.fault fSTORE 0 (brimming.unit 0xE) brimmingInfo] := rfl

theorem brimmingTriggered_traceFreeze : brimmingTriggered.traceFreeze = brimmingTriggered.freezeAfter (2 ^ 64) := by
  have hb : (brimmingTriggered.trSrc 0).buf = hugeBuf := rfl
  have hne : hugeBuf ≠ [] := List.ne_nil_of_length_pos (by rw [hugeBuf_length]; decide)
  rw [State.traceFreeze_eq_freezeAfter (c := atOnce) rfl rfl (by decide +kernel) (by decide +kernel) (hb ▸ hne), hb, hugeBuf_length]

/-- The STORE fault freezes the Trace unit. -/
theorem brimming_takeFault :
    (let s := { brimmingDropped with work := [] }
     s.takeFault s.ft fSTORE 0 (brimming.unit 0xE) brimmingInfo false) = brimmingTriggered.freezeAfter (2 ^ 64) := by
  rw [← brimmingTriggered_traceFreeze]
  show State.takeFault _ _ _ _ _ _ _ = _
  rw [State.takeFault_first (by decide +kernel) (by decide),
    State.traceTrigger_armed (by decide +kernel) (by decide +kernel) (by decide +kernel)]
  exact State.checkTarget_reached (c := atOnce) rfl rfl (by decide +kernel)

theorem brimmingDropped_settle : brimmingDropped.settle = settleF 71 (brimmingTriggered.freezeAfter (2 ^ 64)) := by
  rw [State.settle_one brimmingDropped_work, ← brimming_takeFault]
  rfl

/-- The LEDGER fault that the freeze raises rises to F1 and leaves as a message of class 6. -/
theorem brimming_sends : ((settleF 71 (brimmingTriggered.freezeAfter (2 ^ 64))).port 32 |>.egress.getD 6 []).length = 1 := by
  decide +kernel

/-- Refutes O40: a frame whose cells fail is dropped, but the STORE fault it raises may freeze the Trace unit of a Leaf; where a source's
buffer holds more packets than a ledger counter can count, the drop of them saturates the counter, and the LEDGER fault, escalated,
queues a FAULT message in the class of the dropped frame. No hypothesis bounds the buffers of trace sources. -/
theorem not_framesLeave : ¬ Obligations.FramesLeave := by
  unfold Obligations.FramesLeave
  intro h
  obtain ⟨hdepart, -⟩ := h brimming 32 brimming_calm
  obtain ⟨-, hbad⟩ := hdepart (by decide +kernel) (by decide +kernel) (by decide +kernel) (by decide +kernel) (by decide +kernel) (by decide +kernel)
    6 lastBeat (by decide +kernel)
  obtain ⟨t, ht, heg, -⟩ := hbad 0 brimming_modest (by decide +kernel)
  have hexec : exec (.frameDepart 32 0 true) brimming = act brimming brimmingDropped := rfl
  have hport : t.port 32 = (settleF 71 (brimmingTriggered.freezeAfter (2 ^ 64))).port 32 := by
    rw [hexec, act, brimmingDropped_settle] at ht
    generalize settleF 71 _ = u at ht ⊢
    cases ht
    rfl
  have hlen := congrArg List.length heg
  rw [hport, brimming_sends] at hlen
  exact absurd hlen (by decide +kernel)

end Sys2Proof.Machine
end

section
/-! SUPPORT. What a valid Sync leaves of the Whorl, and the end of bring-up (R84, R88 to R93, R699): the build, the commands that wait, the offsets and the source of time. -/

namespace Sys2Proof.Machine

/-! ### What a valid Sync leaves alone (R84, R88 to R93) -/

/-- A write of field `f` leaves field `g`: they lie in different words, or side by side in one. -/
def RF.clear (g f : RF) : Bool :=
  decide (g.addr ≠ f.addr ∧ g.addr ≠ f.addr + 4 ∧ g.addr + 4 ≠ f.addr) ||
    (decide (f.lo + f.w ≤ 32) && decide (g.lo + g.w ≤ 32) && (decide (g.addr ≠ f.addr) || decide (f.lo + f.w ≤ g.lo) || decide (g.lo + g.w ≤ f.lo)))

theorem State.fget_fset_clear (s : State) {f g : RF} (v : Nat) (h : g.clear f = true) : (s.fset f v).fget g = s.fget g := by
  simp only [RF.clear, Bool.or_eq_true, Bool.and_eq_true, decide_eq_true_eq] at h
  obtain h | ⟨⟨hf, hg⟩, hd⟩ := h
  · exact State.fget_fset_other _ _ _ _ h
  · by_cases ha : g.addr = f.addr
    · exact State.fget_fset_beside _ _ _ _ ha hf hg (by omega)
    · exact State.fget_fset_apart _ _ hf hg ha

/-- The build, the waiting commands, what the Whorl holds of its offsets, and the fields `fs`. -/
def State.timeView (fs : List RF) (s : State) : Build × List Instr × Tab Int × Option Nat × Int × List Nat :=
  (s.build, s.pending, s.whl.offs, s.whl.lastSync, s.whl.syncLog, fs.map s.fget)

/-- The source of time and the offsets that the Whorl shows. -/
def syncFields : List RF := Reg.WHL_STATUS_SOURCE :: Reg.WHL_STATUS_TIME_PORT :: (List.range 4).map Reg.WHL_UPOFF_OFFSET.at
/-- Those fields, and where bring-up stands. -/
def bootFields : List RF := Reg.SNG_RSTCAUSE_STATE :: Reg.ID_STATUS_RUN :: syncFields

theorem State.timeView_sync {s t : State} (h : t.timeView bootFields = s.timeView bootFields) : t.timeView syncFields = s.timeView syncFields := by
  simp only [State.timeView, bootFields, List.map_cons, Prod.mk.injEq, List.cons.injEq] at h ⊢
  tauto

theorem State.timeView_field {fs : List RF} {s t : State} (h : t.timeView fs = s.timeView fs) {g : RF} (hg : g ∈ fs) : t.fget g = s.fget g := by
  simp only [State.timeView, Prod.mk.injEq] at h
  obtain ⟨-, -, -, -, -, hfields⟩ := h
  exact List.map_inj_left.1 hfields g hg

theorem State.timeView_whl {fs : List RF} {s t : State} (h : t.timeView fs = s.timeView fs) :
    t.build = s.build ∧ t.pending = s.pending ∧ t.whl.offs = s.whl.offs ∧ t.whl.lastSync = s.whl.lastSync ∧ t.whl.syncLog = s.whl.syncLog := by
  simp only [State.timeView, Prod.mk.injEq] at h
  tauto

theorem State.timeView_fset {fs : List RF} (s : State) {f : RF} (v : Nat) (h : (fs.all fun g => g.clear f) = true) :
    (s.fset f v).timeView fs = s.timeView fs := by
  have hmap : fs.map (s.fset f v).fget = fs.map s.fget :=
    List.map_congr_left fun g hg => State.fget_fset_clear s v (List.all_eq_true.1 h g hg)
  simp [State.timeView, hmap]

/-- What no owed effect touches of the Whorl: all but the mark that forbids steps. -/
theorem State.whl_part_of_side {s t : State} (h : t.side = s.side) {α : Type} (φ : Whorl → α) (hφ : ∀ w, φ { w with noStep := false } = φ w) :
    φ t.whl = φ s.whl := by
  rw [← hφ t.whl, ← hφ s.whl]; exact congrArg (fun x : State => φ x.whl) h

theorem State.timeView_of_side {fs : List RF} {s t : State} (h : t.side = s.side)
    (hq : (fs.all fun g => quietWord g.addr && decide (g.lo + g.w ≤ 32)) = true) : t.timeView fs = s.timeView fs := by
  have hmap : fs.map t.fget = fs.map s.fget := List.map_congr_left fun g hg => by
    have hg' := List.all_eq_true.1 hq g hg
    simp only [Bool.and_eq_true, decide_eq_true_eq] at hg'
    exact State.fget_of_side h g hg'.1 (.inl hg'.2)
  simp only [State.timeView, hmap, State.build_of_side h, State.pending_of_side h, State.whl_part_of_side h Whorl.offs fun _ => rfl,
    State.whl_part_of_side h Whorl.lastSync fun _ => rfl, State.whl_part_of_side h Whorl.syncLog fun _ => rfl]

section View
variable (s : State)

theorem State.timeView_raise (fs : List RF) (c l : Nat) (h : Hank) (i : Nat) : (s.raise c l h i).timeView fs = s.timeView fs := rfl
theorem State.timeView_emit (fs : List RF) (e : Emission) : (s.emit e).timeView fs = s.timeView fs := rfl
theorem State.timeView_endSlew (fs : List RF) : s.endSlew.timeView fs = s.timeView fs := rfl
theorem State.timeView_withStp (fs : List RF) (x : Staple) : { s with stp := x }.timeView fs = s.timeView fs := rfl
theorem State.timeView_withSnag (fs : List RF) (x : Snag) : { s with snag := x }.timeView fs = s.timeView fs := rfl

theorem State.timeView_bump {fs : List RF} {f : RF} (h : (fs.all fun g => g.clear f) = true) : (s.bump f).timeView fs = s.timeView fs :=
  State.timeView_fset s _ h

theorem State.timeView_freeDiv (fs : List RF) (a : Int) (b : Nat) : (s.freeDiv a b).2.timeView fs = s.timeView fs := by
  unfold State.freeDiv; split <;> rfl

theorem State.timeView_applyRate : s.applyRate.timeView bootFields = s.timeView bootFields := by
  unfold State.applyRate
  split
  · exact State.timeView_fset _ _ (by decide)
  · exact (State.timeView_fset _ _ (by decide)).trans (State.timeView_freeDiv ..)

theorem State.timeView_setBase (r : Nat × State) : (setBase r).timeView bootFields = r.2.timeView bootFields :=
  State.timeView_applyRate _

theorem State.timeView_corrRate (c : Int) : (s.corrRate c).2.timeView bootFields = s.timeView bootFields := by
  unfold State.corrRate State.rateOf
  extract_lets l
  split <;> exact State.timeView_freeDiv ..

theorem State.timeView_setWState (n : Nat) : (s.setWState n).timeView bootFields = s.timeView bootFields :=
  State.timeView_fset (fs := bootFields) s (f := Reg.WHL_STATUS_STATE) n (by decide)

theorem State.timeView_acquire : s.acquire.timeView bootFields = s.timeView bootFields := State.timeView_setWState s _

theorem State.timeView_track (o : Int) : (s.track o).timeView bootFields = s.timeView bootFields := by
  unfold State.track
  extract_lets s0 thr good bad s1
  have hs1 : s1.timeView bootFields = s.timeView bootFields := by
    show s0.timeView bootFields = _
    show (ite _ _ _ : State).timeView _ = _
    split
    · exact State.timeView_acquire s
    · rfl
  rw [← hs1]
  split
  · exact State.timeView_acquire s1
  · split
    · exact (State.timeView_fset _ _ (by decide)).trans (State.timeView_setWState s1 _)
    · rfl

theorem State.timeView_fnSwitch (b : Nat) : (s.fnSwitch b).timeView bootFields = s.timeView bootFields :=
  State.timeView_of_side (State.side_fnSwitch s b) (by decide)

theorem State.timeView_quietDrive (g : Nat) (on : Bool) : (s.quietDrive g on).timeView bootFields = s.timeView bootFields := by
  simp only [State.quietDrive]
  repeat' split
  all_goals rfl

theorem clear_SKIPPED : ∀ g < 12, (bootFields.all fun f => f.clear (Reg.WHL_GEN_SKIPPED.at g)) = true := by decide

theorem State.timeView_genSkip (old new : Nat) {g : Nat} (hg : g < 12) : (s.genSkip old new g).timeView bootFields = s.timeView bootFields := by
  have hskip (u : State) (n : Nat) : (u.fadd (Reg.WHL_GEN_SKIPPED.at g) n).timeView bootFields = u.timeView bootFields :=
    State.timeView_fset _ _ (clear_SKIPPED g hg)
  simp only [State.genSkip]
  repeat' split
  all_goals first
    | rfl
    | (rw [State.timeView_quietDrive, hskip]; rfl)

theorem State.timeView_shiftFt (d : Int) : (s.shiftFt d).timeView bootFields = s.timeView bootFields := by
  unfold State.shiftFt
  extract_lets old whl1 s1 s2 moved along whl2 drf2 s3
  have hs2 : s2.timeView bootFields = s1.timeView bootFields := by
    show (ite _ _ _ : State).timeView _ = _
    split
    · exact foldl_invariant (State.timeView bootFields) _ _ _ fun t g hg => State.timeView_genSkip t _ _ (List.mem_range.1 hg)
    · rfl
  exact (State.timeView_of_side (State.side_heartbeats _) (by decide)).trans hs2

theorem State.timeView_stepFt (d : Int) : (s.stepFt d).timeView bootFields = s.timeView bootFields :=
  (State.timeView_shiftFt _ d).trans (State.timeView_fset _ _ (by decide))

theorem State.timeView_lastRate : s.lastRate.timeView bootFields = s.timeView bootFields :=
  (State.timeView_setBase _).trans (State.timeView_corrRate ..)

theorem State.timeView_hostRate : s.hostRate.timeView bootFields = s.timeView bootFields :=
  (State.timeView_setBase _).trans (State.timeView_freeDiv ..)

theorem State.timeView_servo (o : Int) : (s.servo o).timeView bootFields = s.timeView bootFields := by
  unfold State.servo
  split
  · extract_lets t starts s1
    have ht : t.2.timeView bootFields = s.timeView bootFields := State.timeView_freeDiv ..
    split
    · rw [State.timeView_stepFt, State.timeView_applyRate, State.timeView_endSlew, State.timeFault, State.timeView_raise, ht]
    · have hs1 : s1.timeView bootFields = s.timeView bootFields := by
        show (ite _ _ _ : State).timeView _ = _
        split <;> exact ht
      exact (State.timeView_applyRate _).trans ((State.timeView_lastRate s1).trans hs1)
  · exact (State.timeView_setBase _).trans (State.timeView_corrRate _ _)

/-! ### The end of bring-up (R699) -/

theorem State.timeView_addTokens {p : Nat} (hp : p < 16) (n : Nat) : (s.addTokens p n).timeView syncFields = s.timeView syncFields := by
  have hclear : ∀ p < 16, (syncFields.all fun f => f.clear (Reg.PLY_BUD_TOKENS.at p)) = true := by decide
  unfold State.addTokens
  extract_lets t s1
  have hs1 : s1.timeView syncFields = s.timeView syncFields :=
    (State.timeView_of_side (State.side_led ..) (by decide)).trans (State.timeView_fset _ _ (hclear p hp))
  split <;> exact hs1

theorem State.timeView_runReport (x : Rec) : (s.runReport x).timeView syncFields = s.timeView syncFields := by
  unfold State.runReport
  extract_lets result s1 stp2 s2 lvl
  have hs1 : s1.timeView syncFields = s.timeView syncFields := State.timeView_of_side (State.side_led ..) (by decide)
  have hs2 : s2.timeView syncFields = s.timeView syncFields := by
    show (ite _ _ _ : State).timeView _ = _
    split
    · exact (State.timeView_withStp ..).trans hs1
    · exact (State.timeView_bump _ (by decide)).trans ((State.timeView_of_side (State.side_ledDrop ..) (by decide)).trans hs1)
  split
  · exact hs2
  · exact (State.timeView_raise ..).trans hs2

theorem State.timeView_stapleCheck : s.stapleCheck.timeView syncFields = s.timeView syncFields := by
  unfold State.stapleCheck
  split
  · rfl
  · extract_lets stp0 s0 s1
    have hs1 : s1.timeView syncFields = s.timeView syncFields := by
      refine foldl_invariant (State.timeView syncFields) _ _ s0 fun t e _ => ?_
      split <;> rfl
    split
    · exact (State.timeView_runReport _ _).trans hs1
    · exact hs1

theorem State.timeView_rootRole : s.rootRole.timeView syncFields = s.timeView syncFields := by
  have hactive (u : State) : ((u.fset Reg.STR_TIER_ROOT_ACTIVE 1).fadd Reg.STR_TIER_ROLE_EPOCH 1).timeView syncFields = u.timeView syncFields :=
    (State.timeView_fset _ _ (by decide)).trans (State.timeView_fset _ _ (by decide))
  unfold State.rootRole
  split
  · rfl
  · split
    · exact State.timeView_of_side (State.side_takeover s) (by decide)
    · exact hactive s

theorem State.timeView_checkLog : s.checkLog.timeView syncFields = s.timeView syncFields :=
  (State.timeView_of_side (State.side_led ..) (by decide)).trans (State.timeView_fset _ _ (by decide))

theorem nParts_le (b : Build) : nParts b ≤ 16 := by cases b <;> decide

theorem State.timeView_endBringup : s.endBringup.timeView syncFields = s.timeView syncFields := by
  unfold State.endBringup
  extract_lets s2 s3 s4 s5 s6 src7 snag7 s7 s8
  calc (s8.fset Reg.SNG_RSTCAUSE_STATE 5).rootRole.timeView syncFields
      = s8.timeView syncFields := (State.timeView_rootRole _).trans (State.timeView_fset _ _ (by decide))
    _ = s7.timeView syncFields := (State.timeView_fset (s7.emit _) _ (by decide)).trans (State.timeView_emit ..)
    _ = s6.timeView syncFields := (State.timeView_withSnag src7 _ snag7).trans (State.timeView_fset s6 _ (by decide))
    _ = s5.timeView syncFields := State.timeView_of_side (State.side_logAdd ..) (by decide)
    _ = s4.timeView syncFields := State.timeView_stapleCheck s4
    _ = s3.timeView syncFields := foldl_invariant (State.timeView syncFields) _ _ _ fun t p hp =>
        State.timeView_addTokens t (Nat.lt_of_lt_of_le (List.mem_range.1 hp) (nParts_le _)) _
    _ = s2.timeView syncFields := State.timeView_fset s2 _ (by decide)
    _ = s.timeView syncFields := (State.timeView_fset _ _ (by decide)).trans (State.timeView_checkLog s)

theorem State.flag_congr {s t : State} {f : RF} (h : t.fget f = s.fget f) : t.flag f = s.flag f := by unfold State.flag; rw [h]

theorem State.running_rootRole : s.rootRole.running = s.running := by
  have hfset (u : State) (v w : Nat) : ((u.fset Reg.STR_TIER_ROOT_ACTIVE v).fset Reg.STR_TIER_ROLE_EPOCH w).running = u.running :=
    State.flag_congr ((State.fget_fset_clear _ _ (by decide)).trans (State.fget_fset_clear _ _ (by decide)))
  unfold State.rootRole
  split
  · rfl
  · split
    · exact State.flag_congr (State.fget_of_side (State.side_takeover s) _ (by decide) (by decide))
    · exact hfset s 1 _

theorem State.running_endBringup : s.endBringup.running = true := by
  unfold State.endBringup
  extract_lets s2 s3 s4 s5 s6 src7 snag7 s7 s8
  have hs8 : s8.running = true := by
    show State.flag _ Reg.ID_STATUS_RUN = true
    unfold State.flag
    rw [State.fget_fset_self _ _ _ (by decide)]
    decide
  rw [State.running_rootRole, ← hs8]
  exact State.flag_congr (State.fget_fset_clear _ _ (by decide))

theorem State.timeView_validSync (o : Int) : (s.validSync o).timeView syncFields = s.timeView syncFields := by
  have hsw := State.timeView_fnSwitch s 0
  unfold State.validSync
  extract_lets u s1 v1
  split
  · have hs1 : s1.timeView syncFields = s.timeView syncFields :=
      State.timeView_sync (((State.timeView_track _ o).trans (State.timeView_shiftFt u _)).trans hsw)
    split
    · exact (State.timeView_endBringup s1).trans hs1
    · exact hs1
  · have hv1 : v1.timeView bootFields = s.timeView bootFields := (State.timeView_track u o).trans hsw
    split
    · exact State.timeView_sync ((State.timeView_hostRate _).trans ((State.timeView_fset _ _ (by decide)).trans hv1))
    · exact State.timeView_sync ((State.timeView_servo v1 o).trans hv1)

theorem State.awaitsTime_congr {s t : State} (hboot : t.fget Reg.SNG_RSTCAUSE_STATE = s.fget Reg.SNG_RSTCAUSE_STATE)
    (hrun : t.fget Reg.ID_STATUS_RUN = s.fget Reg.ID_STATUS_RUN) : t.awaitsTime = s.awaitsTime ∧ t.running = s.running := by
  have hr : t.running = s.running := State.flag_congr hrun
  refine ⟨?_, hr⟩
  unfold State.awaitsTime State.bootStep
  rw [hboot, hr]

theorem State.awaitsTime_of_timeView {s t : State} (h : t.timeView bootFields = s.timeView bootFields) :
    t.awaitsTime = s.awaitsTime ∧ t.running = s.running :=
  State.awaitsTime_congr (State.timeView_field h (by decide)) (State.timeView_field h (by decide))

/-- The first Sync ends bring-up. -/
theorem State.running_validSync {o : Int} (hrun : s.running = false) (hawait : s.awaitsTime = true) : (s.validSync o).running = true := by
  have hsw := State.awaitsTime_of_timeView (State.timeView_fnSwitch s 0)
  unfold State.validSync
  extract_lets u s1 v1
  have hs1 := State.awaitsTime_of_timeView ((State.timeView_track _ o).trans (State.timeView_shiftFt u (-o * 2 ^ 34)))
  rw [hsw.1, hawait] at hs1
  rw [if_pos (by rw [hsw.2, hrun]; rfl), if_pos hs1.1]
  exact State.running_endBringup s1

end View
end Sys2Proof.Machine
end

section
/-! SUPPORT. The receive point leaves the role of a root, and what it does with PTP messages (R28, R79). -/

namespace Sys2Proof.Machine

/-! ### The receive point leaves the role of a root (R28) -/

theorem RF.clear_far {f g : RF} (h : g.addr + 4 < f.addr) : g.clear f = true := by
  simp only [RF.clear, Bool.or_eq_true, decide_eq_true_eq]; omega

section Role
variable (s : State)

def State.roleBit (s : State) : Nat := s.fget Reg.STR_TIER_ROOT_ACTIVE

theorem State.roleBit_fset_port (f : RF) (v : Nat) (h : 0x80000 ≤ f.addr) : (s.fset f v).roleBit = s.roleBit :=
  State.fget_fset_clear s v (RF.clear_far (by simp only [Reg.STR_TIER_ROOT_ACTIVE]; omega))

theorem State.roleBit_modPort (p : Nat) (f : Port → Port) : (s.modPort p f).roleBit = s.roleBit := rfl
theorem State.roleBit_raise (c l : Nat) (h : Hank) (i : Nat) : (s.raise c l h i).roleBit = s.roleBit := rfl

theorem State.roleBit_led (k i : Nat) (c : LedCol) (n : Nat) : (s.led k i c n).roleBit = s.roleBit := by
  simp only [State.led]
  split
  · exact State.fget_fset_clear { s with lea := _ } 1 (by decide)
  · rfl

theorem State.roleBit_modCutPort (p : Nat) (f : CutPort → CutPort) : (s.modCutPort p f).roleBit = s.roleBit := by
  unfold State.modCutPort; split <;> rfl

theorem State.roleBit_auditLink (p : Nat) : (s.auditLink p).roleBit = s.roleBit := by
  simp only [State.auditLink]
  repeat' split
  all_goals first | rfl | exact State.roleBit_modCutPort ..

theorem State.roleBit_cutFrame (p ct : Nat) : (s.cutFrame p ct).roleBit = s.roleBit := by
  unfold State.cutFrame
  split
  · rfl
  · split
    · split
      · rw [State.roleBit_modCutPort]
      · rw [State.roleBit_auditLink, State.roleBit_modCutPort]
    · rfl

theorem State.roleBit_endFrames (fs : List TxFrame) : (s.endFrames fs).roleBit = s.roleBit := by
  have hfold := foldl_invariant State.roleBit (fs.flatMap (·.covers)) State.custodyDone s fun _ _ _ => rfl
  unfold State.endFrames State.inputsOut
  split
  · exact hfold
  · exact (State.roleBit_led ..).trans hfold

theorem State.roleBit_releaseTo (p cack : Nat) : (s.releaseTo p cack).roleBit = s.roleBit := by
  have hshow (u : State) : (u.rtxShow p).roleBit = u.roleBit :=
    (State.roleBit_fset_port _ _ _ (by simp only [RF.at, Reg.STR_PRTX_KIB]; omega)).trans
      (State.roleBit_fset_port _ _ _ (by simp only [RF.at, Reg.STR_PRTX_FRAMES]; omega))
  simp only [State.releaseTo]
  split
  · rfl
  · rw [hshow, State.roleBit_led, State.roleBit_endFrames]; rfl

theorem State.roleBit_takeAcks (p : Nat) (f : Frame) : (s.takeAcks p f).roleBit = s.roleBit := by
  have hcred (u : State) (a b : Nat) : ((u.fadd (Reg.STR_PCRED_RES.at p) a).fadd (Reg.STR_PCRED_BE.at p) b).roleBit = u.roleBit :=
    (State.roleBit_fset_port _ _ _ (by simp only [RF.at, Reg.STR_PCRED_BE]; omega)).trans
      (State.roleBit_fset_port _ _ _ (by simp only [RF.at, Reg.STR_PCRED_RES]; omega))
  have hfirst (x : Port) (c : Bool) : (if c = true then s.setPort p x else s).roleBit = s.roleBit := by split <;> rfl
  simp only [State.takeAcks]
  split
  · rw [hcred, State.roleBit_releaseTo, hfirst]
  · rw [State.roleBit_led, hcred, State.roleBit_releaseTo, hfirst]

theorem State.roleBit_assemble (p typ : Nat) (f : Frame) : (s.assemble p typ f).1.roleBit = s.roleBit := by
  unfold State.assemble
  extract_lets c pt broken keep
  have hbroken (n : Nat) : (broken s n).roleBit = s.roleBit := by
    have hled (u : State) : (u.ledDrop 8 p rsnPOISON n).roleBit = u.roleBit := by
      unfold State.ledDrop
      split
      · exact State.roleBit_led ..
      · rfl
    exact (State.roleBit_raise ..).trans ((hled _).trans (State.roleBit_modPort ..))
  have hkeep (u : State) (r : Partial) : (keep u r).1.roleBit = u.roleBit := by
    simp only [keep]; split <;> rfl
  split
  · exact hkeep ..
  · split
    · exact hkeep ..
    · exact hbroken _
  · exact hbroken _
  · exact (hkeep ..).trans (hbroken _)

end Role

theorem ite_none_eq_some {α β : Type} {c : Prop} [Decidable c] {a a' : α} {b : α × Option β} {m : β}
    (h : (if c then (a, none) else b) = (a', some m)) : b = (a', some m) := by
  split at h
  · exact (pair_none_ne_some h).elim
  · exact h

/-- A message received whole finds the root in the role that it had before the receive point. -/
theorem State.rx_roleBit {s s1 : State} {p typ : Nat} {f : Frame} {m : Msg} (h : s.rx p typ f = (s1, some m)) : s1.roleBit = s.roleBit := by
  unfold State.rx at h
  replace h := ite_none_eq_some (ite_none_eq_some (ite_none_eq_some h))
  extract_lets u next v d cells n w x at h
  have hv : v.roleBit = s.roleBit := by
    refine (State.roleBit_led ..).trans ?_
    split
    · rfl
    · exact State.roleBit_takeAcks u p f
  have hw : w.roleBit = s.roleBit :=
    (State.roleBit_modPort _ p _).trans ((State.roleBit_fset_port v _ (next + 1) (by simp only [RF.at, Reg.STR_PRXSEQ_SEQ]; omega)).trans hv)
  have hx : x.roleBit = s.roleBit := (State.roleBit_cutFrame w p _).trans hw
  clear_value v w x
  replace h := ite_none_eq_some (ite_none_eq_some (ite_none_eq_some h))
  replace h := ite_none_eq_some (ite_none_eq_some (ite_none_eq_some (ite_none_eq_some h)))
  rw [← hx, ← State.roleBit_assemble x p typ f, h]

/-! ### Receipt of a PTP message (R79) -/

section Ptp
variable {s s1 : State} {p : Nat} {f : Frame} {m : Msg} (h : Gets s p 4 f s1 m)
include h

theorem gets_faces : (isUp p && !(s.isPeer p && s.rootActive)) = (isUp p && !(s1.isPeer p && s1.rootActive)) := by
  have hroot : s1.isRoot = s.isRoot := by
    have himg := State.imgRegs_of_side (State.rx_some h.1).1
    simp only [State.isRoot, State.tier, State.imgWord, himg]
  have hactive : s1.rootActive = s.rootActive := by
    rw [State.rootActive, State.rootActive, hroot, State.flag_congr (State.rx_roleBit h.1)]
  rw [State.isPeer, State.isPeer, hroot, hactive]

/-- A message of another kind or direction is counted and dropped. -/
theorem ptpRx_unused {mt : Nat} {fp : Bool} {body : State → Msg → State}
    (hno : ptpType m.words ≠ mt ∨ (isUp p && !(s1.isPeer p && s1.rootActive)) ≠ fp) :
    s.ptpRx p f mt fp body = (s1.ledDrop 8 p 7 m.seqs.length).bump (Reg.STR_PUNAUTH_COUNT.at p) := by
  simp only [State.ptpRx, h.1, gets_faces h, if_pos hno]

theorem ptpRx_taken {mt : Nat} {fp : Bool} {body : State → Msg → State} (htype : ptpType m.words = mt)
    (hup : (isUp p && !(s1.isPeer p && s1.rootActive)) = fp) : s.ptpRx p f mt fp body = body (s1.rxPass p m.seqs.length) m := by
  simp only [State.ptpRx, h.1, gets_faces h]
  rw [if_neg (by rw [hup, htype]; simp)]

theorem ptpRx_unused_next {mt : Nat} {fp : Bool} {body : State → Msg → State}
    (hno : ptpType m.words ≠ mt ∨ (isUp p && !(s1.isPeer p && s1.rootActive)) ≠ fp) :
    act s (s.ptpRx p f mt fp body) = .next ((s1.ledDrop 8 p 7 m.seqs.length).bump (Reg.STR_PUNAUTH_COUNT.at p)) := by
  rw [ptpRx_unused h hno]
  obtain ⟨-, hwork, hpts, hseqs, -⟩ := id h
  have hroomy := (State.Roomy.ledDrop (s := s1) ⟨hwork, hpts⟩ 8 p 7 m.seqs.length (by unfold ftMax; omega)).fset (Reg.STR_PUNAUTH_COUNT.at p)
  exact gets_act h (hroomy _) (by simp) (by simp)

end Ptp
end Sys2Proof.Machine
end

section
/-! SUPPORT. SYNC (R84, R88 to R93): the offset of its port is shown, and the port that gives time disciplines the Whorl. -/

namespace Sys2Proof.Machine

/-! ### SYNC (R84, R88 to R93) -/

theorem freeDiv_near (s : State) (a : Int) {b : Nat} (hb : 0 < b) : (a - b * (s.freeDiv a b).1).natAbs < b := by
  have hpos : (0 : Int) < b := Int.natCast_pos.2 hb
  have hdiv := Int.mul_ediv_add_emod a b
  have hlo := Int.emod_nonneg a (ne_of_gt hpos)
  have hhi := Int.emod_lt_of_pos a hpos
  unfold State.freeDiv
  split
  · simp only; omega
  · simp only [mul_add]
    split <;> simp only [mul_one, mul_zero] <;> omega

theorem State.fget_setWhl (s : State) (f : Whorl → Whorl) (g : RF) : (setWhl s f).fget g = s.fget g := rfl

/-- The offset of up-port `k` as the block shows and keeps it, at the instant `now`. -/
def State.showOffset (s : State) (k shown now : Nat) : State :=
  setWhl (s.fset (Reg.WHL_UPOFF_OFFSET.at k) shown) fun w => { w with offs := Tab.set w.offs k (sext 32 shown), lastSync := some now }

/-- Up-port `k` gives time, at the interval `log`. -/
def State.followPort (s : State) (k : Nat) (log : Int) : State :=
  ((setWhl s fun w => { w with syncLog := log }).fset Reg.WHL_STATUS_SOURCE 1).fset Reg.WHL_STATUS_TIME_PORT k

/-- The quotient that a Sync on port `p` gives, in 2^-8 ns. -/
def State.syncQuot (s : State) (p stamp : Nat) (m : Msg) : Int × State := s.freeDiv (s.ballIn p stamp * 256 - ptpOrigin m.words) 256

/-- The offset of that Sync. -/
def State.syncOffset (s : State) (p stamp : Nat) (m : Msg) : Int :=
  (s.syncQuot p stamp m).1 - sext 32 (s.fget (Reg.WHL_UPMPD_MPD.at (p - 32))) - sext 32 (s.fget (Reg.WHL_ASYM_ASYM.at (p - 32)))

def State.afterOffset (s : State) (p stamp : Nat) (m : Msg) : State :=
  (s.syncQuot p stamp m).2.showOffset (p - 32) (satI 32 (s.syncOffset p stamp m)) s.now

theorem State.syncOffset_withLea (s : State) (l : Lea) (p stamp : Nat) (m : Msg) : (s.withLea l).syncOffset p stamp m = s.syncOffset p stamp m := by
  have hball : (s.withLea l).ballIn p stamp = s.ballIn p stamp := rfl
  simp only [State.syncOffset, State.syncQuot, State.freeDiv, hball]
  split <;> rfl

section Sync
variable {s : State} {p stamp : Nat} {m : Msg}

theorem State.takeSync_eq (hhold : s.flag Reg.WHL_CTRL_FORCE_HOLD = false) (hdelay : (Tab.getD s.whl.delays (p - 32) []).isEmpty = false) :
    s.takeSync p stamp m = if s.timePort ≠ some p then s.afterOffset p stamp m
      else ((s.afterOffset p stamp m).followPort (p - 32) (ptpLog m.words)).validSync (s.syncOffset p stamp m) := by
  unfold State.takeSync
  rw [if_neg (by simp [hhold, hdelay])]
  rfl

theorem State.afterOffset_shows :
    let u := s.afterOffset p stamp m
    let shown := satI 32 (s.syncOffset p stamp m)
    u.build = s.build ∧ u.pending = s.pending ∧ u.fget (Reg.WHL_UPOFF_OFFSET.at (p - 32)) = shown ∧ Tab.get u.whl.offs (p - 32) = some (sext 32 shown) ∧
      u.whl.lastSync = some s.now := by
  intro u shown
  have hq : (s.syncQuot p stamp m).2.timeView syncFields = s.timeView syncFields := State.timeView_freeDiv ..
  obtain ⟨hbuild, hpending, -⟩ := State.timeView_whl hq
  have hshown : shown < 2 ^ 32 := by
    have := Int.emod_lt_of_pos (clampI (-(2 ^ (32 - 1) : Nat)) ((2 ^ (32 - 1) : Nat) - 1) (s.syncOffset p stamp m)) (b := (2 ^ 32 : Nat)) (by decide)
    simp only [shown, satI, signed]
    omega
  refine ⟨by simp [u, State.afterOffset, State.showOffset, setWhl, hbuild], by simp [u, State.afterOffset, State.showOffset, setWhl, hpending], ?_, ?_, rfl⟩
  · exact (State.fget_setWhl ..).trans ((State.fget_fset_self _ _ _ (by simp [RF.at, Reg.WHL_UPOFF_OFFSET])).trans (Nat.mod_eq_of_lt hshown))
  · exact Tab.get_set_self ..

theorem State.afterOffset_waits (hk : p - 32 < 4) :
    (s.afterOffset p stamp m).awaitsTime = s.awaitsTime ∧ (s.afterOffset p stamp m).running = s.running := by
  have hclear : ∀ g ∈ bootFields.take 2, ∀ k < 4, g.clear (Reg.WHL_UPOFF_OFFSET.at k) = true := by decide
  have hq : (s.syncQuot p stamp m).2.timeView bootFields = s.timeView bootFields := State.timeView_freeDiv ..
  have hfield {g : RF} (hg : g ∈ bootFields.take 2) : (s.afterOffset p stamp m).fget g = s.fget g :=
    (State.fget_setWhl ..).trans ((State.fget_fset_clear _ _ (hclear g hg _ hk)).trans (State.timeView_field hq (List.mem_of_mem_take hg)))
  exact State.awaitsTime_congr (hfield (by decide)) (hfield (by decide))

/-- From the port that gives time, the source and its interval are shown. -/
theorem State.followPort_shows (u : State) {k : Nat} (hk : k < 4) (log : Int) :
    let w := u.followPort k log
    w.build = u.build ∧ w.pending = u.pending ∧ w.fget Reg.WHL_STATUS_SOURCE = 1 ∧ w.fget Reg.WHL_STATUS_TIME_PORT = k ∧ w.whl.syncLog = log ∧
      w.fget (Reg.WHL_UPOFF_OFFSET.at k) = u.fget (Reg.WHL_UPOFF_OFFSET.at k) ∧ w.whl.offs = u.whl.offs ∧ w.whl.lastSync = u.whl.lastSync ∧
      w.awaitsTime = u.awaitsTime ∧ w.running = u.running := by
  intro w
  have hclear : ∀ k < 4, (Reg.WHL_UPOFF_OFFSET.at k).clear Reg.WHL_STATUS_SOURCE = true ∧
      (Reg.WHL_UPOFF_OFFSET.at k).clear Reg.WHL_STATUS_TIME_PORT = true := by decide
  have hkeeps {g : RF} (h1 : g.clear Reg.WHL_STATUS_SOURCE = true) (h2 : g.clear Reg.WHL_STATUS_TIME_PORT = true) : w.fget g = u.fget g :=
    (State.fget_fset_clear _ _ h2).trans (State.fget_fset_clear _ _ h1)
  have hsource : w.fget Reg.WHL_STATUS_SOURCE = 1 :=
    (State.fget_fset_clear _ _ (by decide)).trans (State.fget_fset_self _ _ _ (by decide))
  have hport : w.fget Reg.WHL_STATUS_TIME_PORT = k := (State.fget_fset_self _ _ _ (by decide)).trans (Nat.mod_eq_of_lt hk)
  obtain ⟨hawait, hrun⟩ := State.awaitsTime_congr (s := u) (t := w) (hkeeps (by decide) (by decide)) (hkeeps (by decide) (by decide))
  have hwhl : w.whl = { u.whl with syncLog := log } := by simp [w, State.followPort, setWhl]
  refine ⟨by simp [w, State.followPort, setWhl], by simp [w, State.followPort, setWhl], hsource, hport, ?_,
    hkeeps (hclear k hk).1 (hclear k hk).2, ?_, ?_, hawait, hrun⟩ <;> rw [hwhl]

theorem act_timeView {s t : State} (hb : t.build = s.build) (hp : t.pending = s.pending) :
    ∃ u, act s t = .next u ∧ u.timeView syncFields = t.timeView syncFields ∧ u.running = t.running := by
  obtain ⟨u, hu, hside⟩ := act_side s t hb hp
  exact ⟨u, hu, State.timeView_of_side hside (by decide), State.flag_congr (State.fget_of_side hside _ (by decide) (by decide))⟩

end Sync

theorem upOffset_mem_syncFields : ∀ k < 4, Reg.WHL_UPOFF_OFFSET.at k ∈ syncFields := by decide

section
variable {s s1 : State} {p : Nat} {f : Frame} {m : Msg} (h : Gets s p 4 f s1 m)
include h

/-- A Sync on an up-port with a held delay shows the offset of its port, and disciplines the Whorl from the port that gives time. -/
theorem sync_disciplines (stamp : Nat) (hup : (isUp p && !(s1.isPeer p && s1.rootActive)) = true) (htype : ptpType m.words = ptpSYNC)
    (hhold : s1.flag Reg.WHL_CTRL_FORCE_HOLD = false) (hdelay : (Tab.getD s1.whl.delays (p - 32) []).isEmpty = false) :
    ∃ t, exec (.sync p f stamp) s = .next t ∧
      t.fget (Reg.WHL_UPOFF_OFFSET.at (p - 32)) = satI 32 (s1.syncOffset p stamp m) ∧
      Tab.get t.whl.offs (p - 32) = some (sext 32 (satI 32 (s1.syncOffset p stamp m))) ∧ t.whl.lastSync = some s1.now ∧
      (s1.timePort = some p → t.fget Reg.WHL_STATUS_SOURCE = 1 ∧ t.fget Reg.WHL_STATUS_TIME_PORT = p - 32 ∧ t.whl.syncLog = ptpLog m.words ∧
        (s1.running = false → s1.awaitsTime = true → t.running = true)) := by
  obtain ⟨l, hpass, -⟩ := gets_pass h
  obtain ⟨-, hp⟩ := gets_port h
  have hside := (State.rx_some h.1).1
  have hk : p - 32 < 4 := by omega
  have hmem := upOffset_mem_syncFields (p - 32) hk
  obtain ⟨hbuild, hpending, hoff, hoffs, hlast⟩ := State.afterOffset_shows (s := s1.withLea l) (p := p) (stamp := stamp) (m := m)
  rw [State.syncOffset_withLea] at hoff hoffs
  have hb : (s1.withLea l).build = s.build := (s1.withLea_build l).trans (State.build_of_side hside)
  have hq : (s1.withLea l).pending = s.pending := (s1.withLea_pending l).trans (State.pending_of_side hside)
  have hexec : exec (.sync p f stamp) s = act s ((s1.withLea l).takeSync p stamp m) := by
    show execSync p f stamp s = _
    rw [execSync, ptpRx_taken h htype hup, hpass]
  rw [hexec, State.takeSync_eq (s := s1.withLea l) hhold hdelay]
  by_cases htime : (s1.withLea l).timePort = some p
  · obtain ⟨hawait, hrun⟩ := State.afterOffset_waits (s := s1.withLea l) (stamp := stamp) (m := m) hk
    set u := (s1.withLea l).afterOffset p stamp m
    obtain ⟨hfbuild, hfpending, hsource, hport, hlog, hfoff, hfoffs, hflast, hfawait, hfrun⟩ := State.followPort_shows u hk (ptpLog m.words)
    set w := u.followPort (p - 32) (ptpLog m.words)
    have hview := State.timeView_validSync w ((s1.withLea l).syncOffset p stamp m)
    obtain ⟨hvbuild, hvpending, hvoffs, hvlast, hvlog⟩ := State.timeView_whl hview
    obtain ⟨t, ht, htview, htrun⟩ := act_timeView (s := s) (hvbuild.trans (hfbuild.trans (hbuild.trans hb)))
      (hvpending.trans (hfpending.trans (hpending.trans hq)))
    rw [hview] at htview
    obtain ⟨-, -, htoffs, htlast, htlog⟩ := State.timeView_whl htview
    refine ⟨t, by rw [if_neg (not_not.2 htime)]; exact ht, (State.timeView_field htview hmem).trans (hfoff.trans hoff), ?_, ?_, fun _ =>
      ⟨(State.timeView_field htview (by decide)).trans hsource, (State.timeView_field htview (by decide)).trans hport, htlog.trans hlog, fun hr ha => ?_⟩⟩
    · rw [htoffs, hfoffs]; exact hoffs
    · rw [htlast, hflast]; exact hlast
    · rw [htrun]
      exact State.running_validSync w (hfrun.trans (hrun.trans hr)) (hfawait.trans (hawait.trans ha))
  · obtain ⟨t, ht, htview, -⟩ := act_timeView (s := s) (hbuild.trans hb) (hpending.trans hq)
    obtain ⟨-, -, htoffs, htlast, -⟩ := State.timeView_whl htview
    refine ⟨t, by rw [if_pos htime]; exact ht, (State.timeView_field htview hmem).trans hoff, ?_, ?_, fun hc => absurd hc htime⟩
    · rw [htoffs]; exact hoffs
    · rw [htlast]; exact hlast

end
end Sys2Proof.Machine
end

section
/-! SUPPORT. ANNOUNCE and PDELAY_RESP (R84, R104, R133). -/

namespace Sys2Proof.Machine

/-! ### ANNOUNCE (R104) -/

/-- An Announce of the port that gives time is kept. -/
def State.keepAnnounce (s : State) (p : Nat) (m : Msg) : State :=
  if s.timePort = some p then
    setWhl s fun w => { w with ann := some (ptpField m.words 48 1, sext 16 (ptpField m.words 44 2), ptpField m.words 7 1 % 2 == 1, ptpField m.words 7 1 / 2 % 2 == 1) }
  else s

/-- The UTC offset of an Announce is compared with the loaded table. -/
def State.compareUtc (s : State) (utc now : Int) : State :=
  match s.whl.leap with
  | none => s
  | some _ => if utc = now then s.fset Reg.WHL_UTC_MISMATCH 0 else (s.fset Reg.WHL_UTC_MISMATCH 1).timeFaultFree

theorem State.compareUtc_whl (s : State) (utc now : Int) :
    (s.compareUtc utc now).whl = s.whl ∧ (s.compareUtc utc now).build = s.build ∧ (s.compareUtc utc now).pending = s.pending := by
  unfold State.compareUtc
  split
  · exact ⟨rfl, rfl, rfl⟩
  · split <;> simp [State.timeFaultFree, State.freeWord, State.raise]

theorem State.compareUtc_flag {s : State} {l : Leap} (hl : s.whl.leap = some l) (utc now : Int) :
    (s.compareUtc utc now).flag Reg.WHL_UTC_MISMATCH = decide (utc ≠ now) := by
  have hset (u : State) (v : Nat) : (u.fset Reg.WHL_UTC_MISMATCH v).flag Reg.WHL_UTC_MISMATCH = (v % 2 != 0) := by
    unfold State.flag
    rw [State.fget_fset_self _ _ _ (by decide)]; rfl
  unfold State.compareUtc
  rw [hl]
  simp only
  split
  · rw [hset]; simp [*]
  · exact (hset s 1).trans (by simp [*])

section
variable {s s1 : State} {p : Nat} {f : Frame} {m : Msg} (h : Gets s p 4 f s1 m)
include h

/-- An Announce of the time port is kept, and its UTC offset is compared with the loaded table. -/
theorem announce_kept (hup : (isUp p && !(s1.isPeer p && s1.rootActive)) = true) (htype : ptpType m.words = ptpANNOUNCE) :
    ∃ t, exec (.announce p f) s = .next t ∧ t.whl.ann = (s1.keepAnnounce p m).whl.ann ∧
      ∀ l, s1.whl.leap = some l → t.flag Reg.WHL_UTC_MISMATCH = decide (sext 16 (ptpField m.words 44 2) ≠ s1.utcNow) := by
  obtain ⟨l, hpass, -⟩ := gets_pass h
  have hside := (State.rx_some h.1).1
  set u := s1.withLea l with hu
  set utc := sext 16 (ptpField m.words 44 2)
  have hkept : (u.keepAnnounce p m).whl.leap = s1.whl.leap ∧ (u.keepAnnounce p m).build = s1.build ∧ (u.keepAnnounce p m).pending = s1.pending ∧
      (u.keepAnnounce p m).whl = (s1.keepAnnounce p m).whl := by
    have htime : u.timePort = s1.timePort := rfl
    unfold State.keepAnnounce
    rw [htime]
    split <;> exact ⟨rfl, rfl, rfl, rfl⟩
  obtain ⟨hleap, hbuild, hpending, hwhl⟩ := hkept
  obtain ⟨hcwhl, hcbuild, hcpending⟩ := State.compareUtc_whl (u.keepAnnounce p m) utc u.utcNow
  have hexec : exec (.announce p f) s = act s ((u.keepAnnounce p m).compareUtc utc u.utcNow) := by
    show execAnnounce p f s = _
    rw [execAnnounce, ptpRx_taken h htype hup, hpass]
    unfold State.compareUtc
    rw [hleap]
    rfl
  obtain ⟨t, ht, htside⟩ := act_side s ((u.keepAnnounce p m).compareUtc utc u.utcNow)
    (hcbuild.trans (hbuild.trans (State.build_of_side hside))) (hcpending.trans (hpending.trans (State.pending_of_side hside)))
  refine ⟨t, hexec.trans ht, ?_, fun l' hl' => ?_⟩
  · rw [State.whl_part_of_side htside Whorl.ann fun _ => rfl, hcwhl, hwhl]
  · rw [State.flag_congr (State.fget_of_side htside Reg.WHL_UTC_MISMATCH (by decide) (by decide)), State.compareUtc_flag (hleap.trans hl')]
    rfl

end

/-! ### PDELAY_RESP (R84, R133) -/

theorem RF.port_clear {f g : RF} (hf : 0x80000 ≤ f.addr) (hg : g.addr + 4 < 0x80000) : g.clear f = true := RF.clear_far (by omega)

/-- The judgement of a link leaves the Whorl and its registers. -/
theorem State.judgeLink_keeps (s : State) (p : Nat) :
    (s.judgeLink p).whl = s.whl ∧ (s.judgeLink p).build = s.build ∧ (s.judgeLink p).pending = s.pending ∧
      ∀ g : RF, g.addr + 4 < 0x80000 → (s.judgeLink p).fget g = s.fget g := by
  have hset (u : State) (v : Nat) (g : RF) (hg : g.addr + 4 < 0x80000) : (u.fset (Reg.STR_PSTAT_RESERVABLE.at p) v).fget g = u.fget g :=
    State.fget_fset_clear u v (RF.port_clear (by simp only [RF.at, Reg.STR_PSTAT_RESERVABLE]; omega) hg)
  unfold State.judgeLink
  extract_lets k far s2
  split
  · exact ⟨rfl, rfl, rfl, fun _ _ => rfl⟩
  · split
    · exact ⟨by simp [State.raise, s2, State.modPort, State.setPort], by simp [State.raise, s2, State.modPort, State.setPort], by simp [State.raise, s2, State.modPort, State.setPort], fun g hg => hset s2 0 g hg⟩
    · exact ⟨by simp [s2, State.modPort, State.setPort], by simp [s2, State.modPort, State.setPort], by simp [s2, State.modPort, State.setPort], fun g hg => hset s2 1 g hg⟩

/-- The measurement that a Pdelay_Resp completes: twice the path delay (R84). -/
def State.measured (s : State) (p stamp : Nat) (t1 : Int) (m : Msg) : Int := (s.ballIn p stamp - t1) * 256 - ptpCorr m.words

/-- The block with the measurements `l` of up-port `k` held, and their mean shown. -/
def State.holdDelays (s : State) (k : Nat) (l : List Int) : State :=
  let avg := s.freeDiv (l.foldl (· + ·) 0) (l.length * 512)
  setWhl (avg.2.fset (Reg.WHL_UPMPD_MPD.at k) (satI 32 avg.1)) fun w => { w with delays := Tab.set w.delays k l }

theorem satI_lt (w : Nat) (v : Int) : satI w v < 2 ^ w := by
  have h := Int.emod_lt_of_pos (clampI (-(2 ^ (w - 1) : Nat)) ((2 ^ (w - 1) : Nat) - 1) v) (b := (2 ^ w : Nat)) (by exact_mod_cast Nat.two_pow_pos w)
  have h0 := Int.emod_nonneg (clampI (-(2 ^ (w - 1) : Nat)) ((2 ^ (w - 1) : Nat) - 1) v) (b := (2 ^ w : Nat)) (by exact_mod_cast (Nat.two_pow_pos w).ne')
  unfold satI signed
  omega

theorem State.holdDelays_shows (s : State) (k : Nat) {l : List Int} (hl : l ≠ []) :
    let u := s.holdDelays k l
    u.build = s.build ∧ u.pending = s.pending ∧ u.whl.reqs = s.whl.reqs ∧ Tab.get u.whl.delays k = some l ∧
      ∃ r : Int, (l.foldl (· + ·) 0 - r * (l.length * 512)).natAbs < l.length * 512 ∧ u.fget (Reg.WHL_UPMPD_MPD.at k) = satI 32 r := by
  intro u
  have hlen := List.length_pos_of_ne_nil hl
  have hoff := State.offRegs_freeDiv s (l.foldl (· + ·) 0) (l.length * 512)
  have hwhl : u.whl = { s.whl with delays := Tab.set s.whl.delays k l } := by
    simp [u, State.holdDelays, setWhl, State.whl_of_offRegs hoff]
  refine ⟨by simp [u, State.holdDelays, setWhl, State.build_of_offRegs hoff], by simp [u, State.holdDelays, setWhl, State.pending_of_offRegs hoff],
    by rw [hwhl], by rw [hwhl]; exact Tab.get_set_self .., (s.freeDiv (l.foldl (· + ·) 0) (l.length * 512)).1, ?_, ?_⟩
  · have hnear := freeDiv_near s (l.foldl (· + ·) 0) (b := l.length * 512) (by omega)
    rw [mul_comm] at hnear
    exact_mod_cast hnear
  · exact (State.fget_setWhl ..).trans ((State.fget_fset_self _ _ _ (by simp [RF.at, Reg.WHL_UPMPD_MPD])).trans (Nat.mod_eq_of_lt (satI_lt 32 _)))

/-- The mean of up-port `k` stands after what follows a measurement. -/
theorem State.seqAndJudge_keeps (u : State) (c : Prop) [Decidable c] (p : Nat) :
    let t := (if c then u.bump Reg.WHL_MEAS_SEQ else u).judgeLink p
    t.whl = u.whl ∧ t.build = u.build ∧ t.pending = u.pending ∧ ∀ k < 4, t.fget (Reg.WHL_UPMPD_MPD.at k) = u.fget (Reg.WHL_UPMPD_MPD.at k) := by
  have hclear : ∀ k < 4, (Reg.WHL_UPMPD_MPD.at k).clear Reg.WHL_MEAS_SEQ = true ∧ (Reg.WHL_UPMPD_MPD.at k).addr + 4 < 0x80000 := by decide
  obtain ⟨hwhl, hbuild, hpending, hfget⟩ := State.judgeLink_keeps (if c then u.bump Reg.WHL_MEAS_SEQ else u) p
  refine ⟨hwhl.trans (by split <;> simp), hbuild.trans (by split <;> simp), hpending.trans (by split <;> simp), fun k hk =>
    (hfget _ (hclear k hk).2).trans ?_⟩
  split
  · exact State.fget_fset_clear _ _ (hclear k hk).1
  · rfl

/-- A measurement answered: without its request, and discarded where it lies too far from the mean of 16 (R84). -/
theorem State.takeDelay_cases {s : State} {p : Nat} {m : Msg} {t1 : Int} (hreq : Tab.get s.whl.reqs (p - 32) = some (ptpSeq m.words, t1)) (stamp : Nat) :
    let d := s.measured p stamp t1 m
    let held := Tab.getD s.whl.delays (p - 32) []
    let s0 := setWhl s fun w => { w with reqs := Tab.del w.reqs (p - 32) }
    s.takeDelay p stamp m =
      if held.length ≥ 16 ∧ (16 * d - held.foldl (· + ·) 0).natAbs > 2 * 2 ^ 17 * 16 then s0
      else
        let u := s0.holdDelays (p - 32) (d :: held.take 15)
        (if s.assisted 0 ∧ s.timePort = some p then u.bump Reg.WHL_MEAS_SEQ else u).judgeLink p := by
  intro d held s0
  simp only [State.takeDelay, hreq, ne_eq, not_true_eq_false, if_false]
  rfl

section
variable {s s1 : State} {p : Nat} {f : Frame} {m : Msg} (h : Gets s p 4 f s1 m)
include h

/-- A Pdelay_Resp completes the measurement that it answers. -/
theorem pdelayResp_completes (stamp : Nat) (hup : (isUp p && !(s1.isPeer p && s1.rootActive)) = true) (htype : ptpType m.words = ptpPDELAY_RESP)
    (hwf : Tab.wf s1.whl.reqs = true) {t1 : Int} (hreq : Tab.get s1.whl.reqs (p - 32) = some (ptpSeq m.words, t1)) :
    let d := s1.measured p stamp t1 m
    let held := Tab.getD s1.whl.delays (p - 32) []
    let far := (16 * d - held.foldl (· + ·) 0).natAbs > 2 * 2 ^ 17 * 16
    ∃ t, exec (.pdelayResp p f stamp) s = .next t ∧ Tab.get t.whl.reqs (p - 32) = none ∧
      (held.length = 16 → far → t.whl.delays = s1.whl.delays) ∧
      (held.length < 16 ∨ (held.length = 16 ∧ (16 * d - held.foldl (· + ·) 0).natAbs ≤ 2 * 2 ^ 17 * 16) →
        Tab.get t.whl.delays (p - 32) = some (d :: held.take 15) ∧
        ∃ r : Int, ((d :: held.take 15).foldl (· + ·) 0 - r * ((min 15 held.length + 1) * 512)).natAbs < (min 15 held.length + 1) * 512 ∧
          t.fget (Reg.WHL_UPMPD_MPD.at (p - 32)) = satI 32 r) := by
  intro d held far
  obtain ⟨l, hpass, -⟩ := gets_pass h
  obtain ⟨-, hp⟩ := gets_port h
  have hside := (State.rx_some h.1).1
  have hk : p - 32 < 4 := by omega
  have hquiet : ∀ k < 4, quietWord (Reg.WHL_UPMPD_MPD.at k).addr = true := by decide
  set u := s1.withLea l with hu
  set s0 := setWhl u fun w => { w with reqs := Tab.del w.reqs (p - 32) } with hs0
  have hb : s0.build = s.build := (show s0.build = s1.build from rfl).trans (State.build_of_side hside)
  have hq : s0.pending = s.pending := (show s0.pending = s1.pending from rfl).trans (State.pending_of_side hside)
  have hgone : Tab.get s0.whl.reqs (p - 32) = none := Tab.get_del_self _ _ hwf
  have hexec : exec (.pdelayResp p f stamp) s = act s (u.takeDelay p stamp m) := by
    show execPdelayResp p f stamp s = _
    rw [execPdelayResp, ptpRx_taken h htype hup, hpass]
  rw [hexec, State.takeDelay_cases (s := u) hreq stamp]
  by_cases hout : held.length ≥ 16 ∧ far
  · obtain ⟨t, ht, htside⟩ := act_side s s0 hb hq
    refine ⟨t, (congrArg (act s) (if_pos hout)).trans ht, ?_, fun _ _ => State.whl_part_of_side htside Whorl.delays fun _ => rfl, fun hc => ?_⟩
    · rw [State.whl_part_of_side htside Whorl.reqs fun _ => rfl]; exact hgone
    · obtain ⟨hlen, hfar⟩ := hout
      rcases hc with hc | ⟨-, hc⟩
      · omega
      · exact absurd hfar (Nat.not_lt.2 hc)
  · obtain ⟨hdbuild, hdpending, hdreqs, hddelays, r, hr, hshown⟩ := State.holdDelays_shows s0 (p - 32) (l := d :: held.take 15) (by simp)
    set v := s0.holdDelays (p - 32) (d :: held.take 15)
    obtain ⟨hjwhl, hjbuild, hjpending, hjfget⟩ := State.seqAndJudge_keeps v (u.assisted 0 = true ∧ u.timePort = some p) p
    obtain ⟨t, ht, htside⟩ := act_side s _ (hjbuild.trans (hdbuild.trans hb)) (hjpending.trans (hdpending.trans hq))
    refine ⟨t, (congrArg (act s) (if_neg hout)).trans ht, ?_, fun h16 hfar => absurd ⟨h16.ge, hfar⟩ hout, fun _ => ⟨?_, r, ?_, ?_⟩⟩
    · rw [State.whl_part_of_side htside Whorl.reqs fun _ => rfl, hjwhl, hdreqs]; exact hgone
    · rw [State.whl_part_of_side htside Whorl.delays fun _ => rfl, hjwhl]; exact hddelays
    · simpa using hr
    · exact (State.fget_of_side htside _ (hquiet _ hk) (.inl (by simp [RF.at, Reg.WHL_UPMPD_MPD]))).trans ((hjfget _ hk).trans hshown)

end
end Sys2Proof.Machine
end

section
/-! SUPPORT. PDELAY_REQ and its answer (R80, R83), and the statement TimeMessagesAreTaken. -/

namespace Sys2Proof.Machine

/-! ### Bytes and words (R16) -/

theorem toBytes_succ (n w : Nat) : toBytes (n + 1) w = BitVec.ofNat 8 w :: toBytes n (w / 256) := by
  simp only [toBytes, List.range_succ_eq_map, List.map_cons, List.map_map, Nat.mul_zero, Nat.pow_zero, Nat.div_one, List.cons.injEq, true_and]
  refine List.map_congr_left fun i _ => ?_
  rw [Function.comp_apply, Nat.div_div_eq_div_mul, Nat.mul_succ, Nat.pow_add, Nat.mul_comm]

theorem ofBytes_toBytes (n w : Nat) : ofBytes (toBytes n w) = w % 256 ^ n := by
  induction n generalizing w with
  | zero => simp [toBytes, ofBytes, Nat.mod_one]
  | succ n ih =>
    have h8 : (2 : Nat) ^ 8 = 256 := by norm_num
    rw [toBytes_succ, ofBytes, ih, BitVec.toNat_ofNat, h8, Nat.pow_succ']
    exact Nat.mod_mul.symm

theorem toBytes_ofBytes (bs : List Byte) : toBytes bs.length (ofBytes bs) = bs := by
  induction bs with
  | nil => rfl
  | cons b bs ih =>
    have hb : b.toNat < 256 := b.isLt
    have hdiv : (b.toNat + 256 * ofBytes bs) / 256 = ofBytes bs := by omega
    rw [List.length_cons, toBytes_succ, ofBytes, hdiv, ih]
    congr 1
    apply BitVec.eq_of_toNat_eq
    rw [BitVec.toNat_ofNat]
    omega

theorem ofBytes_lt (bs : List Byte) : ofBytes bs < 256 ^ bs.length := by
  induction bs with
  | nil => simp [ofBytes]
  | cons b bs ih =>
    have hb : b.toNat < 256 := b.isLt
    rw [ofBytes, List.length_cons, Nat.pow_succ']
    omega

/-- Whole words hold the bytes that they were made of. -/
theorem wordsBytes_bytesWordsF (k n : Nat) (bs : List Byte) (hlen : bs.length = 8 * k) (hn : k ≤ n) :
    wordsBytes (bytesWordsF n bs) = bs ∧ (bytesWordsF n bs).length = k := by
  induction k generalizing n bs with
  | zero =>
    rw [List.length_eq_zero_iff.1 hlen]
    cases n <;> exact ⟨rfl, rfl⟩
  | succ k ih =>
    obtain ⟨n, rfl⟩ : ∃ n', n = n' + 1 := ⟨n - 1, by omega⟩
    obtain ⟨b, t, rfl⟩ := List.exists_cons_of_length_eq_add_one (show bs.length = (8 * k + 7) + 1 by omega)
    have hrest := ih n ((b :: t).drop 8) (by rw [List.length_drop]; omega) (by omega)
    have htake : ((b :: t).take 8).length = 8 := by rw [List.length_take]; omega
    have hlt := ofBytes_lt ((b :: t).take 8)
    have hround := toBytes_ofBytes ((b :: t).take 8)
    rw [htake] at hlt hround
    have hword : toBytes 8 (BitVec.ofNat 64 (ofBytes ((b :: t).take 8))).toNat = (b :: t).take 8 := by
      rw [BitVec.toNat_ofNat, Nat.mod_eq_of_lt (hlt.trans_eq (by norm_num)), hround]
    constructor
    · show toBytes 8 _ ++ wordsBytes (bytesWordsF n _) = _
      rw [hword, hrest.1, List.take_append_drop]
    · show (bytesWordsF n _).length + 1 = _
      rw [hrest.2]

theorem wordsBytes_bytesWords {k : Nat} {bs : List Byte} (hlen : bs.length = 8 * k) :
    wordsBytes (bytesWords bs) = bs ∧ (bytesWords bs).length = k :=
  wordsBytes_bytesWordsF k bs.length bs hlen (by omega)

/-! ### A Pdelay_Resp message (R80, R83) -/

@[simp] theorem beBytes_length (n v : Nat) : (beBytes n v).length = n := by simp [beBytes, toBytes]

theorem beVal_beBytes (n v : Nat) : beVal (beBytes n v) = v % 256 ^ n := by
  rw [beVal, beBytes, List.reverse_reverse, ofBytes_toBytes]

theorem ptpSeq_lt (ws : List W64) : ptpSeq ws < 65536 := by
  refine (ofBytes_lt _).trans_le ?_
  calc 256 ^ ((((ptpBytes ws).drop 30).take 2).reverse.length) ≤ 256 ^ 2 := Nat.pow_le_pow_right (by decide) (by simp)
    _ = 65536 := by norm_num

/-- The bytes of a Pdelay_Resp, with the two that pad it to whole words. -/
def pdelayRespBytes (ident seq asked : Nat) : List Byte :=
  ptpHeader ptpPDELAY_RESP 54 0 0 ident seq 0x7F ++ beBytes 10 0 ++ beBytes 10 asked ++ [0, 0]

theorem pdelayRespMsg_bytes (ident seq asked : Nat) :
    ptpBytes (pdelayRespMsg ident seq asked) = pdelayRespBytes ident seq asked ∧ (pdelayRespMsg ident seq asked).length = 7 := by
  have hpad : pdelayRespMsg ident seq asked = bytesWords (pdelayRespBytes ident seq asked) := by
    unfold pdelayRespMsg ptpWords padTo pdelayRespBytes
    congr 2
    simp [ptpHeader, List.replicate]
  rw [hpad]
  exact wordsBytes_bytesWords (by simp [pdelayRespBytes, ptpHeader])

theorem ptpSeq_pdelayRespMsg (ident asked : Nat) {seq : Nat} (hseq : seq < 65536) : ptpSeq (pdelayRespMsg ident seq asked) = seq := by
  have hbytes : pdelayRespBytes ident seq asked =
      ([BitVec.ofNat 8 ptpPDELAY_RESP, 0x12#8] ++ beBytes 2 54 ++ [0#8, 0#8] ++ beBytes 2 0 ++ beBytes 8 0 ++ beBytes 4 0 ++ beBytes 10 ident) ++
        (beBytes 2 seq ++ ([0#8, BitVec.ofInt 8 0x7F] ++ beBytes 10 0 ++ beBytes 10 asked ++ [0, 0])) := by
    simp [pdelayRespBytes, ptpHeader]
  rw [ptpSeq, ptpField, (pdelayRespMsg_bytes ident seq asked).1, hbytes, List.drop_left' (by simp), List.take_left' (by simp), beVal_beBytes]
  exact Nat.mod_eq_of_lt hseq

theorem ptpType_pdelayRespMsg (ident seq asked : Nat) : ptpType (pdelayRespMsg ident seq asked) = ptpPDELAY_RESP := by
  obtain ⟨hbytes, hlen⟩ := pdelayRespMsg_bytes ident seq asked
  obtain ⟨w, ws, hw⟩ := List.exists_cons_of_length_eq_add_one hlen
  rw [hw] at hbytes ⊢
  have hhead : (ptpBytes (w :: ws)).head? = some (BitVec.ofNat 8 w.toNat) := by
    simp only [ptpBytes, wordsBytes, List.foldr_cons, toBytes_succ, List.cons_append, List.head?_cons]
  have hbyte : BitVec.ofNat 8 w.toNat = BitVec.ofNat 8 3 := by
    rw [hbytes] at hhead
    exact (Option.some.inj hhead).symm
  have hlow := congrArg BitVec.toNat hbyte
  simp only [BitVec.toNat_ofNat] at hlow
  show w.toNat / 2 ^ 0 % 2 ^ 4 = 3
  omega

/-! ### PDELAY_REQ (R83, R133) -/

theorem listSet_getD {α : Type} (l : List α) {i : Nat} (v d : α) (h : i < l.length) : (listSet l i v).getD i d = v := by
  induction l generalizing i with
  | nil => cases h
  | cons a l ih =>
    cases i with
    | zero => rfl
    | succ i => exact ih (Nat.lt_of_succ_lt_succ h)

/-- Frames handed to Draft in a reserved class: they are no new message, and where they fit they stand last in their queue. -/
theorem State.sendFrames_port (s : State) (p : Nat) {c : Nat} (hc : 4 ≤ c) {fs : List TxFrame} (hb : Bare fs) :
    let t := s.sendFrames p c fs
    t.str.msgs = s.str.msgs ∧ (t.port p).pdReqs = (s.port p).pdReqs ∧
      (s.portFenced p = false → s.qFits (egressQ p c) (cellsSum fs) = true → (s.port p).stalled = [] → c < (s.port p).egress.length →
        (t.port p).egress.getD c [] = (s.port p).egress.getD c [] ++ fs) := by
  by_cases hf : s.portFenced p = true
  · have he : s.sendFrames p c fs = (s.led 6 (draftPt p c) .inn fs.length).ledDrop 6 (draftPt p c) rsnFENCED fs.length := by
      simp only [State.sendFrames, hf, if_true, State.dropAtDraft, State.endFrames_bare _ hb]
    rw [he]
    exact ⟨by simp, by simp, fun hn => by rw [hf] at hn; cases hn⟩
  · by_cases hq : (s.qFits (egressQ p c) (cellsSum fs) && (s.port p).stalled.isEmpty) = true
    · have he : s.sendFrames p c fs = s.enqueue p c fs := by
        simp only [State.sendFrames, hf, if_false, ge_iff_le, hc, if_true, hq, Bool.false_eq_true]
      rw [he]
      refine ⟨by simp [State.enqueue, State.modPort, State.setPort], by simp [State.enqueue, State.modPort, State.port_setPort], fun _ _ _ hlen => ?_⟩
      simp only [State.enqueue, State.modPort, State.port_led, State.port_setPort, if_true]
      exact listSet_getD _ _ _ hlen
    · have he : s.sendFrames p c fs = (s.modPort p fun x => { x with stalled := x.stalled ++ [fs] }).bump Reg.BOB_STAT_RSTALL := by
        simp only [State.sendFrames, hf, if_false, ge_iff_le, hc, if_true, hq, Bool.false_eq_true]
      rw [he]
      refine ⟨by simp [State.modPort, State.setPort], by simp [State.modPort, State.port_setPort], fun _ hfits hst _ => ?_⟩
      rw [hfits, hst] at hq
      exact absurd rfl hq

/-- The one frame of a Pdelay_Resp. -/
theorem pdelayResp_frames (msg ident seq asked : Nat) (t2 : Int) :
    ∃ x : TxFrame, (mkFrames 0x04 7 msg 0 false (pdelayRespMsg ident seq asked) []).map (fun f => { f with t2 }) = [x] ∧ x.typ = 4 ∧
      x.payload = pdelayRespMsg ident seq asked ∧ x.t2 = t2 ∧ x.cells = cellsOf (frameBytesLen 7) := by
  obtain ⟨-, hlen⟩ := pdelayRespMsg_bytes ident seq asked
  have hparts : framesF (7 + 1) (pdelayRespMsg ident seq asked) = [pdelayRespMsg ident seq asked] := by
    rw [framesF, if_pos (by omega)]
  refine ⟨_, by simp only [mkFrames, mkFramesN, hlen, hparts]; rfl, rfl, rfl, rfl, ?_⟩
  show cellsOf (frameBytesLen (pdelayRespMsg ident seq asked).length) = _
  rw [hlen]

/-- A port that has taken one more Pdelay_Req. -/
def Port.asked (x : Port) : Port := { x with pdReqs := x.pdReqs + 1 }

/-- The block once it has counted a Pdelay_Req of port `p`; the 17th may change the parent's mark of the link. -/
def State.countReq (s : State) (p : Nat) : State :=
  let s1 := s.ident.2.modPort p Port.asked
  if (s.port p).pdReqs + 1 = 17 then s1.freeBit.2.fsetB (Reg.STR_PSTAT_RESERVABLE.at p) s1.freeBit.1 else s1

theorem State.fset_eq_regs (s : State) (f : RF) (v : Nat) : ∃ r, s.fset f v = { s with regs := r } := by
  unfold State.fset; split <;> exact ⟨_, rfl⟩

/-- Counting changes the port, the mark of its link and the free choices. -/
theorem State.countReq_eq (s : State) (p : Nat) :
    ∃ r n, s.countReq p = { s.modPort p Port.asked with regs := r, fresh := n } ∧
      ∀ g : RF, g.clear (Reg.STR_PSTAT_RESERVABLE.at p) = true → (s.countReq p).fget g = s.fget g := by
  unfold State.countReq
  extract_lets s1
  split
  · obtain ⟨r, hr⟩ := State.fset_eq_regs s1.freeBit.2 (Reg.STR_PSTAT_RESERVABLE.at p) (b2n s1.freeBit.1)
    exact ⟨r, s1.fresh + 1, hr, fun g hg => State.fget_fset_clear s1.freeBit.2 _ hg⟩
  · exact ⟨s.regs, s1.fresh, rfl, fun _ _ => rfl⟩

theorem State.regGet_of_fget {s t : State} {f : RF} (hlo : f.lo = 0) (hw : f.w = 32) (h : t.fget f = s.fget f) : t.regGet f.addr = s.regGet f.addr := by
  rw [State.fget_narrow _ _ (by omega), State.fget_narrow _ _ (by omega), hlo, hw, Nat.pow_zero, Nat.div_one, Nat.div_one,
    Nat.mod_eq_of_lt (t.regGet f.addr).isLt, Nat.mod_eq_of_lt (s.regGet f.addr).isLt] at h
  exact BitVec.eq_of_toNat_eq h

theorem State.countReq_far (s : State) (p : Nat) {g : RF} (h : g.addr + 4 < 0x80000) : (s.countReq p).fget g = s.fget g := by
  obtain ⟨-, -, -, hfget⟩ := State.countReq_eq s p
  exact hfget g (RF.port_clear (by simp only [RF.at, Reg.STR_PSTAT_RESERVABLE]; omega) h)

theorem State.countReq_portFenced (s : State) (p q : Nat) : (s.countReq p).portFenced q = s.portFenced q := by
  obtain ⟨r, n, he, -⟩ := State.countReq_eq s p
  have hparts := s.countReq_far p (g := Reg.SNG_FSTAT_PARTS) (by decide)
  have hsnag : (s.countReq p).snag = s.snag := by rw [he]; rfl
  have hbuild : (s.countReq p).build = s.build := by rw [he]; rfl
  have hpart : (s.countReq p).portPart q = s.portPart q := by
    unfold State.portPart
    rw [List.find?_congr fun n hn => ?_]
    rw [State.regGet_of_fget (f := Reg.STR_PART_PORTS.at n) rfl rfl (s.countReq_far p (by
      have := List.mem_range.1 hn
      simp only [RF.at, Reg.STR_PART_PORTS]; omega))]
  simp only [State.portFenced, State.isFenced, State.partFenced, hsnag, hbuild, hparts, hpart]

theorem State.countReq_port (s : State) (p : Nat) : (s.countReq p).port p = (s.port p).asked := by
  obtain ⟨r, n, he, -⟩ := State.countReq_eq s p
  rw [he]
  exact (State.port_setPort s p p _).trans (if_pos rfl)

theorem State.qFits_egress (s : State) {p : Nat} (hp : p < 36) (n : Nat) :
    s.qFits (egressQ p 7) n = decide (s.egressCells p 7 + n ≤ s.portCharge p) := by
  have h128 : 128 ≤ egressQ p 7 ∧ egressQ p 7 < 416 := by unfold egressQ; omega
  have hclass : egressQ p 7 % 8 = 7 := by unfold egressQ; omega
  have hport : (egressQ p 7 - 128) / 8 = p := by unfold egressQ; omega
  have hcells : s.qCells (egressQ p 7) = s.egressCells p 7 := by
    unfold State.qCells
    rw [if_neg (by omega), if_neg (by omega), if_neg (by omega), if_neg (by omega), if_pos h128, hclass, hport]
  have hlimit : s.qLimit (egressQ p 7) = s.portCharge p := by
    unfold State.qLimit
    rw [if_pos ⟨h128.1, h128.2, by omega⟩, hport]
  rw [State.qFits, hcells, hlimit, if_pos ⟨h128.1, h128.2, by omega⟩, Bool.and_true]

theorem State.countReq_qFits (s : State) {p : Nat} (hp : p < 36) (n : Nat) : (s.countReq p).qFits (egressQ p 7) n = s.qFits (egressQ p 7) n := by
  obtain ⟨r, f, he, hfget⟩ := State.countReq_eq s p
  have hup : (s.countReq p).portUp p = s.portUp p := by
    unfold State.portUp State.pState
    rw [hfget _ (by simp [RF.clear, RF.at, Reg.STR_PSTAT_STATE, Reg.STR_PSTAT_RESERVABLE])]
  have hburst := s.countReq_far p (g := Reg.SNG_RES_BURST) (by decide)
  have hpaths : (s.countReq p).str.paths = s.str.paths := by rw [he]; rfl
  have hcells : (s.countReq p).egressCells p 7 = s.egressCells p 7 := by
    unfold State.egressCells
    rw [State.countReq_port]; rfl
  rw [State.qFits_egress _ hp, State.qFits_egress _ hp, State.portCharge, State.portCharge, hup, hburst, hpaths, hcells]

/-- A message more has been started. -/
def State.newMsg (s : State) : State := { s with str := { s.str with msgs := s.str.msgs + 1 } }

theorem State.newMsg_keeps (s : State) (p q n : Nat) :
    s.newMsg.port p = s.port p ∧ s.newMsg.portFenced p = s.portFenced p ∧ s.newMsg.qFits q n = s.qFits q n := ⟨rfl, rfl, rfl⟩

section
variable {s s1 : State} {p : Nat} {f : Frame} {m : Msg} (h : Gets s p 4 f s1 m)
include h

/-- A Pdelay_Req is counted and answered with its arrival. -/
theorem pdelayReq_answered (stamp : Nat) (hdown : (isUp p && !(s1.isPeer p && s1.rootActive)) = false) (htype : ptpType m.words = ptpPDELAY_REQ) :
    ∃ t, exec (.pdelayReq p f stamp) s = .next t ∧ t.str.msgs = s1.str.msgs + 1 ∧ (t.port p).pdReqs = (s1.port p).pdReqs + 1 ∧
      (s1.portFenced p = false → s1.qFits (egressQ p 7) (cellsOf (frameBytesLen 7)) = true → (s1.port p).stalled = [] → (s1.port p).egress.length = 8 →
        ∃ x, (t.port p).egress.getD 7 [] = (s1.port p).egress.getD 7 [] ++ [x] ∧ x.typ = 4 ∧ ptpType x.payload = ptpPDELAY_RESP ∧
          ptpSeq x.payload = ptpSeq m.words ∧ x.t2 = s1.ballIn p stamp) := by
  obtain ⟨l, hpass, hroomy⟩ := gets_pass h
  obtain ⟨-, hp⟩ := gets_port h
  set u := s1.withLea l with hu
  set w := pdelayRespMsg u.ident.1 (ptpSeq m.words) (ptpField m.words 20 10) with hw
  have hexec : exec (.pdelayReq p f stamp) s = act s ((u.countReq p).sendPtp p w (u.ballIn p stamp)) := by
    show execPdelayReq p f stamp s = _
    rw [execPdelayReq, ptpRx_taken h htype hdown, hpass]
    rfl
  obtain ⟨r, n, he, -⟩ := State.countReq_eq u p
  have hlen : w.length = 7 := (pdelayRespMsg_bytes _ _ _).2
  have hcounted : (u.countReq p).Roomy (2 ^ 63 + 2 ^ 32) := hroomy.of_eq (by rw [he]; rfl) (by rw [he]; rfl)
  have hqueued := State.sendPtp_queued (u.countReq p) p w (u.ballIn p stamp)
  have hbuild : (u.countReq p).build = s1.build := by rw [he]; rfl
  have hpending : (u.countReq p).pending = s1.pending := by rw [he]; rfl
  have hmsgs : (u.countReq p).str.msgs = s1.str.msgs := by rw [he]; rfl
  have hport : (u.countReq p).port p = (s1.port p).asked := State.countReq_port u p
  obtain ⟨x, hfs, htyp, hpay, ht2, hcells⟩ := pdelayResp_frames (u.countReq p).str.msgs u.ident.1 (ptpSeq m.words) (ptpField m.words 20 10) (u.ballIn p stamp)
  have hbare : Bare [x] := by
    rw [← hfs]
    intro g hg
    obtain ⟨g', hg', rfl⟩ := List.mem_map.1 hg
    exact mkFrames_bare 0x04 7 _ 0 false w g' hg'
  have hsend : (u.countReq p).sendPtp p w (u.ballIn p stamp) = (u.countReq p).newMsg.sendFrames p 7 [x] := by
    rw [← hfs]; rfl
  have hcellsum : cellsSum [x] = cellsOf (frameBytesLen 7) := by simp [cellsSum, sumN, hcells]
  obtain ⟨hnport, hnfenced, hnfits⟩ := (u.countReq p).newMsg_keeps p (egressQ p 7) (cellsSum [x])
  obtain ⟨hsmsgs, hsreqs, hsegress⟩ := State.sendFrames_port (u.countReq p).newMsg p (c := 7) (by decide) hbare
  rw [hnport, hport] at hsreqs hsegress
  rw [hnfenced, State.countReq_portFenced, hnfits, hcellsum, State.countReq_qFits u hp] at hsegress
  refine ⟨_, hexec.trans (gets_act_steady h (hqueued.roomy _ hcounted (by unfold ftMax; omega)) hqueued.steady hbuild hpending), ?_, ?_, ?_⟩
  · rw [hsend, hsmsgs]; exact congrArg (· + 1) hmsgs
  · rw [hsend, hsreqs]; rfl
  · intro hfence hfits hstalled hegress
    refine ⟨x, ?_, htyp, ?_, ?_, ht2⟩
    · rw [hsend]
      exact hsegress hfence hfits hstalled (Nat.lt_of_lt_of_eq (by decide) hegress.symm)
    · rw [hpay]; exact ptpType_pdelayRespMsg ..
    · rw [hpay]; exact ptpSeq_pdelayRespMsg _ _ (ptpSeq_lt _)

end

/-! ### Time messages (R78 to R89) -/

/-- Settles O41: each kind of message by its own lemma above; what is of another kind or direction is dropped at the receive point. -/
theorem timeMessagesAreTaken : Obligations.TimeMessagesAreTaken := by
  unfold Obligations.TimeMessagesAreTaken
  intro s p stamp f s1 m h n up k
  refine ⟨fun i mt fp hi hno => ?_, fun hup htype hhold hdelay => ?_, fun hdown htype => pdelayReq_answered h stamp hdown htype,
    fun hup htype hwf t1 hreq => pdelayResp_completes h stamp hup htype hwf hreq, fun hup htype => ?_⟩
  · simp only [List.mem_cons, Prod.mk.injEq, List.not_mem_nil, or_false] at hi
    obtain ⟨rfl, rfl, rfl⟩ | ⟨rfl, rfl, rfl⟩ | ⟨rfl, rfl, rfl⟩ | ⟨rfl, rfl, rfl⟩ := hi
    all_goals exact ptpRx_unused_next h hno
  · obtain ⟨t, ht, hoff, hoffs, hlast, htime⟩ := sync_disciplines h stamp hup htype hhold hdelay
    exact ⟨t, (s1.syncQuot p stamp m).1, ht, freeDiv_near s1 _ (by decide), ⟨hoff, hoffs⟩, hlast, fun htp _ => htime htp⟩
  · obtain ⟨t, ht, hann, hflag⟩ := announce_kept h hup htype
    refine ⟨t, ht, fun htp => ?_, fun htp => ?_, hflag⟩
    · rw [hann, State.keepAnnounce, if_pos htp]; rfl
    · rw [hann, State.keepAnnounce, if_neg htp]

end Sys2Proof.Machine
end

section
/-! SUPPORT. Reservations of the block's own sessions (R137, R138, R305, R322, R610): what admission reads of a state, what a request leaves while its answers are out, and what the release of a reservation leaves. -/

namespace Sys2Proof.Machine

/-! ### What admission reads of the links -/

/-- Both states hold the same paths and sessions, and show every port in the same state and configuration, with the same standing reservation of Snag (R525, R610). -/
structure SameLinks (t s : State) : Prop where
  build : t.build = s.build
  paths : t.str.paths = s.str.paths
  crd : t.crd = s.crd
  up : ∀ p, t.portUp p = s.portUp p
  cfg : ∀ p, t.portCfg p = s.portCfg p
  burst : t.fget Reg.SNG_RES_BURST = s.fget Reg.SNG_RES_BURST
  rate : t.fget Reg.SNG_RES_RATE = s.fget Reg.SNG_RES_RATE

theorem State.portCfg_le (s : State) (p : Nat) : s.portCfg p ≤ 2 := by
  unfold State.portCfg
  repeat' split
  all_goals decide

section SameLinks
variable {s t : State} (h : SameLinks t s)
include h

theorem SameLinks.onPort (p : Nat) : t.onPort p = s.onPort p := by rw [State.onPort, State.onPort, h.paths]

theorem SameLinks.portFits (p burst rate budget cap : Nat) : t.portFits p burst rate budget cap = s.portFits p burst rate budget cap := by
  have hbursts : t.portBursts p = s.portBursts p := by rw [State.portBursts, State.portBursts, h.onPort, h.up, h.burst]
  have hrates : t.portRates p = s.portRates p := by rw [State.portRates, State.portRates, h.onPort, h.up, h.rate]
  rw [State.portFits, State.portFits, hbursts, hrates, h.cfg]

theorem SameLinks.mergeFits (new cap : Nat) : t.mergeFits new cap = s.mergeFits new cap := by
  rw [State.mergeFits, State.mergeFits, State.reservedMerges, State.reservedMerges, h.paths]

theorem SameLinks.spindleLoad (k : Nat) : t.spindleLoad k = s.spindleLoad k := by rw [State.spindleLoad, State.spindleLoad, h.crd]

theorem SameLinks.sessionCharge (burst merges : Nat) : t.sessionCharge burst merges = s.sessionCharge burst merges := by
  rw [State.sessionCharge, State.sessionCharge, h.build]

theorem SameLinks.sharesUsed : t.sharesUsed = s.sharesUsed := by
  simp only [State.sharesUsed, h.paths, h.up, h.burst, h.sessionCharge]

theorem SameLinks.fitsAt (sn sd : Nat) : t.fitsAt sn sd = s.fitsAt sn sd := by
  simp only [State.fitsAt, h.build, h.onPort, h.portFits, h.cfg, h.spindleLoad, h.mergeFits]

end SameLinks

/-- Registers that agree on the words of the ports and of Snag's standing reservation show the same links. -/
theorem SameLinks.of_words {s t : State} (hb : t.build = s.build) (hp : t.str.paths = s.str.paths) (hc : t.crd = s.crd)
    (hres : t.regGet 0x2034 = s.regGet 0x2034)
    (hport : ∀ p, t.regGet (0x80004 + p * 0x1000) = s.regGet (0x80004 + p * 0x1000) ∧ t.regGet (0x80008 + p * 0x1000) = s.regGet (0x80008 + p * 0x1000)) :
    SameLinks t s where
  build := hb
  paths := hp
  crd := hc
  up p := by
    rw [State.portUp, State.portUp, State.pState, State.pState, State.fget_congr _ (hport p).2 (.inl (by simp [RF.at, Reg.STR_PSTAT_STATE]))]
  cfg p := by
    rw [State.portCfg, State.portCfg, State.fget_congr _ (hport p).1 (.inl (by simp [RF.at, Reg.STR_PCFG_LANES])),
      State.fget_congr (Reg.STR_PCFG_RATE.at p) (hport p).1 (.inl (by simp [RF.at, Reg.STR_PCFG_RATE]))]
  burst := State.fget_congr _ hres (.inl (by decide))
  rate := State.fget_congr _ hres (.inl (by decide))

/-! ### The state in which a slice's command begins -/

/-- Register words that the start of a slice's command writes: its head and status, and the ledger's saturation. -/
def startWord (k : Nat) : Bool := decide (k = 0x12004) || decide (wordOf k = 0x5044) || decide (wordOf k = 0x5014)

/-- `t` is `s` but for what the start of a slice's command writes. -/
structure Started (s t : State) : Prop where
  rest : t.rest = s.rest
  words : ∀ k, startWord k = false → t.regGet k = s.regGet k

theorem State.regGet_led_apart (s : State) (k i : Nat) (c : LedCol) (n : Nat) {w : Nat} (hw : w ≠ 0x12004) : (s.led k i c n).regGet w = s.regGet w := by
  simp only [State.led]
  split
  · exact State.regGet_fset_other _ Reg.LEA_STATUS_SAT 1 w (by decide) hw
  · rfl

theorem State.regGet_countFetch (s : State) (n : Nat) {k : Nat} (hk : startWord k = false) : (s.countFetch n).regGet k = s.regGet k := by
  simp only [startWord, Bool.or_eq_false_iff, decide_eq_false_iff_not] at hk
  obtain ⟨⟨hlea, hhead⟩, hstat⟩ := hk
  have hne (j : Nat) (hj : wordOf k ≠ wordOf j) : k ≠ j + n * 1048576 := fun he => hj (by rw [he, wordOf_bank])
  simp only [State.countFetch, State.fadd]
  rw [State.regGet_fset_other _ (Reg.SLC_STATUS_QUIESCED.at n) _ _ (by simp [RF.at, Reg.SLC_STATUS_QUIESCED]) (hne 0x5014 hstat),
    State.regGet_fset_other _ (Reg.SLC_STATUS_INFLIGHT.at n) _ _ (by simp [RF.at, Reg.SLC_STATUS_INFLIGHT]) (hne 0x5014 hstat),
    State.regGet_led_apart _ _ _ _ _ hlea,
    State.regGet_fset_other _ (Reg.SLC_CMDHEAD_COUNT.at n) _ _ (by simp [RF.at, Reg.SLC_CMDHEAD_COUNT]) (hne 0x5044 hhead)]

theorem Started.begun (s : State) (n opc : Nat) (d : Desc) (b : Bus) : Started s (s.begun (.slice n) opc d b) where
  rest := by simp only [State.begun, State.rest_setSlice, State.rest_countFetch]
  words k hk := (State.regGet_setSlice ..).trans (State.regGet_countFetch s n hk)

section Started
variable {s t : State} (h : Started s t)
include h

theorem Started.fget (f : RF) (hk : startWord f.addr = false) (h4 : f.lo + f.w ≤ 32 ∨ startWord (f.addr + 4) = false) : t.fget f = s.fget f :=
  State.fget_congr f (h.words _ hk) (h4.imp_right (h.words _))

theorem Started.links : SameLinks t s := by
  have hstr := State.str_of_rest h.rest
  have hword (p k : Nat) (hk : k = 0x80004 ∨ k = 0x80008) : startWord (k + p * 0x1000) = false := by
    have hoff : wordOf (k + p * 0x1000) % 4096 = k % 4096 := by simp only [wordOf]; omega
    simp only [startWord, Bool.or_eq_false_iff, decide_eq_false_iff_not]
    refine ⟨⟨?_, ?_⟩, ?_⟩ <;> omega
  exact .of_words (State.build_of_rest h.rest) (by rw [hstr]) (State.crd_of_rest h.rest) (h.words _ (by decide))
    fun p => ⟨h.words _ (hword p _ (.inl rfl)), h.words _ (hword p _ (.inr rfl))⟩

theorem Started.tier : t.tier = s.tier := by rw [State.tier, State.tier, State.imgWord, State.imgWord, State.imgRegs_of_rest h.rest]
theorem Started.isRoot : t.isRoot = s.isRoot := by rw [State.isRoot, State.isRoot, h.tier]
theorem Started.unit (k : Nat) : t.unit k = s.unit k := by
  rw [State.unit, State.unit, State.self, State.self, h.fget _ (by decide) (by decide)]
theorem Started.primaryUp : t.primaryUp = s.primaryUp := by
  rw [State.primaryUp, State.primaryUp, State.build_of_rest h.rest, h.fget _ (by decide) (by decide)]
theorem Started.altUp : t.altUp = s.altUp := by
  rw [State.altUp, State.altUp, State.flag, State.flag, State.build_of_rest h.rest, h.fget _ (by decide) (by decide), h.fget _ (by decide) (by decide)]
theorem Started.admitPorts : t.admitPorts = s.admitPorts := by
  rw [State.admitPorts, State.admitPorts, h.isRoot, h.primaryUp, h.altUp]
theorem Started.pathCap : t.pathCap = s.pathCap := by rw [State.pathCap, State.pathCap, State.build_of_rest h.rest]
theorem Started.now : t.now = s.now := by rw [State.now, State.now, State.whl_of_rest h.rest]
theorem Started.sess (k : Nat) : t.sess k = s.sess k := by rw [State.sess, State.sess, State.crd_of_rest h.rest]
theorem Started.ownPaths (k : Nat) : t.ownPaths k = s.ownPaths k := by rw [State.ownPaths, State.ownPaths, State.str_of_rest h.rest]

theorem Started.finalOf (k : Nat) : t.finalOf k = s.finalOf k := by
  have hport (p : Nat) : t.port p = s.port p := State.port_congr (by rw [State.str_of_rest h.rest]) p
  rw [State.finalOf, State.finalOf, State.tws_of_rest h.rest, h.primaryUp, h.links.up, hport, h.tier]

theorem Started.routeValid {p : Nat} (hp : p < 32) : t.routeValid p = s.routeValid p := by
  have hw : ∀ q, q < 32 → startWord (Reg.STR_ROUTE_VALID.at q).addr = false ∧ startWord ((Reg.STR_ROUTE_VALID.at q).addr + 4) = false := by decide
  rw [State.routeValid, State.routeValid, State.flag, State.flag, State.build_of_rest h.rest, h.fget _ (hw p hp).1 (.inr (hw p hp).2)]

theorem Started.sessWindow (x : Sess) : t.sessWindow x = s.sessWindow x := by
  have hset : x.set_ < 16 := Nat.mod_lt _ (by decide)
  have hw : ∀ q, q < 16 → startWord (Reg.REEL_SET_GEN.at q).addr = false := by decide
  rw [State.sessWindow, State.sessWindow, State.sessGen, State.sessGen, State.whl_of_rest h.rest,
    h.fget (Reg.REEL_SET_GEN.at x.set_) (hw _ hset) (.inl (by simp [RF.at, Reg.REEL_SET_GEN]))]

theorem Started.spindleCharge (x : Sess) (cmps : Nat) : t.spindleCharge x cmps = s.spindleCharge x cmps := by
  have hmodel : t.modelOf x = s.modelOf x := by rw [State.modelOf, State.modelOf, State.dst_of_rest h.rest]
  have hroutes : (List.range 32).filter t.routeValid = (List.range 32).filter s.routeValid :=
    List.filter_congr fun p hp => h.routeValid (List.mem_range.1 hp)
  rw [State.spindleCharge, State.spindleCharge, hmodel, h.sessWindow, hroutes, State.build_of_rest h.rest]

theorem Started.spindlesFit (c : Option (List (Nat × Nat) × Nat)) : t.spindlesFit c = s.spindlesFit c := by
  have hcap : t.fget (Reg.TNS_CAP_CAP.at 2) = s.fget (Reg.TNS_CAP_CAP.at 2) := h.fget _ (by decide) (by decide)
  simp only [State.spindlesFit, h.links.spindleLoad, hcap]

theorem Started.pathCheck {p : Nat} (hp : p < 36) (burst rate merges : Nat) (spindles again : Bool) :
    t.pathCheck none (some p) burst rate merges spindles again = s.pathCheck none (some p) burst rate merges spindles again := by
  have hcap : ∀ m, m < 4 → t.fget (Reg.TNS_CAP_CAP.at m) = s.fget (Reg.TNS_CAP_CAP.at m) := fun m hm =>
    h.fget _ (by revert m; decide) (.inl (by simp [RF.at, Reg.TNS_CAP_CAP]))
  have hword : ∀ c, c ≤ 2 → startWord (Reg.TNS_BURST_BUDGET.at c).addr = false := by decide
  have hport : ∀ q, q < 36 → startWord (Reg.STR_PSTAT_RESERVABLE.at q).addr = false := by decide
  have hbudget : t.fget (Reg.TNS_BURST_BUDGET.at (s.portCfg p)) = s.fget (Reg.TNS_BURST_BUDGET.at (s.portCfg p)) :=
    h.fget _ (hword _ (s.portCfg_le p)) (.inl (by simp [RF.at, Reg.TNS_BURST_BUDGET]))
  have hres : t.flag (Reg.STR_PSTAT_RESERVABLE.at p) = s.flag (Reg.STR_PSTAT_RESERVABLE.at p) := by
    rw [State.flag, State.flag, h.fget _ (hport p hp) (.inl (by simp [RF.at, Reg.STR_PSTAT_RESERVABLE]))]
  have hstate : t.fget Reg.TNS_STATUS_MSTATE = s.fget Reg.TNS_STATUS_MSTATE := h.fget _ (by decide) (by decide)
  have hshare : t.fget Reg.BOB_RSHARE_SHARE = s.fget Reg.BOB_RSHARE_SHARE := h.fget _ (by decide) (by decide)
  simp only [State.pathCheck, hstate, h.links.paths, h.pathCap, hres, h.links.portFits, h.links.cfg, hbudget, hcap 1 (by decide), hcap 3 (by decide),
    h.links.build, h.links.mergeFits, h.links.sharesUsed, h.links.sessionCharge, hshare]

end Started

theorem quietWord_of_plainWord {k : Nat} (h : plainWord k = true) : quietWord k = true := ((Bool.and_eq_true _ _).mp h).1

theorem quietWord_enable (n : Nat) : quietWord (Reg.SLC_CTRL_ENABLE.at n).addr = true :=
  quietWord_of_plainWord ((plainWord_bank 0x5010 n).trans (by decide))

/-! ### A release (R322) -/

theorem State.side_setPaths (s : State) (l : List PathRes) : (s.setPaths l).side = { s.side with str := { s.side.str with paths := l } } := rfl

theorem State.setPaths_side_congr {s t : State} (h : t.side = s.side) (l : List PathRes) : (t.setPaths l).side = (s.setPaths l).side := by
  rw [State.side_setPaths, State.side_setPaths, h]

@[simp] theorem State.side_releasePath (s : State) (r : PathRes) : (s.releasePath r).side = (s.dropPath r).side := by
  unfold State.releasePath
  cases r.onward with
  | none => rfl
  | some p => exact State.side_send ..

theorem State.paths_releasePath (s : State) (r : PathRes) : (s.releasePath r).str.paths = s.str.paths.filter fun y => !(y.same r) :=
  State.str_paths_of_side (State.side_releasePath s r)

/-- Releasing paths drops each of them, and leaves in the parts that no sending touches nothing else changed. -/
theorem State.side_releasePaths (l : List PathRes) (s : State) :
    (l.foldl State.releasePath s).side = (s.setPaths (s.str.paths.filter fun y => !(l.any fun r => y.same r))).side := by
  induction l generalizing s with
  | nil => simp [State.setPaths]
  | cons r l ih =>
    rw [List.foldl_cons, ih, State.setPaths_side_congr (State.side_releasePath s r), State.paths_releasePath, List.filter_filter]
    simp only [List.any_cons, Bool.not_or, Bool.and_comm]
    rfl

theorem State.out_releasePath (s : State) (r : PathRes) {e : Emission} (he : e ∈ s.out) : e ∈ (s.releasePath r).out := by
  unfold State.releasePath
  cases r.onward with
  | none => exact he
  | some p => exact State.out_send _ _ _ _ _ _ _ he

@[simp] theorem State.side_passUp (s : State) (typ tc : Nat) (d : Hank) (w : List W64) : (s.passUp typ tc d w).side = s.side := by
  simp only [State.passUp]
  split <;> simp

theorem State.out_passUp (s : State) (typ tc : Nat) (d : Hank) (w : List W64) {e : Emission} (he : e ∈ s.out) : e ∈ (s.passUp typ tc d w).out := by
  simp only [State.passUp]
  split
  · exact State.out_led _ _ _ _ (State.out_sendUp _ _ _ _ _ _ he)
  · exact State.out_sendUp _ _ _ _ _ _ he

/-- The session once its reservation is gone: nothing of it is shaped, and without a batch that waits it holds no queue (R322, R615). -/
def Sess.unreserved (x : Sess) : Sess := { x with resv := none, queue := if x.pend.isEmpty then none else x.queue, shaped := [] }

/-- The state without the reservation of session `n`, which is `x`. -/
def State.unreserve (s : State) (n : Nat) (x : Sess) : State :=
  (s.setSess n x.unreserved).setPaths (s.str.paths.filter fun y => !((s.ownPaths n).any fun r => y.same r))

theorem State.releaseShaped_setSess (s : State) (n : Nat) (y : Sess) :
    (s.setSess n y).releaseShaped n = y.shaped.foldl (fun s i => s.passUp i.typ y.beclass i.dest i.words) (s.setSess n { y with shaped := [] }) := by
  have hsess : (s.setSess n y).sess n = some y := Tab.get_set_self ..
  have htwice : (s.setSess n y).setSess n { y with shaped := [] } = s.setSess n { y with shaped := [] } := by
    simp [State.setSess, Tab.set_set]
  rw [State.releaseShaped, hsess, ← htwice]

theorem State.side_releaseResv {s : State} {n : Nat} {x : Sess} (h : s.sess n = some x) : (s.releaseResv n).side = (s.unreserve n x).side := by
  obtain ⟨y, hy, he⟩ : ∃ y : Sess, { y with shaped := [] } = x.unreserved ∧
      s.releaseResv n = (s.ownPaths n).foldl State.releasePath ((s.setSess n y).releaseShaped n) := by
    refine ⟨if x.pend.isEmpty then { x with resv := none, queue := none } else { x with resv := none }, ?_, by rw [State.releaseResv, h]⟩
    unfold Sess.unreserved
    split <;> rfl
  have hshaped : ((s.setSess n y).releaseShaped n).side = (s.setSess n x.unreserved).side := by
    rw [State.releaseShaped_setSess, hy]
    exact foldl_side _ _ _ fun t i _ => State.side_passUp ..
  rw [he, State.side_releasePaths, State.setPaths_side_congr hshaped, State.str_paths_of_side hshaped]
  rfl

theorem State.out_releaseResv {s : State} {n : Nat} {x : Sess} (h : s.sess n = some x) {e : Emission} (he : e ∈ s.out) : e ∈ (s.releaseResv n).out := by
  simp only [State.releaseResv, h, State.releaseShaped_setSess]
  exact foldl_out _ _ (foldl_out _ _ he fun t i ht => State.out_passUp t _ _ _ _ ht) fun t r ht => State.out_releasePath t r ht

theorem State.unreserve_core {s t : State} (h : t.core = s.core) (n : Nat) (x : Sess) : (t.unreserve n x).core = (s.unreserve n x).core := by
  have e (u : State) : (u.unreserve n x).core = { u.core with
      crd := Tab.set u.core.crd n x.unreserved
      str := { u.core.str with paths := u.core.str.paths.filter fun y => !((u.core.ownPaths n).any fun r => y.same r) } } := rfl
  rw [e, e, h]

theorem State.hif_unreserve (s : State) (n : Nat) (x : Sess) : (s.unreserve n x).hif = s.hif := rfl
theorem State.ft_unreserve (s : State) (n : Nat) (x : Sess) : (s.unreserve n x).ft = s.ft := rfl
theorem State.regGet_unreserve (s : State) (n : Nat) (x : Sess) (k : Nat) : (s.unreserve n x).regGet k = s.regGet k := rfl

/-! ### SESS_RELEASE -/

/-- A command of a slice finds the session that it names. -/
theorem Started.ownSess {s t : State} (h : Started s t) {n opc : Nat} {d : Desc} {b : Bus} {x : Sess} (hx : s.sess d.session.toNat = some x) (hn : x.slice = n) :
    t.ownSess (cmdRun s (.slice n) opc d b) = some x := by
  have hsess : t.sess (cmdRun s (.slice n) opc d b).d.session.toNat = some x := (h.sess _).trans hx
  rw [State.ownSess, hsess]
  exact if_pos hn

theorem State.sessRelease_admitted {s : State} {r : Running} {x : Sess} (hcheck : s.check r { sess := some (s.ownSess r).isSome } = none)
    (hx : s.sess r.d.session.toNat = some x) (hadm : x.admitted = true) :
    s.sessRelease r = (s.releaseResv r.d.session.toNat).complete r stOK 0 r.d.session.toNat := by
  rw [State.sessRelease, State.checked, hcheck]
  simp only [hx, hadm, if_true]
  rfl

theorem sessRelease_ended {s : State} {n : Nat} {d : Desc} {b : Bus} {x : Sess} (ht : Takes s (.slice n)) (hc : Clean s (.slice n) d)
    (hx : s.sess d.session.toNat = some x) (hn : x.slice = n) (hadm : x.admitted = true) :
    ∃ t, exec (.sessRelease (.slice n) d b) s = .next t ∧ Ended s t (.slice n) 0x04 d stOK 0 d.session.toNat (s.unreserve d.session.toNat x) := by
  set u := s.begun (.slice n) 0x04 d b with hu
  have hst : Started s u := Started.begun s n 0x04 d b
  have hux : u.sess d.session.toNat = some x := (hst.sess _).trans hx
  have hside := State.side_releaseResv hux
  have hquiet (k : Nat) (hk : quietWord k = true) : (u.releaseResv d.session.toNat).regGet k = u.regGet k :=
    (State.regGet_of_side hside k hk).trans (State.regGet_unreserve ..)
  refine command_ended s _ (.slice n) 0x04 d b .h true State.sessRelease (s.unreserve d.session.toNat x) (u.releaseResv d.session.toNat) stOK 0 _ ht rfl ?_
    (HifRuns_of_same ht ⟨(State.hif_of_side hside).trans (State.hif_unreserve ..), fun m _ => State.enabled_congr (hquiet _ (quietWord_enable m))⟩ rfl)
    ((State.core_of_side hside).trans (State.unreserve_core (State.core_begun ..) _ _))
    (fun k hk => (hquiet k (quietWord_of_plainWord hk)).trans (PlainEq.begun s _ _ d b k hk))
    (fun e he => State.out_releaseResv hux (State.begun_out s _ _ d b e he)) rfl rfl ?_
  · have hown := hst.ownSess (opc := 0x04) (b := b) hx hn
    refine State.sessRelease_admitted ?_ hux hadm
    exact State.check_none s u _ _ d b _ hc (State.begun_build ..) rfl (by rw [hown]; simp) rfl rfl (by simp)
  · rw [State.ct, State.ft_of_side hside, State.ft_unreserve]
    exact State.ct_begun ..

/-! ### A request whose checks pass (R138, R305) -/

/-- A request holds its paths while their answers are out, and the session holds its reservation (R305, R714). -/
def State.tentative (s : State) (r : Running) (n : Nat) (x : Sess) (cls burst rate cmps merges : Nat) : State :=
  let c := s.spindleCharge x cmps
  ({ s with str := { s.str with anum := (s.str.anum + 1) % 65536, paths := s.str.paths ++ s.admitPorts.map (ownPath s n cls burst rate cmps merges) } } : State).setSess n
    { x with resv := some { cls, burst, rate, cmps, merges, anum := s.str.anum, held := false, ft := s.now, answers := [], paths := s.admitPorts.length,
                            cmd := some r, charge := c.elim [] (·.1), window := c.elim 0 (·.2), tokens := 0 } }

/-- An ADMIT up each path (R714). -/
def State.sendAdmits (s : State) (l : List PathRes) : State :=
  l.foldl (fun s p => match p.onward with | some q => s.send q 0x0C 7 0 false (admitWords p 0) [] | none => s) s

@[simp] theorem State.side_sendAdmits (s : State) (l : List PathRes) : (s.sendAdmits l).side = s.side := by
  refine foldl_side _ _ _ fun t p _ => ?_
  cases p.onward with
  | none => rfl
  | some q => exact State.side_send ..

theorem State.out_sendAdmits (s : State) (l : List PathRes) {e : Emission} (he : e ∈ s.out) : e ∈ (s.sendAdmits l).out := by
  refine foldl_out _ _ he fun t p ht => ?_
  cases p.onward with
  | none => exact ht
  | some q => exact State.out_send _ _ _ _ _ _ _ ht

/-- Where every path passes the block's checks, the request holds its paths and asks up each of them. -/
theorem State.admitRes_asks {s : State} (r : Running) (n : Nat) (x : Sess) {cls burst rate cmps merges : Nat} (hne : s.admitPorts ≠ [])
    (hroom : s.str.paths.length + s.admitPorts.length ≤ s.pathCap)
    (hok : ∀ p ∈ s.admitPorts, s.pathCheck none (some p.1) burst rate 0 (s.spindlesFit (s.spindleCharge x cmps)) false = adOK) :
    s.admitRes r n x cls burst rate cmps merges =
      (s.tentative r n x cls burst rate cmps merges).sendAdmits (s.admitPorts.map (ownPath s n cls burst rate cmps merges)) := by
  have hempty : s.admitPorts.isEmpty = false := by rwa [List.isEmpty_eq_false_iff]
  have hroom' : decide (s.pathCap < s.str.paths.length + s.admitPorts.length) = false := decide_eq_false (Nat.not_lt.2 hroom)
  have hcodes : s.admitPorts.map (fun p => s.pathCheck none (some p.1) burst rate 0 (s.spindlesFit (s.spindleCharge x cmps)) false)
      = List.replicate s.admitPorts.length adOK := by
    rw [← List.map_const', List.map_inj_left]
    exact hok
  have hnone (c : Nat) (hc : c ≠ adOK) : (List.replicate s.admitPorts.length adOK).contains c = false := by
    simp [List.mem_replicate, hc]
  simp only [State.admitRes, hempty, hroom', gt_iff_lt, Bool.false_eq_true, if_false, List.nil_append, hcodes, List.find?_cons, hnone adMARGIN (by decide),
    hnone adTABLE (by decide), hnone adMEDIUM (by decide), hnone adPORT (by decide), hnone adSPINDLE (by decide), hnone adMERGE (by decide),
    hnone adCELLS (by decide), List.find?_nil, Option.getD_none, ne_eq, not_true_eq_false]
  rfl

/-- The operand words are legal, and the session may ask for a reservation: checks 6 to 8 of SESS_ADMIT pass (R305). -/
structure MayAsk (w : Nat → W64) (x : Sess) : Prop where
  clean0 : bits (w 0) 31 3 = 0
  clean1 : bits (w 1) 63 40 = 0
  clean2 : bits (w 2) 63 40 = 0
  clean3 : w 3 = 0
  cls : 4 ≤ bits (w 0) 2 0
  burst : 256 ≤ bits (w 0) 63 32
  rate : bits (w 1) 39 0 ≠ 0
  state : x.state = ssOPEN ∨ x.state = ssRUNNING
  resv : x.resv = none

theorem State.sessAdmit_legal {s : State} {r : Running} {x : Sess} {w : Nat → W64} (h : MayAsk w x) (hw : wordAt (s.operand r) = w)
    (hcheck : s.check r { sess := some (s.ownSess r).isSome, zero := decide (r.d.len.toNat = 0), tooLong := decide (r.d.len.toNat < 32), reads := true } = none)
    (hx : s.sess r.d.session.toNat = some x) :
    s.sessAdmit r = s.admitRes r r.d.session.toNat x (bits (w 0) 2 0) (bits (w 0) 63 32) (bits (w 1) 39 0) (bits (w 2) 31 0) (bits (w 2) 39 32) := by
  obtain ⟨h0, h1, h2, h3, hcls, hburst, hrate, hstate, hresv⟩ := h
  have hsmall : ¬ bits (w 0) 63 32 < 256 := by omega
  have hzero : ¬ (bits (w 0) 63 32 = 0 ∨ bits (w 1) 39 0 = 0) := by omega
  have hstate' : (x.state == ssOPEN || x.state == ssRUNNING) = true := by rcases hstate with h | h <;> simp [h]
  rw [State.sessAdmit, State.checked, hcheck]
  simp only [hw, hx, h0, h1, h2, h3]
  rw [State.guarded]
  simp [firstFail, hsmall, hzero, hstate', hresv, Nat.not_lt.2 hcls]

theorem State.admitPorts_lt (s : State) {p : Nat × Bool} (hp : p ∈ s.admitPorts) : p.1 < 36 := by
  refine s.childUps_lt ?_
  unfold State.admitPorts at hp
  unfold State.childUps
  split at hp
  · cases hp
  · cases ha : s.altUp <;> simp_all
    grind

theorem Started.ownPath_eq {s t : State} (h : Started s t) (n cls burst rate cmps merges : Nat) :
    ownPath t n cls burst rate cmps merges = ownPath s n cls burst rate cmps merges := by
  funext p
  simp only [ownPath, h.unit, h.finalOf, State.str_of_rest h.rest]

/-- What a request leaves does not depend on what the start of its command writes. -/
theorem Started.tentative_core {s t : State} (h : Started s t) (hcore : t.core = s.core) (r : Running) (n : Nat) (x : Sess) (cls burst rate cmps merges : Nat) :
    (t.tentative r n x cls burst rate cmps merges).core = (s.tentative r n x cls burst rate cmps merges).core := by
  have e (u : State) (y : Strand) (z : Sess) : (({ u with str := y } : State).setSess n z).core =
      { u.core with str := ({ s with str := y } : State).core.str, crd := Tab.set u.core.crd n z } := rfl
  simp only [State.tentative]
  rw [e, e, hcore, h.spindleCharge, h.admitPorts, h.ownPath_eq, h.now, State.str_of_rest h.rest]

theorem State.regGet_tentative (s : State) (r : Running) (n : Nat) (x : Sess) (cls burst rate cmps merges k : Nat) :
    (s.tentative r n x cls burst rate cmps merges).regGet k = s.regGet k := rfl
theorem State.hif_tentative (s : State) (r : Running) (n : Nat) (x : Sess) (cls burst rate cmps merges : Nat) :
    (s.tentative r n x cls burst rate cmps merges).hif = s.hif := rfl
theorem State.out_tentative (s : State) (r : Running) (n : Nat) (x : Sess) (cls burst rate cmps merges : Nat) :
    (s.tentative r n x cls burst rate cmps merges).out = s.out := rfl

/-- A legal request whose paths all pass the block's checks runs on, with its paths and its reservation held tentatively. -/
theorem sessAdmit_runsOn {s : State} {n : Nat} {d : Desc} {b : Bus} {x : Sess} {w : Nat → W64} (ht : Takes s (.slice n)) (hc : Clean s (.slice n) d)
    (hx : s.sess d.session.toNat = some x) (hn : x.slice = n) (hrd : b.rd = .good) (hlen : 32 ≤ d.len.toNat)
    (hw : wordAt (operandOf s (.slice n) d b) = w) (hask : MayAsk w x) (hne : s.admitPorts ≠ [])
    (hroom : s.str.paths.length + s.admitPorts.length ≤ s.pathCap)
    (hok : ∀ p ∈ s.admitPorts, s.pathCheck none (some p.1) (bits (w 0) 63 32) (bits (w 1) 39 0) 0 (s.spindlesFit (s.spindleCharge x (bits (w 2) 31 0))) false = adOK) :
    ∃ t, exec (.sessAdmit (.slice n) d b) s = .next t ∧ RunsOn s t (.slice n) 0x03 d b
      (s.tentative (cmdRun s (.slice n) 0x03 d b) d.session.toNat x (bits (w 0) 2 0) (bits (w 0) 63 32) (bits (w 1) 39 0) (bits (w 2) 31 0) (bits (w 2) 39 32)) := by
  generalize hcls : bits (w 0) 2 0 = cls
  generalize hburst : bits (w 0) 63 32 = burst at hok ⊢
  generalize hrate : bits (w 1) 39 0 = rate at hok ⊢
  generalize hcmps : bits (w 2) 31 0 = cmps at hok ⊢
  generalize hmerges : bits (w 2) 39 32 = merges
  set r := cmdRun s (.slice n) 0x03 d b with hr
  set u := s.begun (.slice n) 0x03 d b with hu
  have hst : Started s u := Started.begun s n 0x03 d b
  have hux : u.sess d.session.toNat = some x := (hst.sess _).trans hx
  set own := u.admitPorts.map (ownPath u d.session.toNat cls burst rate cmps merges) with hown
  have hside := (u.tentative r d.session.toNat x cls burst rate cmps merges).side_sendAdmits own
  have hquiet (k : Nat) (hk : quietWord k = true) :
      ((u.tentative r d.session.toNat x cls burst rate cmps merges).sendAdmits own).regGet k = u.regGet k :=
    (State.regGet_of_side hside k hk).trans (State.regGet_tentative ..)
  refine command_runsOn s _ (.slice n) 0x03 d b .h true State.sessAdmit _ ((u.tentative r d.session.toNat x cls burst rate cmps merges).sendAdmits own) ht rfl ?_
    (HifRuns_of_same ht ⟨(State.hif_of_side hside).trans (State.hif_tentative ..), fun m _ => State.enabled_congr (hquiet _ (quietWord_enable m))⟩
      (State.hif_tentative ..))
    ((State.core_of_side hside).trans (hst.tentative_core (State.core_begun ..) ..))
    (fun k hk => (hquiet k (quietWord_of_plainWord hk)).trans (PlainEq.begun s _ _ d b k hk))
    (fun e he => State.out_sendAdmits _ _ ?_) rfl rfl
  · have hfound := hst.ownSess (opc := 0x03) (b := b) hx hn
    have hcheck : u.check r { sess := some (u.ownSess r).isSome, zero := decide (d.len.toNat = 0), tooLong := decide (d.len.toNat < 32), reads := true } = none :=
      State.check_none s u _ _ d b _ hc (State.begun_build ..) rfl (by rw [hfound]; simp) (decide_eq_false (by omega)) (decide_eq_false (by omega)) fun _ => .inl hrd
    have hbody := State.sessAdmit_legal (r := r) hask hw hcheck hux
    rw [hcls, hburst, hrate, hcmps, hmerges] at hbody
    refine hbody.trans (State.admitRes_asks r _ x ?_ ?_ ?_)
    · rwa [hst.admitPorts]
    · rwa [hst.admitPorts, hst.pathCap, State.str_of_rest hst.rest]
    · intro p hp
      rw [hst.admitPorts] at hp
      rw [hst.pathCheck (s.admitPorts_lt hp), hst.spindleCharge, hst.spindlesFit]
      exact hok p hp
  · rw [State.out_tentative] at he ⊢
    exact State.begun_out s _ _ d b e he

/-- Settles O2: a request and a release, each by what its body leaves of the state in which the command begins. -/
theorem sessionIsAdmittedAndReleased : Obligations.SessionIsAdmittedAndReleased := by
  unfold Obligations.SessionIsAdmittedAndReleased
  intro s n d b x ht hc hx hn k w cls burst rate cmps merges
  refine ⟨fun hrd hlen h0 h1 h2 h3 hcls hburst hrate hstate hresv hne hroom hok => ?_, fun hadm => sessRelease_ended ht hc hx hn hadm⟩
  exact sessAdmit_runsOn ht hc hx hn hrd hlen rfl ⟨h0, h1, h2, h3, hcls, hburst, hrate, hstate, hresv⟩ hne hroom hok

end Sys2Proof.Machine
end

section
/-! SUPPORT. Tension (R131, R141 to R148): what a droop event leaves of its sensor and of the counts, and what a re-plan shows of the cycle, the scale, the capacities and the margin state. -/

namespace Sys2Proof.Machine

/-! ### Tension's registers -/

/-- A word of Tension's page. -/
def tensionWord (k : Nat) : Bool := decide (0xF000 ≤ k) && decide (k < 0x10000)

theorem quietWord_of_tensionWord {k : Nat} (h : tensionWord k = true) : quietWord k = true := by
  simp only [tensionWord, Bool.and_eq_true, decide_eq_true_eq] at h
  obtain ⟨hlo, hhi⟩ := h
  have hw : wordOf k = k := Nat.mod_eq_of_lt (by omega)
  have hpage : k / 4096 = 15 := by omega
  have hlist : k ∉ [0xE014, 0xE018, 0xE11C, 0x4008, 0x12004, 0x3004] := by simp only [List.mem_cons, List.not_mem_nil, or_false]; omega
  simp [quietWord, hw, hpage, hlist]

/-- What a meaning leaves of Tension, no owed effect touches. -/
theorem act_tension (s u : State) (hb : u.build = s.build) (hp : u.pending = s.pending) :
    ∃ t, act s u = .next t ∧ t.tns = u.tns ∧ ∀ k, tensionWord k = true → t.regGet k = u.regGet k := by
  obtain ⟨t, ht, hside⟩ := act_side s u hb hp
  exact ⟨t, ht, State.tns_of_side hside, fun k hk => State.regGet_of_side hside k (quietWord_of_tensionWord hk)⟩

/-! ### Droop (R141 to R143) -/

theorem State.setSensor_sensors (s : State) (n : Nat) (x : Sensor) : (s.setSensor n x).tns.sensors = Tab.set s.tns.sensors n x := by
  simp [State.setSensor]

/-- A sensor's change shows in the highest level alone. -/
theorem State.regGet_setSensor (s : State) (n : Nat) (x : Sensor) {k : Nat} (hk : k ≠ 0xF004) : (s.setSensor n x).regGet k = s.regGet k :=
  State.regGet_fset_other _ Reg.TNS_STATUS_DROOP_LVL _ k (by decide) hk

/-- The level that a margin calls for (R141). -/
def State.droopLevel (s : State) (margin : Int) : Nat :=
  if margin < s.droopTh.2 ∨ margin < 0 then 2 else if margin < s.droopTh.1 then 1 else 0

theorem State.droopLevel_high (s : State) (margin : Int) : 2 ≤ s.droopLevel margin ↔ margin < s.droopTh.2 ∨ margin < 0 := by
  unfold State.droopLevel
  repeat' split
  all_goals simp_all

/-- A sensor after a crossing (R141). -/
def State.crossed (s : State) (n : Nat) (margin : Int) : Sensor :=
  { level := max (s.sensor n).level (s.droopLevel margin), margin
    belowFt := if margin < 0 then some ((s.sensor n).belowFt.getD s.ft) else (s.sensor n).belowFt }

theorem State.droopCrossing_eq {s : State} {n : Nat} (hn : n < nSensors s.build) (margin : Int) :
    s.droopCrossing n margin =
      (if (s.sensor n).level < 2 ∧ (margin < s.droopTh.2 ∨ margin < 0) then s.bump Reg.TNS_DROOPCNT_LVL2 else s).setSensor n (s.crossed n margin) := by
  have hlevel : ((s.sensor n).level < 2 ∧ 2 ≤ max (s.sensor n).level (s.droopLevel margin)) ↔
      (s.sensor n).level < 2 ∧ (margin < s.droopTh.2 ∨ margin < 0) := by
    rw [← s.droopLevel_high margin]; omega
  have he : s.droopCrossing n margin =
      (if (s.sensor n).level < 2 ∧ 2 ≤ max (s.sensor n).level (s.droopLevel margin) then s.bump Reg.TNS_DROOPCNT_LVL2 else s).setSensor n (s.crossed n margin) := by
    rw [State.droopCrossing, if_neg (Nat.not_le.2 hn), State.crossed]
    simp only []
    cases hbelow : (s.sensor n).belowFt <;> rfl
  rw [he]
  simp only [hlevel]

section Droop
variable {s : State} {n : Nat}

theorem droopCrossing_crosses (hn : n < nSensors s.build) (margin : Int) :
    ∃ t, exec (.droopCrossing n margin) s = .next t ∧ t.tns.sensors = Tab.set s.tns.sensors n (s.crossed n margin) ∧
      t.fget Reg.TNS_DROOPCNT_LVL2 =
        (s.fget Reg.TNS_DROOPCNT_LVL2 + b2n (decide ((s.sensor n).level < 2) && decide (margin < s.droopTh.2 ∨ margin < 0))) % 65536 := by
  set s1 := if (s.sensor n).level < 2 ∧ (margin < s.droopTh.2 ∨ margin < 0) then s.bump Reg.TNS_DROOPCNT_LVL2 else s with hs1
  obtain ⟨t, ht, htns, hw⟩ := act_tension s (s1.setSensor n (s.crossed n margin))
    (by rw [State.setSensor, State.fset_build, hs1]; split <;> simp) (by rw [State.setSensor, State.fset_pending, hs1]; split <;> simp)
  refine ⟨t, (congrArg (act s) (State.droopCrossing_eq hn margin)).trans ht, ?_, ?_⟩
  · rw [htns, State.setSensor_sensors, hs1]
    split <;> simp
  · rw [State.fget_congr (s := s1) _ ((hw _ (by decide)).trans (State.regGet_setSensor _ _ _ (by decide))) (.inl (by decide)), hs1, ← Bool.decide_and]
    split
    · rename_i hc
      rw [State.bump, State.fadd, State.fget_fset _ _ _ (by decide), decide_eq_true hc]
      rfl
    · rename_i hc
      rw [decide_eq_false hc]
      exact (Nat.mod_eq_of_lt (s.fget_lt Reg.TNS_DROOPCNT_LVL2)).symm

theorem droopRelax_lowers (hn : n < nSensors s.build) (hlevel : (s.sensor n).level ≠ 0) (hbelow : (s.sensor n).belowFt = none) :
    ∃ t, exec (.droopRelax n) s = .next t ∧ t.tns.sensors = Tab.set s.tns.sensors n { s.sensor n with level := (s.sensor n).level - 1 } := by
  have he : s.droopRelax n = s.setSensor n { s.sensor n with level := (s.sensor n).level - 1 } := by
    rw [State.droopRelax, if_neg (by rw [hbelow]; simp [hlevel, hn])]
  obtain ⟨t, ht, htns, -⟩ := act_tension s (s.droopRelax n) (by rw [he]; exact State.fset_build ..) (by rw [he]; exact State.fset_pending ..)
  exact ⟨t, ht, by rw [htns, he, State.setSensor_sensors]⟩

theorem droopEnd_short (hn : n < nSensors s.build) {t0 : Nat} (hbelow : (s.sensor n).belowFt = some t0) (hft : s.ft < t0 + 80) :
    ∃ t, exec (.droopIntervalEnd n) s = .next t ∧ t.tns.sensors = Tab.set s.tns.sensors n { s.sensor n with belowFt := none } := by
  have he : s.droopEnd n = s.setSensor n { s.sensor n with belowFt := none } := by
    simp only [State.droopEnd, hbelow, Nat.not_le.2 hn, if_false, if_pos hft]
  obtain ⟨t, ht, htns, -⟩ := act_tension s (s.droopEnd n) (by rw [he]; exact State.fset_build ..) (by rw [he]; exact State.fset_pending ..)
  exact ⟨t, ht, by rw [htns, he, State.setSensor_sensors]⟩

/-- A quotient that the spec does not round costs a free value alone. -/
theorem State.freeDiv_eq (s : State) (a : Int) (b : Nat) : ∃ k, (s.freeDiv a b).2 = { s with fresh := k } := by
  unfold State.freeDiv
  split
  · exact ⟨s.fresh, rfl⟩
  · exact ⟨_, rfl⟩

theorem droopEnd_long (hn : n < nSensors s.build) {t0 : Nat} (hbelow : (s.sensor n).belowFt = some t0) (hft : t0 + 80 ≤ s.ft) :
    ∃ t, exec (.droopIntervalEnd n) s = .next t ∧ t.tns.sensors = Tab.set s.tns.sensors n { s.sensor n with level := 3, belowFt := none } ∧
      t.fget Reg.TNS_DROOPCNT_LVL3 = (s.fget Reg.TNS_DROOPCNT_LVL3 + 1) % 65536 := by
  obtain ⟨k, hk⟩ := s.freeDiv_eq ((s.ft : Int) - t0) 4
  obtain ⟨w, he⟩ : ∃ w, s.droopEnd n = { ((({ s with fresh := k } : State).setSensor n { s.sensor n with level := 3, belowFt := none }).bump
      Reg.TNS_DROOPCNT_LVL3) with work := w } := by
    simp only [State.droopEnd, hbelow, Nat.not_le.2 hn, if_false, Nat.not_lt.2 hft, hk]
    exact ⟨_, rfl⟩
  obtain ⟨t, ht, htns, hw⟩ := act_tension s (s.droopEnd n) (by rw [he]; simp [State.setSensor]) (by rw [he]; simp [State.setSensor])
  refine ⟨t, ht, by rw [htns, he]; simp [State.setSensor_sensors], ?_⟩
  rw [State.fget_congr (s := s.droopEnd n) _ (hw _ (by decide)) (.inl (by decide)), he]
  refine (State.fget_fset _ Reg.TNS_DROOPCNT_LVL3 _ (by decide)).trans (congrArg (fun v => (v + 1) % 65536) (State.fget_congr (s := s) _ ?_ (.inl (by decide))))
  exact State.regGet_setSensor _ _ _ (by decide)

end Droop

/-! ### What demotions and targets keep (R147, R148) -/

/-- A word in which a re-plan shows its outcome: Tension's page without the bounds and the targets. -/
def planWord (k : Nat) : Bool := tensionWord k && !(decide (0xF040 ≤ k) && decide (k < 0xF080))

/-- `t` shows the plan that `s` shows. -/
structure KeepsPlan (s t : State) : Prop where
  build : t.build = s.build
  pending : t.pending = s.pending
  words : ∀ k, planWord k = true → t.regGet k = s.regGet k

theorem KeepsPlan.refl (s : State) : KeepsPlan s s := ⟨rfl, rfl, fun _ _ => rfl⟩

theorem KeepsPlan.trans {s t u : State} (h : KeepsPlan s t) (g : KeepsPlan t u) : KeepsPlan s u :=
  ⟨g.build.trans h.build, g.pending.trans h.pending, fun k hk => (g.words k hk).trans (h.words k hk)⟩

theorem KeepsPlan.of_side {s t : State} (h : t.side = s.side) : KeepsPlan s t :=
  ⟨State.build_of_side h, State.pending_of_side h, fun k hk =>
    State.regGet_of_side h k (quietWord_of_tensionWord ((Bool.and_eq_true _ _).mp hk).1)⟩

theorem KeepsPlan.raise (s : State) (c l : Nat) (h : Hank) (i : Nat) : KeepsPlan s (s.raise c l h i) := ⟨rfl, rfl, fun _ _ => rfl⟩

theorem KeepsPlan.fset (s : State) (f : RF) (v : Nat) (hf : planWord f.addr = false) (hw : f.lo + f.w ≤ 32) : KeepsPlan s (s.fset f v) :=
  ⟨State.fset_build .., State.fset_pending .., fun k hk => State.regGet_fset_other s f v k hw fun he => by rw [he, hf] at hk; cases hk⟩

theorem KeepsPlan.foldl {β : Type} (l : List β) (f : State → β → State) (s : State) (h : ∀ t, ∀ x ∈ l, KeepsPlan t (f t x)) : KeepsPlan s (l.foldl f s) :=
  List.foldlRecOn (motive := KeepsPlan s) l f (.refl s) fun t ht x hx => ht.trans (h t x hx)

theorem KeepsPlan.releaseResv (s : State) (n : Nat) : KeepsPlan s (s.releaseResv n) := by
  cases hx : s.sess n with
  | none => rw [State.releaseResv, hx]; exact .refl s
  | some x => exact KeepsPlan.trans (t := s.unreserve n x) ⟨rfl, rfl, fun _ _ => rfl⟩ (.of_side (State.side_releaseResv hx))

theorem KeepsPlan.demote (s : State) (n scale : Nat) : KeepsPlan s (s.demote n scale) := (KeepsPlan.releaseResv s n).trans (.raise ..)

theorem KeepsPlan.demoteUntil (l : List Nat) (scale sn sd : Nat) (s : State) : KeepsPlan s (demoteUntil l scale sn sd s) := by
  induction l generalizing s with
  | nil => exact .refl s
  | cons n l ih =>
    rw [Sys2Proof.Machine.demoteUntil]
    split
    · exact .refl s
    · exact (KeepsPlan.demote s n scale).trans (ih _)

theorem KeepsPlan.target (s : State) {n : Nat} (hn : n < 8) : KeepsPlan s (s.target n) := by
  have hbound : ∀ j, j < 8 → planWord (Reg.TNS_BOUND_BOUND.at j).addr = false := by decide
  have hrefused : ∀ j, j < 8 → planWord (Reg.TNS_TARGET_REFUSED.at j).addr = false := by decide
  have hshow (t : State) (v : Nat) : KeepsPlan t (t.fset (Reg.TNS_TARGET_REFUSED.at n) v) :=
    .fset t _ v (hrefused n hn) (by simp [RF.at, Reg.TNS_TARGET_REFUSED])
  simp only [State.target]
  split
  · exact .refl s
  · split
    · exact (KeepsPlan.fset s _ _ (hbound n hn) (by simp [RF.at, Reg.TNS_BOUND_BOUND])).trans (hshow _ 0)
    · exact hshow s 1

/-! ### What a re-plan shows (R131, R144, R145) -/

/-- `t` is `s` in every register word outside Tension's page. -/
def OffTension (s t : State) : Prop := ∀ k, tensionWord k = false → t.regGet k = s.regGet k

theorem OffTension.fset {s t : State} (h : OffTension s t) (f : RF) (v : Nat) (hf : tensionWord f.addr = true) (hw : f.lo + f.w ≤ 32) :
    OffTension s (t.fset f v) := fun k hk =>
  (State.regGet_fset_other t f v k hw fun he => by rw [he, hf] at hk; cases hk).trans (h k hk)

/-- The cycle and its projection, the scale, the capacities and the burst budgets of a re-plan, which is counted. -/
def State.showPlan (s : State) (twc tp scale sn sd : Nat) : State :=
  [0, 1, 2].foldl (fun (s : State) c => s.fset (Reg.TNS_BURST_BUDGET.at c) (burstBudget c 260 sn sd))
    ([1, 2, 3].foldl (fun (s : State) m => s.fset (Reg.TNS_CAP_CAP.at m) (capAt sn sd))
      ((((s.fset Reg.TNS_CYCLE_TWC twc).fset Reg.TNS_CYCLE_TP tp).fset Reg.TNS_SCALE_S scale).bump Reg.TNS_STATUS_REPLANS))

section ShowPlan
variable (s : State) (twc tp scale sn sd : Nat)

theorem State.showPlan_off : OffTension s (s.showPlan twc tp scale sn sd) := by
  have h0 : OffTension s s := fun _ _ => rfl
  have h1 := ((((h0.fset Reg.TNS_CYCLE_TWC twc (by decide) (by decide)).fset Reg.TNS_CYCLE_TP tp (by decide) (by decide)).fset
    Reg.TNS_SCALE_S scale (by decide) (by decide)).fset Reg.TNS_STATUS_REPLANS (((((s.fset Reg.TNS_CYCLE_TWC twc).fset Reg.TNS_CYCLE_TP tp).fset Reg.TNS_SCALE_S scale).fget Reg.TNS_STATUS_REPLANS) + 1)
    (by decide) (by decide))
  exact (((((h1.fset (Reg.TNS_CAP_CAP.at 1) _ (by decide) (by decide)).fset (Reg.TNS_CAP_CAP.at 2) _ (by decide) (by decide)).fset
    (Reg.TNS_CAP_CAP.at 3) _ (by decide) (by decide)).fset (Reg.TNS_BURST_BUDGET.at 0) _ (by decide) (by decide)).fset
    (Reg.TNS_BURST_BUDGET.at 1) _ (by decide) (by decide)).fset (Reg.TNS_BURST_BUDGET.at 2) _ (by decide) (by decide)

theorem State.showPlan_links : SameLinks (s.showPlan twc tp scale sn sd) s := by
  have hoff := s.showPlan_off twc tp scale sn sd
  refine .of_words (by simp [State.showPlan]) (by simp [State.showPlan]) (by simp [State.showPlan]) (hoff _ (by decide)) fun p => ⟨hoff _ ?_, hoff _ ?_⟩
  all_goals
    simp only [tensionWord, Bool.and_eq_false_iff, decide_eq_false_iff_not]
    right; omega

theorem State.showPlan_TWC : (s.showPlan twc tp scale sn sd).fget Reg.TNS_CYCLE_TWC = twc % 65536 := by
  simp (disch := decide) only [State.showPlan, List.foldl_cons, List.foldl_nil, State.bump, State.fadd, State.fget_fset_apart]
  rw [State.fget_fset_beside _ Reg.TNS_CYCLE_TP Reg.TNS_CYCLE_TWC _ rfl (by decide) (by decide) (by decide), State.fget_fset _ _ _ (by decide)]
  rfl

theorem State.showPlan_SCALE : (s.showPlan twc tp scale sn sd).fget Reg.TNS_SCALE_S = scale % 65536 := by
  simp (disch := decide) only [State.showPlan, List.foldl_cons, List.foldl_nil, State.bump, State.fadd, State.fget_fset_apart]
  rw [State.fget_fset _ _ _ (by decide)]
  rfl

theorem State.showPlan_REPLANS : (s.showPlan twc tp scale sn sd).fget Reg.TNS_STATUS_REPLANS = (s.fget Reg.TNS_STATUS_REPLANS + 1) % 65536 := by
  simp (disch := decide) only [State.showPlan, List.foldl_cons, List.foldl_nil, State.bump, State.fadd, State.fget_fset_apart]
  rw [State.fget_fset _ _ _ (by decide)]
  rfl

theorem State.showPlan_CAP {m : Nat} (h1 : 1 ≤ m) (h3 : m ≤ 3) :
    (s.showPlan twc tp scale sn sd).fget (Reg.TNS_CAP_CAP.at m) = 4096 * sd / sn % 2 ^ 13 := by
  obtain rfl | rfl | rfl : m = 1 ∨ m = 2 ∨ m = 3 := by omega
  all_goals
    simp (disch := decide) only [State.showPlan, List.foldl_cons, List.foldl_nil, State.fget_fset_apart]
    rw [State.fget_fset _ _ _ (by decide)]
    rfl

theorem State.showPlan_BURST {c : Nat} (hc : c < 3) :
    (s.showPlan twc tp scale sn sd).fget (Reg.TNS_BURST_BUDGET.at c) = burstBudget c 260 sn sd % 65536 := by
  obtain rfl | rfl | rfl : c = 0 ∨ c = 1 ∨ c = 2 := by omega
  all_goals
    simp (disch := decide) only [State.showPlan, List.foldl_cons, List.foldl_nil, State.fget_fset_apart]
    rw [State.fget_fset _ _ _ (by decide)]
    rfl

end ShowPlan

/-! ### The re-plan (R144 to R148) -/

/-- A measurement is kept beside the registers, and begins at most one day. -/
theorem State.keepTwc_eq (s : State) (twc : Nat) :
    ∃ n k, s.keepTwc twc = { s with tns := n, fresh := k } ∧ n.days.length ≤ s.tns.days.length + 1 := by
  simp only [State.keepTwc]
  split
  · exact ⟨_, s.fresh, rfl, Nat.le_succ _⟩
  · obtain ⟨k, hk⟩ := s.freeDiv_eq (sumN s.tns.today : Nat) s.tns.today.length
    rw [hk]
    refine ⟨_, k, rfl, ?_⟩
    simp only [List.length_take, List.length_cons]
    omega

/-- The margin state that the reservations call for at a projected scale and at the measured one (R145). -/
def State.marginState (s : State) (twc sn sd : Nat) (big : Bool) : Nat :=
  if s.fitsAt sn sd then b2n big else if s.fitsAt (max twc 700000) 700000 then 2 else 3

/-- Fewer than seven days kept, a re-plan shows a measured cycle, its projection by AGE_SLOPE and the scale of both; the margin state follows from them, and
what it then demotes and targets leaves the plan as shown. -/
theorem State.replan_eq {s : State} (twc : Nat) (hdays : s.tns.days.length < 7) {tp : Nat}
    (htp : twc + s.fget Reg.TNS_AGE_SLOPE * 2 ^ s.fget Reg.TNS_CTRL_HORIZON = tp) {big : Bool} (hbig : decide (700000 < tp) = big) {sn sd : Nat}
    (hsn : (if big then tp else 1) = sn) (hsd : (if big then 700000 else 1) = sd) :
    ∃ (u : State) (cycle proj scale : Int), (∃ n k, u = { s with tns := n, fresh := k }) ∧ ((twc : Int) - 1000 * cycle).natAbs < 1000 ∧
      (4096 * (sn : Int) - sd * scale).natAbs < sd ∧
      (let shown := u.showPlan cycle.toNat proj.toNat scale.toNat sn sd
       KeepsPlan (shown.fset Reg.TNS_STATUS_MSTATE (shown.marginState twc sn sd big)) (s.replan twc)) ∧ (s.replan twc).tns.lastFt = s.ft := by
  generalize hr : s.replan twc = r
  unfold State.replan at hr
  extract_lets s1 slope proj d large num den nowN cycle pt sc scale s2 s3 s4 old new s5 s6 demoted s7 s8 last at hr
  obtain ⟨n, k, hkeep, hlen⟩ := s.keepTwc_eq twc
  have hs1 : s1 = { s with tns := n, fresh := k } := hkeep
  have hslope : slope = ((s.fget Reg.TNS_AGE_SLOPE : Int), 1) := by
    have hfew : s1.tns.days.length < 8 := by rw [hs1]; exact Nat.lt_of_le_of_lt hlen (by omega)
    exact (if_pos hfew).trans (by rw [hs1]; rfl)
  have hproj : proj = (tp : Int) := by
    have hhorizon : s1.fget Reg.TNS_CTRL_HORIZON = s.fget Reg.TNS_CTRL_HORIZON := by rw [hs1]; rfl
    show (twc : Int) * (slope.2 : Nat) + slope.1 * 2 ^ s1.fget Reg.TNS_CTRL_HORIZON = _
    rw [hslope, hhorizon, ← htp]; push_cast; ring
  have hd : d = 700000 := (congrArg (fun p : Int × Nat => 700000 * p.2) hslope).trans rfl
  have hlarge : large = big := by
    show decide ((d : Int) < proj) = big
    rw [hd, hproj, ← hbig]; exact decide_eq_decide.2 (by omega)
  have hnum : num = sn := by show (if large = true then proj.toNat else 1) = sn; rw [hlarge, hproj, ← hsn]; rfl
  have hden : den = sd := by show (if large = true then d else 1) = sd; rw [hlarge, hd, ← hsd]
  have hpos : 0 < sd := by rw [← hsd]; split <;> decide
  obtain ⟨k1, hk1⟩ := s1.freeDiv_eq twc 1000
  obtain ⟨k2, hk2⟩ := cycle.2.freeDiv_eq proj (1000 * slope.2)
  obtain ⟨k3, hk3⟩ := pt.2.freeDiv_eq (4096 * (num : Int)) den
  have hu : sc.2 = { s with tns := n, fresh := k3 } := by
    refine hk3.trans ?_
    have hpt : pt.2 = { cycle.2 with fresh := k2 } := hk2
    have hcycle : cycle.2 = { s1 with fresh := k1 } := hk1
    rw [hpt, hcycle, hs1]
  have hscale : (4096 * (sn : Int) - sd * sc.1).natAbs < sd := by
    have hnear : (4096 * (num : Int) - den * sc.1).natAbs < den := freeDiv_near pt.2 _ (by rw [hden]; exact hpos)
    generalize sc.1 = scaled at hnear ⊢
    rwa [hnum, hden] at hnear
  refine ⟨sc.2, cycle.1, pt.1, sc.1, ⟨n, k3, hu⟩, freeDiv_near s1 twc (by decide), hscale, ?_, by rw [← hr]⟩
  have hs4 : s4 = sc.2.showPlan cycle.1.toNat pt.1.toNat sc.1.toNat sn sd := by rw [← hnum, ← hden]; rfl
  have hnew : new = s4.marginState twc sn sd big := by rw [← hnum, ← hden, ← hlarge]; rfl
  simp only []
  rw [← hs4, ← hnew]
  have h6 : KeepsPlan s5 s6 := by
    show KeepsPlan s5 (if new ≠ old ∧ (new = 1 ∨ new = 2) then _ else s5)
    split
    · exact .raise ..
    · exact .refl s5
  have h7 : KeepsPlan s6 s7 := by
    show KeepsPlan s6 (if new = 3 then _ else s6)
    split
    · exact (KeepsPlan.demoteUntil _ _ _ _ s6).trans (.foldl _ _ _ fun t e _ => .demote ..)
    · exact .refl s6
  have h8 : KeepsPlan s7 s8 := .foldl _ _ _ fun t m hm => .target t (List.mem_range.1 hm)
  rw [← hr]
  exact ((h6.trans h7).trans h8).trans ⟨rfl, rfl, fun _ _ => rfl⟩

/-- What stands in a word of the plan beside `TNS_STATUS`, the re-plan leaves there. -/
theorem KeepsPlan.fget_apart {s t : State} {v : Nat} (h : KeepsPlan (s.fset Reg.TNS_STATUS_MSTATE v) t) {f : RF} (hplan : planWord f.addr = true)
    (hw : f.lo + f.w ≤ 32) (hf : f.addr ≠ Reg.TNS_STATUS_MSTATE.addr) : t.fget f = s.fget f :=
  (State.fget_congr f (h.words _ hplan) (.inl hw)).trans (State.fget_fset_apart s v (by decide) hw hf)

theorem State.marginState_lt (s : State) (twc sn sd : Nat) (big : Bool) : s.marginState twc sn sd big < 4 := by
  unfold State.marginState
  cases big <;> repeat' split
  all_goals decide

theorem replan_shows {s : State} {twc : Nat} (hdue : s.replanDue = true) (hdays : s.tns.days.length < 7) {tp : Nat}
    (htp : twc + s.fget Reg.TNS_AGE_SLOPE * 2 ^ s.fget Reg.TNS_CTRL_HORIZON = tp) {big : Bool} (hbig : decide (700000 < tp) = big) {sn sd : Nat}
    (hsn : (if big then tp else 1) = sn) (hsd : (if big then 700000 else 1) = sd) :
    ∃ t, exec (.replan twc) s = .next t ∧ t.tns.lastFt = s.ft ∧ t.fget Reg.TNS_STATUS_REPLANS = (s.fget Reg.TNS_STATUS_REPLANS + 1) % 65536 ∧
      (∃ r : Int, ((twc : Int) - 1000 * r).natAbs < 1000 ∧ t.fget Reg.TNS_CYCLE_TWC = r.toNat % 65536) ∧
      (∃ r : Int, (4096 * (sn : Int) - sd * r).natAbs < sd ∧ t.fget Reg.TNS_SCALE_S = r.toNat % 65536) ∧
      (∀ m, 1 ≤ m → m ≤ 3 → t.fget (Reg.TNS_CAP_CAP.at m) = 4096 * sd / sn % 2 ^ 13) ∧
      (∀ c, c < 3 → t.fget (Reg.TNS_BURST_BUDGET.at c) = burstBudget c 260 sn sd % 65536) ∧
      t.fget Reg.TNS_STATUS_MSTATE = (if s.fitsAt sn sd then b2n big else if s.fitsAt (max twc 700000) 700000 then 2 else 3) := by
  obtain ⟨_, cycle, proj, scale, ⟨n, k, rfl⟩, hcycle, hscale, hplan, hlast⟩ := s.replan_eq twc hdays htp hbig hsn hsd
  set u : State := { s with tns := n, fresh := k }
  simp only [] at hplan
  have hlinks : SameLinks (u.showPlan cycle.toNat proj.toNat scale.toNat sn sd) s :=
    have h := u.showPlan_links cycle.toNat proj.toNat scale.toNat sn sd
    ⟨h.build, h.paths, h.crd, h.up, h.cfg, h.burst, h.rate⟩
  have hpending : (u.showPlan cycle.toNat proj.toNat scale.toNat sn sd).pending = s.pending := by simp [State.showPlan, u]
  have hreplans : (u.showPlan cycle.toNat proj.toNat scale.toNat sn sd).fget Reg.TNS_STATUS_REPLANS = (s.fget Reg.TNS_STATUS_REPLANS + 1) % 65536 :=
    u.showPlan_REPLANS ..
  obtain ⟨t, ht, hside⟩ := act_side s (s.replan twc) (hplan.build.trans ((State.fset_build ..).trans hlinks.build))
    (hplan.pending.trans ((State.fset_pending ..).trans hpending))
  have hkeeps := hplan.trans (.of_side hside)
  have hlt := (u.showPlan cycle.toNat proj.toNat scale.toNat sn sd).marginState_lt twc sn sd big
  refine ⟨t, (congrArg (act s) (if_pos hdue)).trans ht, (congrArg Tension.lastFt (State.tns_of_side hside)).trans hlast, ?_,
    ⟨cycle, hcycle, ?_⟩, ⟨scale, hscale, ?_⟩, fun m h1 h3 => ?_, fun c hc => ?_, ?_⟩
  · rw [← hreplans, State.fget_congr Reg.TNS_STATUS_REPLANS (hkeeps.words _ (by decide)) (.inl (by decide)),
      State.fget_fset_beside _ Reg.TNS_STATUS_MSTATE Reg.TNS_STATUS_REPLANS _ rfl (by decide) (by decide) (by decide)]
  · rw [hkeeps.fget_apart (by decide) (by decide) (by decide), State.showPlan_TWC]
  · rw [hkeeps.fget_apart (by decide) (by decide) (by decide), State.showPlan_SCALE]
  · have hcap : ∀ j, j ≤ 3 → planWord (Reg.TNS_CAP_CAP.at j).addr = true ∧ (Reg.TNS_CAP_CAP.at j).addr ≠ Reg.TNS_STATUS_MSTATE.addr := by decide
    rw [hkeeps.fget_apart (hcap m h3).1 (by simp [RF.at, Reg.TNS_CAP_CAP]) (hcap m h3).2, State.showPlan_CAP _ _ _ _ _ _ h1 h3]
  · have hburst : ∀ j, j < 3 → planWord (Reg.TNS_BURST_BUDGET.at j).addr = true ∧ (Reg.TNS_BURST_BUDGET.at j).addr ≠ Reg.TNS_STATUS_MSTATE.addr := by
      decide
    rw [hkeeps.fget_apart (hburst c hc).1 (by simp [RF.at, Reg.TNS_BURST_BUDGET]) (hburst c hc).2, State.showPlan_BURST _ _ _ _ _ _ hc]
  · rw [State.fget_congr Reg.TNS_STATUS_MSTATE (hkeeps.words _ (by decide)) (.inl (by decide)), State.fget_fset _ _ _ (by decide)]
    refine (Nat.mod_eq_of_lt hlt).trans ?_
    rw [State.marginState, hlinks.fitsAt, hlinks.fitsAt]

/-- Settles O49: a droop event by what it makes of its sensor, a re-plan by what its scale shows and the demotions after it leave. -/
theorem marginsAreKept : Obligations.MarginsAreKept := by
  unfold Obligations.MarginsAreKept
  refine ⟨fun s n _ hn => ⟨fun margin => droopCrossing_crosses hn margin, droopRelax_lowers hn, fun t0 hbelow =>
    ⟨droopEnd_short hn hbelow, droopEnd_long hn hbelow⟩⟩, fun s twc hdue hdays => replan_shows hdue hdays rfl rfl rfl rfl⟩

end Sys2Proof.Machine
end

section
/-! SUPPORT. Links and parents (R155, R569, R577, R579, R592 to R598): what the events of a link and the timers of a child leave, which is nothing owed, and what each of them writes. -/

namespace Sys2Proof.Machine

/-! ### Sending ATTACH, and losing a parent (R592, R593, R598) -/

/-- A block that owes nothing after an event ends its step there. -/
theorem State.Roomy.act {s t : State} {n : Nat} (h : t.Roomy n) (hb : t.build = s.build) (hp : t.pending = s.pending) : act s t = .next t :=
  act_of_calm s t h.1 hb hp

theorem State.sendAttach_roomy {s : State} {n : Nat} (h : s.Roomy n) (p : Nat) (hn : n + 10 < ftMax) : (s.sendAttach p).Roomy (n + 10) :=
  ((State.send_queued s p 0x06 7 0 false [BitVec.ofNat 64 (s.self.toNat + b2n (p == s.primaryUp) * 2 ^ 48)] (by decide)).roomy n h hn).of_eq rfl rfl

theorem State.sendAttach_build (s : State) (p : Nat) : (s.sendAttach p).build = s.build := State.build_of_side (State.side_sendAttach s p)
theorem State.sendAttach_pending (s : State) (p : Nat) : (s.sendAttach p).pending = s.pending := State.pending_of_side (State.side_sendAttach s p)

theorem State.noParent_roomy {s : State} {n : Nat} (h : s.Roomy n) : s.noParent.Roomy n := h.of_eq (State.noParent_work s) (State.noParent_lea s)

theorem State.Roomy.setStr {s : State} {n : Nat} (h : s.Roomy n) (f : Strand → Strand) : (s.setStr f).Roomy n := h.of_eq rfl rfl
@[simp] theorem State.setStr_build (s : State) (f : Strand → Strand) : (s.setStr f).build = s.build := rfl
@[simp] theorem State.setStr_pending (s : State) (f : Strand → Strand) : (s.setStr f).pending = s.pending := rfl

/-- The loss of a parent's port is noted and counted, and the port is no longer homed. -/
def State.noteLoss (s : State) (p : Nat) : State :=
  ((s.bump Reg.STR_UPSTAT_LOSSES).fset (Reg.STR_PSTAT_HOMED.at p) 0).setStr fun x => { x with lostPort := some p }

theorem State.noteLoss_roomy {s : State} {n : Nat} (h : s.Roomy n) (p : Nat) : (s.noteLoss p).Roomy n :=
  State.Roomy.setStr (State.Roomy.fset (State.Roomy.fset h _ _) _ _) _

theorem State.loseParent_from (s : State) (p : Nat) : ∃ u, s.noteLoss p = u ∧ s.loseParent p =
    if u.str.childFenced.isSome then u.noParent
    else match u.otherUp p with
      | some q => if u.portUp q && !(u.str.barred.contains q) then u.sendAttach q else u.noParent
      | none => u.noParent := ⟨_, rfl, rfl⟩

theorem State.loseParent_cases (s : State) (p : Nat) :
    s.loseParent p = (s.noteLoss p).noParent ∨ ∃ q, (s.noteLoss p).otherUp p = some q ∧ s.loseParent p = (s.noteLoss p).sendAttach q := by
  obtain ⟨u, hu, he⟩ := s.loseParent_from p
  rw [hu, he]
  split
  · exact .inl rfl
  · split
    · rename_i q hq
      split
      · exact .inr ⟨q, hq, rfl⟩
      · exact .inl rfl
    · exact .inl rfl

theorem State.noteLoss_build (s : State) (p : Nat) : (s.noteLoss p).build = s.build :=
  (State.setStr_build ..).trans ((State.fset_build ..).trans (State.fset_build ..))
theorem State.noteLoss_pending (s : State) (p : Nat) : (s.noteLoss p).pending = s.pending :=
  (State.setStr_pending ..).trans ((State.fset_pending ..).trans (State.fset_pending ..))

theorem State.loseParent_roomy {s : State} {n : Nat} (h : s.Roomy n) (p : Nat) (hn : n + 10 < ftMax) : (s.loseParent p).Roomy (n + 10) := by
  have hnoted := State.noteLoss_roomy h p
  obtain he | ⟨q, -, he⟩ := s.loseParent_cases p
  · rw [he]; exact (State.noParent_roomy hnoted).mono (by omega)
  · rw [he]; exact State.sendAttach_roomy hnoted q hn

theorem State.loseParent_build (s : State) (p : Nat) : (s.loseParent p).build = s.build := by
  obtain he | ⟨q, -, he⟩ := s.loseParent_cases p <;> rw [he]
  · exact (State.noParent_build _).trans (s.noteLoss_build p)
  · exact (State.sendAttach_build _ q).trans (s.noteLoss_build p)

theorem State.loseParent_pending (s : State) (p : Nat) : (s.loseParent p).pending = s.pending := by
  obtain he | ⟨q, -, he⟩ := s.loseParent_cases p <;> rw [he]
  · exact (State.noParent_pending _).trans (s.noteLoss_pending p)
  · exact (State.sendAttach_pending _ q).trans (s.noteLoss_pending p)

/-! ### Events whose outcome is one written state -/

section Events
variable {s : State} {p : Nat} (hc : Calm s)
include hc

theorem signalDetect_trains (hport : hasPort s.build p = true) (hen : s.flag (Reg.STR_PCTRL_EN.at p) = true) (hdown : s.pState p = 0)
    (hboot : 4 ≤ s.bootStep) (hstop : s.stopped = false) (hfence : s.portFenced p = false) :
    exec (.linkSignalDetect p) s = .next ((s.fset (Reg.STR_PSTAT_STATE.at p) 1).emit (.train p)) := by
  show execLinkSignalDetect p s = _
  rw [execLinkSignalDetect, if_neg (by simp [hport, hen, hdown, hstop, hfence, hboot])]
  exact State.Roomy.act (n := 2 ^ 62) (State.Roomy.of_eq (State.Roomy.fset hc _ _) rfl rfl) (by simp) (by simp)

theorem linkDown_counts (hport : hasPort s.build p = true) (h0 : s.pState p ≠ 0) (h4 : s.pState p ≠ 4) {cause : Nat} (hpos : 0 < cause)
    (hlim : cause < max 1 (s.fget (Reg.STR_PCTRL_UNCORR_LIM.at p))) :
    exec (.linkDown p cause) s = .next (s.fadd (Reg.STR_PERR_UNCORR.at p) cause) := by
  show execLinkDown p cause s = _
  rw [execLinkDown]
  simp only [if_neg (Nat.ne_of_gt hpos)]
  rw [if_neg (by simp [hport, h0, h4]), if_pos ⟨Nat.ne_of_gt hpos, hlim⟩]
  exact State.Roomy.act (n := 2 ^ 62) (State.Roomy.fset hc _ _) (by simp) (by simp)

theorem parentLoss_loses (hstop : s.stopped = false) (hroot : s.isRoot = false) (hcur : s.curUp = some p) (hup : s.portUp p = true)
    (hsilent : (s.port p).lastRxFt + 21 * us ≤ s.now) (hset : s.str.homing = .settled) (h3 : s.fget Reg.STR_HOMING_CUR_PARENT ≠ 3) :
    exec .parentLoss s = .next (s.loseParent p) := by
  have he : execParentLoss s = act s (s.loseParent p) := by
    simp only [execParentLoss, hstop, hroot, hcur, Bool.false_eq_true, if_false]
    rw [if_pos (by simp [hup, hsilent, hset, h3])]
  exact he.trans (State.Roomy.act (State.loseParent_roomy hc p (by decide)) (s.loseParent_build p) (s.loseParent_pending p))

theorem attachRetry_waits (hstop : s.stopped = false) {t0 : Nat} (hatt : s.str.homing = .attaching p t0) (h10 : t0 + 10 * us ≤ s.now)
    (hwait : s.now < t0 + 100 * us ∨ s.portUp p = false) : exec .attachRetry s = .next s.noParent := by
  have he : execAttachRetry s = act s s.noParent := by
    simp only [execAttachRetry, hatt]
    rw [if_neg (by simp [hstop, h10]), if_pos (by simpa using hwait)]
  exact he.trans (State.Roomy.act (State.noParent_roomy hc) s.noParent_build s.noParent_pending)

theorem attachRetry_repeats (hstop : s.stopped = false) {t0 : Nat} (hatt : s.str.homing = .attaching p t0) (h10 : t0 + 10 * us ≤ s.now)
    (h100 : t0 + 100 * us ≤ s.now) (hup : s.portUp p = true) : exec .attachRetry s = .next (s.noParent.sendAttach p) := by
  have he : execAttachRetry s = act s (s.noParent.sendAttach p) := by
    simp only [execAttachRetry, hatt]
    rw [if_neg (by simp [hstop, h10]), if_neg (by simp [hup, h100])]
  exact he.trans (State.Roomy.act (State.sendAttach_roomy (State.noParent_roomy hc) p (by decide))
    ((State.sendAttach_build _ p).trans s.noParent_build) ((State.sendAttach_pending _ p).trans s.noParent_pending))

theorem handoverTimeout_gives {t0 : Nat} (hover : Tab.get s.str.handovers p = some t0) (h100 : t0 + 100 * us ≤ s.now) :
    exec (.handoverTimeout p) s = .next { s.setDie p { s.die p with state := 0, suspect := false, expelled := false } with
      str := { s.str with handovers := Tab.del s.str.handovers p } } := by
  have he : execHandoverTimeout p s = act s { s.setDie p { s.die p with state := 0, suspect := false, expelled := false } with
      str := { s.str with handovers := Tab.del s.str.handovers p } } := by
    simp only [execHandoverTimeout, hover]
    rw [if_neg (Nat.not_lt.2 h100)]
  exact he.trans (act_of_calm _ _ hc.1 rfl rfl)

end Events

/-! ### The return to a clean primary (R597) -/

theorem State.enqueueFirst_roomy {s : State} {n : Nat} (h : s.Roomy n) (p typ : Nat) (w : List W64) (hn : n + 5 * (w.length + 1) < ftMax) :
    (s.enqueueFirst p typ w).Roomy (n + 5 * (w.length + 1)) := by
  have hl := mkFrames_length typ 7 s.str.msgs 0 false w [] 0
  have hcells := cellsSum_le (mkFrames_cells typ 7 s.str.msgs 0 false w [] 0)
  unfold State.enqueueFirst
  extract_lets fs s1
  have h1 : s1.Roomy n := h.of_eq rfl rfl
  have hlen : fs.length ≤ w.length + 1 := hl
  have hsum : cellsSum fs ≤ 4 * fs.length := hcells
  exact ((h1.led _ _ _ _ (by omega)).led _ _ _ _ (by omega)).mono (by omega)

theorem State.enqueueFirst_build (s : State) (p typ : Nat) (w : List W64) : (s.enqueueFirst p typ w).build = s.build := by
  simp [State.enqueueFirst, State.modPort, State.setPort, State.setStr]

theorem State.enqueueFirst_pending (s : State) (p typ : Nat) (w : List W64) : (s.enqueueFirst p typ w).pending = s.pending := by
  simp [State.enqueueFirst, State.modPort, State.setPort, State.setStr]

theorem autoreturn_returns {s : State} {p : Nat} (hc : Calm s) (hstop : s.stopped = false) (hroot : s.isRoot = false) (hmay : s.mayReturn = true)
    (halt : s.altUp = some p) :
    exec .autoreturn s = .next (((s.enqueueFirst p 8 []).setStr fun x => { x with returnFt := some s.now }).sendAttach s.primaryUp) := by
  have he : execAutoreturn s = act s (((s.enqueueFirst p 8 []).setStr fun x => { x with returnFt := some s.now }).sendAttach s.primaryUp) := by
    rw [execAutoreturn, hstop, hroot, hmay, halt]; rfl
  have hroom : ((s.enqueueFirst p 8 []).setStr fun x => { x with returnFt := some s.now }).Roomy (2 ^ 62 + 5) :=
    (State.enqueueFirst_roomy hc p 8 [] (by decide)).setStr _
  exact he.trans (State.Roomy.act (State.sendAttach_roomy hroom _ (by decide))
    ((State.sendAttach_build ..).trans ((State.setStr_build ..).trans (State.enqueueFirst_build ..)))
    ((State.sendAttach_pending ..).trans ((State.setStr_pending ..).trans (State.enqueueFirst_pending ..))))

end Sys2Proof.Machine
end

section
/-! SUPPORT. A port that ends its training (R577, R579, R580), and the fall of a link (R569, R592, R593, R604). -/

namespace Sys2Proof.Machine

/-! ### Fields of one port -/

section PortFields
variable (s : State) {f g : RF} (p v : Nat) (hf : f.lo + f.w ≤ 32) (hg : g.lo + g.w ≤ 32)

include hf hg

/-- Another word of the same page of ports. -/
theorem State.fget_fset_port (hs : g.stride = f.stride) (h : g.addr ≠ f.addr) : (s.fset (f.at p) v).fget (g.at p) = s.fget (g.at p) :=
  State.fget_fset_apart s v hf hg (by simp only [RF.at, hs]; omega)

/-- Another field of the same word of a port. -/
theorem State.fget_fset_field (hs : g.stride = f.stride) (h : g.addr = f.addr) (hd : f.lo + f.w ≤ g.lo ∨ g.lo + g.w ≤ f.lo) :
    (s.fset (f.at p) v).fget (g.at p) = s.fget (g.at p) :=
  State.fget_fset_beside s _ _ v (by simp only [RF.at, hs, h]) hf hg hd

/-- A field of a word below the page of the ports. -/
theorem State.fget_fset_below (h : g.addr < f.addr) : (s.fset (f.at p) v).fget g = s.fget g :=
  State.fget_fset_apart s v hf hg (by simp only [RF.at]; omega)

/-- A field of a port, a word below the page of the ports being written. -/
theorem State.fget_fset_above (h : f.addr < g.addr) : (s.fset f v).fget (g.at p) = s.fget (g.at p) :=
  State.fget_fset_apart s v hf hg (by simp only [RF.at]; omega)

/-- A field of a port in a page below. -/
theorem State.fget_fset_page {q : Nat} (hq : q < 36) (h : g.addr + 36 * g.stride < f.addr) : (s.fset (f.at p) v).fget (g.at q) = s.fget (g.at q) := by
  have hq : q * g.stride ≤ 36 * g.stride := Nat.mul_le_mul_right _ (by omega)
  exact State.fget_fset_apart s v hf hg (by simp only [RF.at]; omega)

end PortFields

theorem State.fget_fset_at (s : State) (f : RF) (p v : Nat) (hf : f.lo + f.w ≤ 32) : (s.fset (f.at p) v).fget (f.at p) = v % 2 ^ f.w :=
  State.fget_fset s (f.at p) v (Nat.le_trans (m := 32) hf (by decide))

/-! ### The end of training -/

/-- A port as it enters INIT: its pools are granted, nothing waits for replay, and nothing has passed either way. -/
def trainedPort (x : Port) (now pool : Nat) : Port :=
  { x with held := [], lack := 0, lackFt := now, initSent := false, initGot := false, rret := pool, bret := pool
           sentCack := 0, sentLack := 0, custody := [], partials := [] }

/-- The registers of a port that enters INIT. -/
def State.showInit (s : State) (p tx rx : Nat) : State :=
  (((((s.rtxShow p).fset (Reg.WHL_PLAT_TXLAT.at p) tx).fset (Reg.WHL_PLAT_RXLAT.at p) rx).fset (Reg.STR_PSTAT_STATE.at p) 2).fset
    (Reg.STR_PTXSEQ_SEQ.at p) 0).fset (Reg.STR_PRXSEQ_SEQ.at p) 0

/-- The one frame of an INIT. -/
def State.initFrame (s : State) (p : Nat) : TxFrame :=
  { typ := 5, tc := 7, first := true, last := true, replay := false, poison := false, dest := 0, payload := s.initWords p, seq := 0
    msg := s.str.msgs, sentFt := 0, covers := [] }

/-- INIT goes ahead of what its class holds. -/
def State.queueInit (s : State) (p : Nat) : State :=
  (s.setStr fun x => { x with msgs := x.msgs + 1 }).modPort p fun x => { x with egress := listSet x.egress 7 (s.initFrame p :: x.egress.getD 7 []) }

theorem State.purgeControl_empty {s : State} {p : Nat} (h : (s.port p).egress = List.replicate 8 []) : s.purgeControl p = s := by
  refine foldl_unchanged _ s _ fun c hc => ?_
  have hget : (s.port p).egress.getD c [] = [] := by
    rw [h, List.getD_eq_getElem _ _ (by simpa using List.mem_range.1 hc), List.getElem_replicate]
  simp only [hget, List.filter_nil, List.isEmpty_nil, if_true]

theorem State.initWords_congr {s t : State} {p : Nat} (himg : t.imgRegs = s.imgRegs)
    (h : ∀ k ∈ [0x18, 0x1C, 0x80004 + p * 0x1000], t.regGet k = s.regGet k) : t.initWords p = s.initWords p := by
  have htier : t.tier = s.tier := by rw [State.tier, State.tier, State.imgWord, State.imgWord, himg]
  have hself : t.self = s.self := congrArg (BitVec.ofNat 48) (State.fget_congr Reg.ID_SELF_HANK (h _ (by simp [Reg.ID_SELF_HANK]))
    (.inr (h _ (by simp [Reg.ID_SELF_HANK]))))
  have hcfg := h (0x80004 + p * 0x1000) (by simp)
  rw [State.initWords, State.initWords, htier, hself, State.fget_congr (Reg.STR_PCFG_LANES.at p) hcfg (.inl (by simp [RF.at, Reg.STR_PCFG_LANES])),
    State.fget_congr (Reg.STR_PCFG_RATE.at p) hcfg (.inl (by simp [RF.at, Reg.STR_PCFG_RATE]))]

section ShowInit
variable (s : State) (p tx rx : Nat)

theorem State.showInit_roomy {n : Nat} (h : s.Roomy n) : (s.showInit p tx rx).Roomy n :=
  State.Roomy.fset (State.Roomy.fset (State.Roomy.fset (State.Roomy.fset (State.Roomy.fset (State.Roomy.fset (State.Roomy.fset h _ _) _ _) _ _) _ _) _ _) _ _) _ _

theorem State.showInit_build : (s.showInit p tx rx).build = s.build := by simp [State.showInit, State.rtxShow]
theorem State.showInit_pending : (s.showInit p tx rx).pending = s.pending := by simp [State.showInit, State.rtxShow]
theorem State.showInit_port (q : Nat) : (s.showInit p tx rx).port q = s.port q := by simp [State.showInit, State.rtxShow]

theorem State.showInit_PRXSEQ : (s.showInit p tx rx).fget (Reg.STR_PRXSEQ_SEQ.at p) = 0 := by
  rw [State.showInit, State.fget_fset_at _ _ _ _ (by decide)]
  exact Nat.zero_mod _

theorem State.showInit_PTXSEQ : (s.showInit p tx rx).fget (Reg.STR_PTXSEQ_SEQ.at p) = 0 := by
  rw [State.showInit, State.fget_fset_port _ _ _ (by decide) (by decide) (by decide) (by decide), State.fget_fset_at _ _ _ _ (by decide)]
  exact Nat.zero_mod _

theorem State.showInit_STATE : (s.showInit p tx rx).fget (Reg.STR_PSTAT_STATE.at p) = 2 := by
  rw [State.showInit]
  simp (disch := decide) only [State.fget_fset_port]
  rw [State.fget_fset_at _ _ _ _ (by decide)]
  rfl

theorem State.showInit_RXLAT (hp : p < 36) : (s.showInit p tx rx).fget (Reg.WHL_PLAT_RXLAT.at p) = rx % 65536 := by
  rw [State.showInit, State.fget_fset_page _ _ _ (by decide) (by decide) hp (by decide), State.fget_fset_page _ _ _ (by decide) (by decide) hp (by decide),
    State.fget_fset_page _ _ _ (by decide) (by decide) hp (by decide), State.fget_fset_at _ _ _ _ (by decide)]
  rfl

theorem State.showInit_TXLAT (hp : p < 36) : (s.showInit p tx rx).fget (Reg.WHL_PLAT_TXLAT.at p) = tx % 65536 := by
  rw [State.showInit, State.fget_fset_page _ _ _ (by decide) (by decide) hp (by decide), State.fget_fset_page _ _ _ (by decide) (by decide) hp (by decide),
    State.fget_fset_page _ _ _ (by decide) (by decide) hp (by decide),
    State.fget_fset_field _ _ _ (by decide) (by decide) (by decide) (by decide) (by decide), State.fget_fset_at _ _ _ _ (by decide)]
  rfl

theorem State.showInit_initWords (hp : p < 36) : (s.showInit p tx rx).initWords p = s.initWords p := by
  refine State.initWords_congr (by simp [State.showInit, State.rtxShow]) fun k hk => ?_
  simp only [List.mem_cons, List.not_mem_nil, or_false] at hk
  have hkeep (u : State) (f : RF) (v : Nat) (hf : f.lo + f.w ≤ 32) (ha : (f.at p).addr ≠ k) : (u.fset (f.at p) v).regGet k = u.regGet k :=
    State.regGet_fset_other u (f.at p) v k hf (Ne.symm ha)
  simp (disch := simp only [RF.at, Reg.STR_PRTX_FRAMES, Reg.STR_PRTX_KIB, Reg.WHL_PLAT_TXLAT, Reg.WHL_PLAT_RXLAT, Reg.STR_PSTAT_STATE,
    Reg.STR_PTXSEQ_SEQ, Reg.STR_PRXSEQ_SEQ] <;> omega) only [State.showInit, State.rtxShow, hkeep]

end ShowInit

theorem State.queueInit_port (s : State) (p : Nat) (h : (s.port p).egress = List.replicate 8 []) :
    (s.queueInit p).port p = { s.port p with egress := [[], [], [], [], [], [], [], [s.initFrame p]] } := by
  rw [State.queueInit, State.modPort, State.port_setPort, if_pos rfl]
  show ({ s.port p with egress := listSet (s.port p).egress 7 (s.initFrame p :: (s.port p).egress.getD 7 []) } : Port) = _
  rw [h]
  rfl

theorem State.queueInit_roomy {s : State} {n : Nat} (h : s.Roomy n) (p : Nat) : (s.queueInit p).Roomy n := h.of_eq rfl rfl

/-- With room a count changes the ledger points alone. -/
theorem State.Roomy.led_withLea {s : State} {m : Nat} (h : s.Roomy m) (k i : Nat) (c : LedCol) (n : Nat) (hn : m + n < ftMax) :
    ∃ l : Lea, s.led k i c n = s.withLea l ∧ (s.withLea l).Roomy (m + n) := by
  obtain ⟨pts, he, hp⟩ := h.led_eq k i c n hn
  exact ⟨_, he, h.1, hp⟩

theorem hasPort_lt {b : Build} {p : Nat} (h : hasPort b p = true) : p < 36 := by
  unfold hasPort at h
  split at h
  · exact of_decide_eq_true h
  · simp only [Bool.or_eq_true, beq_iff_eq] at h; omega

theorem State.Roomy.modPort {s : State} {n : Nat} (h : s.Roomy n) (p : Nat) (f : Port → Port) : (s.modPort p f).Roomy n := h.of_eq rfl rfl
theorem State.regGet_modPort (s : State) (p : Nat) (f : Port → Port) (k : Nat) : (s.modPort p f).regGet k = s.regGet k := rfl

/-- A port that holds nothing is readied for INIT. -/
def State.readied (s : State) (p : Nat) : State := ((s.modPort p dropHeld).rtxShow p).modPort p fun x => trainedPort x s.now (s.pool p)

theorem State.readied_port (s : State) (p : Nat) : (s.readied p).port p = trainedPort (dropHeld (s.port p)) s.now (s.pool p) := by
  rw [State.readied, State.modPort, State.port_setPort, if_pos rfl, State.rtxShow, State.port_fset, State.port_fset, State.modPort,
    State.port_setPort, if_pos rfl]

theorem State.readied_roomy {s : State} {n : Nat} (h : s.Roomy n) (p : Nat) : (s.readied p).Roomy n :=
  State.Roomy.modPort (State.Roomy.fset (State.Roomy.fset (State.Roomy.modPort h _ _) _ _) _ _) _ _

theorem State.readied_initWords (s : State) (p : Nat) : (s.readied p).initWords p = s.initWords p := by
  refine State.initWords_congr (by simp [State.readied, State.rtxShow, State.modPort, State.setPort]) fun k hk => ?_
  simp only [List.mem_cons, List.not_mem_nil, or_false] at hk
  have hne : k ≠ (Reg.STR_PRTX_KIB.at p).addr := by simp only [RF.at, Reg.STR_PRTX_KIB]; omega
  rw [State.readied, State.regGet_modPort, State.rtxShow, State.regGet_fset_other _ (Reg.STR_PRTX_KIB.at p) _ k (by simp [RF.at, Reg.STR_PRTX_KIB]) hne,
    State.regGet_fset_other _ (Reg.STR_PRTX_FRAMES.at p) _ k (by simp [RF.at, Reg.STR_PRTX_FRAMES]) hne, State.regGet_modPort]

theorem State.readied_build (s : State) (p : Nat) : (s.readied p).build = s.build := by
  simp [State.readied, State.rtxShow, State.modPort, State.setPort]
theorem State.readied_pending (s : State) (p : Nat) : (s.readied p).pending = s.pending := by
  simp [State.readied, State.rtxShow, State.modPort, State.setPort]

theorem State.fget_withLea (s : State) (l : Lea) (f : RF) : (s.withLea l).fget f = s.fget f := rfl
theorem State.port_withLea (s : State) (l : Lea) (p : Nat) : (s.withLea l).port p = s.port p := rfl
theorem State.fget_queueInit (s : State) (p : Nat) (f : RF) : (s.queueInit p).fget f = s.fget f := rfl

/-- An INIT queued, and counted in: nothing is owed, no register changes, and of the port its egress queues alone. -/
theorem State.queueInit_counted {u : State} {p n : Nat} (h : u.Roomy n) (hn : n + 2 < ftMax) (hegress : (u.port p).egress = List.replicate 8 []) :
    ∃ t, ((u.queueInit p).led 6 (draftPt p 7) .inn 1).led 5 (egressQ p 7) .inn (cellsSum [u.initFrame p]) = t ∧ t.Roomy (n + 2) ∧
      t.build = u.build ∧ t.pending = u.pending ∧ (∀ f, t.fget f = u.fget f) ∧
      t.port p = { u.port p with egress := [[], [], [], [], [], [], [], [u.initFrame p]] } := by
  have hcells : cellsSum [u.initFrame p] = 1 := by simp [cellsSum, sumN, TxFrame.cells, TxFrame.bytes, State.initFrame, State.initWords]; decide
  obtain ⟨l1, he1, hr1⟩ := (State.queueInit_roomy h p).led_withLea 6 (draftPt p 7) .inn 1 (by omega)
  obtain ⟨l2, he2, hr2⟩ := hr1.led_withLea 5 (egressQ p 7) .inn 1 (by omega)
  rw [hcells, he1, he2]
  refine ⟨_, rfl, hr2, rfl, rfl, fun f => ?_, ?_⟩
  · rw [State.fget_withLea, State.fget_withLea, State.fget_queueInit]
  · rw [State.port_withLea, State.port_withLea, u.queueInit_port p hegress]

section Trained
variable {s : State} {p : Nat} (tx rx : Nat)

theorem State.linkTrained_eq (hst : s.pState p = 1) (hrtx : (s.port p).rtx = []) (hheld : (s.port p).held = [])
    (hegress : (s.port p).egress = List.replicate 8 []) :
    execLinkTrained p tx rx s = act s (((((s.readied p).showInit p tx rx).queueInit p).led 6 (draftPt p 7) .inn 1).led 5 (egressQ p 7) .inn
      (cellsSum [((s.readied p).showInit p tx rx).initFrame p])) := by
  have hpurge : ((s.modPort p dropHeld).rtxShow p).purgeControl p = (s.modPort p dropHeld).rtxShow p := by
    refine State.purgeControl_empty ?_
    rw [State.rtxShow, State.port_fset, State.port_fset, State.modPort, State.port_setPort, if_pos rfl]
    exact hegress
  rw [execLinkTrained, if_neg (by simp [hst]), State.takeHeld_nothing hrtx hheld]
  simp only [hpurge]
  rfl

theorem linkTrained_grants (hc : Calm s) (hport : hasPort s.build p = true) (hst : s.pState p = 1) (hrtx : (s.port p).rtx = [])
    (hheld : (s.port p).held = []) (hegress : (s.port p).egress = List.replicate 8 []) :
    ∃ t x, exec (.linkTrained p tx rx) s = .next t ∧ t.pState p = 2 ∧ t.fget (Reg.WHL_PLAT_TXLAT.at p) = tx % 65536 ∧
      t.fget (Reg.WHL_PLAT_RXLAT.at p) = rx % 65536 ∧ t.fget (Reg.STR_PTXSEQ_SEQ.at p) = 0 ∧ t.fget (Reg.STR_PRXSEQ_SEQ.at p) = 0 ∧
      (t.port p).egress.getD 7 [] = [x] ∧ x.typ = 5 ∧ x.payload = s.initWords p ∧ (t.port p).rret = s.pool p ∧ (t.port p).bret = s.pool p ∧
      (t.port p).initSent = false ∧ (t.port p).initGot = false := by
  have hp := hasPort_lt hport
  have hwords := ((s.readied p).showInit_initWords p tx rx hp).trans (s.readied_initWords p)
  have hshown := ((s.readied p).showInit_port p tx rx p).trans (s.readied_port p)
  obtain ⟨t, ht, hroom, hbuild, hpending, hfield, hqueued⟩ := State.queueInit_counted
    ((s.readied p).showInit_roomy p tx rx (State.readied_roomy hc p)) (by decide) (by rw [hshown]; exact hegress)
  have hexec : exec (.linkTrained p tx rx) s = .next t := by
    show execLinkTrained p tx rx s = _
    rw [State.linkTrained_eq tx rx hst hrtx hheld hegress, ht]
    exact hroom.act (hbuild.trans (((s.readied p).showInit_build p tx rx).trans (s.readied_build p)))
      (hpending.trans (((s.readied p).showInit_pending p tx rx).trans (s.readied_pending p)))
  refine ⟨t, ((s.readied p).showInit p tx rx).initFrame p, hexec, (hfield _).trans (State.showInit_STATE ..), (hfield _).trans (State.showInit_TXLAT _ _ _ _ hp),
    (hfield _).trans (State.showInit_RXLAT _ _ _ _ hp), (hfield _).trans (State.showInit_PTXSEQ ..), (hfield _).trans (State.showInit_PRXSEQ ..), ?_, rfl,
    hwords, ?_⟩
  · rw [hqueued]; rfl
  · rw [hqueued, hshown]; exact ⟨rfl, rfl, rfl, rfl⟩

end Trained

end Sys2Proof.Machine
end

section
/-! SUPPORT. The fall of a link (R569, R592, R593, R604): the port is down without credits, and a child that loses its parent by it has none. -/

namespace Sys2Proof.Machine

/-! ### The parent's word -/

section HomingWord
variable {s t : State} (hb : t.build = s.build) (hword : t.regGet 0xD004 = s.regGet 0xD004)
include hword

theorem State.fget_HOMING (f : RF) (ha : f.addr = 0xD004) (hw : f.lo + f.w ≤ 32) : t.fget f = s.fget f :=
  State.fget_congr f (by rw [ha]; exact hword) (.inl hw)

include hb

theorem State.primaryUp_congr : t.primaryUp = s.primaryUp := by
  rw [State.primaryUp, State.primaryUp, hb, State.fget_HOMING hword Reg.STR_HOMING_PRIMARY_UP rfl (by decide)]

theorem State.altUp_congr : t.altUp = s.altUp := by
  rw [State.altUp, State.altUp, State.flag, State.flag, hb, State.fget_HOMING hword Reg.STR_HOMING_ALT_UP rfl (by decide),
    State.fget_HOMING hword Reg.STR_HOMING_DUAL rfl (by decide)]

theorem State.otherUp_congr (p : Nat) : t.otherUp p = s.otherUp p := by
  rw [State.otherUp, State.otherUp, State.primaryUp_congr hb hword, State.altUp_congr hb hword]

theorem State.curUp_congr (himg : t.imgRegs = s.imgRegs) : t.curUp = s.curUp := by
  have hroot : t.isRoot = s.isRoot := by rw [State.isRoot, State.isRoot, State.tier, State.tier, State.imgWord, State.imgWord, himg]
  rw [State.curUp, State.curUp, hroot, State.primaryUp_congr hb hword, State.altUp_congr hb hword,
    State.fget_HOMING hword Reg.STR_HOMING_CUR_PARENT rfl (by decide)]

end HomingWord

/-! ### A port that shows itself down -/

/-- What a port shows of its state, its admission and its credits. -/
def linkFields : List RF := [Reg.STR_PSTAT_STATE, Reg.STR_PSTAT_ADMITTED, Reg.STR_PCRED_RES, Reg.STR_PCRED_BE]

/-- Port `p` is down, not admitted and without credits. -/
def ShowsDown (p : Nat) (t : State) : Prop := ∀ f ∈ linkFields, t.fget (f.at p) = 0

theorem linkFields_shape : ∀ f ∈ linkFields, f.lo + f.w ≤ 32 ∧ 0x80000 ≤ f.addr ∧ f.stride = 0x1000 ∧
    (f.addr = 0x80008 ∧ f.lo + f.w ≤ 4 ∨ f.addr = 0x80014) := by decide

section ShowsDown
variable {s t : State} {p : Nat} (h : ShowsDown p s)
include h

theorem ShowsDown.of_fget (ht : ∀ f ∈ linkFields, t.fget (f.at p) = s.fget (f.at p)) : ShowsDown p t := fun f hf => (ht f hf).trans (h f hf)

theorem ShowsDown.fset_below (f : RF) (v : Nat) (hw : f.lo + f.w ≤ 32) (ha : f.addr < 0x80000) : ShowsDown p (s.fset f v) :=
  h.of_fget fun g hg => by
    obtain ⟨hgw, hga, -⟩ := linkFields_shape g hg
    exact State.fget_fset_above s p v hw hgw (by omega)

/-- HOMED and RESERVABLE stand beside the port's state. -/
theorem ShowsDown.fset_beside (f : RF) (v : Nat) (hw : f.lo + f.w ≤ 32) (hs : f.stride = 0x1000) (ha : f.addr = 0x80008) (hlo : 4 ≤ f.lo) :
    ShowsDown p (s.fset (f.at p) v) :=
  h.of_fget fun g hg => by
    obtain ⟨hgw, -, hgs, ⟨hga, hgl⟩ | hga⟩ := linkFields_shape g hg
    · exact State.fget_fset_field s p v hw hgw (hgs.trans hs.symm) (hga.trans ha.symm) (.inr (by omega))
    · exact State.fget_fset_port s p v hw hgw (hgs.trans hs.symm) (by omega)

theorem ShowsDown.of_steady (hp : p < 36) (ht : t.steady = s.steady) : ShowsDown p t := by
  have hsteady : ∀ q, q < 36 → ∀ f ∈ linkFields, steadyWord (f.at q).addr = true := by decide
  exact h.of_fget fun g hg => State.fget_of_steady ht _ (hsteady p hp g hg) (.inl (linkFields_shape g hg).1)

theorem ShowsDown.withStr (x : Strand) : ShowsDown p { s with str := x } := h.of_fget fun _ _ => rfl

theorem ShowsDown.noParent : ShowsDown p s.noParent :=
  ShowsDown.withStr (h.fset_below Reg.STR_HOMING_CUR_PARENT 2 (by decide) (by decide)) _

theorem ShowsDown.sendAttach (hp : p < 36) (q : Nat) : ShowsDown p (s.sendAttach q) :=
  ShowsDown.withStr (h.of_steady hp (State.steady_send s q 0x06 7 0 false _ [])) _

theorem ShowsDown.setStr (f : Strand → Strand) : ShowsDown p (s.setStr f) := h.of_fget fun _ _ => rfl

theorem ShowsDown.noteLoss : ShowsDown p (s.noteLoss p) := by
  rw [State.noteLoss, State.bump, State.fadd]
  exact ((h.fset_below Reg.STR_UPSTAT_LOSSES _ (by decide) (by decide)).fset_beside Reg.STR_PSTAT_HOMED 0 (by decide) rfl rfl (by decide)).setStr _

theorem ShowsDown.loseParent (hp : p < 36) : ShowsDown p (s.loseParent p) := by
  obtain he | ⟨q, -, he⟩ := s.loseParent_cases p <;> rw [he]
  · exact h.noteLoss.noParent
  · exact h.noteLoss.sendAttach hp q

theorem ShowsDown.takeover : ShowsDown p s.takeover :=
  h.of_fget fun g hg => by
    obtain ⟨-, hga, -⟩ := linkFields_shape g hg
    exact State.fget_takeover s _ (by simp only [RF.at]; omega)

end ShowsDown

/-! ### A port leaves UP -/

theorem State.Roomy.ledDrop_withLea {s : State} {m : Nat} (h : s.Roomy m) (k i r n : Nat) (hn : m + n < ftMax) :
    ∃ l : Lea, s.ledDrop k i r n = s.withLea l ∧ (s.withLea l).Roomy (m + n) := by
  unfold State.ledDrop
  split
  · exact h.led_withLea _ _ _ _ hn
  · exact ⟨s.lea, rfl, h.mono (by omega)⟩

/-- The credits of a port, gone (R604). -/
def State.zeroCredits (s : State) (p : Nat) : State := (s.fset (Reg.STR_PCRED_RES.at p) 0).fset (Reg.STR_PCRED_BE.at p) 0

theorem State.dropCredits_from (s : State) (p : Nat) : ∃ u, s.zeroCredits p = u ∧ s.dropCredits p =
    if s.fget (Reg.STR_PCRED_RES.at p) + s.fget (Reg.STR_PCRED_BE.at p) = 0 then u
    else u.ledDrop 9 p rsnRESET (s.fget (Reg.STR_PCRED_RES.at p) + s.fget (Reg.STR_PCRED_BE.at p)) := ⟨_, rfl, rfl⟩

theorem State.dropCredits_eq {s : State} {m : Nat} (h : s.Roomy m) (p : Nat) (hm : m + 2 ^ 17 < ftMax) :
    ∃ l : Lea, s.dropCredits p = (s.zeroCredits p).withLea l ∧ ((s.zeroCredits p).withLea l).Roomy (m + 2 ^ 17) := by
  have hres : s.fget (Reg.STR_PCRED_RES.at p) < 2 ^ 16 := s.fget_lt _
  have hbe : s.fget (Reg.STR_PCRED_BE.at p) < 2 ^ 16 := s.fget_lt _
  have hzero : (s.zeroCredits p).Roomy m := State.Roomy.fset (State.Roomy.fset h _ _) _ _
  obtain ⟨u, hu, he⟩ := s.dropCredits_from p
  rw [hu] at hzero
  rw [hu, he]
  split
  · exact ⟨_, rfl, hzero.mono (by omega)⟩
  · obtain ⟨l, he, hr⟩ := hzero.ledDrop_withLea 9 p rsnRESET (s.fget (Reg.STR_PCRED_RES.at p) + s.fget (Reg.STR_PCRED_BE.at p)) (by omega)
    exact ⟨l, he, hr.mono (by omega)⟩

/-- A port that has gone down, before its registers show it: nothing that it was taking or sending goes on. -/
def downPort (x : Port) : Port :=
  { x with initSent := false, initGot := false, judged := false, pdReqs := 0, partials := [], custody := [], resend := [], nakDue := false, nakWait := false
           ctrlDue := false }

/-- The registers of a port that has gone down. -/
def State.showDown (s : State) (p : Nat) : State :=
  (((s.fset (Reg.STR_PSTAT_STATE.at p) 0).showUp p false).fset (Reg.STR_PSTAT_ADMITTED.at p) 0).fset (Reg.STR_PSTAT_RESERVABLE.at p) 0

theorem State.leaveUp_eq {s : State} {m p : Nat} (h : s.Roomy m) (hm : m + 2 ^ 17 < ftMax) (hparts : (s.port p).partials = []) :
    ∃ l : Lea, s.leaveUp p 0 = (((s.zeroCredits p).withLea l).modPort p downPort).showDown p ∧ ((s.zeroCredits p).withLea l).Roomy (m + 2 ^ 17) := by
  obtain ⟨l, he, hr⟩ := s.dropCredits_eq h p hm
  refine ⟨l, ?_, hr⟩
  rw [← he, State.leaveUp]
  simp only [hparts, List.map_nil]
  rfl

theorem State.fget_modPort (s : State) (p : Nat) (f : Port → Port) (g : RF) : (s.modPort p f).fget g = s.fget g := rfl

section ShowDown
variable (s : State) (p : Nat)

theorem State.fget_showUp_at (v : Bool) {g : RF} (hw : g.lo + g.w ≤ 32) (ha : 0x80000 ≤ g.addr) : (s.showUp p v).fget (g.at p) = s.fget (g.at p) := by
  unfold State.showUp
  split
  · exact State.fget_fset_above s p _ (by decide) hw (show 0xD014 < g.addr by omega)
  · exact State.fget_fset_above s p _ (by decide) hw (show 0xD018 < g.addr by omega)

theorem State.showUp_LOSSES (v : Bool) : (s.showUp p v).fget Reg.STR_UPSTAT_LOSSES = s.fget Reg.STR_UPSTAT_LOSSES := by
  unfold State.showUp
  split
  · exact State.fget_fset_beside s Reg.STR_UPSTAT_UP Reg.STR_UPSTAT_LOSSES _ rfl (by decide) (by decide) (by decide)
  · exact State.fget_fset_apart s _ (by decide) (by decide) (by decide)

theorem State.regGet_showUp (v : Bool) {k : Nat} (h1 : k ≠ 0xD014) (h2 : k ≠ 0xD018) : (s.showUp p v).regGet k = s.regGet k := by
  unfold State.showUp
  split
  · exact State.regGet_fset_other s Reg.STR_UPSTAT_UP _ k (by decide) h1
  · exact State.regGet_fset_other s Reg.STR_DNUP_UP _ k (by decide) h2

theorem State.showUp_roomy {n : Nat} (h : s.Roomy n) (v : Bool) : (s.showUp p v).Roomy n := by
  unfold State.showUp
  split <;> exact h.fset _ _

theorem State.showUp_frame (v : Bool) : (s.showUp p v).build = s.build ∧ (s.showUp p v).pending = s.pending ∧ (s.showUp p v).imgRegs = s.imgRegs ∧
    (s.showUp p v).str = s.str ∧ (s.showUp p v).tws = s.tws := by
  unfold State.showUp
  split <;> simp

theorem State.showDown_shows (hres : s.fget (Reg.STR_PCRED_RES.at p) = 0) (hbe : s.fget (Reg.STR_PCRED_BE.at p) = 0) : ShowsDown p (s.showDown p) := by
  have hcred (g : RF) (hw : g.lo + g.w ≤ 32) (hs : g.stride = 0x1000) (ha : g.addr = 0x80014) : (s.showDown p).fget (g.at p) = s.fget (g.at p) := by
    rw [State.showDown, State.fget_fset_port _ p _ (by decide) hw hs (by rw [ha]; decide), State.fget_fset_port _ p _ (by decide) hw hs (by rw [ha]; decide),
      State.fget_showUp_at _ p _ hw (by omega), State.fget_fset_port _ p _ (by decide) hw hs (by rw [ha]; decide)]
  have hadmitted : (s.showDown p).fget (Reg.STR_PSTAT_ADMITTED.at p) = 0 := by
    rw [State.showDown, State.fget_fset_field _ p _ (by decide) (by decide) (by decide) (by decide) (by decide), State.fget_fset_at _ _ _ _ (by decide)]
    exact Nat.zero_mod _
  have hstate : (s.showDown p).fget (Reg.STR_PSTAT_STATE.at p) = 0 := by
    rw [State.showDown, State.fget_fset_field _ p _ (by decide) (by decide) (by decide) (by decide) (by decide),
      State.fget_fset_field _ p _ (by decide) (by decide) (by decide) (by decide) (by decide), State.fget_showUp_at _ p _ (by decide) (by decide),
      State.fget_fset_at _ _ _ _ (by decide)]
    exact Nat.zero_mod _
  intro f hf
  simp only [linkFields, List.mem_cons, List.not_mem_nil, or_false] at hf
  obtain rfl | rfl | rfl | rfl := hf
  · exact hstate
  · exact hadmitted
  · exact (hcred _ (by decide) rfl rfl).trans hres
  · exact (hcred _ (by decide) rfl rfl).trans hbe

theorem State.showDown_roomy {n : Nat} (h : s.Roomy n) : (s.showDown p).Roomy n :=
  State.Roomy.fset (State.Roomy.fset (State.showUp_roomy _ p (State.Roomy.fset h _ _) false) _ _) _ _

end ShowDown

/-- After the fall of its link port `p` shows itself down, and nothing is owed. -/
structure Falls (p n : Nat) (t : State) : Prop where
  roomy : t.Roomy n
  shows : ShowsDown p t

/-- Below the ports' pages nothing but the UP bits of R605 differs. -/
structure SameBelow (s t : State) : Prop where
  build : t.build = s.build
  img : t.imgRegs = s.imgRegs
  tws : t.tws = s.tws
  words : ∀ k, k < 0x80000 → k ≠ 0xD014 → k ≠ 0xD018 → t.regGet k = s.regGet k
  losses : t.fget Reg.STR_UPSTAT_LOSSES = s.fget Reg.STR_UPSTAT_LOSSES

theorem SameBelow.refl (s : State) : SameBelow s s := ⟨rfl, rfl, rfl, fun _ _ _ _ => rfl, rfl⟩

theorem SameBelow.withLea {s t : State} (h : SameBelow s t) (l : Lea) : SameBelow s (t.withLea l) := ⟨h.build, h.img, h.tws, h.words, h.losses⟩

theorem SameBelow.modPort {s t : State} (h : SameBelow s t) (p : Nat) (f : Port → Port) : SameBelow s (t.modPort p f) :=
  ⟨h.build, h.img, h.tws, h.words, h.losses⟩

theorem SameBelow.fset_at {s t : State} (h : SameBelow s t) (f : RF) (p v : Nat) (hw : f.lo + f.w ≤ 32) (ha : 0x80000 ≤ f.addr) :
    SameBelow s (t.fset (f.at p) v) where
  build := (State.fset_build ..).trans h.build
  img := (State.fset_imgRegs ..).trans h.img
  tws := (State.fset_tws ..).trans h.tws
  words k hk h1 h2 := (State.regGet_fset_other t (f.at p) v k hw (by simp only [RF.at]; omega)).trans (h.words k hk h1 h2)
  losses := (State.fget_fset_below t p v hw (by decide) (show 0xD014 < f.addr by omega)).trans h.losses

theorem SameBelow.showUp {s t : State} (h : SameBelow s t) (p : Nat) (v : Bool) : SameBelow s (t.showUp p v) := by
  obtain ⟨hbuild, -, himg, -, htws⟩ := t.showUp_frame p v
  exact ⟨hbuild.trans h.build, himg.trans h.img, htws.trans h.tws, fun k hk h1 h2 => (t.regGet_showUp p v h1 h2).trans (h.words k hk h1 h2),
    (t.showUp_LOSSES p v).trans h.losses⟩

theorem State.leaveUp_sameBelow {s : State} {m p : Nat} (h : s.Roomy m) (hm : m + 2 ^ 17 < ftMax) (hparts : (s.port p).partials = []) :
    SameBelow s (s.leaveUp p 0) := by
  obtain ⟨l, he, -⟩ := State.leaveUp_eq h hm hparts
  have hcred : SameBelow s (s.zeroCredits p) :=
    ((SameBelow.refl s).fset_at Reg.STR_PCRED_RES p 0 (by decide) (by decide)).fset_at Reg.STR_PCRED_BE p 0 (by decide) (by decide)
  have hdown : SameBelow s (((s.zeroCredits p).withLea l).modPort p downPort) := (hcred.withLea l).modPort p downPort
  rw [he, State.showDown]
  exact (((hdown.fset_at _ p _ (by decide) (by decide)).showUp p _).fset_at _ p _ (by decide) (by decide)).fset_at _ p _ (by decide) (by decide)

theorem State.leaveUp_falls {s : State} {m p : Nat} (h : s.Roomy m) (hm : m + 2 ^ 17 < ftMax) (hparts : (s.port p).partials = []) :
    Falls p (m + 2 ^ 17) (s.leaveUp p 0) := by
  obtain ⟨l, he, hr⟩ := State.leaveUp_eq h hm hparts
  have hres : (s.zeroCredits p).fget (Reg.STR_PCRED_RES.at p) = 0 := by
    rw [State.zeroCredits, State.fget_fset_field _ p _ (by decide) (by decide) (by decide) (by decide) (by decide), State.fget_fset_at _ _ _ _ (by decide)]
    exact Nat.zero_mod _
  have hbe : (s.zeroCredits p).fget (Reg.STR_PCRED_BE.at p) = 0 := by
    rw [State.zeroCredits, State.fget_fset_at _ _ _ _ (by decide)]
    exact Nat.zero_mod _
  constructor
  · rw [he]; exact State.showDown_roomy _ p (hr.modPort p downPort)
  · rw [he]; exact State.showDown_shows _ p ((State.fget_modPort ..).trans ((State.fget_withLea ..).trans hres)) ((State.fget_modPort ..).trans ((State.fget_withLea ..).trans hbe))

/-! ### A link goes down (R569) -/

theorem State.cutLost_none {s : State} (h : s.tws.cut = none) (p : Nat) : s.cutLost p = s := by
  have hmod : s.modCutPort p (fun x => if x.closed then x else { x with incomplete := true }) = s := by rw [State.modCutPort, h]
  rw [State.cutLost, hmod, State.auditLink, h]

theorem State.attachLost_from (s : State) (p : Nat) : ∃ u, (s.noParent.setStr fun x => { x with homing := .settled }) = u ∧ s.attachLost p =
    match u.otherUp p with
    | some q => if u.portUp q && !(u.str.barred.contains q) then u.sendAttach q else u
    | none => u := ⟨_, rfl, rfl⟩

theorem State.attachLost_cases (s : State) (p : Nat) :
    s.attachLost p = s.noParent.setStr (fun x => { x with homing := .settled }) ∨
      ∃ q, s.attachLost p = (s.noParent.setStr fun x => { x with homing := .settled }).sendAttach q := by
  obtain ⟨u, hu, he⟩ := s.attachLost_from p
  rw [hu, he]
  split
  · split
    · exact .inr ⟨_, rfl⟩
    · exact .inl rfl
  · exact .inl rfl

section Falls
variable {s : State} {p n : Nat} (h : Falls p n s)
include h

theorem Falls.mono {m : Nat} (hm : n ≤ m) : Falls p m s := ⟨h.roomy.mono hm, h.shows⟩

theorem Falls.loseParent (hp : p < 36) (hn : n + 10 < ftMax) : Falls p (n + 10) (s.loseParent p) :=
  ⟨State.loseParent_roomy h.roomy p hn, h.shows.loseParent hp⟩

theorem Falls.attachLost (hp : p < 36) (hn : n + 10 < ftMax) : Falls p (n + 10) (s.attachLost p) := by
  have hsettled : Falls p n (s.noParent.setStr fun x => { x with homing := .settled }) :=
    ⟨(State.noParent_roomy h.roomy).setStr _, h.shows.noParent.setStr _⟩
  obtain he | ⟨q, he⟩ := s.attachLost_cases p
  · rw [he]; exact hsettled.mono (by omega)
  · rw [he]; exact ⟨State.sendAttach_roomy hsettled.roomy q hn, hsettled.shows.sendAttach hp q⟩

theorem Falls.peerLost : Falls p n (s.setStr fun x => { x with peerActive := false }).takeover :=
  ⟨(h.roomy.setStr _).takeover, (h.shows.setStr _).takeover⟩

end Falls

theorem SameBelow.routeActive {s t : State} (h : SameBelow s t) {p : Nat} (hp : p < 36) : t.routeActive p = s.routeActive p := by
  have hword (f : RF) (ha : f.addr = 0xD100) (hs : f.stride = 8) : t.fget (f.at p) = s.fget (f.at p) :=
    State.fget_congr _ (h.words _ (by simp only [RF.at, ha, hs]; omega) (by simp only [RF.at, ha, hs]; omega) (by simp only [RF.at, ha, hs]; omega))
      (.inr (h.words _ (by simp only [RF.at, ha, hs]; omega) (by simp only [RF.at, ha, hs]; omega) (by simp only [RF.at, ha, hs]; omega)))
  rw [State.routeActive, State.routeActive, State.routeValid, State.routeValid, State.flag, State.flag, State.flag, State.flag, h.build,
    hword Reg.STR_ROUTE_VALID rfl rfl, hword Reg.STR_ROUTE_ACTIVE rfl rfl]

theorem State.upPort_le (s : State) {p : Nat} (h : p = s.primaryUp ∨ s.altUp = some p) : 32 ≤ p := by
  obtain rfl | h := h
  · unfold State.primaryUp; split <;> omega
  · unfold State.altUp at h
    repeat' split at h
    all_goals cases h <;> omega

theorem State.regGet_setStr (s : State) (f : Strand → Strand) (k : Nat) : (s.setStr f).regGet k = s.regGet k := rfl

theorem State.noteLoss_regGet (s : State) (p : Nat) {k : Nat} (hk : k < 0x80000) (hne : k ≠ 0xD014) : (s.noteLoss p).regGet k = s.regGet k := by
  have hhomed : k ≠ (Reg.STR_PSTAT_HOMED.at p).addr := by simp only [RF.at, Reg.STR_PSTAT_HOMED]; omega
  rw [State.noteLoss, State.regGet_setStr, State.regGet_fset_other _ (Reg.STR_PSTAT_HOMED.at p) 0 k (by simp [RF.at, Reg.STR_PSTAT_HOMED]) hhomed]
  exact State.regGet_fset_other s Reg.STR_UPSTAT_LOSSES _ k (by decide) hne

theorem State.fget_setStr (s : State) (f : Strand → Strand) (g : RF) : (s.setStr f).fget g = s.fget g := rfl

theorem State.noteLoss_LOSSES (s : State) (p : Nat) :
    (s.noteLoss p).fget Reg.STR_UPSTAT_LOSSES = (s.fget Reg.STR_UPSTAT_LOSSES + 1) % 65536 := by
  rw [State.noteLoss, State.fget_setStr, State.fget_fset_below _ p _ (by decide) (by decide) (by decide), State.bump, State.fadd,
    State.fget_fset _ _ _ (by decide)]
  rfl

theorem State.noParent_CUR_PARENT (s : State) : s.noParent.fget Reg.STR_HOMING_CUR_PARENT = 2 :=
  State.fget_fset s Reg.STR_HOMING_CUR_PARENT 2 (by decide)

theorem State.noParent_LOSSES (s : State) : s.noParent.fget Reg.STR_UPSTAT_LOSSES = s.fget Reg.STR_UPSTAT_LOSSES :=
  State.fget_fset_apart s 2 (f := Reg.STR_HOMING_CUR_PARENT) (by decide) (by decide) (by decide)

theorem State.noParent_lostPort (s : State) : s.noParent.str.lostPort = s.str.lostPort :=
  (congrArg Strand.lostPort (State.fset_str s Reg.STR_HOMING_CUR_PARENT 2) : (s.fset Reg.STR_HOMING_CUR_PARENT 2).str.lostPort = _)

section LinkDown
variable {s : State} {p : Nat} (hc : Calm s) (hport : hasPort s.build p = true) (hcut : s.tws.cut = none) (hparts : (s.port p).partials = [])
include hc hcut hparts

theorem State.linkDown_eq :
    s.linkDown p 0 = if !s.portUp p then s.leaveUp p 0
      else if s.isPeer p then ((s.leaveUp p 0).setStr fun x => { x with peerActive := false }).takeover
      else if isUp p then
        (if (s.leaveUp p 0).curUp = some p then (s.leaveUp p 0).loseParent p
         else match (s.leaveUp p 0).str.homing with
          | .attaching q _ => if q = p then (s.leaveUp p 0).attachLost p else s.leaveUp p 0
          | .settled => s.leaveUp p 0)
      else (s.leaveUp p 0).loseChild p := by
  have hbelow := State.leaveUp_sameBelow hc (by decide) hparts
  rw [State.linkDown, State.cutLost_none (by rw [hbelow.tws, hcut])]
  rfl

/-- The port of the only parent falls: the child has none (R155, R592). -/
theorem State.linkDown_parent (hup : s.portUp p = true) (hroot : s.isRoot = false) (hcur : s.curUp = some p) (hother : s.otherUp p = none) :
    s.linkDown p 0 = ((s.leaveUp p 0).noteLoss p).noParent := by
  have hbelow := State.leaveUp_sameBelow hc (by decide) hparts
  have hword := hbelow.words 0xD004 (by decide) (by decide) (by decide)
  have hpeer : s.isPeer p = false := by rw [State.isPeer, hroot]; rfl
  have hside : isUp p = true := by
    have hmem : p = s.primaryUp ∨ s.altUp = some p := by
      simp only [State.curUp, hroot, Bool.false_eq_true, if_false] at hcur
      split at hcur
      · exact .inl (Option.some.inj hcur).symm
      · exact .inr hcur
      · cases hcur
      · exact .inl (Option.some.inj hcur).symm
    exact decide_eq_true (s.upPort_le hmem)
  have hnoted : ((s.leaveUp p 0).noteLoss p).regGet 0xD004 = (s.leaveUp p 0).regGet 0xD004 := State.noteLoss_regGet _ _ (by decide) (by decide)
  have hcur' : (s.leaveUp p 0).curUp = some p := (State.curUp_congr hbelow.build hword hbelow.img).trans hcur
  have hother' : ((s.leaveUp p 0).noteLoss p).otherUp p = none :=
    (State.otherUp_congr ((State.noteLoss_build ..).trans hbelow.build) (hnoted.trans hword) p).trans hother
  rw [State.linkDown_eq hc hcut hparts, hup, hpeer, hside]
  simp only [Bool.not_true, Bool.false_eq_true, if_false, if_true, hcur']
  obtain he | ⟨q, hq, -⟩ := (s.leaveUp p 0).loseParent_cases p
  · exact he
  · rw [hother'] at hq; cases hq

include hport

theorem State.linkDown_falls (hroute : 32 ≤ p ∨ s.routeActive p = false) : Falls p (2 ^ 62 + 2 ^ 17 + 10) (s.linkDown p 0) := by
  have hbelow := State.leaveUp_sameBelow hc (by decide) hparts
  have hfalls := State.leaveUp_falls hc (by decide) hparts
  have hp := hasPort_lt hport
  have hstays := hfalls.mono (m := 2 ^ 62 + 2 ^ 17 + 10) (by omega)
  rw [State.linkDown_eq hc hcut hparts]
  split
  · exact hstays
  · split
    · exact hfalls.peerLost.mono (by omega)
    · split
      · split
        · exact hfalls.loseParent hp (by decide)
        · split
          · split
            · exact hfalls.attachLost hp (by decide)
            · exact hstays
          · exact hstays
      · rename_i hup
        have hdown : s.routeActive p = false := hroute.resolve_left (by simpa [isUp] using hup)
        have hchild : (s.leaveUp p 0).loseChild p = s.leaveUp p 0 := by
          rw [State.loseChild, hbelow.routeActive hp, hdown]
          rfl
        rw [hchild]
        exact hstays

theorem linkDown_drops (h0 : s.pState p ≠ 0) (h4 : s.pState p ≠ 4) (hroute : 32 ≤ p ∨ s.routeActive p = false) :
    ∃ t, exec (.linkDown p 0) s = .next t ∧ t.pState p = 0 ∧ t.flag (Reg.STR_PSTAT_ADMITTED.at p) = false ∧
      t.fget (Reg.STR_PCRED_RES.at p) = 0 ∧ t.fget (Reg.STR_PCRED_BE.at p) = 0 ∧
      (s.portUp p = true → s.isRoot = false → s.curUp = some p → s.otherUp p = none →
        t.fget Reg.STR_HOMING_CUR_PARENT = 2 ∧ t.str.lostPort = some p ∧
        t.fget Reg.STR_UPSTAT_LOSSES = (s.fget Reg.STR_UPSTAT_LOSSES + 1) % 65536) := by
  have hfalls := State.linkDown_falls hc hport hcut hparts hroute
  have hside := State.side_linkDown s p 0 (Nat.lt_trans (hasPort_lt hport) (by decide))
  have hexec : exec (.linkDown p 0) s = .next (s.linkDown p 0) := by
    show execLinkDown p 0 s = _
    rw [execLinkDown, if_neg (by simp [hport, h0, h4]), if_neg (by simp)]
    exact hfalls.roomy.act (State.build_of_side hside) (State.pending_of_side hside)
  have hadmitted : (s.linkDown p 0).fget (Reg.STR_PSTAT_ADMITTED.at p) = 0 := hfalls.shows _ (by decide)
  refine ⟨s.linkDown p 0, hexec, hfalls.shows _ (by decide), by rw [State.flag, hadmitted]; rfl, hfalls.shows _ (by decide), hfalls.shows _ (by decide),
    fun hup hroot hcur hother => ?_⟩
  have hbelow := State.leaveUp_sameBelow hc (by decide) hparts
  rw [State.linkDown_parent hc hcut hparts hup hroot hcur hother]
  refine ⟨State.noParent_CUR_PARENT _, State.noParent_lostPort _ , ?_⟩
  rw [State.noParent_LOSSES, State.noteLoss_LOSSES, hbelow.losses]

end LinkDown

end Sys2Proof.Machine
end

section
/-! SUPPORT. Frames that are dropped or replayed when a child's parent is lost or left (R155, R594, R597): what counting them leaves of the ports' queues, and of the room in the ledger points. -/

namespace Sys2Proof.Machine

/-! ### Frames that a port holds -/

/-- The frames of a port: its egress queues, its held producers, its retransmit buffer, and what waits for replay. -/
def Port.frames (x : Port) : List (List TxFrame) × List (List TxFrame) × List TxFrame × List TxFrame := (x.egress, x.stalled, x.rtx, x.held)

theorem Modest.of_frames {x y : Port} (h : Modest x) (hf : y.frames = x.frames) : Modest y := by
  simp only [Port.frames, Prod.mk.injEq] at hf
  obtain ⟨he, hs, hr, hh⟩ := hf
  unfold Modest
  rw [he, hs, hr, hh]
  exact h

/-- A list of frames that a modest port may hold. -/
def ModestList (l : List TxFrame) : Prop := l.length < 2 ^ 16 ∧ ∀ y ∈ l, y.inputs < 2 ^ 16 ∧ y.payload.length ≤ 27

theorem ModestList.filter {l : List TxFrame} (h : ModestList l) (f : TxFrame → Bool) : ModestList (l.filter f) :=
  ⟨Nat.lt_of_le_of_lt (List.length_filter_le ..) h.1, fun y hy => h.2 y (List.mem_of_mem_filter hy)⟩

theorem ModestList.nil : ModestList [] := ⟨by decide, fun _ h => absurd h List.not_mem_nil⟩

theorem sumN_inputs_le {l : List TxFrame} (h : ∀ y ∈ l, y.inputs < 2 ^ 16) : sumN (l.map (·.inputs)) ≤ l.length * 2 ^ 16 := by
  have hsum := List.sum_le_card_nsmul (l.map (·.inputs)) (2 ^ 16) fun x hx => by
    obtain ⟨y, hy, rfl⟩ := List.mem_map.1 hx
    exact Nat.le_of_lt (h y hy)
  rw [sumN_eq_sum]
  simpa using hsum

theorem ModestList.inputs_le {l : List TxFrame} (h : ModestList l) : sumN (l.map (·.inputs)) ≤ 2 ^ 32 := by
  have hsum := sumN_inputs_le fun y hy => (h.2 y hy).1
  have hlen := h.1
  omega

theorem ModestList.cells_le {l : List TxFrame} (h : ModestList l) : cellsSum l ≤ 2 ^ 18 := by
  have hsum := cellsSum_le (fs := l) fun y hy => by
    have hlen := (h.2 y hy).2
    simp only [TxFrame.cells, TxFrame.bytes, cellsOf, frameBytesLen, ceilDiv]
    omega
  have hlen := h.1
  omega

theorem State.port_modPort_self (s : State) (p : Nat) (f : Port → Port) : (s.modPort p f).port p = f (s.port p) := by
  rw [State.modPort, State.port_setPort, if_pos rfl]

theorem State.port_modPort_other (s : State) {p q : Nat} (f : Port → Port) (h : q ≠ p) : (s.modPort p f).port q = s.port q := by
  rw [State.modPort, State.port_setPort, if_neg h]

/-! ### Counting frames -/

/-- `t` is `s` after at most `n` items are counted: nothing is owed as long as there was room, and every port holds the frames it held. -/
structure Counted (n : Nat) (s t : State) : Prop where
  build : t.build = s.build
  pending : t.pending = s.pending
  roomy : ∀ m, s.Roomy m → m + n < ftMax → t.Roomy (m + n)
  frames : ∀ q, (t.port q).frames = (s.port q).frames

theorem Counted.refl (s : State) : Counted 0 s s := ⟨rfl, rfl, fun _ h _ => h, fun _ => rfl⟩

theorem Counted.trans {a b : Nat} {s t u : State} (h : Counted a s t) (g : Counted b t u) : Counted (a + b) s u :=
  ⟨g.build.trans h.build, g.pending.trans h.pending, fun m hm hn => (g.roomy _ (h.roomy m hm (by omega)) (by omega)).mono (by omega),
    fun q => (g.frames q).trans (h.frames q)⟩

theorem Counted.mono {a b : Nat} {s t : State} (h : Counted a s t) (hab : a ≤ b) : Counted b s t :=
  ⟨h.build, h.pending, fun m hm hn => (h.roomy m hm (by omega)).mono (by omega), h.frames⟩

section Frames
variable {n : Nat} {s t : State} (h : Counted n s t) (q : Nat)
include h

theorem Counted.rtx : (t.port q).rtx = (s.port q).rtx := congrArg (fun x => x.2.2.1) (h.frames q)
theorem Counted.held : (t.port q).held = (s.port q).held := congrArg (fun x => x.2.2.2) (h.frames q)

end Frames

theorem Counted.led (s : State) (k i : Nat) (c : LedCol) (n : Nat) : Counted n s (s.led k i c n) :=
  ⟨State.led_build .., State.led_pending .., fun _ hm hn => hm.led k i c n hn, fun q => congrArg Port.frames (State.port_led s k i c n q)⟩

theorem Counted.ledDrop (s : State) (k i r n : Nat) : Counted n s (s.ledDrop k i r n) :=
  ⟨State.ledDrop_build .., State.ledDrop_pending .., fun _ hm hn => hm.ledDrop k i r n hn, fun q => congrArg Port.frames (State.port_ledDrop s k i r n q)⟩

theorem Counted.fset (s : State) (f : RF) (v : Nat) : Counted 0 s (s.fset f v) :=
  ⟨State.fset_build .., State.fset_pending .., fun _ hm _ => hm.fset f v, fun q => congrArg Port.frames (State.port_fset s f v q)⟩

theorem Counted.rtxShow (s : State) (p : Nat) : Counted 0 s (s.rtxShow p) := (Counted.fset s _ _).trans (Counted.fset _ _ _)

theorem State.custodyDone_frames (s : State) (c : Nat × Nat) (q : Nat) : ((s.custodyDone c).port q).frames = (s.port q).frames := by
  rw [State.custodyDone]
  by_cases hq : q = c.1
  · rw [hq, State.port_modPort_self]; rfl
  · rw [State.port_modPort_other _ _ hq]

theorem Counted.custodyDone (s : State) (c : Nat × Nat) : Counted 0 s (s.custodyDone c) :=
  ⟨rfl, rfl, fun _ hm _ => hm.of_eq rfl rfl, s.custodyDone_frames c⟩

theorem Counted.custody (l : List (Nat × Nat)) (s : State) : Counted 0 s (l.foldl State.custodyDone s) :=
  List.foldlRecOn (motive := Counted 0 s) l State.custodyDone (.refl s) fun t ht c _ =>
    ht.trans (.custodyDone t c)

theorem Counted.endFrames (s : State) {fs : List TxFrame} {n : Nat} (h : sumN (fs.map (·.inputs)) ≤ n) : Counted n s (s.endFrames fs) := by
  have hcustody := Counted.custody (fs.flatMap (·.covers)) s
  rw [State.endFrames, State.inputsOut]
  split
  · exact hcustody.mono (by omega)
  · exact (hcustody.trans (Counted.led _ 0x0A 0 .out _)).mono (by omega)

theorem Counted.dropAtDraft (s : State) (p c r : Nat) {fs : List TxFrame} (h : ModestList fs) : Counted (2 ^ 33) s (s.dropAtDraft p c r fs) := by
  have hlen := h.1
  have hdrop := ((Counted.led s 6 (draftPt p c) .inn fs.length).trans (Counted.ledDrop _ 6 (draftPt p c) r fs.length)).trans
    (Counted.endFrames _ h.inputs_le)
  exact hdrop.mono (by omega)

theorem Counted.foldl {β : Type} (l : List β) (f : State → β → State) (k : Nat) (s : State) (h : ∀ t, ∀ x ∈ l, Counted k t (f t x)) :
    Counted (l.length * k) s (l.foldl f s) := by
  induction l generalizing s with
  | nil => exact (Counted.refl s).mono (Nat.zero_le _)
  | cons x l ih =>
    have hrest := ih (f s x) fun t y hy => h t y (List.mem_cons_of_mem _ hy)
    exact ((h s x (List.mem_cons_self ..)).trans hrest).mono (by rw [List.length_cons, Nat.succ_mul]; omega)

/-! ### What the alternate held is replayed (R594, R597) -/

theorem mem_byClass {l : List TxFrame} {x : TxFrame} (h : x ∈ l) (hc : x.tc < 8) : x ∈ byClass l := by
  refine List.mem_flatMap.2 ⟨x.tc, ?_, List.mem_filter.2 ⟨h, by simp⟩⟩
  simp only [List.mem_cons, List.not_mem_nil, or_false]
  omega

/-- The frames that wait at a port for their replay, link-control frames apart. -/
def Port.toReplay (x : Port) : List TxFrame := (x.held ++ x.rtx).filter fun y => !linkControl y.typ

theorem Modest.filter_waiting {x : Port} (h : Modest x) (f : TxFrame → Bool) :
    (∀ y ∈ (x.held ++ x.rtx).filter f, y.inputs < 2 ^ 16) ∧ ((x.held ++ x.rtx).filter f).length ≤ 2 ^ 17 := by
  obtain ⟨-, -, hlists⟩ := h
  obtain ⟨hrtx, hrtx'⟩ := hlists x.rtx (by simp)
  obtain ⟨hheld, hheld'⟩ := hlists x.held (by simp)
  constructor
  · intro y hy
    rcases List.mem_append.1 (List.mem_of_mem_filter hy) with hy | hy
    · exact (hheld' y hy).1
    · exact (hrtx' y hy).1
  · refine (List.length_filter_le ..).trans ?_
    rw [List.length_append]; omega

/-- Frames of a retransmit buffer dropped under NO_PARENT. -/
theorem Counted.dropWaiting (s : State) (p : Nat) {l : List TxFrame} (hin : ∀ y ∈ l, y.inputs < 2 ^ 16) (hlen : l.length ≤ 2 ^ 17) :
    Counted (2 ^ 34) s (((if l.isEmpty then s else s.ledDrop 7 p 8 l.length).endFrames l).rtxShow p) := by
  have hsum := sumN_inputs_le hin
  have hdrop : Counted l.length s (if l.isEmpty then s else s.ledDrop 7 p 8 l.length) := by
    split
    · exact (Counted.refl s).mono (Nat.zero_le _)
    · exact Counted.ledDrop s 7 p 8 l.length
  exact ((hdrop.trans (Counted.endFrames _ hsum)).trans (Counted.rtxShow _ p)).mono (by omega)

theorem State.takeHeld_counted {s : State} {q : Nat} (hm : Modest (s.port q)) :
    ∃ t, s.takeHeld q = (t, (s.port q).toReplay) ∧ Counted (2 ^ 34) (s.modPort q dropHeld) t := by
  obtain ⟨hin, hlen⟩ := Modest.filter_waiting hm fun y => linkControl y.typ
  exact ⟨_, rfl, Counted.dropWaiting (s.modPort q dropHeld) q hin hlen⟩

/-- Frames leave one port's retransmit buffer for another's (R604). -/
theorem Counted.pass (s : State) (p q n : Nat) : Counted (2 * n) s (if q = p ∨ n = 0 then s else (s.led 7 q .out n).led 7 p .inn n) := by
  split
  · exact (Counted.refl s).mono (Nat.zero_le _)
  · exact ((Counted.led s 7 q .out n).trans (Counted.led _ 7 p .inn n)).mono (by omega)

/-- A replay from another port owes nothing after it, empties that port's buffer, and holds what the port held. -/
theorem State.replayFrom_holds {s : State} {p q : Nat} (hne : q ≠ p) (hm : Modest (s.port q)) :
    (s.replayFrom p q).build = s.build ∧ (s.replayFrom p q).pending = s.pending ∧ (∀ m, s.Roomy m → m + 2 ^ 35 < ftMax → (s.replayFrom p q).Roomy (m + 2 ^ 35)) ∧
    ((s.replayFrom p q).port q).rtx = [] ∧ ((s.replayFrom p q).port q).held = [] ∧
    ((s.replayFrom p q).port p).held = byClass ((s.port p).held ++ (s.port q).toReplay.map replayed) := by
  obtain ⟨t, ht, hcount⟩ := State.takeHeld_counted hm
  have hlen : (s.port q).toReplay.length ≤ 2 ^ 17 := (Modest.filter_waiting hm fun y => !linkControl y.typ).2
  have hmoved := hcount.trans (Counted.pass t p q (s.port q).toReplay.length)
  simp only [State.replayFrom, ht]
  generalize (if q = p ∨ (s.port q).toReplay.length = 0 then t
    else (t.led 7 q .out (s.port q).toReplay.length).led 7 p .inn (s.port q).toReplay.length) = u at hmoved
  have hshow := Counted.rtxShow (u.modPort p fun x => { x with held := byClass (x.held ++ (s.port q).toReplay.map replayed) }) p
  refine ⟨hshow.build.trans hmoved.build, hshow.pending.trans hmoved.pending, fun m hr hn => ?_, ?_, ?_, ?_⟩
  · have hmodified := hmoved.roomy m (hr.modPort q dropHeld) (by omega)
    exact (hshow.roomy _ (hmodified.modPort p _) (by omega)).mono (by omega)
  · rw [hshow.rtx, State.port_modPort_other _ _ hne, hmoved.rtx, State.port_modPort_self]
    rfl
  · rw [hshow.held, State.port_modPort_other _ _ hne, hmoved.held, State.port_modPort_self]
    rfl
  · rw [hshow.held, State.port_modPort_self]
    show byClass ((u.port p).held ++ _) = _
    rw [hmoved.held, State.port_modPort_other _ _ (Ne.symm hne)]

/-- The return is over (R597). -/
def State.endReturn (s : State) : State := s.setStr fun x => { x with returnFt := none }

theorem State.endReturn_returnFt (s : State) : s.endReturn.str.returnFt = none := rfl
theorem State.port_endReturn (s : State) (q : Nat) : s.endReturn.port q = s.port q := rfl
theorem State.endReturn_roomy {s : State} {n : Nat} (h : s.Roomy n) : s.endReturn.Roomy n := h.setStr _
theorem State.endReturn_build (s : State) : s.endReturn.build = s.build := rfl
theorem State.endReturn_pending (s : State) : s.endReturn.pending = s.pending := rfl

theorem returnReplay_replays {s : State} {p t0 : Nat} (hc : Calm s) (hret : s.str.returnFt = some t0) (halt : s.altUp = some p)
    (h64 : t0 + 64 * us ≤ s.now) (hcur : s.fget Reg.STR_HOMING_CUR_PARENT = 0) (hne : p ≠ s.primaryUp) (hm : Modest (s.port p)) :
    ∃ t, exec .returnReplay s = .next t ∧ t.str.returnFt = none ∧ (t.port p).rtx = [] ∧ (t.port p).held = [] ∧
      ∀ x ∈ (s.port p).held ++ (s.port p).rtx, linkControl x.typ = false → x.tc < 8 → replayed x ∈ (t.port s.primaryUp).held := by
  obtain ⟨hbuild, hpending, hroom, hrtx, hheld, hreplay⟩ := State.replayFrom_holds hne hm
  have hexec : execReturnReplay s = act s (s.replayFrom s.primaryUp p).endReturn := by
    simp only [execReturnReplay, hret, halt]
    rw [if_neg (by simp [hcur, h64]), State.endReturn]
  have hact := State.Roomy.act (State.endReturn_roomy (hroom _ hc (by decide))) ((State.endReturn_build _).trans hbuild)
    ((State.endReturn_pending _).trans hpending)
  refine ⟨_, hexec.trans hact, State.endReturn_returnFt _, by rw [State.port_endReturn, hrtx], by rw [State.port_endReturn, hheld], fun x hx hlink htc => ?_⟩
  have hwaits : replayed x ∈ (s.port p).toReplay.map replayed := List.mem_map_of_mem (List.mem_filter.2 ⟨hx, by rw [hlink]; rfl⟩)
  rw [State.port_endReturn, hreplay]
  exact mem_byClass (List.mem_append_right _ hwaits) htc

end Sys2Proof.Machine
end

section
/-! SUPPORT. What a child drops after 64 µs without a parent (R155): of every up-port the link-control frames stay. -/

namespace Sys2Proof.Machine

/-! ### Sweeping the queues of a port -/

theorem listSet_sweep {α : Type} (g : α → α) (d : α) (e : List α) (k : Nat) :
    listSet ((e.take k).map g ++ e.drop k) k (g (e.getD k d)) = (e.take (k + 1)).map g ++ e.drop (k + 1) := by
  induction e generalizing k with
  | nil => simp [listSet]
  | cons a e ih =>
    cases k with
    | zero => simp [listSet]
    | succ k => simpa [listSet] using ih k

theorem sweep_getD {α : Type} (g : α → α) (d : α) (e : List α) (k : Nat) : ((e.take k).map g ++ e.drop k).getD k d = e.getD k d := by
  induction e generalizing k with
  | nil => simp
  | cons a e ih =>
    cases k with
    | zero => simp
    | succ k => simpa using ih k

/-- Where an element is kept as it is, the sweep goes past it. -/
theorem sweep_fixed {α : Type} (g : α → α) (d : α) (e : List α) (k : Nat) (h : g (e.getD k d) = e.getD k d) :
    (e.take k).map g ++ e.drop k = (e.take (k + 1)).map g ++ e.drop (k + 1) := by
  induction e generalizing k with
  | nil => simp
  | cons a e ih =>
    cases k with
    | zero => simpa using h.symm
    | succ k => simpa using ih k (by simpa using h)

/-- The link-control frames of a queue. -/
def keepControl (l : List TxFrame) : List TxFrame := l.filter fun x => linkControl x.typ

theorem keepControl_of_none {l : List TxFrame} (h : (l.filter fun x => !linkControl x.typ) = []) : keepControl l = l := by
  refine List.filter_eq_self.2 fun x hx => ?_
  have hx' := (List.filter_eq_nil_iff.1 h) x hx
  simpa using hx'

/-- Class `c` of a port drops its items under NO_PARENT. -/
def State.dropClass (p : Nat) (s : State) (c : Nat) : State :=
  let l := (s.port p).egress.getD c []
  let gone := l.filter fun x => !linkControl x.typ
  if gone.isEmpty then s else
    let s1 := s.modPort p fun x => { x with egress := listSet x.egress c (keepControl l) }
    ((s1.ledDrop 6 (draftPt p c) 8 gone.length).led 5 (egressQ p c) .out (cellsSum gone)).endFrames gone

/-- The egress queues `e` of port `p` have been swept up to class `k`. -/
structure Swept (p : Nat) (e : List (List TxFrame)) (k n : Nat) (s t : State) : Prop where
  build : t.build = s.build
  pending : t.pending = s.pending
  roomy : ∀ m, s.Roomy m → m + n < ftMax → t.Roomy (m + n)
  other : ∀ q, q ≠ p → (t.port q).frames = (s.port q).frames
  swept : (t.port p).frames = ((e.take k).map keepControl ++ e.drop k, (s.port p).stalled, (s.port p).rtx, (s.port p).held)

theorem Swept.egress {p k n : Nat} {e : List (List TxFrame)} {s t : State} (h : Swept p e k n s t) :
    (t.port p).egress = (e.take k).map keepControl ++ e.drop k := congrArg (fun x => x.1) h.swept

theorem Swept.step {p k n : Nat} {e : List (List TxFrame)} {s t : State} (h : Swept p e k n s t) (hm : ModestList (e.getD k [])) :
    Swept p e (k + 1) (n + 2 ^ 33) s (t.dropClass p k) := by
  have hget : (t.port p).egress.getD k [] = e.getD k [] := by rw [h.egress, sweep_getD]
  have hset := listSet_sweep keepControl [] e k
  have hfix := sweep_fixed keepControl [] e k
  have hswept := h.swept
  simp only [State.dropClass, hget]
  generalize e.getD k [] = l at hm hset hfix
  split
  · rename_i hnone
    rw [hfix (keepControl_of_none (List.isEmpty_iff.1 hnone))] at hswept
    exact ⟨h.build, h.pending, fun m hr hn => (h.roomy m hr (by omega)).mono (by omega), h.other, hswept⟩
  · have hgone := hm.filter fun x => !linkControl x.typ
    generalize l.filter (fun x => !linkControl x.typ) = gone at hgone
    have hcount := (((Counted.ledDrop (t.modPort p fun x => { x with egress := listSet x.egress k (keepControl l) }) 6 (draftPt p k) 8 gone.length).trans
      (Counted.led _ 5 (egressQ p k) .out (cellsSum gone))).trans (Counted.endFrames _ hgone.inputs_le)).mono (b := 2 ^ 33)
      (by have hlen := hgone.1; have hcells := hgone.cells_le; omega)
    refine ⟨hcount.build.trans h.build, hcount.pending.trans h.pending, fun m hr hn => ?_, fun q hq => ?_, ?_⟩
    · have hr1 := h.roomy m hr (by omega)
      have hr2 := hcount.roomy (m + n) (hr1.modPort p _) (by rw [Nat.add_assoc]; exact hn)
      rwa [Nat.add_assoc] at hr2
    · rw [hcount.frames, State.port_modPort_other _ _ hq, h.other q hq]
    · rw [hcount.frames, State.port_modPort_self]
      simp only [Port.frames, Prod.mk.injEq] at hswept ⊢
      obtain ⟨hegress, hrest⟩ := hswept
      exact ⟨by rw [hegress, hset], hrest⟩

theorem Modest.egress_getD {x : Port} (h : Modest x) (k : Nat) : ModestList (x.egress.getD k []) := by
  obtain ⟨-, -, hlists⟩ := h
  by_cases hk : k < x.egress.length
  · rw [List.getD_eq_getElem _ _ hk]
    exact hlists _ (by simp [List.getElem_mem hk])
  · rw [List.getD_eq_default _ _ (Nat.not_lt.1 hk)]
    exact ModestList.nil

theorem Swept.range {s : State} {p : Nat} (hm : Modest (s.port p)) (k : Nat) :
    Swept p (s.port p).egress k (k * 2 ^ 33) s ((List.range k).foldl (State.dropClass p) s) := by
  induction k with
  | zero => exact ⟨rfl, rfl, fun _ h _ => h, fun _ _ => rfl, rfl⟩
  | succ k ih =>
    rw [List.range_succ, List.foldl_append, Nat.succ_mul]
    exact ih.step (Modest.egress_getD hm k)

/-! ### One port -/

/-- A port without its items; a lost port keeps nothing for replay. -/
def expiredPort (x : Port) (lost : Bool) : Port :=
  { x with
    held := if lost then [] else keepControl x.held
    rtx := if lost then [] else keepControl x.rtx
    resend := if lost then [] else x.resend
    stalled := x.stalled.filter fun l => l.any fun y => linkControl y.typ }

/-- What a port drops when 64 µs have passed without a parent (R155). -/
def State.expire (s : State) (p : Nat) : State :=
  let lost := s.str.lostPort == some p
  let items := ((s.port p).held ++ (s.port p).rtx).filter fun x => lost || !linkControl x.typ
  let s1 := s.setPort p (expiredPort (s.port p) lost)
  let s2 := ((if items.isEmpty then s1 else s1.ledDrop 7 p 8 items.length).endFrames items).rtxShow p
  let s3 := ((s.port p).stalled.filter fun l => l.all fun x => !linkControl x.typ).foldl
    (fun s l => s.dropAtDraft p ((l.head?.map (·.tc)).getD 0) 8 l) s2
  (List.range 8).foldl (State.dropClass p) s3

theorem noParentExpiry_eq {s : State} {t0 : Nat} (hno : s.str.noParentFt = some t0) (h64 : t0 + 64 * us ≤ s.now)
    (hcur : s.fget Reg.STR_HOMING_CUR_PARENT = 2) : execNoParentExpiry s = act s (s.childUps.foldl State.expire s) := by
  simp only [execNoParentExpiry, hno]
  rw [if_neg (by simp [hcur, h64])]
  rfl

/-- Every frame of a port's buffer and egress queues is a link-control frame. -/
def ControlOnly (x : Port) : Prop := ∀ l ∈ x.rtx :: x.held :: x.egress, ∀ y ∈ l, linkControl y.typ = true

theorem Modest.expired {x : Port} (h : Modest x) (lost : Bool) : Modest (expiredPort x lost) := by
  obtain ⟨hegress, hstalled, hlists⟩ := h
  have hkept (l : List TxFrame) (hl : ModestList l) : ModestList (if lost then [] else keepControl l) := by
    split
    · exact ModestList.nil
    · exact hl.filter _
  refine ⟨hegress, Nat.lt_of_le_of_lt (List.length_filter_le ..) hstalled, fun l hl => ?_⟩
  rcases List.mem_cons.1 hl with rfl | hl
  · exact hkept x.rtx (hlists _ (by simp))
  · rcases List.mem_cons.1 hl with rfl | hl
    · exact hkept x.held (hlists _ (by simp))
    · rcases List.mem_append.1 hl with hl | hl
      · exact hlists l (by simp [show l ∈ x.egress from hl])
      · exact hlists l (by simp [List.mem_of_mem_filter hl])

/-- A port whose items have expired, its egress queues included. -/
def sweptPort (x : Port) (lost : Bool) : Port := { expiredPort x lost with egress := x.egress.map keepControl }

theorem Modest.swept {x : Port} (h : Modest x) (lost : Bool) : Modest (sweptPort x lost) := by
  obtain ⟨hegress, hstalled, hlists⟩ := Modest.expired h lost
  refine ⟨(List.length_map (as := x.egress) keepControl).trans_le hegress, hstalled, fun l hl => ?_⟩
  rcases List.mem_cons.1 hl with rfl | hl
  · exact hlists _ (by simp [sweptPort])
  · rcases List.mem_cons.1 hl with rfl | hl
    · exact hlists _ (by simp [sweptPort])
    · rcases List.mem_append.1 hl with hl | hl
      · obtain ⟨l, hmem, rfl⟩ := List.mem_map.1 hl
        exact ModestList.filter (hlists l (by simp [show l ∈ (expiredPort x lost).egress from hmem])) _
      · exact hlists l (by simp [show l ∈ (expiredPort x lost).stalled from hl])

theorem keepControl_control {l : List TxFrame} : ∀ y ∈ keepControl l, linkControl y.typ = true := fun _ hy => (List.mem_filter.1 hy).2

theorem ControlOnly.swept (x : Port) (lost : Bool) : ControlOnly (sweptPort x lost) := by
  have hkept (l : List TxFrame) : ∀ y ∈ (if lost then [] else keepControl l), linkControl y.typ = true := by
    split
    · exact fun _ hy => absurd hy List.not_mem_nil
    · exact keepControl_control
  intro l hl
  rcases List.mem_cons.1 hl with rfl | hl
  · exact hkept x.rtx
  · rcases List.mem_cons.1 hl with rfl | hl
    · exact hkept x.held
    · obtain ⟨l, -, rfl⟩ := List.mem_map.1 hl
      exact keepControl_control

theorem ControlOnly.of_frames {x y : Port} (h : ControlOnly x) (hf : y.frames = x.frames) : ControlOnly y := by
  simp only [Port.frames, Prod.mk.injEq] at hf
  obtain ⟨he, -, hr, hh⟩ := hf
  unfold ControlOnly
  rw [he, hr, hh]
  exact h

/-- Before its classes are swept, a port without a parent has dropped what it held and the producers it stalled. -/
theorem State.expire_from {s : State} {p : Nat} (hm : Modest (s.port p)) :
    ∃ u, Counted (2 ^ 34 + 2 ^ 16 * 2 ^ 33) (s.setPort p (expiredPort (s.port p) (s.str.lostPort == some p))) u ∧
      s.expire p = (List.range 8).foldl (State.dropClass p) u := by
  obtain ⟨hin, hlen⟩ := Modest.filter_waiting hm fun x => s.str.lostPort == some p || !linkControl x.typ
  obtain ⟨-, hstalled, hlists⟩ := hm
  have hhead : ∀ l ∈ (s.port p).stalled.filter (fun l => l.all fun x => !linkControl x.typ), ModestList l := fun l hl =>
    hlists l (by simp [List.mem_of_mem_filter hl])
  have hdrop := (Counted.dropWaiting (s.setPort p (expiredPort (s.port p) (s.str.lostPort == some p))) p hin hlen).trans
    (Counted.foldl _ (fun s l => s.dropAtDraft p ((l.head?.map (·.tc)).getD 0) 8 l) (2 ^ 33) _ fun t l hl => Counted.dropAtDraft t p _ 8 (hhead l hl))
  exact ⟨_, hdrop.mono (Nat.add_le_add_left (Nat.mul_le_mul_right _ ((List.length_filter_le ..).trans (Nat.le_of_lt hstalled))) _), rfl⟩

/-- What the expiry of one port leaves: room for the ports after it, their frames as they were, and of this port's frames the link-control frames. -/
structure Expires (p : Nat) (s t : State) : Prop where
  build : t.build = s.build
  pending : t.pending = s.pending
  roomy : ∀ m, s.Roomy m → m + 2 ^ 50 < ftMax → t.Roomy (m + 2 ^ 50)
  other : ∀ q, q ≠ p → (t.port q).frames = (s.port q).frames
  modest : Modest (t.port p)
  control : ControlOnly (t.port p)

theorem State.expire_expires {s : State} {p : Nat} (hm : Modest (s.port p)) : Expires p s (s.expire p) := by
  obtain ⟨u, hcount, he⟩ := State.expire_from hm
  have hport : (u.port p).frames = (expiredPort (s.port p) (s.str.lostPort == some p)).frames :=
    (hcount.frames p).trans (by rw [State.port_setPort, if_pos rfl])
  have hexpired := Modest.expired hm (s.str.lostPort == some p)
  have hswept := Swept.range (Modest.of_frames hexpired hport) 8
  rw [← he] at hswept
  have hegress : (u.port p).egress = (s.port p).egress := congrArg (fun x => x.1) hport
  have hlen : (s.port p).egress.length ≤ 8 := hm.1
  have hframes : ((s.expire p).port p).frames = (sweptPort (s.port p) (s.str.lostPort == some p)).frames := by
    refine hswept.swept.trans ?_
    simp only [Port.frames, Prod.mk.injEq] at hport ⊢
    rw [hegress, List.take_of_length_le hlen, List.drop_eq_nil_of_le hlen, List.append_nil]
    exact ⟨rfl, hport.2⟩
  refine ⟨hswept.build.trans hcount.build, hswept.pending.trans hcount.pending, fun m hr hn => ?_, fun q hq => ?_,
    Modest.of_frames (Modest.swept hm _) hframes, (ControlOnly.swept _ _).of_frames hframes⟩
  · have hr1 := hcount.roomy m (hr.of_eq rfl rfl) (by omega)
    exact (hswept.roomy _ hr1 (by omega)).mono (by omega)
  · rw [hswept.other q hq, hcount.frames, State.port_setPort, if_neg hq]

/-! ### All up-ports -/

/-- What the expiry of the ports of `l` leaves. -/
structure AllExpire (l : List Nat) (s t : State) : Prop where
  build : t.build = s.build
  pending : t.pending = s.pending
  roomy : ∀ m, s.Roomy m → m + l.length * 2 ^ 50 < ftMax → t.Roomy (m + l.length * 2 ^ 50)
  stays : ∀ q, ControlOnly (s.port q) → ControlOnly (t.port q)
  control : ∀ q ∈ l, ControlOnly (t.port q)

theorem AllExpire.foldl (l : List Nat) (s : State) (hm : ∀ q ∈ l, Modest (s.port q)) : AllExpire l s (l.foldl State.expire s) := by
  induction l generalizing s with
  | nil => exact ⟨rfl, rfl, fun _ h _ => h, fun _ h => h, fun _ h => absurd h List.not_mem_nil⟩
  | cons p l ih =>
    have hp := State.expire_expires (hm p (List.mem_cons_self ..))
    have hmodest : ∀ q ∈ l, Modest ((s.expire p).port q) := fun q hq => by
      by_cases hqp : q = p
      · rw [hqp]; exact hp.modest
      · exact Modest.of_frames (hm q (List.mem_cons_of_mem _ hq)) (hp.other q hqp)
    have hl := ih (s.expire p) hmodest
    rw [List.foldl_cons]
    refine ⟨hl.build.trans hp.build, hl.pending.trans hp.pending, fun m hr hn => ?_, fun q hq => hl.stays q ?_, fun q hq => ?_⟩
    · rw [List.length_cons, Nat.succ_mul] at hn ⊢
      have hr1 := hp.roomy m hr (Nat.lt_of_le_of_lt (by omega) hn)
      have hr2 := hl.roomy (m + 2 ^ 50) hr1 (Nat.lt_of_le_of_lt (by omega) hn)
      exact hr2.mono (by omega)
    · by_cases hqp : q = p
      · rw [hqp]; exact hp.control
      · exact hq.of_frames (hp.other q hqp)
    · rcases List.mem_cons.1 hq with rfl | hq
      · exact hl.stays q hp.control
      · exact hl.control q hq

theorem noParentExpiry_drops {s : State} {t0 : Nat} (hc : Calm s) (hno : s.str.noParentFt = some t0) (h64 : t0 + 64 * us ≤ s.now)
    (hcur : s.fget Reg.STR_HOMING_CUR_PARENT = 2) (hm : ∀ q ∈ s.childUps, Modest (s.port q)) :
    ∃ t, exec .noParentExpiry s = .next t ∧
      ∀ q ∈ s.childUps, ∀ l ∈ (t.port q).rtx :: (t.port q).held :: (t.port q).egress, ∀ x ∈ l, linkControl x.typ = true := by
  have hall := AllExpire.foldl s.childUps s hm
  have hlen : s.childUps.length ≤ 2 := by
    rw [State.childUps, List.length_cons]
    cases s.altUp <;> simp
  have hroom := hall.roomy (2 ^ 62) hc (by unfold ftMax; omega)
  exact ⟨_, (noParentExpiry_eq hno h64 hcur).trans (hroom.act hall.build hall.pending), hall.control⟩

/-- Settles O39: each event of a link and each timer of a child by what it leaves owed, which is nothing, and by what it writes. -/
theorem linksComeAndGo : Obligations.LinksComeAndGo := by
  intro s p hc
  refine ⟨signalDetect_trains hc, fun tx rx => linkTrained_grants tx rx hc, fun hport h0 h4 => ⟨fun cause => linkDown_counts hc hport h0 h4,
    fun hcut hparts => linkDown_drops hc hport hcut hparts h0 h4⟩, fun hstop => ⟨parentLoss_loses hc hstop, fun t0 hatt h10 =>
    ⟨attachRetry_waits hc hstop hatt h10, attachRetry_repeats hc hstop hatt h10⟩, autoreturn_returns hc hstop⟩,
    fun t0 => handoverTimeout_gives hc, fun t0 => returnReplay_replays hc, fun t0 => noParentExpiry_drops hc⟩

end Sys2Proof.Machine
end

section
/-! SUPPORT. No command stops the block (R190): every meaning ends in a next state, with the build and the queue that it found; the unbinds and the management requests that an idle cycle serves leave both as they are. -/

namespace Sys2Proof.Machine

/-! ### What no operation changes -/

/-- The build and the commands that wait. -/
def State.fixed (s : State) : Build × List Instr := (s.build, s.pending)

theorem State.fixed_iff {s t : State} : t.fixed = s.fixed ↔ t.build = s.build ∧ t.pending = s.pending := Prod.ext_iff
theorem State.fixed_of_side {s t : State} (h : t.side = s.side) : t.fixed = s.fixed :=
  State.fixed_iff.2 ⟨State.build_of_side h, State.pending_of_side h⟩
theorem State.fixed_of_rest {s t : State} (h : t.rest = s.rest) : t.fixed = s.fixed :=
  State.fixed_iff.2 ⟨State.build_of_rest h, State.pending_of_rest h⟩

theorem foldl_fixed {β : Type} (l : List β) (f : State → β → State) (s : State) (h : ∀ s x, (f s x).fixed = s.fixed) : (l.foldl f s).fixed = s.fixed :=
  foldl_invariant State.fixed l f s fun t x _ => h t x

@[simp] theorem State.fixed_fset (s : State) (f : RF) (v : Nat) : (s.fset f v).fixed = s.fixed := State.fixed_of_rest (by simp)
@[simp] theorem State.fixed_fadd (s : State) (f : RF) (v : Nat) : (s.fadd f v).fixed = s.fixed := State.fixed_fset ..
@[simp] theorem State.fixed_bump (s : State) (f : RF) : (s.bump f).fixed = s.fixed := State.fixed_fset ..
@[simp] theorem State.fixed_emit (s : State) (e : Emission) : (s.emit e).fixed = s.fixed := rfl
@[simp] theorem State.fixed_setSlice (s : State) (n : Nat) (x : Slice) : (s.setSlice n x).fixed = s.fixed := rfl
@[simp] theorem State.fixed_setSess (s : State) (n : Nat) (x : Sess) : (s.setSess n x).fixed = s.fixed := rfl
@[simp] theorem State.fixed_setModel (s : State) (n : Nat) (x : Model) : (s.setModel n x).fixed = s.fixed := rfl
@[simp] theorem State.fixed_setTrSrc (s : State) (i : Nat) (x : TrSrc) : (s.setTrSrc i x).fixed = s.fixed := rfl
@[simp] theorem State.fixed_led (s : State) (k i : Nat) (c : LedCol) (n : Nat) : (s.led k i c n).fixed = s.fixed := State.fixed_of_side (by simp)
@[simp] theorem State.fixed_ledDrop (s : State) (k i r n : Nat) : (s.ledDrop k i r n).fixed = s.fixed := State.fixed_of_side (by simp)
@[simp] theorem State.fixed_fnSwitch (s : State) (b : Nat) : (s.fnSwitch b).fixed = s.fixed := State.fixed_of_side (by simp)
@[simp] theorem State.fixed_faultIrq (s : State) : s.faultIrq.fixed = s.fixed := State.fixed_of_side (by simp)
@[simp] theorem State.fixed_sendUp (s : State) (typ tc : Nat) (d : Hank) (r : Bool) (w : List W64) (c : List (Nat × Nat)) :
    (s.sendUp typ tc d r w c).fixed = s.fixed := State.fixed_of_side (by simp)
@[simp] theorem State.fixed_passUp (s : State) (typ tc : Nat) (d : Hank) (w : List W64) : (s.passUp typ tc d w).fixed = s.fixed := State.fixed_of_side (by simp)
@[simp] theorem State.fixed_putPacket (s : State) (w : List W64) : (s.putPacket w).fixed = s.fixed := State.fixed_of_side (by simp)
@[simp] theorem State.fixed_completeOk (s : State) (r : Running) (v : Nat) : (s.completeOk r v).fixed = s.fixed := State.fixed_of_rest (by simp)
@[simp] theorem State.fixed_readOut (s : State) (p : PortId) (v : W32) : (s.readOut p v).fixed = s.fixed := State.fixed_of_rest (by simp)

/-! ### Sessions and models that an unbind takes away (R183) -/

theorem State.fixed_modSess (s : State) (n : Nat) (f : Sess → Sess) : (s.modSess n f).fixed = s.fixed := by
  unfold State.modSess; split <;> rfl

@[simp] theorem State.fixed_leavePend (s : State) (n : Nat) (vs : List Vec) : (s.leavePend n vs).fixed = s.fixed := by
  simp only [State.leavePend]
  repeat' split
  all_goals simp

@[simp] theorem State.fixed_dropPending (s : State) (n : Nat) : (s.dropPending n).fixed = s.fixed := by
  unfold State.dropPending
  split
  · extract_lets vs g k s1 s2
    have h2 : s2.fixed = s.fixed := (State.fixed_leavePend ..).trans (foldl_fixed _ _ _ fun _ _ => State.fixed_modSess ..)
    split
    · exact h2
    · exact (State.fixed_ledDrop ..).trans h2
  · rfl

@[simp] theorem State.fixed_releaseShaped (s : State) (n : Nat) : (s.releaseShaped n).fixed = s.fixed := by
  unfold State.releaseShaped
  split
  · rw [foldl_fixed _ _ _ fun _ _ => State.fixed_passUp ..]; rfl
  · rfl

@[simp] theorem State.fixed_releaseResv (s : State) (n : Nat) : (s.releaseResv n).fixed = s.fixed := by
  unfold State.releaseResv
  split
  · exact (foldl_fixed _ _ _ fun u r => (State.fixed_of_side (State.side_releasePath u r)).trans rfl).trans (State.fixed_releaseShaped ..)
  · rfl

@[simp] theorem State.fixed_unbindSource (s : State) (n : Nat) : (s.unbindSource n).fixed = s.fixed := by
  refine (foldl_fixed _ _ _ fun u k => ?_).trans rfl
  split
  · exact State.fixed_fset u ..
  · rfl

@[simp] theorem State.fixed_checkBound (s : State) (k : Nat) : (s.checkBound k).fixed = s.fixed := by
  unfold State.checkBound; split <;> simp

@[simp] theorem State.fixed_startLoad (s : State) (k : Nat) (m : Model) (p : List MShare) : (s.startLoad k m p).fixed = s.fixed := rfl
@[simp] theorem State.fixed_startEvict (s : State) (k : Nat) (m : Model) : (s.startEvict k m).fixed = s.fixed := rfl

@[simp] theorem State.fixed_setWant (s : State) (v : Bool) : (s.setWant v).fixed = s.fixed := by
  unfold State.setWant
  repeat' split
  all_goals simp

@[simp] theorem State.fixed_evictFor (s : State) (m : Model) (p : List MShare) : (s.evictFor m p).fixed = s.fixed := by
  refine foldl_fixed _ _ _ fun u x => ?_
  simp only
  repeat' split
  · rfl
  · refine foldl_fixed _ _ _ fun u v => ?_
    split <;> simp
  · rfl

@[simp] theorem State.fixed_evictRule (s : State) : s.evictRule.fixed = s.fixed := by
  simp only [State.evictRule]
  repeat' split
  all_goals simp

@[simp] theorem State.fixed_registerModel (s : State) (k : Nat) (m : Model) : (s.registerModel k m).fixed = s.fixed := by
  simp only [State.registerModel]
  split <;> simp

@[simp] theorem State.fixed_kick (s : State) : s.kick.fixed = s.fixed := by
  unfold State.kick
  repeat' split
  all_goals simp

@[simp] theorem State.fixed_closeSession (s : State) (n : Nat) : (s.closeSession n).fixed = s.fixed := by
  unfold State.closeSession
  extract_lets s1 busy s2 aside
  have h1 : s1.fixed = s.fixed := by simp [s1]
  clear_value s1
  split
  · exact h1
  extract_lets z s3
  have h3 : s3.fixed = s.fixed := by
    simp only [s3]
    clear_value busy aside
    split <;> exact h1
  rw [State.fixed_kick]
  split <;> simp [h3]

@[simp] theorem State.fixed_discardModel (s : State) (k : Nat) (m : Model) (cmds : List Running) : (s.discardModel k m cmds).fixed = s.fixed := by
  unfold State.discardModel
  repeat' split
  · rfl
  · rw [State.freeSlot, State.fixed_kick]
    exact foldl_fixed _ _ _ fun _ _ => State.fixed_completeOk ..
  · rfl

/-! ### The Trace unit that an unbind releases (R274) -/

@[simp] theorem State.fixed_timeSync (s : State) (i : Nat) (ws : List W64) : (s.timeSync i ws).fixed = s.fixed := by
  unfold State.timeSync
  extract_lets x ft due p
  split
  · rw [State.fixed_setTrSrc, State.fixed_putPacket]; rfl
  · rfl

@[simp] theorem State.fixed_noteMoved (s : State) (i : Nat) (ws : List W64) : (s.noteMoved i ws).fixed = s.fixed := by
  simp only [State.noteMoved]
  repeat' split
  all_goals rfl

@[simp] theorem State.fixed_placeDrop (s : State) (i : Nat) : (s.placeDrop i).fixed = s.fixed := by
  simp only [State.placeDrop]
  split
  · simp
  · rfl

@[simp] theorem State.fixed_movePacket (s : State) (i : Nat) : (s.movePacket i).fixed = s.fixed := by
  unfold State.movePacket
  simp only
  split <;> simp

@[simp] theorem State.fixed_stopSources (s : State) : s.stopSources.fixed = s.fixed := by
  refine foldl_fixed _ _ _ fun u i => ?_
  refine (foldl_fixed _ _ _ fun u _ => State.fixed_movePacket u i).trans ?_
  split <;> rfl

theorem State.fixed_segment (s : State) (ft seq off : Nat) (raw : List Byte) : (s.segment ft seq off raw).2.fixed = s.fixed := by
  simp only [State.segment]
  split <;> simp

@[simp] theorem State.fixed_drainRun (s : State) (c : TrcCfg) (n : Nat) : (s.drainRun c n).fixed = s.fixed := by
  unfold State.drainRun
  extract_lets pos raw next mir slice toHost g s1
  have h1 : s1.fixed = s.fixed := State.fixed_segment ..
  clear_value s1
  split
  · rfl
  · split
    · exact h1
    · rw [State.fixed_sendUp, State.fixed_fadd]; exact h1

theorem State.fixed_drainAll (fuel : Nat) (s : State) (c : TrcCfg) : (State.drainAll fuel s c).fixed = s.fixed := by
  induction fuel generalizing s with
  | zero => rfl
  | succ k ih =>
    simp only [State.drainAll]
    split
    · rfl
    · rw [ih, State.fixed_drainRun]

@[simp] theorem State.fixed_releaseEnd (s : State) (cmd : Option Running) : (s.releaseEnd cmd).fixed = s.fixed := by
  unfold State.releaseEnd
  extract_lets s1 x s2
  have h2 : s2.fixed = s.fixed := by
    show s1.fixed = s.fixed
    simp [s1]
  split
  · exact (State.fixed_completeOk ..).trans h2
  · exact h2

@[simp] theorem State.fixed_releaseCheck (s : State) : s.releaseCheck.fixed = s.fixed := by
  unfold State.releaseCheck
  repeat' split
  all_goals simp

@[simp] theorem State.fixed_traceRelease (s : State) (cmd : Option Running) : (s.traceRelease cmd).fixed = s.fixed := by
  unfold State.traceRelease
  extract_lets st s1
  have h1 : s1.fixed = s.fixed := by
    simp only [s1]
    split <;> simp
  repeat' split
  · rw [State.fixed_releaseCheck, State.fixed_drainAll]; exact h1
  all_goals simp [h1]

/-! ### Unbinds and requests that an idle cycle serves (R183, R695, R696) -/

@[simp] theorem State.fixed_failStalls (s : State) (n : Nat) (who : PortId × Nat → Bool) : (s.failStalls n who).fixed = s.fixed :=
  foldl_fixed _ _ _ fun u e => by simp

theorem State.fixed_unbindFinish (s : State) (r : Running) (n : Nat) : (s.unbindFinish r n).fixed = s.fixed := by
  unfold State.unbindFinish
  extract_lets ss s1 s2 s3 s4 x s5 s6 s7 y s8 s9
  have h1 : s1.fixed = s.fixed := foldl_fixed _ _ _ fun _ _ => State.fixed_closeSession ..
  have h2 : s2.fixed = s.fixed := (foldl_fixed _ _ _ fun _ _ => State.fixed_discardModel ..).trans h1
  have h4 : s4.fixed = s.fixed := by
    simp only [s4]
    split
    · exact (State.fixed_traceRelease ..).trans h2
    · exact h2
  have h6 : s6.fixed = s.fixed := by
    simp only [s6]
    split <;> simp [s5, h4]
  have h7 : s7.fixed = s.fixed := by
    simp only [s7]
    split <;> simp [h6]
  simp [s9, s8, h7]

theorem State.fixed_unbindCheck (s : State) (n : Nat) : (s.unbindCheck n).fixed = s.fixed := by
  simp only [State.unbindCheck]
  repeat' split
  · exact State.fixed_unbindFinish ..
  all_goals rfl

theorem State.fixed_tick (s : State) : s.tick.fixed = s.fixed := by
  simp only [State.tick]
  repeat' split
  · rfl
  · rfl
  · exact State.fixed_fset ..
  · rfl

/-! ### Every meaning ends -/

/-- Every command and event is a meaning carried out with the effects it owes. -/
theorem exec_acts (i : Instr) (s : State) : ∃ t, exec i s = act s t := by
  cases i <;> exact ⟨_, rfl⟩

/-- An outcome is a next state with the build and the queue of `s`. -/
def GoesOn (s : State) (o : Host.Outcome State Fault Refusal) : Prop := ∃ t, o = .next t ∧ t.fixed = s.fixed

theorem GoesOn.of_fixed {s u : State} {o : Host.Outcome State Fault Refusal} (h : GoesOn u o) (hu : u.fixed = s.fixed) : GoesOn s o :=
  let ⟨t, ho, ht⟩ := h
  ⟨t, ho, ht.trans hu⟩

theorem exec_goesOn (i : Instr) (s : State) : GoesOn s (exec i s) := by
  obtain ⟨t, ht⟩ := exec_acts i s
  obtain ⟨u, hu, hfix⟩ := act_next s t
  exact ⟨u, ht.trans hu, State.fixed_iff.2 hfix⟩

theorem GoesOn.requeue {s : State} {o : Host.Outcome State Fault Refusal} (h : GoesOn s o) {f : State → State} (hf : ∀ t, (f t).fixed = t.fixed) :
    GoesOn s (requeue f o) := by
  obtain ⟨t, rfl, ht⟩ := h
  exact ⟨f t, rfl, (hf t).trans ht⟩

theorem serveMgmt_goesOn (s : State) : GoesOn s s.serveMgmt := by
  have hserved (i : Instr) (h : Hif) (f : State → State) (hf : ∀ t, (f t).fixed = t.fixed) : GoesOn s (requeue f (exec i { s with hif := h })) :=
    ((exec_goesOn i { s with hif := h }).requeue hf).of_fixed rfl
  unfold State.serveMgmt
  split
  · split
    · exact ⟨s, rfl, rfl⟩
    · exact hserved _ _ _ fun _ => rfl
  · split
    · exact hserved _ _ _ fun _ => rfl
    · exact ⟨s, rfl, rfl⟩

theorem serve_goesOn (s : State) : GoesOn s s.serve :=
  (serveMgmt_goesOn _).of_fixed (foldl_fixed _ _ _ fun u e => u.fixed_unbindCheck e.1)

/-- A step ends in a next state, takes one command off the queue where one waits, and leaves the build. -/
theorem step_takes_one (s : State) : ∃ t, step s = .next t ∧ t.pending = s.pending.drop 1 ∧ t.build = s.build := by
  unfold step
  split
  · rename_i hq
    obtain ⟨t, ht, hfix⟩ := (serve_goesOn s.tick).of_fixed s.fixed_tick
    obtain ⟨hbuild, hpend⟩ := State.fixed_iff.1 hfix
    exact ⟨t, ht, by rw [hpend, hq]; rfl, hbuild⟩
  · rename_i c rest hq
    obtain ⟨t, ht, hfix⟩ := exec_goesOn c { s with pending := rest }
    obtain ⟨hbuild, hpend⟩ := State.fixed_iff.1 hfix
    exact ⟨t, ht, by rw [hpend, hq]; rfl, hbuild⟩

/-- Settles O56, by induction on the number of steps. -/
theorem queuesRunToTheirEnd : Obligations.QueuesRunToTheirEnd := by
  intro s n
  induction n generalizing s with
  | zero => exact ⟨s, rfl, rfl, rfl⟩
  | succ n ih =>
    obtain ⟨u, hstep, hpend, hbuild⟩ := step_takes_one s
    obtain ⟨t, hruns, htpend, htbuild⟩ := ih u
    exact ⟨t, ⟨u, hstep, hruns⟩, by rw [htpend, hpend, List.drop_drop, Nat.add_comm], htbuild.trans hbuild⟩

end Sys2Proof.Machine
end

section
/-! SUPPORT. Registers that starting, completing and counting a command leave alone, word by word; and descriptors that fail a shared check (R198, R201, R205). -/

namespace Sys2Proof.Machine

open Sys2Proof

/-! ### Words beside those that a command's start and end write -/

theorem quietWord_bank (k n : Nat) : quietWord (k + n * 0x100000) = quietWord k := by
  have h : wordOf (k + n * 0x100000) = wordOf k := wordOf_bank k n
  simp only [quietWord, h]

theorem State.regGet_led_quiet (s : State) (k i : Nat) (c : LedCol) (n : Nat) {w : Nat} (hw : quietWord w = true) : (s.led k i c n).regGet w = s.regGet w :=
  State.regGet_of_side (State.side_led ..) w hw

theorem State.regGet_ledDrop_quiet (s : State) (k i r n : Nat) {w : Nat} (hw : quietWord w = true) : (s.ledDrop k i r n).regGet w = s.regGet w :=
  State.regGet_of_side (State.side_ledDrop ..) w hw

/-- Writing a field of one word leaves every other word alone, whatever slice or port it belongs to. -/
theorem State.regGet_fset_at (s : State) {f : RF} (n v : Nat) {k : Nat} (hf : f.lo + f.w ≤ 32) (hk : k ≠ (f.at n).addr) :
    (s.fset (f.at n) v).regGet k = s.regGet k := State.regGet_fset_other s (f.at n) v k hf hk

theorem State.regGet_countFetch_ne (s : State) (n : Nat) {k : Nat} (hq : quietWord k = true) (hhead : k ≠ (Reg.SLC_CMDHEAD_COUNT.at n).addr)
    (hstat : k ≠ (Reg.SLC_STATUS_INFLIGHT.at n).addr) : (s.countFetch n).regGet k = s.regGet k := by
  rw [State.countFetch, State.regGet_fset_at (f := Reg.SLC_STATUS_QUIESCED) _ _ _ (by decide) hstat, State.fadd, State.regGet_fset_at _ _ _ (by decide) hstat,
    State.regGet_led_quiet _ _ _ _ _ hq, State.fadd, State.regGet_fset_at _ _ _ (by decide) hhead]

theorem State.regGet_checkQuiesced_ne (s : State) (n : Nat) {k : Nat} (hstat : k ≠ (Reg.SLC_STATUS_INFLIGHT.at n).addr) :
    (s.checkQuiesced n).regGet k = s.regGet k := by
  simp only [State.checkQuiesced]
  split
  · rw [State.regGet_fset_at (f := Reg.SLC_STATUS_QUIESCED) _ _ _ (by decide) hstat, State.regGet_setSlice]
  · rfl

/-- The body of a slice's command finds every word as it stood but its command head and its status. -/
theorem State.regGet_begun_ne (s : State) (n opc : Nat) (d : Desc) (b : Bus) {k : Nat} (hq : quietWord k = true) (hhead : k ≠ (Reg.SLC_CMDHEAD_COUNT.at n).addr)
    (hstat : k ≠ (Reg.SLC_STATUS_INFLIGHT.at n).addr) : (s.begun (.slice n) opc d b).regGet k = s.regGet k := by
  simp only [State.begun]
  rw [State.regGet_setSlice, State.regGet_countFetch_ne s n hq hhead hstat]

theorem sliceWord_ne_err (f : RF) (n : Nat) (hf : f.stride = 0x100000) (ha : 0x5000 ≤ f.addr) : Reg.HIF_ERR_AUTH.addr ≠ (f.at n).addr := by
  have h : Reg.HIF_ERR_AUTH.addr = 0x400C := rfl
  simp only [RF.at, hf, h]
  omega

/-! ### Commands that are rejected -/

/-- The outcome of a meaning is one state, with the meaning's side. -/
theorem act_side_unique {s t y : State} (h : act s y = .next t) (hy : y.fixed = s.fixed) : t.side = y.side := by
  obtain ⟨hb, hp⟩ := State.fixed_iff.1 hy
  obtain ⟨u, hu, hside⟩ := act_side s y hb hp
  cases h.symm.trans hu
  exact hside

/-- A command that its port may not give is taken as one whose body only rejects it. -/
theorem State.command_denied (s : State) (i : Instr) (src : Src) (d : Desc) (b : Bus) (opc : Nat) {perm : Perm} (ns : Bool) (body : State → Running → State)
    (hp : permits perm src = false) : s.command i src d b opc perm ns body = s.command i src d b opc .hm ns fun u r => u.fail r stAUTH := by
  have hm : permits .hm src = true := by cases src <;> rfl
  cases src with
  | slice n => simp only [State.command, State.startHost, hp, hm, if_true, Bool.false_eq_true, if_false]
  | mgmt => simp only [State.command, State.startMgmt, hp, hm, if_true, Bool.false_eq_true, if_false]

/-- A command whose body rejects it completes with that status and VALUE 0, and nothing else changes. -/
theorem command_rejected {s : State} {src : Src} (i : Instr) (opc : Nat) (d : Desc) (b : Bus) {perm : Perm} (ns : Bool) {body : State → Running → State} {st : Nat}
    (h : Takes s src) (hp : permits perm src = true) (hb : body (s.begun src opc d b) (cmdRun s src opc d b) = (s.begun src opc d b).fail (cmdRun s src opc d b) st) :
    ∃ t, act s (s.command i src d b opc perm ns body) = .next t ∧ Ended s t src opc d st 0 d.session.toNat s :=
  command_ended s i src opc d b perm ns body s (s.begun src opc d b) st 0 _ h hp hb (HifRuns_of_same h (.refl _ _) rfl) (by simp)
    (fun k hk => PlainEq.begun s _ _ d b k hk) (fun e he => State.begun_out _ _ _ _ _ e he) rfl rfl (by simp)

/-- A descriptor with a reserved bit set, or a buffer that is not aligned, fails the first shared check (R198). -/
theorem State.checked_bad (u : State) (r : Running) (need : Need) (body : State → State) (h : r.d.rsv ≠ 0 ∨ (r.d.len ≠ 0 ∧ r.d.addr.toNat % 8 ≠ 0)) :
    u.checked r need body = u.fail r stBAD_FIELD := by
  have hc : u.check r need = some stBAD_FIELD := by
    rw [State.check, if_pos (by tauto)]
  rw [State.checked, hc]

theorem State.sessQuery_bad (u : State) {r : Running} (h : r.d.rsv ≠ 0 ∨ (r.d.len ≠ 0 ∧ r.d.addr.toNat % 8 ≠ 0)) :
    u.sessQuery r = u.fail r stBAD_FIELD := by
  unfold State.sessQuery; exact State.checked_bad _ _ _ _ h
theorem State.modelQuery_bad (u : State) {r : Running} (h : r.d.rsv ≠ 0 ∨ (r.d.len ≠ 0 ∧ r.d.addr.toNat % 8 ≠ 0)) :
    u.modelQuery r = u.fail r stBAD_FIELD := by
  unfold State.modelQuery; exact State.checked_bad _ _ _ _ h
theorem State.slcQuery_bad (u : State) {r : Running} (h : r.d.rsv ≠ 0 ∨ (r.d.len ≠ 0 ∧ r.d.addr.toNat % 8 ≠ 0)) :
    u.slcQuery r = u.fail r stBAD_FIELD := by
  unfold State.slcQuery; exact State.checked_bad _ _ _ _ h

/-- What completing a command with AUTH counts (R205, R216). -/
theorem State.complete_auth (s : State) (r : Running) (v se : Nat) (h : ∀ n, r.src = .slice n → (s.slice n).running = [r]) :
    (s.complete r stAUTH v se).fget Reg.HIF_ERR_AUTH = (s.fget Reg.HIF_ERR_AUTH + 1) % 256 := by
  have hbump (u : State) (hu : u.regGet Reg.HIF_ERR_AUTH.addr = s.regGet Reg.HIF_ERR_AUTH.addr) :
      (u.bump Reg.HIF_ERR_AUTH).fget Reg.HIF_ERR_AUTH = (s.fget Reg.HIF_ERR_AUTH + 1) % 256 := by
    rw [State.bump, State.fadd, State.fget_fset _ _ _ (by decide), State.fget_congr Reg.HIF_ERR_AUTH hu (.inl (by decide))]
    rfl
  have hq : quietWord Reg.HIF_ERR_AUTH.addr = true := by decide
  cases hs : r.src with
  | slice n =>
    have hstat := sliceWord_ne_err Reg.SLC_STATUS_INFLIGHT n rfl (by decide)
    simp only [State.complete, hs, h n hs]
    rw [if_neg (by simp), if_pos trivial, State.fget_congr _ (State.regGet_checkQuiesced_ne _ _ hstat) (.inl (by decide))]
    refine hbump _ ?_
    rw [State.regGet_fset_at _ _ _ (by decide) hstat, State.regGet_led_quiet _ _ _ _ _ hq]
    exact State.regGet_ledDrop_quiet _ _ _ _ _ hq
  | mgmt =>
    simp only [State.complete, hs, if_true]
    exact hbump { s with hif := { s.hif with mgmtRun := none } } rfl

/-- A command that its port may not give completes AUTH and is counted, whatever the descriptor holds. -/
theorem command_denied_ended {s : State} {src : Src} (i : Instr) (opc : Nat) (d : Desc) (b : Bus) {perm : Perm} (ns : Bool) (body : State → Running → State)
    (h : Takes s src) (hp : permits perm src = false) :
    ∃ t, act s (s.command i src d b opc perm ns body) = .next t ∧ Ended s t src opc d stAUTH 0 d.session.toNat s ∧
      t.fget Reg.HIF_ERR_AUTH = (s.fget Reg.HIF_ERR_AUTH + 1) % 256 := by
  have hm : permits .hm src = true := by cases src <;> rfl
  rw [State.command_denied s i src d b opc ns body hp]
  obtain ⟨t, ht, hend⟩ := command_rejected i opc d b ns (body := fun u r => u.fail r stAUTH) h hm rfl
  refine ⟨t, ht, hend, ?_⟩
  have hq : quietWord Reg.HIF_ERR_AUTH.addr = true := by decide
  rw [State.command_takes s i src opc d b _ ns _ h hm] at ht
  have hauth := State.complete_auth (s.begun src opc d b) (cmdRun s src opc d b) 0 d.session.toNat (by rintro n rfl; rw [State.begun_slice])
  cases src with
  | slice n =>
    have hstat := sliceWord_ne_err Reg.SLC_STATUS_INFLIGHT n rfl (by decide)
    have hside := act_side_unique ht (State.fixed_iff.2 ⟨by simp, by simp⟩)
    have hbegun := State.regGet_begun_ne s n opc d b hq (sliceWord_ne_err Reg.SLC_CMDHEAD_COUNT n rfl (by decide)) hstat
    rw [State.fget_of_side hside _ hq (.inl (by decide)), State.fget_congr _ (State.regGet_checkQuiesced_ne _ _ hstat) (.inl (by decide))]
    exact hauth.trans (by rw [State.fget_congr _ hbegun (.inl (by decide))])
  | mgmt =>
    have hside := act_side_unique ht (State.fixed_iff.2 ⟨by simp, by simp⟩)
    rw [State.fget_of_side hside _ hq (.inl (by decide))]
    exact hauth.trans rfl

/-- Settles O59: what each command's row fixes is the port that may give it, and that its body begins with the shared checks. -/
theorem badDescriptorsAreRejected : Obligations.BadDescriptorsAreRejected := by
  intro s d b hostOnly mgmtOnly slice0 both auth
  refine ⟨fun p hp ht => ?_, fun n p hp ht => ?_, fun n hn p hp ht => ?_, fun src p hp ht hbad => ?_⟩
  · simp only [hostOnly, List.mem_cons, List.not_mem_nil, or_false] at hp
    rcases hp with rfl | rfl | rfl | rfl | rfl | rfl | rfl | rfl | rfl | rfl | rfl | rfl | rfl <;> exact command_denied_ended _ _ d b _ _ ht rfl
  · simp only [mgmtOnly, List.mem_cons, List.not_mem_nil, or_false] at hp
    rcases hp with rfl | rfl | rfl | rfl | rfl <;> exact command_denied_ended _ _ d b _ _ ht rfl
  · have h0 : (n == 0) = false := by simpa using hn
    simp only [slice0, List.mem_cons, List.not_mem_nil, or_false] at hp
    rcases hp with rfl | rfl | rfl <;> exact command_denied_ended _ _ d b _ _ ht h0
  · have hhm : permits .hm src = true := by cases src <;> rfl
    simp only [both, List.mem_cons, List.not_mem_nil, or_false] at hp
    rcases hp with rfl | rfl | rfl | rfl | rfl
    · exact command_rejected _ _ d b _ ht hhm (State.sessQuery_bad _ hbad)
    · exact command_rejected _ _ d b _ ht hhm (State.modelQuery_bad _ hbad)
    · exact command_rejected _ _ d b _ ht hhm (State.checked_bad _ (cmdRun s src 0x60 d b) _ _ hbad)
    · exact command_rejected _ _ d b _ ht hhm (State.checked_bad _ (cmdRun s src 0x80 d b) _ _ hbad)
    · exact command_rejected _ _ d b _ ht hhm (State.slcQuery_bad _ hbad)

end Sys2Proof.Machine
end

section
/-! SUPPORT. Fields of the slices' registers (R217), and what an operation on one slice leaves alone: the core, the other slices, the slice's verdict queue and its unbind, and every field beside those that the operation writes. -/

namespace Sys2Proof.Machine

open Sys2Proof

/-! ### Fields of a slice -/

/-- A field of one 32-bit word of the slice page, one for each slice. -/
abbrev SliceField (f : RF) : Prop := f.stride = 0x100000 ∧ 0x5010 ≤ f.addr ∧ f.addr < 0x6000 ∧ f.lo + f.w ≤ 32 ∧ 0 < f.w

/-- Two fields share no bit of a word. -/
def beside (f g : RF) : Bool := f.addr != g.addr || decide (f.lo + f.w ≤ g.lo) || decide (g.lo + g.w ≤ f.lo)

theorem SliceField.narrow {f : RF} (h : SliceField f) : f.lo + f.w ≤ 32 := h.2.2.2.1

/-- No owed effect writes a slice's registers. -/
theorem SliceField.quiet {f : RF} (h : SliceField f) (n : Nat) : quietWord (f.at n).addr = true := by
  obtain ⟨hs, hlow, hhigh, -⟩ := h
  rw [RF.at, hs, quietWord_bank]
  have hw : wordOf f.addr = f.addr := Nat.mod_eq_of_lt (by omega)
  have hp : f.addr / 4096 = 5 := by omega
  simp only [quietWord, hw, hp, Reg.SNG_RSTCAUSE_STATE, List.mem_cons, List.not_mem_nil, or_false]
  simp
  omega

theorem SliceField.addr_ne {f : RF} (h : SliceField f) (n : Nat) {k : Nat} (hk : k < 0x5010) : (f.at n).addr ≠ k := by
  obtain ⟨-, hlow, -, -⟩ := h
  simp only [RF.at]
  omega

theorem SliceField.addr_eq {f g : RF} (hf : SliceField f) (hg : SliceField g) {n m : Nat} (h : (g.at m).addr = (f.at n).addr) :
    g.addr = f.addr ∧ m = n := by
  obtain ⟨hfs, hf1, hf2, -⟩ := hf
  obtain ⟨hgs, hg1, hg2, -⟩ := hg
  simp only [RF.at, hfs, hgs] at h
  omega

/-- Writing a field of a slice leaves the fields of other slices alone, and those beside it. -/
theorem State.fget_fset_slice (s : State) {f g : RF} {n m : Nat} (v : Nat) (hf : SliceField f) (hg : SliceField g)
    (h : m ≠ n ∨ beside f g = true) : (s.fset (f.at n) v).fget (g.at m) = s.fget (g.at m) := by
  by_cases ha : (g.at m).addr = (f.at n).addr
  · obtain ⟨hfg, rfl⟩ := hf.addr_eq hg ha
    have hdis : f.lo + f.w ≤ g.lo ∨ g.lo + g.w ≤ f.lo := by
      have hb := h.resolve_left fun hne => hne rfl
      simpa [beside, hfg] using hb
    exact State.fget_fset_beside s (f.at m) (g.at m) v ha hf.narrow hg.narrow hdis
  · exact State.fget_fset_apart (f := f.at n) (g := g.at m) s v hf.narrow hg.narrow ha

theorem State.flag_eq {s : State} {f : RF} {v : Nat} (h : s.fget f = v) : s.flag f = (v != 0) := by rw [State.flag, h]

theorem State.slice_setSlice_ne (s : State) {n m : Nat} (x : Slice) (h : m ≠ n) : (s.setSlice n x).slice m = s.slice m := by
  simp only [State.slice, State.setSlice, Tab.getD]
  rw [Tab.get_set_ne _ _ h]

theorem State.fget_setSlice (s : State) (n : Nat) (x : Slice) (f : RF) : (s.setSlice n x).fget f = s.fget f := (rfl)

/-! ### Operations on one slice -/

/-- From `s` to `t` nothing changed but what slice `n` holds, its fields named in `l`, and what an owed effect or the handling of a descriptor touches; the slice's verdict queue and its unbind stayed. -/
structure Handles (n : Nat) (l : List RF) (s t : State) : Prop where
  core : t.core = s.core
  other : ∀ m, m ≠ n → t.slice m = s.slice m
  vq : (t.slice n).vq = (s.slice n).vq
  unbind : (t.slice n).unbind = (s.slice n).unbind
  field : ∀ g m, SliceField g → (m ≠ n ∨ ∀ f ∈ l, beside f g = true) → t.fget (g.at m) = s.fget (g.at m)

theorem Handles.refl (n : Nat) (l : List RF) (s : State) : Handles n l s s := ⟨rfl, fun _ _ => rfl, rfl, rfl, fun _ _ _ _ => rfl⟩

theorem Handles.trans {n : Nat} {l : List RF} {s t u : State} (h : Handles n l s t) (h' : Handles n l t u) : Handles n l s u :=
  ⟨h'.core.trans h.core, fun m hm => (h'.other m hm).trans (h.other m hm), h'.vq.trans h.vq, h'.unbind.trans h.unbind,
    fun g m hg hm => (h'.field g m hg hm).trans (h.field g m hg hm)⟩

theorem Handles.mono {n : Nat} {l l' : List RF} {s t : State} (h : Handles n l s t) (hl : l ⊆ l') : Handles n l' s t :=
  ⟨h.core, h.other, h.vq, h.unbind, fun g m hg hm => h.field g m hg (hm.imp_right fun hb f hf => hb f (hl hf))⟩

theorem Handles.foldl {β : Type} {n : Nat} {l : List RF} {s t : State} (h : Handles n l s t) (xs : List β) (f : State → β → State)
    (hf : ∀ u, ∀ x ∈ xs, Handles n l u (f u x)) : Handles n l s (xs.foldl f t) := by
  induction xs generalizing t with
  | nil => exact h
  | cons x xs ih => exact ih (h.trans (hf t x (List.mem_cons_self ..))) fun u y hy => hf u y (List.mem_cons_of_mem _ hy)

/-- What no owed effect touches stays: the outcome of a meaning that handles a slice. -/
theorem Handles.of_side {n : Nat} (l : List RF) {s t : State} (hs : t.side = s.side) : Handles n l s t :=
  ⟨State.core_of_side hs, fun m _ => State.slice_congr (State.hif_of_side hs) m, by rw [State.slice_congr (State.hif_of_side hs)],
    by rw [State.slice_congr (State.hif_of_side hs)], fun _ m hg _ => State.fget_of_side hs _ (hg.quiet m) (.inl hg.narrow)⟩

theorem Handles.fixed {n : Nat} {l : List RF} {s t : State} (h : Handles n l s t) : t.fixed = s.fixed := State.fixed_iff.2 (State.core_buildPending h.core)

theorem Handles.enabled {n : Nat} {l : List RF} {s t : State} (h : Handles n l s t) (m : Nat) (hm : m ≠ n ∨ ∀ f ∈ l, beside f Reg.SLC_CTRL_ENABLE = true) :
    t.enabled m = s.enabled m := by
  rw [State.enabled, State.enabled, State.flag, h.field _ _ (by decide) hm, State.flag]

section Handles
variable {n : Nat} {l : List RF} {s t : State} (h : Handles n l s t)
include h

theorem Handles.side {u : State} (hs : u.side = t.side) : Handles n l s u := h.trans (.of_side l hs)

theorem Handles.fset {f : RF} (hf : f ∈ l ∧ SliceField f) (v : Nat) : Handles n l s (t.fset (f.at n) v) :=
  h.trans ⟨by simp, by simp, by simp, by simp, fun _ _ hg hm => State.fget_fset_slice t v hf.2 hg (hm.imp_right fun hb => hb f hf.1)⟩

/-- The registers below the slices' own are no field of a slice. -/
theorem Handles.bump {f : RF} (hf : f.lo + f.w ≤ 32 ∧ f.addr < 0x5010) : Handles n l s (t.bump f) :=
  h.trans ⟨by simp, by simp, by simp, by simp, fun _ m hg _ => State.fget_fset_apart t _ hf.1 hg.narrow (hg.addr_ne m hf.2)⟩

theorem Handles.led (k i : Nat) (c : LedCol) (m : Nat) : Handles n l s (t.led k i c m) := h.side (by simp)
theorem Handles.ledDrop (k i r m : Nat) : Handles n l s (t.ledDrop k i r m) := h.side (by simp)
theorem Handles.hostProto (sub info : Nat) : Handles n l s (t.hostProto sub info) := h.side (by simp [State.hostProto])

theorem Handles.setSlice {x : Slice} (hvq : x.vq = (t.slice n).vq) (hunbind : x.unbind = (t.slice n).unbind) : Handles n l s (t.setSlice n x) :=
  h.trans ⟨by simp, fun _ hm => State.slice_setSlice_ne t x hm, by simp [hvq], by simp [hunbind], fun _ _ _ _ => rfl⟩

theorem Handles.checkQuiesced (hl : Reg.SLC_STATUS_QUIESCED ∈ l) : Handles n l s (t.checkQuiesced n) := by
  simp only [State.checkQuiesced]
  split
  · refine Handles.fset (h.setSlice ?_ ?_) ⟨hl, by decide⟩ _ <;> rfl
  · exact h

theorem Handles.complete (hl : Reg.SLC_STATUS_QUIESCED ∈ l ∧ Reg.SLC_STATUS_INFLIGHT ∈ l) {r : Running} (hs : r.src = .slice n) (st v se : Nat) :
    Handles n l s (t.complete r st v se) := by
  simp only [State.complete, hs]
  split
  · exact h
  refine Handles.checkQuiesced ?_ hl.1
  have hcount {u : State} (hu : Handles n l s u) (v : Nat) : Handles n l s ((u.led 0x0D n .inn 1).fset (Reg.SLC_STATUS_INFLIGHT.at n) v) :=
    (hu.led _ _ _ _).fset ⟨hl.2, by decide⟩ v
  split
  · refine (hcount ?_ _).bump (by decide)
    split
    · refine Handles.ledDrop (h.setSlice ?_ ?_) _ _ _ _ <;> rfl
    · refine Handles.led (h.setSlice ?_ ?_) _ _ _ _ <;> rfl
  · refine hcount ?_ _
    split
    · refine Handles.ledDrop (h.setSlice ?_ ?_) _ _ _ _ <;> rfl
    · refine Handles.led (h.setSlice ?_ ?_) _ _ _ _ <;> rfl

theorem Handles.ringErr (hl : Reg.SLC_STATUS_RING_ERR ∈ l ∧ Reg.SLC_STATUS_CAUSE ∈ l) (c : Nat) : Handles n l s (t.ringErr n c) :=
  (h.fset ⟨hl.1, by decide⟩ _).fset ⟨hl.2, by decide⟩ _

end Handles

/-- A meaning that handles a slice ends in a state that it handled so. -/
theorem Handles.act {n : Nat} {l : List RF} {s y : State} (h : Handles n l s y) :
    ∃ t, act s y = .next t ∧ t.side = y.side ∧ ∀ e ∈ y.out, e ∈ t.out := by
  obtain ⟨hb, hp⟩ := State.fixed_iff.1 h.fixed
  exact act_out s y hb hp

/-! ### A slice is disabled (R181) -/

theorem State.complete_fetched (s : State) (r : Running) (n st v se : Nat) (hs : r.src = .slice n) :
    ((s.complete r st v se).slice n).fetched = (s.slice n).fetched := by
  have hq (u : State) : ((u.checkQuiesced n).slice n).fetched = (u.slice n).fetched := by
    simp only [State.checkQuiesced]; split <;> simp
  simp only [State.complete, hs]
  split
  · rfl
  rw [hq]
  repeat' split
  all_goals simp

/-- The fields that disabling a slice writes. -/
def disableFields : List RF := [Reg.SLC_CTRL_ENABLE, Reg.SLC_STATUS_ENABLED, Reg.SLC_STATUS_QUIESCED, Reg.SLC_STATUS_INFLIGHT]

/-- The commands that a disabled slice fetched but did not start, as they complete. -/
def Slice.unstarted (x : Slice) (n : Nat) : List Running := x.fetched.map fun f => { src := .slice n, opcode := f.opcode, dseq := f.dseq, d := f.d, b := f.b }

/-- A slice that is disabled, before its unstarted commands complete. -/
def State.disabling (s : State) (n : Nat) : State :=
  ((s.fset (Reg.SLC_CTRL_ENABLE.at n) 0).fset (Reg.SLC_STATUS_ENABLED.at n) 0).setSlice n
    { s.slice n with fetched := [], running := (s.slice n).running ++ (s.slice n).unstarted n, quiescing := true }

theorem State.disableSlice_eq (s : State) (n : Nat) :
    s.disableSlice n = (((s.slice n).unstarted n).foldl (fun u r => u.fail r stABORTED) (s.disabling n)).checkQuiesced n := by
  simp only [State.disableSlice, State.disabling, Slice.unstarted, State.slice_fset]

theorem Handles.disabling (s : State) (n : Nat) : Handles n disableFields s (s.disabling n) :=
  (((Handles.refl n _ s).fset (by decide) _).fset (by decide) _).setSlice (by simp) (by simp)

/-- Completing a slice's commands writes no field but the count of those in flight and QUIESCED. -/
theorem Handles.aborted (s : State) (n : Nat) : Handles n [Reg.SLC_STATUS_QUIESCED, Reg.SLC_STATUS_INFLIGHT] (s.disabling n) (s.disableSlice n) := by
  rw [State.disableSlice_eq]
  refine Handles.checkQuiesced ((Handles.refl n _ _).foldl _ _ fun u r hr => ?_) (by decide)
  obtain ⟨f, -, rfl⟩ := List.mem_map.1 hr
  exact (Handles.refl n _ u).complete (by decide) rfl _ _ _

theorem Handles.disabled (s : State) (n : Nat) : Handles n disableFields s (s.disableSlice n) :=
  (Handles.disabling s n).trans ((Handles.aborted s n).mono (by decide))

theorem Handles.disableSlice {n : Nat} {l : List RF} {s t : State} (h : Handles n l s t) (hl : disableFields ⊆ l) : Handles n l s (t.disableSlice n) :=
  h.trans ((Handles.disabled t n).mono hl)

theorem State.enabled_disableSlice (s : State) (n : Nat) : (s.disableSlice n).enabled n = false := by
  have hzero : ((s.fset (Reg.SLC_CTRL_ENABLE.at n) 0).fset (Reg.SLC_STATUS_ENABLED.at n) 0).fget (Reg.SLC_CTRL_ENABLE.at n) = 0 := by
    rw [State.fget_fset_slice _ _ (by decide) (by decide) (.inr (by decide)), State.fget_fset_at _ _ _ _ (by decide), Nat.zero_mod]
  rw [(Handles.aborted s n).enabled n (.inr (by decide)), State.disabling, State.enabled_setSlice, State.enabled, State.flag_eq hzero]
  rfl

theorem State.flag_ENABLED_disableSlice (s : State) (n : Nat) : (s.disableSlice n).flag (Reg.SLC_STATUS_ENABLED.at n) = false := by
  have hzero : (s.disableSlice n).fget (Reg.SLC_STATUS_ENABLED.at n) = 0 := by
    rw [(Handles.aborted s n).field _ _ (by decide) (.inr (by decide)), State.disabling, State.fget_setSlice, State.fget_fset_at _ _ _ _ (by decide), Nat.zero_mod]
  rw [State.flag_eq hzero]
  rfl

theorem State.fetched_disableSlice (s : State) (n : Nat) : ((s.disableSlice n).slice n).fetched = [] := by
  have hq (u : State) : ((u.checkQuiesced n).slice n).fetched = (u.slice n).fetched := by
    simp only [State.checkQuiesced]; split <;> simp
  rw [State.disableSlice_eq, hq]
  refine (List.foldlRecOn (motive := fun u : State => (u.slice n).fetched = []) _ _ ?_ fun u hu r hr => ?_)
  · simp [State.disabling]
  · obtain ⟨f, -, rfl⟩ := List.mem_map.1 hr
    exact (State.complete_fetched u _ n _ _ _ rfl).trans hu

/-- A slice without an unbind that waits is left alone by the look at it. -/
theorem State.unbindCheck_none (s : State) (n : Nat) (h : (s.slice n).unbind = none) : s.unbindCheck n = s := by
  simp only [State.unbindCheck, h]

end Sys2Proof.Machine
end

section
/-! SUPPORT. Enabling and disabling a slice (R180, R181, R184, R185). -/

namespace Sys2Proof.Machine

open Sys2Proof

/-! ### Writes of SLC_CTRL -/

/-- The whole word of SLC_CTRL, as one field. -/
def ctrlField : RF := ⟨0x5010, 0, 32, 0x100000⟩

theorem Handles.regSet_CTRL {n : Nat} {l : List RF} {s t : State} (h : Handles n l s t) (hl : ctrlField ∈ l) (v : W32) :
    Handles n l s (t.regSet (Reg.SLC_CTRL_ENABLE.at n).addr v) := by
  refine h.trans ⟨by simp, by simp, by simp, by simp, fun g m hg hm => State.fget_regSet_other _ _ _ _ ?_ hg.narrow⟩
  intro ha
  obtain ⟨hadr, rfl⟩ := SliceField.addr_eq (f := ctrlField) (by decide) hg ha
  have hb := (hm.resolve_left fun hne => hne rfl) ctrlField hl
  obtain ⟨-, -, -, hnarrow, hwide⟩ := hg
  have hlo : ctrlField.lo = 0 := rfl
  have hw : ctrlField.w = 32 := rfl
  simp [beside, hadr, hlo, hw] at hb
  omega

/-- A write whose ENABLE bit takes effect: plain, or through the page that can make the bit what the row names. -/
theorem bit_enableWord (al : BitVec 2) (on : Bool) (old v : W32) (h : al = 0 ∨ al = (if on then 1 else 2)) :
    bit (writtenWord .mw 0x7FF al old (enableWord al on v)) 0 = on := by
  have hwritable : bit (BitVec.ofNat 32 0x7FF) 0 = true := by decide
  rw [writtenWord, bit_mergeBits _ _ _ (by decide), hwritable, if_pos rfl, bit_maskedWord _ _ _ (by decide)]
  rcases h with rfl | rfl
  · cases on <;> simp [enableWord, bit]
  · cases on <;> simp [enableWord, bit, aliasBit]

/-- The state that a write of SLC_CTRL goes on from: the bits beside ENABLE taken, and the verdict tail as R188 has it for VDEST. -/
def State.ctrlTaken (s : State) (n mask : Nat) (new : W32) : State :=
  let key := (Reg.SLC_CTRL_ENABLE.at n).addr
  let s1 := s.regSet key (mergeBits mask (s.regGet key) new)
  if s.flag (Reg.SLC_CTRL_VDEST.at n) = s1.flag (Reg.SLC_CTRL_VDEST.at n) then s1
  else s1.fset (Reg.SLC_VRDTAIL_COUNT.at n) (s1.fget (Reg.SLC_VRDHEAD_COUNT.at n) + (if s1.flag (Reg.SLC_CTRL_VDEST.at n) then (s1.slice n).vq.length else 0))

theorem State.regGet_ctrlTaken (s : State) (n mask : Nat) (new : W32) {k : Nat} (hc : k ≠ (Reg.SLC_CTRL_ENABLE.at n).addr)
    (hv : k ≠ (Reg.SLC_VRDTAIL_COUNT.at n).addr) : (s.ctrlTaken n mask new).regGet k = s.regGet k := by
  simp only [State.ctrlTaken]
  split
  · exact State.regGet_regSet_ne _ _ hc
  · rw [State.regGet_fset_at _ _ _ (by decide) hv, State.regGet_regSet_ne _ _ hc]

theorem State.slice_ctrlTaken (s : State) (n mask : Nat) (new : W32) (m : Nat) : (s.ctrlTaken n mask new).slice m = s.slice m := by
  simp only [State.ctrlTaken]
  split <;> simp

theorem Handles.ctrlTaken {n : Nat} {l : List RF} (s : State) (hl : ctrlField ∈ l ∧ Reg.SLC_VRDTAIL_COUNT ∈ l) (mask : Nat) (new : W32) :
    Handles n l s (s.ctrlTaken n mask new) := by
  simp only [State.ctrlTaken]
  have hc := (Handles.refl n l s).regSet_CTRL hl.1
  split
  · exact hc _
  · exact (hc _).fset ⟨hl.2, by decide⟩ _

/-- Why a slice may not be enabled depends on its process, its ring sizes and its bases alone. -/
theorem State.enableCause_congr {s t : State} {n : Nat}
    (h : ∀ k, k ≠ (Reg.SLC_CTRL_ENABLE.at n).addr → k ≠ (Reg.SLC_VRDTAIL_COUNT.at n).addr → t.regGet k = s.regGet k) : t.enableCause n = s.enableCause n := by
  have hf (f : RF) (hs : f.stride = 0x100000 ∧ 0x5014 ≤ f.addr ∧ f.addr + 4 < 0x5058) : t.fget (f.at n) = s.fget (f.at n) := by
    have hadr (j : Nat) (hj : j ≤ 4) : t.regGet ((f.at n).addr + j) = s.regGet ((f.at n).addr + j) := by
      refine h _ ?_ ?_ <;> simp only [RF.at, hs.1, Reg.SLC_CTRL_ENABLE, Reg.SLC_VRDTAIL_COUNT] <;> omega
    exact State.fget_congr _ (hadr 0 (by decide)) (.inr (hadr 4 (by decide)))
  simp only [State.enableCause, State.bound, State.flag, hf Reg.SLC_PASID_BOUND (by decide), hf Reg.SLC_RINGSZ_CMD (by decide), hf Reg.SLC_RINGSZ_CPL (by decide),
    hf Reg.SLC_RINGSZ_VRD (by decide), hf Reg.SLC_CMDBASE_BASE (by decide), hf Reg.SLC_CPLBASE_BASE (by decide), hf Reg.SLC_VRDBASE_BASE (by decide),
    hf Reg.SLC_VRDMIR_ADDR (by decide)]

/-- A slice that is enabled (R180). -/
def State.enabling (s : State) (n : Nat) : State :=
  let s3 := ((s.fset (Reg.SLC_CTRL_ENABLE.at n) 1).fset (Reg.SLC_STATUS_ENABLED.at n) 1).fset (Reg.SLC_STATUS_QUIESCED.at n) 0
  s3.setSlice n { s3.slice n with quiescing := false }

/-- What a write that enables a slice does. -/
theorem State.slcCtrlWrite_enables {s : State} {a : Acc} {n : Nat} (v : W32) (hn : n = s.selGet a.port Reg.SLC_SEL_SLICE) (hlt : n < nSlices s.build)
    (hoff : s.enabled n = false) (hcause : s.enableCause n = none) (hal : a.bitAlias = 0 ∨ a.bitAlias = 1) :
    ∃ new, s.slcCtrlWrite a (enableWord a.bitAlias true v) = (s.ctrlTaken n 0x7FE new).enabling n := by
  set new := s.mwWrite (Reg.SLC_CTRL_ENABLE.at n).addr 0x7FF a (enableWord a.bitAlias true v) with hnew
  have hon : bit new 0 = true := bit_enableWord a.bitAlias true _ v hal
  have hcause' : (s.ctrlTaken n 0x7FE new).enableCause n = none :=
    (State.enableCause_congr fun k hc hv => s.regGet_ctrlTaken n 0x7FE new hc hv).trans hcause
  refine ⟨new, ?_⟩
  unfold State.slcCtrlWrite
  rw [← hn, if_neg (by omega)]
  simp only [State.ctrlTaken] at hcause'
  simp only [hoff, ← hnew, hon, Bool.false_eq_true, if_false, Bool.not_true, hcause', State.ctrlTaken, State.enabling]

/-- What a write that disables a slice does. -/
theorem State.slcCtrlWrite_disables {s : State} {a : Acc} {n : Nat} (v : W32) (hn : n = s.selGet a.port Reg.SLC_SEL_SLICE) (hlt : n < nSlices s.build)
    (hon : s.enabled n = true) (hunbind : (s.slice n).unbind = none) (hal : a.bitAlias = 0 ∨ a.bitAlias = 2) :
    ∃ new, s.slcCtrlWrite a (enableWord a.bitAlias false v) = (s.ctrlTaken n 0x7FC new).disableSlice n := by
  set new := s.mwWrite (Reg.SLC_CTRL_ENABLE.at n).addr 0x7FF a (enableWord a.bitAlias false v) with hnew
  have hbit : bit new 0 = false := bit_enableWord a.bitAlias false _ v hal
  refine ⟨new, ?_⟩
  have hstays : ((s.ctrlTaken n 0x7FC new).disableSlice n).unbindCheck n = (s.ctrlTaken n 0x7FC new).disableSlice n := by
    refine State.unbindCheck_none _ _ ((Handles.disabled _ n).unbind.trans ?_)
    rw [State.slice_ctrlTaken, hunbind]
  rw [← hstays]
  unfold State.slcCtrlWrite
  rw [← hn, if_neg (by omega)]
  simp only [hon, ← hnew, hbit, Bool.false_eq_true, if_false, if_true, State.ctrlTaken]

/-! ### What the two writes leave -/

/-- The fields that a write of SLC_CTRL writes. -/
def ctrlFields : List RF := [ctrlField, Reg.SLC_VRDTAIL_COUNT, Reg.SLC_STATUS_ENABLED, Reg.SLC_STATUS_QUIESCED, Reg.SLC_STATUS_INFLIGHT]

theorem Handles.enabling (s : State) (n mask : Nat) (new : W32) : Handles n (Reg.SLC_CTRL_ENABLE :: ctrlFields) s ((s.ctrlTaken n mask new).enabling n) := by
  have hl : ctrlField ∈ Reg.SLC_CTRL_ENABLE :: ctrlFields ∧ Reg.SLC_VRDTAIL_COUNT ∈ Reg.SLC_CTRL_ENABLE :: ctrlFields := by decide
  refine Handles.setSlice ((((Handles.ctrlTaken s hl mask new).fset ?_ 1).fset ?_ 1).fset ?_ 0) rfl rfl <;> decide

theorem Handles.disabling_ctrl (s : State) (n mask : Nat) (new : W32) : Handles n (Reg.SLC_CTRL_ENABLE :: ctrlFields) s ((s.ctrlTaken n mask new).disableSlice n) :=
  (Handles.ctrlTaken s (by decide) mask new).disableSlice (by decide)

theorem State.fget_enabling (s : State) (n : Nat) :
    (s.enabling n).fget (Reg.SLC_CTRL_ENABLE.at n) = 1 ∧ (s.enabling n).fget (Reg.SLC_STATUS_ENABLED.at n) = 1 ∧ (s.enabling n).fget (Reg.SLC_STATUS_QUIESCED.at n) = 0 := by
  simp only [State.enabling, State.fget_setSlice]
  refine ⟨?_, ?_, ?_⟩
  · rw [State.fget_fset_slice _ _ (by decide) (by decide) (.inr (by decide)), State.fget_fset_slice _ _ (by decide) (by decide) (.inr (by decide)),
      State.fget_fset_at _ _ _ _ (by decide)]
    rfl
  · rw [State.fget_fset_slice _ _ (by decide) (by decide) (.inr (by decide)), State.fget_fset_at _ _ _ _ (by decide)]
    rfl
  · rw [State.fget_fset_at _ _ _ _ (by decide)]
    rfl

/-- A slice with nothing in flight is quiesced as soon as it is disabled. -/
theorem State.disableSlice_idle (s : State) (n : Nat) (hrun : (s.slice n).running = []) (hfetch : (s.slice n).fetched = []) (hcpl : (s.slice n).cplWait = []) :
    (s.disableSlice n).flag (Reg.SLC_STATUS_QUIESCED.at n) = true := by
  have hun : (s.slice n).unstarted n = [] := by rw [Slice.unstarted, hfetch]; rfl
  have hoff := s.enabled_disableSlice n
  rw [State.disableSlice_eq, hun, List.foldl_nil] at hoff ⊢
  have hslice : (s.disabling n).slice n = { s.slice n with fetched := [], running := [], quiescing := true } := by
    simp [State.disabling, hun, hrun]
  have hdis : (s.disabling n).enabled n = false := by
    rw [← hoff]
    exact ((Handles.refl n [Reg.SLC_STATUS_QUIESCED] _).checkQuiesced (by decide)).enabled n (.inr (by decide)) |>.symm
  have hone : ((s.disabling n).checkQuiesced n).fget (Reg.SLC_STATUS_QUIESCED.at n) = 1 := by
    rw [State.checkQuiesced, if_pos (by simp [hslice, hdis, hcpl]), State.fget_fset_at _ _ _ _ (by decide)]
    rfl
  rw [State.flag_eq hone]
  rfl

/-- The one descriptor that a disabled slice fetched but did not start completes with ABORTED. -/
theorem State.disableSlice_aborts (s : State) (n : Nat) (f : Fetched) (hrun : (s.slice n).running = []) (hfetch : (s.slice n).fetched = [f]) :
    ((s.disableSlice n).slice n).running = [] ∧ ((s.disableSlice n).slice n).cplWait = (s.slice n).cplWait ++
      [{ opcode := f.opcode, status := stABORTED, session := f.d.session.toNat, value := 0, dseq := f.dseq, ct := s.ct, irq := f.d.irq }] := by
  set r : Running := { src := .slice n, opcode := f.opcode, dseq := f.dseq, d := f.d, b := f.b } with hr
  have hun : (s.slice n).unstarted n = [r] := by rw [Slice.unstarted, hfetch]; rfl
  have hslice : (s.disabling n).slice n = { s.slice n with fetched := [], running := [r], quiescing := true } := by
    simp [State.disabling, hun, hrun]
  have hct : (s.disabling n).ct = s.ct := by simp [State.disabling, State.ct, State.ft]
  obtain ⟨hcpl, hdone⟩ := State.complete_slice (s.disabling n) r n stABORTED 0 f.d.session.toNat rfl (by rw [hslice])
  rw [hslice, hct] at hcpl
  rw [State.disableSlice_eq, hun, List.foldl_cons, List.foldl_nil, State.checkQuiesced_running, State.checkQuiesced_cplWait]
  exact ⟨hdone, hcpl⟩

/-! ### SLC_ENABLE and SLC_DISABLE -/

/-- What a write of SLC_CTRL leaves is what its outcome shows. -/
theorem slcCtrl_next {s : State} {a : Acc} (i : Instr) {body : State → State} {n : Nat} {l : List RF} (h : Reaches s a) (hb : Handles n l s (body s)) :
    ∃ t, act s (s.regAccess i a 5 body) = .next t ∧ t.core = s.core ∧ (∀ m, m ≠ n → t.slice m = s.slice m) ∧ t.slice n = (body s).slice n ∧
      (∀ f, SliceField f → t.fget (f.at n) = (body s).fget (f.at n)) := by
  obtain ⟨hbuild, hpend⟩ := State.fixed_iff.1 hb.fixed
  obtain ⟨t, ht, hside⟩ := regAccess_side h i 5 body hbuild hpend
  have hall := hb.side hside
  exact ⟨t, ht, hall.core, hall.other, State.slice_congr (State.hif_of_side hside) n, fun f hf => State.fget_of_side hside _ (hf.quiet n) (.inl hf.narrow)⟩

/-- Settles O20: each write by the state that it leads to. -/
theorem slicesAreEnabledAndDisabled : Obligations.SlicesAreEnabledAndDisabled := by
  intro s a v ha n x hlt
  refine ⟨fun hoff hcause hal => ?_, fun hon hrun hcpl hunbind hal => ?_⟩
  · obtain ⟨new, hbody⟩ := State.slcCtrlWrite_enables v rfl hlt hoff hcause hal
    obtain ⟨t, ht, hcore, hother, -, hfield⟩ := slcCtrl_next (.slcEnable a v) (body := fun s => s.slcCtrlWrite a (enableWord a.bitAlias true v)) (n := n) ha
      (hbody ▸ Handles.enabling s n 0x7FE new)
    simp only [hbody] at hfield
    obtain ⟨hen, hst, hq⟩ := (s.ctrlTaken n 0x7FE new).fget_enabling n
    rw [← hfield _ (by decide)] at hen hst hq
    exact ⟨t, ht, State.flag_eq hen, State.flag_eq hst, State.flag_eq hq, hcore, hother⟩
  · obtain ⟨new, hbody⟩ := State.slcCtrlWrite_disables v rfl hlt hon hunbind hal
    set w := s.ctrlTaken n 0x7FC new with hw
    have hwn : w.slice n = x := s.slice_ctrlTaken ..
    obtain ⟨t, ht, hcore, hother, hslice, hfield⟩ := slcCtrl_next (.slcDisable a v) (body := fun s => s.slcCtrlWrite a (enableWord a.bitAlias false v)) (n := n) ha
      (hbody ▸ Handles.disabling_ctrl s n 0x7FC new)
    simp only [hbody] at hslice hfield
    have hflag (f : RF) (hf : SliceField f) : t.flag (f.at n) = (w.disableSlice n).flag (f.at n) := by rw [State.flag, hfield f hf, State.flag]
    have hoff : t.enabled n = false := (hflag _ (by decide)).trans (w.enabled_disableSlice n)
    refine ⟨fun hfetch => ⟨t, ht, hoff, (hflag _ (by decide)).trans (w.flag_ENABLED_disableSlice n),
      (hflag _ (by decide)).trans (w.disableSlice_idle n (by rw [hwn, hrun]) (by rw [hwn, hfetch]) (by rw [hwn, hcpl])), hcore, hother⟩, fun f hfetch => ?_⟩
    obtain ⟨hdone, hc⟩ := w.disableSlice_aborts n f (by rw [hwn, hrun]) (by rw [hwn, hfetch])
    have hct : w.ct = s.ct := by
      simp only [hw, State.ctrlTaken]
      split <;> simp [State.ct, State.ft]
    rw [hwn, hcpl, hct] at hc
    exact ⟨t, ht, hoff, by rw [hslice, State.fetched_disableSlice], by rw [hslice, hdone], by rw [hslice, hc]; rfl⟩

end Sys2Proof.Machine
end

section
/-! SUPPORT. Doorbells and the verdict window (R179, R186 to R189, R209 to R211). -/

namespace Sys2Proof.Machine

open Sys2Proof

/-! ### Doorbells -/

/-- A doorbell that reaches its slice does what it stands for. -/
theorem State.doorbell_rings {s : State} {pasid : Option (BitVec 20)} {n : Nat} (h : Rings s pasid n) (body : State → State) : s.doorbell pasid n body = body s := by
  obtain ⟨hlt, hbound, hen, hport⟩ := h
  have hpasid : (!s.build.isHub && pasid.map BitVec.toNat != (if n = 0 then none else some (s.fget (Reg.SLC_PASID_PASID.at n)))) = false := by
    rcases hport with hhub | hp
    · rw [hhub]; rfl
    · rw [hp]; simp
  unfold State.doorbell
  rw [if_neg (by omega)]
  simp only [hbound, hpasid, hen, Bool.not_true, Bool.false_eq_true, if_false]

/-- A count that a legal doorbell moves is all that changes. -/
theorem act_fset {s : State} (h : s.work = []) (f : RF) (v : Nat) : act s (s.fset f v) = .next (s.fset f v) :=
  act_of_calm s _ (by simp [h]) (by simp) (by simp)

theorem dbCmdtail_taken {s : State} {pasid : Option (BitVec 20)} {n : Nat} (v : W32) (h : Rings s pasid n) (hw : s.work = [])
    (hlow : s.cmdOcc n ≤ mod32 v.toNat (s.fget (Reg.SLC_CMDHEAD_COUNT.at n))) (hhigh : mod32 v.toNat (s.fget (Reg.SLC_CMDHEAD_COUNT.at n)) ≤ s.cmdSize n) :
    exec (.dbCmdtail pasid n v) s = .next (s.fset (Reg.SLC_CMDTAIL_COUNT.at n) v.toNat) := by
  have hbody : s.doorbell pasid n (fun s => s.ringCmdtail n v) = s.fset (Reg.SLC_CMDTAIL_COUNT.at n) v.toNat := by
    rw [State.doorbell_rings h, State.ringCmdtail, if_pos ⟨hlow, hhigh⟩]
  exact (congrArg (act s) hbody).trans (act_fset hw _ _)

/-- An invalid doorbell writes RING_ERR and its cause, and nothing else of the slice. -/
theorem Handles.badDoorbell (s : State) (n : Nat) : Handles n [Reg.SLC_STATUS_RING_ERR, Reg.SLC_STATUS_CAUSE] s (s.badDoorbell n) :=
  (((Handles.refl n _ s).ringErr (by decide) 3).bump (by decide)).hostProto ..

/-- The cause of a ring error stands with RING_ERR (R217). -/
theorem State.fget_ringErr (s : State) (n c : Nat) :
    (s.ringErr n c).fget (Reg.SLC_STATUS_RING_ERR.at n) = 1 ∧ (s.ringErr n c).fget (Reg.SLC_STATUS_CAUSE.at n) = c % 16 := by
  unfold State.ringErr
  refine ⟨?_, State.fget_fset_at _ _ _ _ (by decide)⟩
  rw [State.fget_fset_slice _ _ (by decide) (by decide) (.inr (by decide)), State.fget_fset_at _ _ _ _ (by decide)]
  rfl

theorem State.fget_badDoorbell (s : State) (n : Nat) (f : RF) (hf : SliceField f) : (s.badDoorbell n).fget (f.at n) = (s.ringErr n 3).fget (f.at n) :=
  (((Handles.refl n [] (s.ringErr n 3)).bump (f := Reg.HIF_ERR_DBELL) (by decide)).hostProto 4 n).field f n hf (.inr (by simp))

theorem dbCmdtail_refused {s : State} {pasid : Option (BitVec 20)} {n : Nat} (v : W32) (h : Rings s pasid n)
    (hv : mod32 v.toNat (s.fget (Reg.SLC_CMDHEAD_COUNT.at n)) < s.cmdOcc n ∨ s.cmdSize n < mod32 v.toNat (s.fget (Reg.SLC_CMDHEAD_COUNT.at n))) :
    ∃ t, exec (.dbCmdtail pasid n v) s = .next t ∧ t.fget (Reg.SLC_CMDTAIL_COUNT.at n) = s.fget (Reg.SLC_CMDTAIL_COUNT.at n) ∧
      t.flag (Reg.SLC_STATUS_RING_ERR.at n) = true ∧ t.fget (Reg.SLC_STATUS_CAUSE.at n) = 3 := by
  have hbody : s.doorbell pasid n (fun s => s.ringCmdtail n v) = s.badDoorbell n := by
    rw [State.doorbell_rings h, State.ringCmdtail, if_neg (by omega)]
  obtain ⟨t, ht, hside, -⟩ := (Handles.badDoorbell s n).act
  have hall := (Handles.badDoorbell s n).side hside
  have hfield (f : RF) (hf : SliceField f) : t.fget (f.at n) = (s.ringErr n 3).fget (f.at n) :=
    (State.fget_of_side hside _ (hf.quiet n) (.inl hf.narrow)).trans (s.fget_badDoorbell n f hf)
  obtain ⟨herr, hcause⟩ := s.fget_ringErr n 3
  exact ⟨t, (congrArg (act s) hbody).trans ht, hall.field _ _ (by decide) (.inr (by decide)), State.flag_eq ((hfield _ (by decide)).trans herr),
    (hfield _ (by decide)).trans hcause⟩

theorem dbCplhead_taken {s : State} {pasid : Option (BitVec 20)} {n : Nat} (v : W32) (h : Rings s pasid n) (hw : s.work = [])
    (hv : mod32 v.toNat (s.fget (Reg.SLC_CPLHEAD_COUNT.at n)) ≤ s.cplOcc n) :
    exec (.dbCplhead pasid n v) s = .next (s.fset (Reg.SLC_CPLHEAD_COUNT.at n) v.toNat) := by
  have hbody : s.doorbell pasid n (fun s => s.ringCplhead n v) = s.fset (Reg.SLC_CPLHEAD_COUNT.at n) v.toNat := by
    rw [State.doorbell_rings h, State.ringCplhead, if_pos hv]
  exact (congrArg (act s) hbody).trans (act_fset hw _ _)

/-- Consuming the records that a verdict head passes owes nothing while the ledger points have room. -/
theorem State.consumeVerdicts_calm {s : State} (h : Calm s) (n : Nat) {k : Nat} (hk : k < 2 ^ 32) :
    (s.consumeVerdicts n k).work = [] ∧ (s.consumeVerdicts n k).fixed = s.fixed := by
  simp only [State.consumeVerdicts]
  split
  · exact ⟨h.1, rfl⟩
  · have hr : (s.setSlice n { s.slice n with vq := (s.slice n).vq.drop k, shown := ((s.slice n).vq.take k).getLastD (s.slice n).shown }).Roomy (2 ^ 62) := h
    exact ⟨((hr.led 5 n .out k (by unfold ftMax; omega)).led 0xD n .out k (by unfold ftMax; omega)).1, by simp⟩

theorem dbVrdhead_taken {s : State} {pasid : Option (BitVec 20)} {n : Nat} (v : W32) (h : Rings s pasid n) (hc : Calm s)
    (hv : mod32 v.toNat (s.fget (Reg.SLC_VRDHEAD_COUNT.at n)) ≤ s.vrdOcc n) :
    exec (.dbVrdhead pasid n v) s = .next ((if s.flag (Reg.SLC_CTRL_VDEST.at n) then s.consumeVerdicts n (mod32 v.toNat (s.fget (Reg.SLC_VRDHEAD_COUNT.at n))) else s).fset
      (Reg.SLC_VRDHEAD_COUNT.at n) v.toNat) := by
  have hbody : s.doorbell pasid n (fun s => s.ringVrdhead n v) = (if s.flag (Reg.SLC_CTRL_VDEST.at n) then
      s.consumeVerdicts n (mod32 v.toNat (s.fget (Reg.SLC_VRDHEAD_COUNT.at n))) else s).fset (Reg.SLC_VRDHEAD_COUNT.at n) v.toNat := by
    rw [State.doorbell_rings h, State.ringVrdhead, if_neg (by omega)]
  refine (congrArg (act s) hbody).trans ?_
  obtain ⟨hwork, hfix⟩ := State.consumeVerdicts_calm hc n (k := mod32 v.toNat (s.fget (Reg.SLC_VRDHEAD_COUNT.at n))) (Nat.mod_lt _ (by decide))
  obtain ⟨hbuild, hpend⟩ := State.fixed_iff.1 hfix
  split
  · exact act_of_calm s _ (by simp [hwork]) (by simp [hbuild]) (by simp [hpend])
  · exact act_fset hc.1 _ _

theorem State.consumeVerdicts_zero (s : State) (n : Nat) : s.consumeVerdicts n 0 = s := by simp [State.consumeVerdicts]

/-- Settles O21: a doorbell that reaches its slice moves its count, or is refused with RING_ERR. -/
theorem doorbellsMoveCounts : Obligations.DoorbellsMoveCounts := by
  intro s pasid n v h hc
  refine ⟨dbCmdtail_taken v h hc.1, dbCmdtail_refused v h, dbCplhead_taken v h hc.1, fun hv => ⟨fun hnone => ?_, fun hdest hk => ?_⟩⟩
  · rw [dbVrdhead_taken v h hc hv]
    rcases hnone with hdest | hk
    · rw [hdest]; rfl
    · rw [hk, State.consumeVerdicts_zero, ite_self]
  · rw [dbVrdhead_taken v h hc hv, hdest, if_pos rfl, State.consumeVerdicts, if_neg hk]

/-! ### The verdict window -/

theorem State.readOut_work (s : State) (p : PortId) (v : W32) : (s.readOut p v).work = s.work := by unfold State.readOut; split <;> rfl

/-- A read that reaches the slice page is carried out. -/
theorem State.readAccess_reaches {s : State} {a : Acc} (hm : a.port = .mgmt → s.mgmtHolds = false) (hh : a.port = .host → s.build.isHub = true ∨ a.pasid = none)
    (i : Instr) (page : Nat) (body : State → State) : s.readAccess i a page body = body s := by
  unfold State.readAccess
  split
  · rename_i hp; simp [hm hp]
  · rename_i hp
    rcases hh hp with hhub | hpasid
    · simp [hhub]
    · simp [hpasid]

theorem vwWord_valid (h : Nat) : vwWord h true false false = BitVec.ofNat 32 (h % 65536 + 65536) := by simp [vwWord, b2, b2n]
theorem vwWord_underrun (h : Nat) : vwWord h false true false = BitVec.ofNat 32 (h % 65536 + 131072) := by simp [vwWord, b2, b2n]
theorem vwWord_notready (h : Nat) : vwWord h false false true = BitVec.ofNat 32 (h % 65536 + 262144) := by simp [vwWord, b2, b2n]

/-- A read of the verdict window in window mode: with a record, without one, and one that stalls. -/
theorem State.readVwstat_window {s : State} {p : PortId} {n : Nat} (hn : n = s.selGet p Reg.SLC_SEL_SLICE) (hlt : n < nSlices s.build)
    (hdest : s.flag (Reg.SLC_CTRL_VDEST.at n) = true) :
    s.readVwstat p =
      if !(s.slice n).vq.isEmpty then s.readOut p (vwWord (s.fget (Reg.SLC_VRDHEAD_COUNT.at n)) true false false)
      else if !s.flag (Reg.SLC_CTRL_VMODE.at n) then
        (s.readOut p (vwWord (mod32 (s.fget (Reg.SLC_VRDHEAD_COUNT.at n)) 1) false true false)).bump (Reg.SLC_VSTAT_UNDERRUNS.at n)
      else if s.fget (Reg.SLC_CTRL_STALL_LIM.at n) = 0 then
        (s.readOut p (vwWord (mod32 (s.fget (Reg.SLC_VRDHEAD_COUNT.at n)) 1) false false true)).bump (Reg.SLC_VSTAT_UNDERRUNS.at n)
      else s.setSlice n { s.slice n with stalls := (s.slice n).stalls ++ [(p, s.now)] } := by
  unfold State.readVwstat
  rw [← hn, if_neg (by simp [hdest]; omega)]

theorem State.fget_readOut (s : State) (p : PortId) (v : W32) (f : RF) : (s.readOut p v).fget f = s.fget f := by unfold State.readOut; split <;> rfl

/-- A read of the window that is answered without a record is counted. -/
theorem act_underrun {s u : State} (n : Nat) (p : PortId) (v : W32) (hw : u.work = []) (hu : u.fixed = s.fixed) :
    act s ((u.readOut p v).bump (Reg.SLC_VSTAT_UNDERRUNS.at n)) =
      .next ((u.readOut p v).fset (Reg.SLC_VSTAT_UNDERRUNS.at n) (u.fget (Reg.SLC_VSTAT_UNDERRUNS.at n) + 1)) := by
  obtain ⟨hbuild, hpend⟩ := State.fixed_iff.1 ((State.fixed_readOut u p v).trans hu)
  rw [State.bump, State.fadd, State.fget_readOut]
  exact act_of_calm s _ (by simp [State.readOut_work, hw]) (by simp [hbuild]) (by simp [hpend])

/-- The one read that stalls on a slice ends with NOTREADY. -/
theorem State.failStalls_one (s : State) (n : Nat) {p : PortId} {t : Nat} (who : PortId × Nat → Bool) (hst : (s.slice n).stalls = [(p, t)]) (hwho : who (p, t) = true) :
    s.failStalls n who = ((s.setSlice n { s.slice n with stalls := [] }).readOut p
      (vwWord (mod32 (s.fget (Reg.SLC_VRDHEAD_COUNT.at n)) 1) false false true)).bump (Reg.SLC_VSTAT_UNDERRUNS.at n) := by
  simp only [State.failStalls, hst, List.filter_cons, hwho, if_true, List.filter_nil, Bool.not_true, Bool.false_eq_true, if_false, List.foldl_cons, List.foldl_nil,
    State.fget_setSlice]

/-- Settles O22: reads of the window by what the window holds, and the read whose stall has lasted its limit. -/
theorem verdictWindowAnswers : Obligations.VerdictWindowAnswers := by
  intro s hw
  refine ⟨?_, fun n p t hst hlim => ?_⟩
  · intro a hm hh n h x hlt hdest
    have hexec : exec (.slcVwstatRead a) s = act s (s.readVwstat a.port) :=
      congrArg (act s) (State.readAccess_reaches hm hh (.slcVwstatRead a) 5 fun s => s.readVwstat a.port)
    rw [hexec, State.readVwstat_window (n := n) rfl hlt hdest]
    refine ⟨fun hvq => ?_, fun hvq hmode => ?_, fun hvq hmode hlim => ?_⟩
    · rw [if_pos (by simpa using hvq), vwWord_valid]
      obtain ⟨hbuild, hpend⟩ := State.fixed_iff.1 (s.fixed_readOut a.port (BitVec.ofNat 32 (h % 65536 + 65536)))
      exact act_of_calm s _ (by rw [State.readOut_work, hw]) hbuild hpend
    · rw [if_neg (by simpa using hvq), if_pos (by simpa using hmode), vwWord_underrun]
      exact act_underrun n a.port _ hw rfl
    · rw [if_neg (by simpa using hvq), if_neg (by simpa using hmode), if_neg hlim]
      exact act_of_calm s _ hw rfl rfl
  · have hfail := s.failStalls_one n (fun e => decide (e.2 + 500 * s.fget (Reg.SLC_CTRL_STALL_LIM.at n) ≤ s.now)) hst (decide_eq_true hlim)
    rw [vwWord_notready] at hfail
    exact (congrArg (act s) hfail).trans (act_underrun n p _ hw rfl)

end Sys2Proof.Machine
end

section
/-! SUPPORT. Register writes that reach their words (R163 to R168, R216), and the staging buffer for every table of bytes (R694, R695). -/

namespace Sys2Proof.Machine

open Sys2Proof

/-! ### Register writes -/

/-- Where the words with effects of their own stand. -/
theorem range_of_heldWord {a : Nat} (h : heldWord a = true) :
    ¬ (0x11C0 ≤ a ∧ a < 0x11D0) ∧ ¬ (0x1200 ≤ a ∧ a < 0x1380) ∧ ¬ (0x5020 ≤ a ∧ a < 0x5044) ∧ ¬ (0x6040 ≤ a ∧ a < 0x6080) ∧
      ¬ (0x7100 ≤ a ∧ a < 0x7300) ∧ ¬ (0xB050 ≤ a ∧ a < 0xB094) ∧ ¬ 0x80000 ≤ a := by
  simp only [heldWord, Bool.not_eq_true', Bool.or_eq_false_iff, decide_eq_false_iff_not] at h
  tauto

theorem State.writeLowPages_held (s : State) (acc : Acc) {a : Nat} (v : W32) (h : heldWord a = true) : s.writeLowPages acc a v = s.holdWrite acc a v := by
  unfold State.writeLowPages
  split
  iterate 11 exact absurd h (by decide)
  obtain ⟨hasym, hgen, hslice, -⟩ := range_of_heldWord h
  rw [if_neg hasym, if_neg (by tauto), if_neg (by tauto)]

theorem State.writeHighPages_held (s : State) (acc : Acc) {a : Nat} (v : W32) (h : heldWord a = true) : s.writeHighPages acc a v = s.holdWrite acc a v := by
  unfold State.writeHighPages
  split
  iterate 16 exact absurd h (by decide)
  obtain ⟨-, -, -, hset, htrace, hrank, hport⟩ := range_of_heldWord h
  rw [if_neg (by tauto), if_neg (by tauto), if_neg (by omega), if_neg (by tauto)]

/-- A word that a write merely sets is held: no page gives a write of it an effect of its own. -/
theorem State.writeReg_held (s : State) (acc : Acc) {a : Nat} (v : W32) (h : heldWord a = true) : s.writeReg acc a v = s.holdWrite acc a v := by
  unfold State.writeReg
  split
  · exact s.writeLowPages_held acc v h
  · exact s.writeHighPages_held acc v h

theorem not_isLow64_of_heldWord {a : Nat} (h : heldWord a = true) : isLow64 a = false ∧ isLow64 (a - 4) = false := by
  simp only [heldWord, Bool.not_eq_true', Bool.or_eq_false_iff] at h
  obtain ⟨⟨-, hlow⟩, hhigh⟩ := h
  exact ⟨hlow, hhigh⟩

theorem State.holdWrite_held {s : State} (acc : Acc) {a k : Nat} {r : RegRow} (v : W32) (h : heldWord a = true) (hr : rowOf a = some r) (hw : r.w1c = 0)
    (hk : s.bankKey acc.port a = some k) (hm : s.writeBits a r ≠ 0) :
    s.holdWrite acc a v = s.regSet k (writtenWord r.kind (s.writeBits a r) acc.bitAlias (s.regGet k) v) := by
  obtain ⟨hlow, hhigh⟩ := not_isLow64_of_heldWord h
  simp [State.holdWrite, hk, hr, hw, hm, hlow, hhigh]

theorem exec_registerWrite (a : Acc) (addr : BitVec 24) (v : W32) (s : State) : exec (.registerWrite a addr v) s = execRegisterWrite a addr v s := rfl

theorem registerWrite_word {s : State} {a : Acc} {addr : BitVec 24} (v : W32) {al : BitVec 2} {page off : Nat} (hp : s.place a.port addr.toNat = .word al page off) :
    exec (.registerWrite a addr v) s =
      act s (s.regAccess (.registerWrite a addr v) a page fun s => s.writeReg { a with bitAlias := al } (page * 4096 + off) v) := by
  rw [exec_registerWrite, execRegisterWrite, hp]

theorem registerWrite_held {s : State} {a : Acc} {addr : BitVec 24} {v : W32} {al : BitVec 2} {page off k : Nat} {r : RegRow} (hs : s.work = [])
    (hp : s.place a.port addr.toNat = .word al page off) (ha : Reaches s a) (h : heldWord (page * 4096 + off) = true) (hr : rowOf (page * 4096 + off) = some r)
    (hw : r.w1c = 0) (hk : s.bankKey a.port (page * 4096 + off) = some k) (hm : s.writeBits (page * 4096 + off) r ≠ 0) :
    exec (.registerWrite a addr v) s =
      .next ((s.regSet k (writtenWord r.kind (s.writeBits (page * 4096 + off) r) al (s.regGet k) v)).answer a) := by
  have hbody : s.writeReg { a with bitAlias := al } (page * 4096 + off) v = _ :=
    (s.writeReg_held _ v h).trans (State.holdWrite_held { a with bitAlias := al } v h hr hw hk hm)
  rw [registerWrite_word v hp, regAccess_next ha _ _ _ (by rw [hbody]; exact hs) (by rw [hbody]; rfl) (by rw [hbody]; rfl), hbody]

/-- A write with partial byte enables on the host port is discarded and counted. -/
theorem registerWrite_partial {s : State} {a : Acc} {addr : BitVec 24} {v : W32} {al : BitVec 2} {page off : Nat} (hp : s.place a.port addr.toNat = .word al page off)
    (hport : a.port = .host) (hfull : a.full = false) (hpasid : s.build.isHub = true ∨ a.pasid = none) :
    ∃ t, exec (.registerWrite a addr v) s = .next t ∧ Matches t (s.fset Reg.HIF_ERR_PARTIAL (s.fget Reg.HIF_ERR_PARTIAL + 1)) := by
  have hbody (body : State → State) : s.regAccess (.registerWrite a addr v) a page body = s.refuseAccess Reg.HIF_ERR_PARTIAL 0 := by
    have hnone : (!s.build.isHub && a.pasid.isSome) = false := by
      rcases hpasid with hhub | hnone
      · simp [hhub]
      · simp [hnone]
    simp [State.regAccess, hport, hnone, hfull]
  have hside : (s.refuseAccess Reg.HIF_ERR_PARTIAL 0).side = (s.bump Reg.HIF_ERR_PARTIAL).side := by simp [State.refuseAccess, State.hostProto]
  obtain ⟨hbuild, hpend⟩ := State.fixed_iff.1 ((State.fixed_of_side hside).trans (s.fixed_bump _))
  rw [registerWrite_word v hp, hbody]
  obtain ⟨t, ht, hts, hout⟩ := act_out s _ hbuild hpend
  exact ⟨t, ht, Matches_of_side (hts.trans hside) fun e he => hout e (by simpa [State.refuseAccess, State.hostProto] using he)⟩

theorem registerWrite_unmapped {s : State} {a : Acc} {addr : BitVec 24} {v : W32} (hs : s.work = []) (hp : s.place a.port addr.toNat = .unmapped) (ha : Reaches s a) :
    exec (.registerWrite a addr v) s = .next ((s.fset Reg.HIF_ERR_UNMAPPED (s.fget Reg.HIF_ERR_UNMAPPED + 1)).answer a) := by
  rw [exec_registerWrite, execRegisterWrite, hp]
  exact regAccess_next ha _ 0 (fun s => s.bump Reg.HIF_ERR_UNMAPPED) (by simpa using hs) (by simp) (by simp)

/-! ### The staging buffer -/

theorem stagePut_tabWf (m : List Host.Cell) (a : Nat) (v : Byte) (h : Tab.wf m = true) : Tab.wf (stagePut m a v) = true := by
  unfold stagePut
  split
  · exact Tab.wf_del m a h
  · exact Tab.wf_set m a v h

theorem stageGet_put_of_tabWf (m : List Host.Cell) (a j : Nat) (v : Byte) (h : Tab.wf m = true) :
    stageGet (stagePut m a v) j = if j = a then v else stageGet m j := by
  unfold stageGet stagePut
  split
  · next hv =>
    split
    · next hj => rw [hj, Tab.get_del_self m a h, hv]; rfl
    · next hj => rw [Tab.get_del_ne m hj]
  · rw [Tab.get_set]
    split <;> rfl

/-- A table of bytes reads as one in the canonical form. -/
theorem exists_canonical (m : List Host.Cell) : ∃ c, Memory.wf c = true ∧ ∀ j, stageGet c j = stageGet m j := by
  induction m with
  | nil => exact ⟨[], Memory.wf_nil, fun _ => rfl⟩
  | cons e m ih =>
    obtain ⟨c, hc, hread⟩ := ih
    refine ⟨stagePut c e.1 e.2, stagePut_wf c _ _ hc, fun j => ?_⟩
    rw [stageGet_put c _ _ _ hc, hread, stageGet, stageGet, Tab.get]
    by_cases hj : j = e.1
    · simp [hj]
    · simp [hj, Ne.symm hj]

/-- Two tables that read alike read alike after the same write. -/
theorem stageGet_write_congr {m c : List Host.Cell} (a : Nat) (bs : List Byte) (hm : Tab.wf m = true) (hc : Memory.wf c = true)
    (h : ∀ j, stageGet c j = stageGet m j) (j : Nat) : stageGet (stageWrite c a bs) j = stageGet (stageWrite m a bs) j := by
  unfold stageWrite
  induction bs.zipIdx generalizing m c with
  | nil => exact h j
  | cons e l ih =>
    refine ih (stagePut_tabWf m _ _ hm) (stagePut_wf c _ _ hc) fun i => ?_
    rw [stageGet_put c _ _ _ hc, stageGet_put_of_tabWf m _ _ _ hm, h]

theorem stageGet_write_of_tabWf (m : List Host.Cell) (a j : Nat) (bs : List Byte) (h : Tab.wf m = true) (hj : j < a ∨ a + bs.length ≤ j) :
    stageGet (stageWrite m a bs) j = stageGet m j := by
  obtain ⟨c, hc, hread⟩ := exists_canonical m
  rw [← stageGet_write_congr a bs h hc hread, stageGet_write c a j bs hc, if_neg (by omega), hread]

theorem stageRead_write_of_tabWf (m : List Host.Cell) (a : Nat) (bs : List Byte) (h : Tab.wf m = true) : stageRead (stageWrite m a bs) a bs.length = bs := by
  obtain ⟨c, hc, hread⟩ := exists_canonical m
  have hsame : stageRead (stageWrite m a bs) a bs.length = stageRead (stageWrite c a bs) a bs.length := by
    simp only [stageRead, stageGet_write_congr a bs h hc hread]
  exact hsame.trans (stageRead_write c a bs hc)

theorem exec_stageWrite (off : Nat) (data : List Byte) (s : State) : exec (.stageWrite off data) s = execStageWrite off data s := rfl
theorem exec_stageRead (off len : Nat) (s : State) : exec (.stageRead off len) s = execStageRead off len s := rfl

theorem stageWrite_next {s : State} {off : Nat} {data : List Byte} (hh : s.mgmtHolds = false) (hw : s.work = []) (hne : data ≠ []) (hlen : data.length ≤ 1024)
    (hin : off + data.length ≤ stagingSize s.build) :
    exec (.stageWrite off data) s = .next ((s.setStaging (stageWrite s.hif.staging off data)).emit (.mgmtData 0 [])) := by
  have hok : ¬ (data.isEmpty = true ∨ 1024 < data.length ∨ stagingSize s.build < off + data.length) := by
    simp [hne]
    omega
  rw [exec_stageWrite, execStageWrite, hh, if_neg Bool.false_ne_true, if_neg hok]
  exact act_of_calm s _ hw rfl rfl

theorem stageRead_next {s : State} {off len : Nat} (hh : s.mgmtHolds = false) (hw : s.work = []) (hne : len ≠ 0) (hlen : len ≤ 1024) (hin : off + len ≤ stagingSize s.build) :
    exec (.stageRead off len) s = .next (s.emit (.mgmtData 0 (stageRead s.hif.staging off len))) := by
  rw [exec_stageRead, execStageRead, hh, if_neg Bool.false_ne_true, if_neg (by omega)]
  exact act_of_calm s _ hw rfl rfl

/-- Settles O19: register writes by where they lead, and the staging buffer by what a write leaves to read. -/
theorem writesReachTheirPlaces : Obligations.WritesReachTheirPlaces := by
  refine ⟨fun s a addr v hw => ⟨fun al page off k r hp ha hheld hr hw1c hk hm => registerWrite_held hw hp ha hheld hr hw1c hk hm,
    fun al page off hp hport hfull hpasid => registerWrite_partial hp hport hfull hpasid, fun hp ha => registerWrite_unmapped hw hp ha⟩,
    fun s off len data hh hw hwf => ⟨fun hne hlen hin => ⟨_, stageWrite_next hh hw hne hlen hin, by simp, rfl, ?_, fun a ha => ?_⟩,
      fun hne hlen hin => stageRead_next hh hw hne hlen hin⟩⟩
  · exact stageRead_write_of_tabWf s.hif.staging off data hwf
  · exact stageGet_write_of_tabWf s.hif.staging off a data hwf ha

end Sys2Proof.Machine
end

section
/-! SUPPORT. The commands that bind, resize, unbind and query slices (R180, R182, R183, R206). -/

namespace Sys2Proof.Machine

open Sys2Proof

/-! ### Fields of a slice after a chain of writes -/

theorem State.fget_fset_besides (s : State) {f g : RF} (n v : Nat) (hf : SliceField f) (hg : SliceField g) (hb : beside f g = true) :
    (s.fset (f.at n) v).fget (g.at n) = s.fget (g.at n) := State.fget_fset_slice s v hf hg (.inr hb)

/-- A narrow field of a word that handling a descriptor leaves alone. -/
theorem State.fget_begun (s : State) (src : Src) (opc : Nat) (d : Desc) (b : Bus) (f : RF) (hp : plainWord f.addr = true) (hf : f.lo + f.w ≤ 32) :
    (s.begun src opc d b).fget f = s.fget f := State.fget_congr f (State.regGet_begun s src opc d b _ hp) (.inl hf)

/-- A descriptor whose arguments are in range, and that reads no operand, passes the shared checks. -/
theorem State.checked_pass {s : State} {src : Src} {d : Desc} (hc : Clean s src d) (opc : Nat) (b : Bus) (k : Need) (body : State → State)
    (ha : k.args = true) (hs : k.sess = none) (hz : k.zero = false) (ht : k.tooLong = false) (hr : k.reads = false) :
    (s.begun src opc d b).checked (cmdRun s src opc d b) k body = body (s.begun src opc d b) := by
  rw [State.checked, State.check_none s _ src opc d b k hc (by simp) ha (by simp [hs]) hz ht (by simp [hr])]

/-- A command whose own checks pass. -/
theorem State.guarded_pass (s : State) (r : Running) (l : List (Bool × Nat)) (body : State → State) (h : firstFail l = none) : s.guarded r l body = body s := by
  rw [State.guarded, h]

/-! ### SLC_BIND -/

/-- A slice that is bound: its process, every count and its quota. -/
def State.binding (s : State) (k pasid : Nat) : State :=
  ([Reg.SLC_CMDHEAD_COUNT, Reg.SLC_CMDTAIL_COUNT, Reg.SLC_CPLHEAD_COUNT, Reg.SLC_CPLTAIL_COUNT, Reg.SLC_VRDHEAD_COUNT, Reg.SLC_VRDTAIL_COUNT]).foldl
    (fun u f => u.fset (f.at k) 0) (((s.fset (Reg.SLC_PASID_PASID.at k) pasid).fset (Reg.SLC_PASID_BOUND.at k) 1).fset (Reg.SLC_QUOTA_QUOTA.at k) 0)

/-- The fields that a bind writes. -/
def bindFields : List RF := [Reg.SLC_PASID_PASID, Reg.SLC_PASID_BOUND, Reg.SLC_QUOTA_QUOTA, Reg.SLC_CMDHEAD_COUNT, Reg.SLC_CMDTAIL_COUNT, Reg.SLC_CPLHEAD_COUNT,
  Reg.SLC_CPLTAIL_COUNT, Reg.SLC_VRDHEAD_COUNT, Reg.SLC_VRDTAIL_COUNT]

theorem Handles.binding (s : State) (k p : Nat) : Handles k bindFields s (s.binding k p) := by
  refine Handles.foldl ((((Handles.refl k _ s).fset ?_ p).fset ?_ 1).fset ?_ 0) _ _ fun u f hf => (Handles.refl k _ u).fset ?_ 0
  iterate 3 decide
  revert f
  decide

theorem State.fget_binding (s : State) (k p : Nat) : (s.binding k p).fget (Reg.SLC_PASID_PASID.at k) = p % 2 ^ 20 ∧ (s.binding k p).fget (Reg.SLC_PASID_BOUND.at k) = 1 ∧
    ∀ f ∈ bindFields.drop 2, (s.binding k p).fget (f.at k) = 0 := by
  simp only [bindFields, List.drop_succ_cons, List.drop_zero, List.forall_mem_cons, List.not_mem_nil, false_imp_iff, implies_true, and_true, State.binding,
    List.foldl_cons, List.foldl_nil]
  refine ⟨?_, ?_, ?_, ?_, ?_, ?_, ?_, ?_, ?_⟩ <;>
    simp (disch := decide) only [State.fget_fset_besides, State.fget_fset_at] <;> rfl

theorem PlainEq.fset_at {s t : State} (h : PlainEq t s) (f : RF) (hf : f.lo + f.w ≤ 32) (k v : Nat) : PlainEq (t.fset (f.at k) v) (s.fset (f.at k) v) :=
  h.fset (f.at k) v hf

theorem PlainEq.foldl_fset {s t : State} (h : PlainEq t s) (l : List RF) (hl : ∀ f ∈ l, f.lo + f.w ≤ 32) (k v : Nat) :
    PlainEq (l.foldl (fun u f => u.fset (f.at k) v) t) (l.foldl (fun u f => u.fset (f.at k) v) s) := by
  induction l generalizing s t with
  | nil => exact h
  | cons f l ih => exact ih (h.fset_at f (hl f (List.mem_cons_self ..)) k v) fun g hg => hl g (List.mem_cons_of_mem _ hg)

theorem PlainEq.binding {s t : State} (h : PlainEq t s) (k p : Nat) : PlainEq (t.binding k p) (s.binding k p) :=
  PlainEq.foldl_fset (((h.fset_at Reg.SLC_PASID_PASID (by decide) k p).fset_at Reg.SLC_PASID_BOUND (by decide) k 1).fset_at Reg.SLC_QUOTA_QUOTA (by decide) k 0) _
    (by decide) k 0

theorem State.hif_binding (s : State) (k p : Nat) : (s.binding k p).hif = s.hif := by simp [State.binding]
theorem State.out_binding (s : State) (k p : Nat) : (s.binding k p).out = s.out := by simp [State.binding]
theorem State.ct_binding (s : State) (k p : Nat) : (s.binding k p).ct = s.ct := by simp [State.binding]

/-- What slice 0's command leaves in the fields of another slice. -/
theorem fget_of_command {s t : State} {n k opc : Nat} {i : Instr} {d : Desc} {b : Bus} {perm : Perm} {ns : Bool} {body : State → Running → State} {x : State}
    {l : List RF} {st v se : Nat} (h : Takes s (.slice n)) (hp : permits perm (.slice n) = true)
    (hb : body (s.begun (.slice n) opc d b) (cmdRun s (.slice n) opc d b) = x.complete (cmdRun s (.slice n) opc d b) st v se)
    (hx : Handles k l (s.begun (.slice n) opc d b) x) (ht : act s (s.command i (.slice n) d b opc perm ns body) = .next t) (hk : k ≠ n)
    (f : RF) (hf : SliceField f) : t.fget (f.at k) = x.fget (f.at k) := by
  have hend : Handles n [Reg.SLC_STATUS_QUIESCED, Reg.SLC_STATUS_INFLIGHT] x ((x.complete (cmdRun s (.slice n) opc d b) st v se).checkQuiesced n) :=
    ((Handles.refl n _ x).complete (by decide) rfl st v se).checkQuiesced (by decide)
  have hfix : ((x.complete (cmdRun s (.slice n) opc d b) st v se).checkQuiesced n).fixed = s.fixed :=
    hend.fixed.trans (hx.fixed.trans (State.fixed_iff.2 ⟨by simp, by simp⟩))
  rw [State.command_takes s i _ opc d b _ ns _ h hp] at ht
  simp only [hb] at ht
  rw [State.fget_of_side (act_side_unique ht hfix) _ (hf.quiet k) (.inl hf.narrow), hend.field f k hf (.inl hk)]

theorem plainWord_PASID (n : Nat) : plainWord (Reg.SLC_PASID_BOUND.at n).addr = true := by
  simp only [RF.at, Reg.SLC_PASID_BOUND, plainWord_bank]
  decide

theorem State.bound_begun (s : State) (src : Src) (opc : Nat) (d : Desc) (b : Bus) (n : Nat) : (s.begun src opc d b).bound n = s.bound n := by
  rw [State.bound, State.flag, State.fget_begun s src opc d b _ (plainWord_PASID n) (by show 21 ≤ 32; decide)]
  rfl

theorem slcBind_ended {s : State} {d : Desc} (b : Bus) (ht : Takes s (.slice 0)) (hc : Clean s (.slice 0) d) (hp : bits d.arg1 63 20 = 0)
    (hlt : d.arg0.toNat < nSlices s.build) (hb : s.bound d.arg0.toNat = false) :
    ∃ t, exec (.slcBind (.slice 0) d b) s = .next t ∧
      (∀ f, SliceField f → t.fget (f.at d.arg0.toNat) = ((s.begun (.slice 0) 0x90 d b).binding d.arg0.toNat d.arg1.toNat).fget (f.at d.arg0.toNat)) ∧
      Ended s t (.slice 0) 0x90 d stOK 0 d.session.toNat (s.binding d.arg0.toNat d.arg1.toNat) := by
  set k := d.arg0.toNat with hkdef
  set u := s.begun (.slice 0) 0x90 d b with hu
  have hk : k ≠ 0 := by
    intro h0
    simp [h0, State.bound] at hb
  have hub : u.bound k = false := (s.bound_begun _ _ d b k).trans hb
  have hbody : State.slcBind u (cmdRun s (.slice 0) 0x90 d b) = (u.binding k d.arg1.toNat).complete (cmdRun s (.slice 0) 0x90 d b) stOK 0 d.session.toNat := by
    have hargs : (decide (k < nSlices u.build) && bits d.arg1 63 20 == 0) = true := by simp [u, hlt, hp]
    rw [State.slcBind]
    refine (State.checked_pass hc 0x90 b _ _ hargs rfl rfl rfl rfl).trans ?_
    rw [State.guarded_pass]
    · rfl
    · show firstFail [(u.bound k, stSTATE)] = none
      rw [hub]
      rfl
  have hall := Handles.binding u k d.arg1.toNat
  obtain ⟨t, hact, hend⟩ := command_ended s (.slcBind (.slice 0) d b) (.slice 0) 0x90 d b .h0 false State.slcBind (s.binding k d.arg1.toNat) (u.binding k d.arg1.toNat) stOK 0 _ ht rfl
    hbody (HifRuns_of_same ht ⟨u.hif_binding k _, fun n hn => by cases hn; exact hall.enabled 0 (.inl hk.symm)⟩ (s.hif_binding k _))
    (hall.core.trans ((State.core_begun ..).trans (Handles.binding s k d.arg1.toNat).core.symm)) ((PlainEq.begun s _ _ d b).binding k _)
    (fun e he => by rw [State.out_binding] at he ⊢; exact State.begun_out _ _ _ _ _ e he)
    (State.fixed_iff.1 (Handles.binding s k _).fixed).1 (State.fixed_iff.1 (Handles.binding s k _).fixed).2 (by rw [State.ct_binding, State.ct_begun])
  exact ⟨t, hact, fun f hf => fget_of_command ht rfl hbody hall hact hk f hf, hend⟩

/-! ### SLC_RESIZE -/

theorem State.quotaSum_congr {s t : State} (hb : t.build = s.build) (h : ∀ n, t.fget (Reg.SLC_QUOTA_QUOTA.at n) = s.fget (Reg.SLC_QUOTA_QUOTA.at n)) :
    t.quotaSum = s.quotaSum := by simp only [State.quotaSum, hb, h]

theorem plainWord_QUOTA (n : Nat) : plainWord (Reg.SLC_QUOTA_QUOTA.at n).addr = true := by
  simp only [RF.at, Reg.SLC_QUOTA_QUOTA, plainWord_bank]
  decide

theorem State.fget_QUOTA_begun (s : State) (src : Src) (opc : Nat) (d : Desc) (b : Bus) (n : Nat) :
    (s.begun src opc d b).fget (Reg.SLC_QUOTA_QUOTA.at n) = s.fget (Reg.SLC_QUOTA_QUOTA.at n) :=
  State.fget_begun s src opc d b _ (plainWord_QUOTA n) (by show 13 ≤ 32; decide)

theorem slcResize_ended {s : State} {src : Src} {d : Desc} (b : Bus) (hsrc : src = .slice 0 ∨ src = .mgmt) (ht : Takes s src) (hc : Clean s src d)
    (hlt : d.arg0.toNat < nSlices s.build) (hfit : s.quotaSum - s.fget (Reg.SLC_QUOTA_QUOTA.at d.arg0.toNat) + d.count.toNat ≤ nSessions s.build) :
    ∃ t, exec (.slcResize src d b) s = .next t ∧ Ended s t src 0x91 d stOK (s.fget (Reg.SLC_QUOTA_QUOTA.at d.arg0.toNat)) d.session.toNat
      (s.fset (Reg.SLC_QUOTA_QUOTA.at d.arg0.toNat) d.count.toNat) := by
  set k := d.arg0.toNat with hkdef
  set q := Reg.SLC_QUOTA_QUOTA.at k with hq
  set u := s.begun src 0x91 d b with hu
  have hperm : permits .h0m src = true := by rcases hsrc with rfl | rfl <;> rfl
  have hold : u.fget q = s.fget q := s.fget_QUOTA_begun src 0x91 d b k
  have hsum : u.quotaSum = s.quotaSum := State.quotaSum_congr (by simp [u]) fun n => s.fget_QUOTA_begun src 0x91 d b n
  have hbuild : u.build = s.build := State.begun_build ..
  have hbody : State.slcResize u (cmdRun s src 0x91 d b) = (u.fset q d.count.toNat).complete (cmdRun s src 0x91 d b) stOK (s.fget q) d.session.toNat := by
    have hover : decide (nSessions u.build < u.quotaSum - u.fget q + d.count.toNat) = false := by
      rw [hbuild, hsum, hold]
      exact decide_eq_false (by omega)
    rw [State.slcResize]
    refine (State.checked_pass hc 0x91 b _ _ (decide_eq_true (hbuild ▸ hlt)) rfl rfl rfl rfl).trans ?_
    rw [State.guarded_pass]
    · show (u.fset q d.count.toNat).completeOk (cmdRun s src 0x91 d b) (u.fget q) = _
      rw [hold]
      rfl
    · show firstFail [(decide (nSessions u.build < u.quotaSum - u.fget q + d.count.toNat), stNO_RESOURCE)] = none
      rw [hover]
      rfl
  have hen (n : Nat) : (u.fset q d.count.toNat).enabled n = u.enabled n := by
    rw [State.enabled, State.flag, State.fget_fset_slice (f := Reg.SLC_QUOTA_QUOTA) _ _ (by decide) (by decide) (.inr (by decide)), State.enabled, State.flag]
  exact command_ended s _ src 0x91 d b .h0m false State.slcResize (s.fset q d.count.toNat) (u.fset q d.count.toNat) stOK _ _ ht hperm hbody
    (HifRuns_of_same ht ⟨by simp [hu], fun n _ => hen n⟩ (by simp)) (by simp [u])
    ((PlainEq.begun s src 0x91 d b).fset_at Reg.SLC_QUOTA_QUOTA (by decide) k _) (fun e he => by simp only [State.fset_out] at he ⊢; exact State.begun_out _ _ _ _ _ e he)
    (by simp) (by simp) (by simp [u])

/-! ### SLC_QUERY -/

theorem length_toBytes4 (v : Nat) : (toBytes 4 v).length = 4 := by simp [toBytes]

/-- An entry takes 64 bytes. -/
theorem State.length_slcEntry (s : State) (n : Nat) : (s.slcEntry n).length = 64 := by
  simp [State.slcEntry, padTo, length_toBytes4]

/-- Part `k` of a row of parts of one length. -/
theorem take_drop_flatMap_range {α : Type} (f : Nat → List α) (c : Nat) (hf : ∀ i, (f i).length = c) {k m : Nat} (h : k < m) :
    (((List.range m).flatMap f).drop (c * k)).take c = f k := by
  obtain ⟨j, rfl⟩ : ∃ j, m = k + (j + 1) := ⟨m - k - 1, by omega⟩
  have hlen : ((List.range k).flatMap f).length = c * k := by simp [List.length_flatMap, hf, Nat.mul_comm]
  rw [List.range_add, List.flatMap_append, List.drop_left' hlen, List.range_succ_eq_map, List.map_cons, List.flatMap_cons, List.take_left' (hf _)]
  rfl

theorem length_flatMap_slcEntry (s : State) (m : Nat) : ((List.range m).flatMap s.slcEntry).length = 64 * m := by
  simp [List.length_flatMap, State.length_slcEntry, Nat.mul_comm]

/-- An entry depends on the slice's registers, on its open sessions and on the build alone. -/
theorem State.slcEntry_congr {s t : State} {k : Nat} (hcrd : t.crd = s.crd) (h : ∀ f, SliceField f → t.regGet (f.at k).addr = s.regGet (f.at k).addr) :
    t.slcEntry k = s.slcEntry k := by
  have hopen : t.openOf k = s.openOf k := by simp only [State.openOf, State.openSess, hcrd]
  have hover : t.overQuota k = s.overQuota k := by
    rw [State.overQuota, State.overQuota, hopen, State.fget_congr _ (h Reg.SLC_QUOTA_QUOTA (by decide)) (.inl (by show 13 ≤ 32; decide))]
  have hbound : t.bound k = s.bound k := by
    rw [State.bound, State.bound, State.flag, State.flag, State.fget_congr _ (h Reg.SLC_PASID_BOUND (by decide)) (.inl (by show 21 ≤ 32; decide))]
  simp only [State.slcEntry, State.slcStatusWord, State.slcPasidWord, State.slcQuotaWord, hopen, hover, hbound, h Reg.SLC_CTRL_ENABLE (by decide),
    h Reg.SLC_STATUS_ENABLED (by decide), h Reg.SLC_PASID_PASID (by decide), h Reg.SLC_QUOTA_QUOTA (by decide), h Reg.SLC_RINGSZ_CMD (by decide),
    h Reg.SLC_CMDHEAD_COUNT (by decide), h Reg.SLC_CMDTAIL_COUNT (by decide), h Reg.SLC_CPLHEAD_COUNT (by decide), h Reg.SLC_CPLTAIL_COUNT (by decide),
    h Reg.SLC_VRDHEAD_COUNT (by decide), h Reg.SLC_VRDTAIL_COUNT (by decide), h Reg.SLC_VSTAT_DROPPED (by decide)]

/-- A management command reads every entry as it stands; a slice's reads those of the other slices so. -/
theorem State.slcEntry_begun (s : State) {src : Src} (opc : Nat) (d : Desc) (b : Bus) {k : Nat} (h : src ≠ .slice k) :
    (s.begun src opc d b).slcEntry k = s.slcEntry k := by
  refine State.slcEntry_congr (State.begun_crd ..) fun f hf => ?_
  cases src with
  | mgmt => rfl
  | slice n =>
    have hn : k ≠ n := fun e => h (by rw [e])
    have hapart {g : RF} (hg : SliceField g) : (f.at k).addr ≠ (g.at n).addr := fun e => hn (hg.addr_eq hf e).2
    exact State.regGet_begun_ne s n opc d b (hf.quiet k) (hapart (by decide)) (hapart (by decide))

theorem State.ct_emit (s : State) (e : Emission) : (s.emit e).ct = s.ct := (rfl)
theorem State.ct_setStaging (s : State) (m : List Host.Cell) : (s.setStaging m).ct = s.ct := (rfl)
theorem State.SameHif.emit (s : State) (e : Emission) (src : Src) : (s.emit e).SameHif s src := ⟨rfl, fun _ _ => rfl⟩

/-- A result that is written whole, and OK with its value. -/
theorem command_written {s : State} {src : Src} (i : Instr) (opc : Nat) {d : Desc} {b : Bus} {perm : Perm} (ns : Bool) {body : State → Running → State} {bs : List Byte}
    (v : Nat) (ht : Takes s src) (hp : permits perm src = true) (hw : b.wfail = none) (hne : bs ≠ [])
    (hb : body (s.begun src opc d b) (cmdRun s src opc d b) = (s.begun src opc d b).finish (cmdRun s src opc d b) bs v) :
    ∃ t, act s (s.command i src d b opc perm ns body) = .next t ∧ Ended s t src opc d stOK v d.session.toNat (written s src d bs) := by
  have hempty : ¬ bs.isEmpty = true := by simpa using hne
  have hplain : PlainEq (s.begun src opc d b) s := fun k hk => PlainEq.begun s src opc d b k hk
  rw [State.finish, if_neg hempty] at hb
  cases src with
  | slice n =>
    set u := s.begun (.slice n) opc d b with hu
    have hbody : body u (cmdRun s (.slice n) opc d b) = (u.emit (.dma n d.addr bs)).complete (cmdRun s (.slice n) opc d b) stOK v d.session.toNat := by
      rw [hb]
      simp only [State.putResult, cmdRun, hw]
      rfl
    refine command_ended s i _ opc d b perm ns body (s.emit (.dma n d.addr bs)) _ stOK v _ ht hp hbody (HifRuns_of_same ht (State.SameHif.emit ..) rfl)
      ((State.core_emit ..).trans ((State.core_begun ..).trans (State.core_emit ..).symm))
      (fun k hk => (State.regGet_emit ..).trans ((hplain k hk).trans (State.regGet_emit ..).symm))
      (fun e he => ?_) rfl rfl ((State.ct_emit ..).trans (State.ct_begun s _ opc d b))
    rcases List.mem_cons.1 he with rfl | hmem
    · exact List.mem_cons_self ..
    · exact List.mem_cons_of_mem _ (State.begun_out _ _ _ _ _ e hmem)
  | mgmt =>
    have hbody : body (s.begun .mgmt opc d b) (cmdRun s .mgmt opc d b) =
        ((s.begun .mgmt opc d b).setStaging (stageWrite s.hif.staging d.addr.toNat bs)).complete (cmdRun s .mgmt opc d b) stOK v d.session.toNat := hb
    exact command_ended s i _ opc d b perm ns body (s.setStaging (stageWrite s.hif.staging d.addr.toNat bs)) _ stOK v _ ht hp hbody
      (HifRuns_of_staging ht (.refl _ _)) (by simp) hplain (fun e he => he) rfl rfl ((State.ct_setStaging ..).trans (State.ct_begun s _ opc d b))

theorem slcQuery_ended {s : State} {src : Src} {d : Desc} {b : Bus} (ht : Takes s src) (hc : Clean s src d) (hw : b.wfail = none) (hlen : 64 ≤ d.len.toNat) :
    let m := min (d.len.toNat / 64) (nSlices s.build)
    ∃ t, exec (.slcQuery src d b) s = .next t ∧ ∃ bs, bs.length = 64 * m ∧ (src = .mgmt → bs = (List.range m).flatMap s.slcEntry) ∧
      (∀ n, src = .slice n → ∀ k < m, k ≠ n → (bs.drop (64 * k)).take 64 = s.slcEntry k) ∧ Ended s t src 0x93 d stOK bs.length d.session.toNat (written s src d bs) := by
  intro m
  set u := s.begun src 0x93 d b with hu
  have hbuild : u.build = s.build := State.begun_build ..
  have hm : 0 < m := by
    have hs : 0 < nSlices s.build := by cases s.build <;> decide
    omega
  have hbs : ((List.range m).flatMap u.slcEntry).length = 64 * m := length_flatMap_slcEntry u m
  have hbody : State.slcQuery u (cmdRun s src 0x93 d b) =
      u.finish (cmdRun s src 0x93 d b) ((List.range m).flatMap u.slcEntry) ((List.range m).flatMap u.slcEntry).length := by
    rw [State.slcQuery]
    refine (State.checked_pass hc 0x93 b _ _ rfl rfl (decide_eq_false (p := d.len.toNat = 0) (by omega)) (decide_eq_false (p := d.len.toNat < 64) (by omega)) rfl).trans ?_
    simp only [← hu, hbuild]
    rfl
  obtain ⟨t, hact, hend⟩ := command_written (.slcQuery src d b) 0x93 false _ ht (perm := .hm) (by cases src <;> rfl) hw (List.ne_nil_of_length_pos (by omega)) hbody
  refine ⟨t, hact, _, hbs, fun hsrc => ?_, fun n hsrc k hk hkn => ?_, hend⟩
  · refine List.flatMap_congr fun k _ => State.slcEntry_begun s 0x93 d b ?_
    rw [hsrc]
    exact Src.noConfusion
  · rw [take_drop_flatMap_range _ 64 u.length_slcEntry hk]
    refine State.slcEntry_begun s 0x93 d b ?_
    rw [hsrc]
    exact fun e => hkn (Src.slice.inj e).symm

/-! ### SLC_UNBIND -/

/-- Two tables with rising keys that hold the same are the same. -/
theorem Tab.eq_of_get {α : Type} {t u : Tab α} (ht : Tab.wf t = true) (hu : Tab.wf u = true) (h : ∀ k, Tab.get t k = Tab.get u k) : t = u := by
  induction t generalizing u with
  | nil =>
    cases u with
    | nil => rfl
    | cons e u => simpa [Tab.get] using h e.1
  | cons e t ih =>
    cases u with
    | nil => simpa [Tab.get] using h e.1
    | cons f u =>
      have hte := Tab.wf_above ht
      have huf := Tab.wf_above hu
      have hkey : e.1 = f.1 := by
        rcases Nat.lt_trichotomy e.1 f.1 with hlt | heq | hlt
        · have he := h e.1
          rw [Tab.get, if_pos rfl, Tab.get, if_neg (by omega), Tab.get_above huf (by omega)] at he
          cases he
        · exact heq
        · have hf := h f.1
          rw [Tab.get, if_neg (by omega), Tab.get_above hte (by omega), Tab.get, if_pos rfl] at hf
          cases hf
      have hval : e.2 = f.2 := by
        have he := h e.1
        rw [Tab.get, if_pos rfl, Tab.get, if_pos hkey.symm] at he
        exact Option.some.inj he
      rw [Prod.ext hkey hval, ih (Tab.wf_tail ht) (Tab.wf_tail hu) fun k => ?_]
      by_cases hk : k = f.1
      · rw [Tab.get_above hte (by omega), Tab.get_above huf (by omega)]
      · have hh := h k
        rwa [Tab.get, if_neg (by omega), Tab.get, if_neg (by omega)] at hh

theorem Tab.set_comm {α : Type} (t : Tab α) {j k : Nat} (a b : α) (h : j ≠ k) (ht : Tab.wf t = true) :
    Tab.set (Tab.set t j a) k b = Tab.set (Tab.set t k b) j a := by
  refine Tab.eq_of_get (Tab.wf_set _ _ _ (Tab.wf_set _ _ _ ht)) (Tab.wf_set _ _ _ (Tab.wf_set _ _ _ ht)) fun i => ?_
  simp only [Tab.get_set]
  by_cases hj : i = j
  · rw [if_neg (by omega), if_pos hj, if_pos hj]
  · simp only [if_neg hj]

/-- A slice that holds nothing: no command, completion, verdict record or stalled read (R183). -/
def Slice.empty (x : Slice) : Prop := x.running = [] ∧ x.fetched = [] ∧ x.cplWait = [] ∧ x.vq = [] ∧ x.stalls = []

/-- Nothing outside a slice belongs to it: no session, model or sink, and not the Trace unit. -/
def State.holdsNothing (s : State) (n : Nat) : Prop :=
  (∀ e ∈ s.openSess, e.2.slice ≠ n) ∧ (∀ e ∈ s.dst.models, e.2.slice ≠ n) ∧ (∀ y ∈ s.tws.sinks, y.slice ≠ n) ∧ s.flag Reg.TRC_STATUS_OWNED = false

/-- A slice that is unbound: its binding and its quota cleared. -/
def State.unbinding (s : State) (n : Nat) : State :=
  (((s.setSlice n { s.slice n with unbind := none, quiescing := false }).fset (Reg.SLC_PASID_PASID.at n) 0).fset (Reg.SLC_PASID_BOUND.at n) 0).fset
    (Reg.SLC_QUOTA_QUOTA.at n) 0

theorem State.failStalls_none (s : State) (n : Nat) (who : PortId × Nat → Bool) (h : (s.slice n).stalls = []) :
    s.failStalls n who = s.setSlice n (s.slice n) := by
  have hx : { s.slice n with stalls := [] } = s.slice n := by rw [← h]
  simp only [State.failStalls, h, List.filter_nil, List.foldl_nil, hx]

/-- An empty slice to which nothing belongs is unbound with nothing to discard. -/
theorem State.unbindFinish_empty (s : State) (r : Running) (n : Nat) (hx : (s.slice n).empty) (hs : s.holdsNothing n) :
    s.unbindFinish r n = ((s.unbinding n).fset (Reg.SLC_STATUS_QUIESCED.at n) 1).completeOk r 0 := by
  obtain ⟨-, -, hcpl, hvq, hstalls⟩ := hx
  obtain ⟨hsess, hmodels, hsinks, howned⟩ := hs
  have hss : (s.openSess.filter fun e => e.2.slice == n) = [] := List.filter_eq_nil_iff.2 fun e he => by simpa using hsess e he
  have hmm : (s.dst.models.filter fun e => e.2.slice == n) = [] := List.filter_eq_nil_iff.2 fun e he => by simpa using hmodels e he
  have hkk : s.setSinks (s.tws.sinks.filter fun k => k.slice != n) = s := by
    rw [List.filter_eq_self.2 fun y hy => by simpa using hsinks y hy]
    rfl
  simp only [State.unbindFinish, hss, List.foldl_nil, hmm, hkk, howned, Bool.false_eq_true, false_and, if_false, State.failStalls_none _ _ _ hstalls, hvq, hcpl,
    List.isEmpty_nil, if_true, State.slice_setSlice, State.setSlice_setSlice, List.length_nil, State.unbinding]

theorem State.slice_begun_ne (s : State) {src : Src} (opc : Nat) (d : Desc) (b : Bus) {k : Nat} (h : src ≠ .slice k) :
    (s.begun src opc d b).slice k = s.slice k := by
  cases src with
  | mgmt => rfl
  | slice n =>
    have hn : k ≠ n := fun e => h (by rw [e])
    rw [State.slice_congr (State.begun_hif s n opc d b), State.slice_setSlice_ne _ _ hn]

theorem State.enabled_begun (s : State) (src : Src) (opc : Nat) (d : Desc) (b : Bus) (n : Nat) : (s.begun src opc d b).enabled n = s.enabled n := by
  have hplain : plainWord (Reg.SLC_CTRL_ENABLE.at n).addr = true := by
    simp only [RF.at, Reg.SLC_CTRL_ENABLE, plainWord_bank]
    decide
  rw [State.enabled, State.flag, State.fget_begun s src opc d b _ hplain (by show 1 ≤ 32; decide)]
  rfl

/-- A ledger point counts in no register but the status of saturated points. -/
theorem State.regGet_led_ne (s : State) (k i : Nat) (c : LedCol) (n : Nat) {w : Nat} (hw : w ≠ Reg.LEA_STATUS_SAT.addr) : (s.led k i c n).regGet w = s.regGet w := by
  simp only [State.led]
  split
  · exact State.regGet_fset_other _ Reg.LEA_STATUS_SAT 1 w (by decide) hw
  · rfl

/-- Counting a descriptor as fetched writes no word outside the slice page, but for the status of saturated points. -/
theorem State.regGet_countFetch_apart (s : State) (n : Nat) {w : Nat} (hw : w / 4096 % 256 ≠ 5) (hsat : w ≠ Reg.LEA_STATUS_SAT.addr) :
    (s.countFetch n).regGet w = s.regGet w := by
  have hne (f : RF) (hf : f.stride = 0x100000 ∧ f.addr / 4096 = 5) : w ≠ (f.at n).addr := by
    obtain ⟨hs, hpage⟩ := hf
    simp only [RF.at, hs]
    omega
  have hstat := hne Reg.SLC_STATUS_QUIESCED (by decide)
  rw [State.countFetch, State.regGet_fset_at (f := Reg.SLC_STATUS_QUIESCED) _ _ _ (by decide) hstat, State.fadd,
    State.regGet_fset_at (f := Reg.SLC_STATUS_INFLIGHT) _ _ _ (by decide) hstat, State.regGet_led_ne _ _ _ _ _ hsat, State.fadd,
    State.regGet_fset_at (f := Reg.SLC_CMDHEAD_COUNT) _ _ _ (by decide) (hne _ (by decide))]

theorem State.regGet_TRC_STATUS_begun (s : State) (src : Src) (opc : Nat) (d : Desc) (b : Bus) :
    (s.begun src opc d b).regGet Reg.TRC_STATUS_OWNED.addr = s.regGet Reg.TRC_STATUS_OWNED.addr := by
  cases src with
  | mgmt => rfl
  | slice n =>
    simp only [State.begun]
    rw [State.regGet_setSlice, State.regGet_countFetch_apart s n (by decide) (by decide)]

/-- Nothing belongs to a slice while a command begins, if nothing did before. -/
theorem State.holdsNothing_begun {s : State} {n : Nat} (h : s.holdsNothing n) (src : Src) (opc : Nat) (d : Desc) (b : Bus) :
    (s.begun src opc d b).holdsNothing n := by
  obtain ⟨hsess, hmodels, hsinks, howned⟩ := h
  refine ⟨by rwa [State.openSess, State.begun_crd], by rwa [State.begun_dst], by rwa [State.begun_tws], ?_⟩
  rw [State.flag, State.fget_congr _ (s.regGet_TRC_STATUS_begun src opc d b) (.inl (by decide))]
  exact howned

theorem State.core_unbinding (s : State) (n : Nat) : (s.unbinding n).core = s.core := by simp [State.unbinding]
theorem State.hif_unbinding (s : State) (n : Nat) : (s.unbinding n).hif = (s.setSlice n { s.slice n with unbind := none, quiescing := false }).hif := by
  simp [State.unbinding]
theorem State.out_unbinding (s : State) (n : Nat) : (s.unbinding n).out = s.out := by simp [State.unbinding]

theorem PlainEq.unbinding {s t : State} (h : PlainEq t s) (k : Nat) : PlainEq (t.unbinding k) (s.unbinding k) := by
  have hset : PlainEq (t.setSlice k { t.slice k with unbind := none, quiescing := false }) (s.setSlice k { s.slice k with unbind := none, quiescing := false }) :=
    fun w hw => (State.regGet_setSlice ..).trans ((h w hw).trans (State.regGet_setSlice ..).symm)
  exact ((hset.fset_at Reg.SLC_PASID_PASID (by decide) k 0).fset_at Reg.SLC_PASID_BOUND (by decide) k 0).fset_at Reg.SLC_QUOTA_QUOTA (by decide) k 0

theorem State.enabled_unbinding (s : State) (k n : Nat) : (s.unbinding k).enabled n = s.enabled n := by
  simp only [State.unbinding, State.enabled, State.flag]
  rw [State.fget_fset_slice (f := Reg.SLC_QUOTA_QUOTA) _ _ (by decide) (by decide) (.inr (by decide)),
    State.fget_fset_slice (f := Reg.SLC_PASID_BOUND) _ _ (by decide) (by decide) (.inr (by decide)),
    State.fget_fset_slice (f := Reg.SLC_PASID_PASID) _ _ (by decide) (by decide) (.inr (by decide)), State.fget_setSlice]

/-- Where the host interface stands when slice `k` was unbound by a command of another port. -/
theorem HifRuns_unbinding {s x : State} {src : Src} {opc k : Nat} {d : Desc} {b : Bus} (h : Takes s src) (hk : src ≠ .slice k) (hwf : Tab.wf s.hif.slices = true)
    (hx : x.hif = ((s.begun src opc d b).unbinding k).hif) (hen : ∀ n, x.enabled n = (s.begun src opc d b).enabled n) : HifRuns s (s.unbinding k) x src opc d b := by
  have hslice : (s.begun src opc d b).slice k = s.slice k := s.slice_begun_ne opc d b hk
  rw [State.hif_unbinding, hslice] at hx
  cases src with
  | slice n =>
    have hn : n ≠ k := fun e => hk (by rw [e])
    have hw : (s.unbinding k).slice n = s.slice n := by
      rw [State.slice_congr (State.hif_unbinding s k), State.slice_setSlice_ne _ _ hn]
    refine ⟨?_, (hen n).trans (State.begun_enabled s n opc d b h.1), by rw [hw]; exact h.2.2⟩
    rw [hx, hw]
    simp only [State.setSlice_hif, State.begun_hif, State.hif_unbinding]
    rw [Tab.set_comm _ _ _ hn hwf]
  | mgmt =>
    refine ⟨?_, ?_⟩
    · rw [hx, State.hif_unbinding]
      rfl
    · rw [State.hif_unbinding]
      exact h.2.1

theorem slcUnbind_ended {s : State} {src : Src} {d : Desc} (b : Bus) (hsrc : src = .slice 0 ∨ src = .mgmt) (ht : Takes s src) (hc : Clean s src d)
    (hlt : d.arg0.toNat < nSlices s.build) (hk : d.arg0.toNat ≠ 0) (hb : s.bound d.arg0.toNat = true) (hoff : s.enabled d.arg0.toNat = false)
    (hwf : Tab.wf s.hif.slices = true) (hun : (s.slice d.arg0.toNat).unbind = none) (hx : (s.slice d.arg0.toNat).empty) (hs : s.holdsNothing d.arg0.toNat) :
    ∃ t, exec (.slcUnbind src d b) s = .next t ∧ Ended s t src 0x92 d stOK 0 d.session.toNat (s.unbinding d.arg0.toNat) := by
  set k := d.arg0.toNat with hkdef
  set r := cmdRun s src 0x92 d b with hr
  set u := s.begun src 0x92 d b with hu
  have hperm : permits .h0m src = true := by rcases hsrc with rfl | rfl <;> rfl
  have hsk : src ≠ .slice k := by
    rcases hsrc with rfl | rfl
    · exact fun e => hk (Src.slice.inj e).symm
    · exact Src.noConfusion
  have hslice : u.slice k = s.slice k := s.slice_begun_ne 0x92 d b hsk
  have hbuild : u.build = s.build := State.begun_build ..
  set u2 := u.setSlice k { u.slice k with unbind := some r } with hu2
  have hx2 : (u2.slice k).empty := by
    rw [hu2, State.slice_setSlice, hslice]
    exact hx
  have hun2 : u2.unbinding k = u.unbinding k := by simp only [hu2, State.unbinding, State.slice_setSlice, State.setSlice_setSlice]
  have hbody : State.slcUnbind u r = ((u.unbinding k).fset (Reg.SLC_STATUS_QUIESCED.at k) 1).complete r stOK 0 d.session.toNat := by
    rw [State.slcUnbind]
    refine (State.checked_pass hc 0x92 b _ _ (decide_eq_true (hbuild ▸ hlt)) rfl rfl rfl rfl).trans ?_
    rw [State.guarded_pass]
    · show ((if u.enabled k then u.disableSlice k else u).setSlice k { (if u.enabled k then u.disableSlice k else u).slice k with unbind := some r }).unbindCheck k = _
      rw [State.enabled_begun, hoff, if_neg Bool.false_ne_true, ← hu2]
      obtain ⟨hrun, hfetch, hcpl, -, -⟩ := id hx2
      have hpend : (u2.slice k).unbind = some r := by rw [hu2, State.slice_setSlice]
      simp only [State.unbindCheck, hpend, hrun, hfetch, hcpl, List.isEmpty_nil, Bool.true_and, Bool.true_or, if_true]
      rw [State.unbindFinish_empty u2 r k hx2 (State.holdsNothing_begun hs src 0x92 d b), hun2]
      rfl
    · show firstFail [(k == 0 || !u.bound k || (u.slice k).unbind.isSome, stSTATE)] = none
      rw [State.bound_begun, hb, hslice, hun, beq_false_of_ne hk]
      rfl
  have hq (w : Nat) (hw : plainWord w = true) : ((u.unbinding k).fset (Reg.SLC_STATUS_QUIESCED.at k) 1).regGet w = (s.unbinding k).regGet w :=
    (State.regGet_QUIESCED _ _ _ _ hw).trans ((PlainEq.begun s src 0x92 d b).unbinding k w hw)
  have hen (n : Nat) : ((u.unbinding k).fset (Reg.SLC_STATUS_QUIESCED.at k) 1).enabled n = u.enabled n := by
    rw [State.enabled, State.flag, State.fget_fset_slice (f := Reg.SLC_STATUS_QUIESCED) _ _ (by decide) (by decide) (.inr (by decide)), ← State.enabled_unbinding u k n,
      State.enabled, State.flag]
  obtain ⟨hbw, hpw⟩ := State.core_buildPending (s.core_unbinding k)
  exact command_ended s _ src 0x92 d b .h0m false State.slcUnbind (s.unbinding k) _ stOK 0 _ ht hperm hbody
    (HifRuns_unbinding ht hsk hwf (State.fset_hif ..) hen) (by rw [State.core_fset, State.core_unbinding, State.core_begun, State.core_unbinding]) hq
    (fun e he => by rw [State.out_unbinding] at he; rw [State.fset_out, State.out_unbinding]; exact State.begun_out _ _ _ _ _ e he) hbw hpw
    (by rw [State.ct_fset]; simp [State.unbinding, hu, State.ct, State.ft])

/-- Settles O17, command by command. -/
theorem slicesAreCommanded : Obligations.SlicesAreCommanded := by
  refine ⟨?_, ?_, ?_⟩
  · intro s d b ht hc hp k hlt hb
    obtain ⟨t, hact, hfield, hend⟩ := slcBind_ended b ht hc hp hlt hb
    obtain ⟨hpasid, hbound, hzero⟩ := (s.begun (.slice 0) 0x90 d b).fget_binding k d.arg1.toNat
    have hz (f : RF) (hf : f ∈ bindFields.drop 2) (hs : SliceField f) : t.fget (f.at k) = 0 := (hfield f hs).trans (hzero f hf)
    have hsmall : d.arg1.toNat % 2 ^ 20 = d.arg1.toNat := by
      have hlt64 := d.arg1.isLt
      simp only [bits] at hp
      omega
    refine ⟨t, hact, ((hfield _ (by decide)).trans hpasid).trans hsmall, ?_, hz _ (by decide) (by decide), hz _ (by decide) (by decide), hz _ (by decide) (by decide),
      hz _ (by decide) (by decide), hz _ (by decide) (by decide), hz _ (by decide) (by decide), hz _ (by decide) (by decide), hend⟩
    rw [State.bound, State.flag_eq ((hfield _ (by decide)).trans hbound)]
    exact Bool.or_true _
  · intro s src d b hsrc ht hc k hlt
    refine ⟨slcResize_ended b hsrc ht hc hlt, fun hk hb hoff hwf => ?_⟩
    intro x hun hrun hfetch hcpl hvq hstalls hsess hmodels hsinks howned
    exact slcUnbind_ended b hsrc ht hc hlt hk hb hoff hwf hun ⟨hrun, hfetch, hcpl, hvq, hstalls⟩ ⟨hsess, hmodels, hsinks, howned⟩
  · intro s src d b ht hc hw hlen
    exact slcQuery_ended ht hc hw hlen

end Sys2Proof.Machine
end

section
/-! SUPPORT. What passes the rings (R190 to R194, R198, R201, R616, R617): descriptors that are fetched, completions and verdict records that are written, and queues that a scrub cuts. -/

namespace Sys2Proof.Machine

open Sys2Proof

/-- No owed effect touches a slice's fields. -/
theorem State.fget_slice_of_side {s t : State} (h : t.side = s.side) {f : RF} (hf : SliceField f) (n : Nat) : t.fget (f.at n) = s.fget (f.at n) :=
  State.fget_of_side h _ (hf.quiet n) (.inl hf.narrow)

/-- What a meaning leaves in a slice and its registers, and what it gave at the boundary, the outcome shows. -/
theorem act_slice {s y : State} (h : y.fixed = s.fixed) (n : Nat) :
    ∃ t, act s y = .next t ∧ t.slice n = y.slice n ∧ (∀ f, SliceField f → t.fget (f.at n) = y.fget (f.at n)) ∧ ∀ e ∈ y.out, e ∈ t.out := by
  obtain ⟨hb, hp⟩ := State.fixed_iff.1 h
  obtain ⟨t, ht, hside, hout⟩ := act_out s y hb hp
  exact ⟨t, ht, State.slice_congr (State.hif_of_side hside) n, fun f hf => State.fget_slice_of_side hside hf n, hout⟩

theorem State.fget_led_slice (s : State) (k i : Nat) (c : LedCol) (v n : Nat) {f : RF} (hf : SliceField f) : (s.led k i c v).fget (f.at n) = s.fget (f.at n) :=
  State.fget_slice_of_side (State.side_led ..) hf n

/-! ### A ring access that fails (R194) -/

/-- A slice that a failed ring access disables, with the access's cause. -/
def State.ringFails (s : State) (n c : Nat) : State := ((s.disableSlice n).ringErr n c).hostProto 4 n

/-- The fields that a failed ring access writes. -/
def ringFields : List RF := disableFields ++ [Reg.SLC_STATUS_RING_ERR, Reg.SLC_STATUS_CAUSE]

theorem Handles.ringFails (s : State) (n c : Nat) : Handles n ringFields s (s.ringFails n c) :=
  (((Handles.refl n _ s).disableSlice (by decide)).ringErr (by decide) c).hostProto 4 n

theorem State.fget_hostProto (s : State) (sub info : Nat) (f : RF) : (s.hostProto sub info).fget f = s.fget f := (rfl)

theorem State.fget_ringFails (s : State) (n c : Nat) :
    (s.ringFails n c).flag (Reg.SLC_CTRL_ENABLE.at n) = false ∧ (s.ringFails n c).fget (Reg.SLC_STATUS_RING_ERR.at n) = 1 ∧
      (s.ringFails n c).fget (Reg.SLC_STATUS_CAUSE.at n) = c % 16 := by
  obtain ⟨herr, hcause⟩ := (s.disableSlice n).fget_ringErr n c
  refine ⟨?_, (State.fget_hostProto ..).trans herr, (State.fget_hostProto ..).trans hcause⟩
  have hkeeps : Handles n [Reg.SLC_STATUS_RING_ERR, Reg.SLC_STATUS_CAUSE] (s.disableSlice n) (s.ringFails n c) :=
    ((Handles.refl n _ _).ringErr (by decide) c).hostProto 4 n
  exact (hkeeps.enabled n (.inr (by decide))).trans (s.enabled_disableSlice n)

theorem State.fetched_ringFails (s : State) (n c : Nat) : ((s.ringFails n c).slice n).fetched = [] := by
  have hslice : (s.ringFails n c).slice n = (s.disableSlice n).slice n :=
    State.slice_congr (by simp [State.ringFails, State.hostProto, State.ringErr]) n
  rw [hslice, State.fetched_disableSlice]

/-! ### Fetching (R190, R194, R198, R201) -/

/-- A block that fetches for a slice is not stopped, and the slice is enabled. -/
theorem State.of_canFetch {s : State} {n : Nat} (h : s.canFetch n = true) : s.stopped = false ∧ s.enabled n = true := by
  simp only [State.canFetch, Bool.and_eq_true, Bool.not_eq_true'] at h
  obtain ⟨⟨⟨⟨⟨-, hs⟩, -⟩, he⟩, -⟩, -⟩ := h
  exact ⟨hs, he⟩

/-- A slice with a descriptor more that it fetched. -/
def State.fetching (s : State) (n : Nat) (opc : BitVec 8) (d : Desc) (b : Bus) : State :=
  (s.countFetch n).setSlice n { s.slice n with
    fetched := (s.slice n).fetched ++ [{ opcode := opc.toNat, d, b, dseq := s.fget (Reg.SLC_CMDHEAD_COUNT.at n) % 65536 }] }

theorem exec_descriptorFetch (n : Nat) (res : FetchRes) (s : State) : exec (.descriptorFetch n res) s = execDescriptorFetch n res s := rfl

theorem descriptorFetch_got {s : State} {n : Nat} (h : s.canFetch n = true) (opc : BitVec 8) (d : Desc) (b : Bus) :
    exec (.descriptorFetch n (.got opc d b)) s = act s ((s.fetching n opc d b).flush n) := by
  rw [exec_descriptorFetch, execDescriptorFetch, h, Bool.not_true, if_neg Bool.false_ne_true]
  rfl

theorem descriptorFetch_failed {s : State} {n : Nat} (h : s.canFetch n = true) : exec (.descriptorFetch n .failed) s = act s (s.ringFails n 7) := by
  rw [exec_descriptorFetch, execDescriptorFetch, h, Bool.not_true, if_neg Bool.false_ne_true]
  rfl

theorem State.fixed_fetching (s : State) (n : Nat) (opc : BitVec 8) (d : Desc) (b : Bus) : (s.fetching n opc d b).fixed = s.fixed :=
  (State.fixed_setSlice ..).trans (State.fixed_iff.2 ⟨by simp, by simp⟩)

theorem State.fget_fetching (s : State) (n : Nat) (opc : BitVec 8) (d : Desc) (b : Bus) :
    (s.fetching n opc d b).fget (Reg.SLC_CMDHEAD_COUNT.at n) = (s.fget (Reg.SLC_CMDHEAD_COUNT.at n) + 1) % 2 ^ 32 ∧
      (s.fetching n opc d b).fget (Reg.SLC_STATUS_INFLIGHT.at n) = (s.fget (Reg.SLC_STATUS_INFLIGHT.at n) + 1) % 65536 := by
  simp only [State.fetching, State.fget_setSlice, State.countFetch, State.fadd]
  refine ⟨?_, ?_⟩
  · rw [State.fget_fset_besides _ _ _ (by decide) (by decide) (by decide), State.fget_fset_besides _ _ _ (by decide) (by decide) (by decide),
      State.fget_led_slice _ _ _ _ _ _ (by decide), State.fget_fset_at _ _ _ _ (by decide)]
    rfl
  · rw [State.fget_fset_besides _ _ _ (by decide) (by decide) (by decide), State.fget_fset_at _ _ _ _ (by decide), State.fget_led_slice _ _ _ _ _ _ (by decide),
      State.fget_fset_besides _ _ _ (by decide) (by decide) (by decide)]
    rfl

/-- Descriptors with assigned codes stay in their places. -/
theorem State.flush_assigned (s : State) (n : Nat) (h : ∀ f ∈ (s.slice n).fetched, assigned f.opcode = true) : s.flush n = s := by
  unfold State.flush
  cases hf : (s.slice n).fetched with
  | nil => rfl
  | cons f rest =>
    have ha : assigned f.opcode = true := h f (hf ▸ List.mem_cons_self ..)
    simp only [List.length_cons, State.flushBad, hf, ha, Bool.not_true, Bool.false_and, Bool.false_eq_true, if_false]

theorem fetch_assigned {s : State} {n : Nat} (h : s.canFetch n = true) (opc : BitVec 8) (d : Desc) (b : Bus) (ha : assigned opc.toNat = true)
    (hall : ∀ f ∈ (s.slice n).fetched, assigned f.opcode = true) :
    ∃ t, exec (.descriptorFetch n (.got opc d b)) s = .next t ∧ t.fget (Reg.SLC_CMDHEAD_COUNT.at n) = (s.fget (Reg.SLC_CMDHEAD_COUNT.at n) + 1) % 2 ^ 32 ∧
      t.fget (Reg.SLC_STATUS_INFLIGHT.at n) = (s.fget (Reg.SLC_STATUS_INFLIGHT.at n) + 1) % 65536 ∧
      t.slice n = { s.slice n with
        fetched := (s.slice n).fetched ++ [{ opcode := opc.toNat, d, b, dseq := s.fget (Reg.SLC_CMDHEAD_COUNT.at n) % 65536 }] } := by
  have hslice : (s.fetching n opc d b).slice n = _ := State.slice_setSlice ..
  have hflush : (s.fetching n opc d b).flush n = s.fetching n opc d b := by
    refine State.flush_assigned _ n fun f hf => ?_
    rw [hslice, List.mem_append, List.mem_singleton] at hf
    rcases hf with hmem | rfl
    · exact hall f hmem
    · exact ha
  obtain ⟨hhead, hinflight⟩ := s.fget_fetching n opc d b
  rw [descriptorFetch_got h, hflush]
  obtain ⟨t, ht, hts, hfield, -⟩ := act_slice (s.fixed_fetching n opc d b) n
  exact ⟨t, ht, (hfield _ (by decide)).trans hhead, (hfield _ (by decide)).trans hinflight, hts.trans hslice⟩

/-- A block that fetches is not stopped, and goes on so. -/
theorem State.stopped_fetching {s : State} {n : Nat} (h : s.canFetch n = true) (opc : BitVec 8) (d : Desc) (b : Bus) : (s.fetching n opc d b).stopped = false := by
  obtain ⟨hs, -⟩ := State.of_canFetch h
  have hword : (s.fetching n opc d b).regGet Reg.SNG_STATUS_STOPPED.addr = s.regGet Reg.SNG_STATUS_STOPPED.addr :=
    (State.regGet_setSlice ..).trans (s.regGet_countFetch_apart n (by decide) (by decide))
  rw [← hs, State.stopped, State.flag, State.fget_congr _ hword (.inl (by decide))]
  rfl

/-- The command of a descriptor that slice `n` fetched. -/
def Fetched.run (f : Fetched) (n : Nat) : Running := { src := .slice n, opcode := f.opcode, dseq := f.dseq, d := f.d, b := f.b }

/-- The completion of a descriptor with an unassigned code. -/
def Fetched.badOpcode (f : Fetched) (ct : Nat) : Cpl :=
  { opcode := f.opcode, status := stBAD_OPCODE, session := f.d.session.toNat, value := 0, dseq := f.dseq, ct, irq := f.d.irq }

/-- The command of the one descriptor that waits, taken off to be rejected. -/
def State.rejecting (s : State) (n : Nat) (f : Fetched) : State := s.setSlice n { s.slice n with fetched := [], running := [f.run n] }

theorem State.flush_unassigned {s : State} {n : Nat} {f : Fetched} (hf : (s.slice n).fetched = [f]) (hr : (s.slice n).running = []) (ha : assigned f.opcode = false)
    (hs : s.stopped = false) : s.flush n = (s.rejecting n f).fail (f.run n) stBAD_OPCODE := by
  have hstart : startable (s.slice n) [] f.d false = true := by simp [startable, hr]
  simp only [State.flush, hf, List.length_singleton, State.flushBad, ha, hstart, hs, hr, Bool.not_false, Bool.and_self, if_true, List.nil_append]
  rfl

theorem State.slice_rejected {s : State} {n : Nat} (f : Fetched) (he : s.enabled n = true) :
    ((s.rejecting n f).fail (f.run n) stBAD_OPCODE).slice n =
      { s.slice n with fetched := [], running := [], cplWait := (s.slice n).cplWait ++ [f.badOpcode s.ct] } := by
  have hslice : (s.rejecting n f).slice n = { s.slice n with fetched := [], running := [f.run n] } := State.slice_setSlice ..
  have hct : (s.rejecting n f).ct = s.ct := by simp [State.rejecting, State.ct, State.ft]
  obtain ⟨hhif, -⟩ := State.complete_hif (s.rejecting n f) (f.run n) n stBAD_OPCODE 0 (f.run n).d.session.toNat rfl (by rw [hslice]) he
  rw [State.fail, State.slice_congr hhif, State.slice_setSlice, hslice, hct]
  rfl

theorem Handles.rejected (s : State) (n : Nat) (f : Fetched) :
    Handles n [Reg.SLC_STATUS_QUIESCED, Reg.SLC_STATUS_INFLIGHT] s ((s.rejecting n f).fail (f.run n) stBAD_OPCODE) := by
  have hset : Handles n [Reg.SLC_STATUS_QUIESCED, Reg.SLC_STATUS_INFLIGHT] s (s.rejecting n f) := (Handles.refl n _ s).setSlice rfl rfl
  exact hset.complete (by decide) rfl _ _ _

theorem fetch_unassigned {s : State} {n : Nat} (h : s.canFetch n = true) (opc : BitVec 8) (d : Desc) (b : Bus) (ha : assigned opc.toNat = false)
    (hf : (s.slice n).fetched = []) (hr : (s.slice n).running = []) :
    ∃ t, exec (.descriptorFetch n (.got opc d b)) s = .next t ∧ t.fget (Reg.SLC_CMDHEAD_COUNT.at n) = (s.fget (Reg.SLC_CMDHEAD_COUNT.at n) + 1) % 2 ^ 32 ∧
      t.slice n = { s.slice n with
        cplWait := (s.slice n).cplWait ++
          [{ opcode := opc.toNat, status := stBAD_OPCODE, session := d.session.toNat, value := 0, dseq := s.fget (Reg.SLC_CMDHEAD_COUNT.at n) % 65536, ct := s.ct,
             irq := d.irq }] } := by
  let f : Fetched := { opcode := opc.toNat, d, b, dseq := s.fget (Reg.SLC_CMDHEAD_COUNT.at n) % 65536 }
  have hslice : (s.fetching n opc d b).slice n = { s.slice n with fetched := [f] } := by
    rw [State.fetching, State.slice_setSlice, hf]
    rfl
  have hrun : ((s.fetching n opc d b).slice n).running = [] := by rw [hslice]; exact hr
  have hen : (s.fetching n opc d b).enabled n = true := by
    rw [State.fetching, State.enabled_setSlice, State.enabled_countFetch]
    exact (State.of_canFetch h).2
  have hct : (s.fetching n opc d b).ct = s.ct := by simp [State.fetching, State.ct, State.ft]
  have hend := Handles.rejected (s.fetching n opc d b) n f
  obtain ⟨hhead, -⟩ := s.fget_fetching n opc d b
  obtain ⟨t, ht, hts, hfield, -⟩ := act_slice (hend.fixed.trans (s.fixed_fetching n opc d b)) n
  rw [descriptorFetch_got h, State.flush_unassigned (by rw [hslice]) hrun ha (State.stopped_fetching h opc d b)]
  refine ⟨t, ht, ((hfield _ (by decide)).trans (hend.field _ _ (by decide) (.inr (by decide)))).trans hhead, hts.trans ?_⟩
  have hself : { s.slice n with fetched := [], running := [] } = s.slice n := by rw [← hf, ← hr]
  rw [State.slice_rejected f hen, hslice, hct]
  exact congrArg (fun x : Slice => { x with cplWait := (s.slice n).cplWait ++ [f.badOpcode s.ct] }) hself

theorem fetch_failed {s : State} {n : Nat} (h : s.canFetch n = true) :
    ∃ t, exec (.descriptorFetch n .failed) s = .next t ∧ t.flag (Reg.SLC_CTRL_ENABLE.at n) = false ∧ (t.slice n).fetched = [] ∧
      t.flag (Reg.SLC_STATUS_RING_ERR.at n) = true ∧ t.fget (Reg.SLC_STATUS_CAUSE.at n) = 7 := by
  obtain ⟨hoff, herr, hcause⟩ := s.fget_ringFails n 7
  rw [descriptorFetch_failed h]
  obtain ⟨t, ht, hts, hfield, -⟩ := act_slice (Handles.ringFails s n 7).fixed n
  refine ⟨t, ht, ?_, by rw [hts, State.fetched_ringFails], State.flag_eq ((hfield _ (by decide)).trans herr), (hfield _ (by decide)).trans hcause⟩
  rw [State.flag, hfield _ (by decide)]
  exact hoff

end Sys2Proof.Machine
end

section
/-! SUPPORT. Writes into the rings (R191 to R194), and the scrub of a queue (R617). -/

namespace Sys2Proof.Machine

open Sys2Proof

/-! ### A write that the meter lets through (R253) -/

/-- The state with another meter. -/
def State.withMeter (s : State) (m : Meter) : State := { s with meter := m }

theorem State.slice_withMeter (s : State) (m : Meter) (n : Nat) : (s.withMeter m).slice n = s.slice n := (rfl)
theorem State.fget_withMeter (s : State) (m : Meter) (f : RF) : (s.withMeter m).fget f = s.fget f := (rfl)
theorem State.enabled_withMeter (s : State) (m : Meter) (n : Nat) : (s.withMeter m).enabled n = s.enabled n := (rfl)

/-- A Hub writes at once, and a Leaf when its meter has the tokens. -/
theorem State.metered_takes {s : State} {k : Nat} (h : s.build.isHub = true ∨ s.meterTakes k = true) :
    ∃ m, ∀ body : State → State, s.metered k body = body (s.withMeter m) := by
  by_cases hhub : s.build.isHub = true
  · exact ⟨s.meter, fun body => by rw [State.metered, if_pos hhub]; rfl⟩
  · exact ⟨(s.meterSpend k).meter, fun body => by rw [State.metered, if_neg hhub, if_pos (h.resolve_left hhub)]; rfl⟩

/-! ### Completions (R191, R192) -/

/-- A completion in its ring entry, and the tail after it. -/
def State.completing (s : State) (n : Nat) (c : Cpl) (rest : List Cpl) : State :=
  let tail := s.fget (Reg.SLC_CPLTAIL_COUNT.at n)
  let w := cplWords tail (1 - tail / s.cplSize n % 2) c
  let at_ := BitVec.ofNat 64 (s.fget (Reg.SLC_CPLBASE_BASE.at n) + 16 * (tail % s.cplSize n))
  (((s.emit (.dma n at_ (wordsBytes [w.1, w.2]))).setSlice n { s.slice n with cplWait := rest }).fadd (Reg.SLC_CPLTAIL_COUNT.at n) 1).led 0xD n .out 1

/-- The interrupt that a completion may ask for. -/
def State.cplIrq (s : State) (n : Nat) (c : Cpl) : State := if c.irq then s.irq (2 * n) (2 * n) else s

theorem State.side_cplIrq (s : State) (n : Nat) (c : Cpl) : (s.cplIrq n c).side = s.side := by
  unfold State.cplIrq
  split
  · exact State.side_irq ..
  · rfl

theorem State.out_cplIrq {s : State} {e : Emission} (h : e ∈ s.out) (n : Nat) (c : Cpl) : e ∈ (s.cplIrq n c).out := by
  unfold State.cplIrq State.irq
  repeat' split
  iterate 2 exact List.mem_cons_of_mem _ h
  all_goals exact h

theorem Handles.emit {n : Nat} {l : List RF} {s t : State} (h : Handles n l s t) (e : Emission) : Handles n l s (t.emit e) := h.side (State.side_emit ..)

theorem Handles.completing (s : State) (n : Nat) (c : Cpl) (rest : List Cpl) : Handles n [Reg.SLC_CPLTAIL_COUNT] s (s.completing n c rest) := by
  simp only [State.completing]
  refine (Handles.fset (Handles.setSlice ((Handles.refl n _ s).emit _) ?_ ?_) (by decide) _).led .. <;> rfl

theorem State.slice_completing (s : State) (n : Nat) (c : Cpl) (rest : List Cpl) : (s.completing n c rest).slice n = { s.slice n with cplWait := rest } :=
  (State.slice_congr (s := s.setSlice n { s.slice n with cplWait := rest }) (by simp [State.completing, State.fadd]) n).trans (State.slice_setSlice ..)

theorem State.fget_completing (s : State) (n : Nat) (c : Cpl) (rest : List Cpl) :
    (s.completing n c rest).fget (Reg.SLC_CPLTAIL_COUNT.at n) = (s.fget (Reg.SLC_CPLTAIL_COUNT.at n) + 1) % 2 ^ 32 := by
  rw [State.completing, State.fget_led_slice _ _ _ _ _ _ (by decide), State.fadd, State.fget_fset_at _ _ _ _ (by decide)]
  rfl

theorem State.out_completing (s : State) (n : Nat) (c : Cpl) (rest : List Cpl) :
    let tail := s.fget (Reg.SLC_CPLTAIL_COUNT.at n)
    let w := cplWords tail (1 - tail / s.cplSize n % 2) c
    .dma n (BitVec.ofNat 64 (s.fget (Reg.SLC_CPLBASE_BASE.at n) + 16 * (tail % s.cplSize n))) (wordsBytes [w.1, w.2]) ∈ (s.completing n c rest).out := by
  intro tail w
  refine State.out_led _ _ _ _ ?_
  rw [State.fadd, State.fset_out]
  exact List.mem_cons_self ..

/-- A completion that waits goes to the ring when the slice runs, its ring has room, and the meter lets it through. -/
theorem State.writeCompletion_takes {s : State} {n : Nat} {c : Cpl} {rest : List Cpl} (hc : (s.slice n).cplWait = c :: rest) (hlt : n < nSlices s.build)
    (he : s.enabled n = true) (hroom : s.cplOcc n < s.cplSize n) (hm : s.build.isHub = true ∨ s.meterTakes 16 = true) :
    ∃ m, ∀ ok, s.writeCompletion n ok =
      if !ok then
        ((((s.withMeter m).ringFails n 4).setSlice n { ((s.withMeter m).ringFails n 4).slice n with quiescing := false }).checkQuiesced n).unbindCheck n
      else (((((s.withMeter m).completing n c rest).cplIrq n c).checkQuiesced n).flush n).unbindCheck n := by
  obtain ⟨m, hbody⟩ := State.metered_takes hm
  refine ⟨m, fun ok => ?_⟩
  have hgo : ¬ (nSlices s.build ≤ n ∨ (!(s.enabled n || (s.slice n).quiescing)) = true ∨ s.cplSize n ≤ s.cplOcc n) := by
    rw [he]
    simp
    omega
  simp only [State.writeCompletion, hc]
  rw [if_neg hgo, hbody]
  simp only [State.completing, State.cplIrq, State.ringFails, State.slice_withMeter, State.enabled_withMeter, he, if_true]

theorem completionWrite_ok {s : State} {n : Nat} {c : Cpl} {rest : List Cpl} (hc : (s.slice n).cplWait = c :: rest) (hlt : n < nSlices s.build)
    (he : s.enabled n = true) (hroom : s.cplOcc n < s.cplSize n) (hm : s.build.isHub = true ∨ s.meterTakes 16 = true) (hun : (s.slice n).unbind = none)
    (ha : ∀ f ∈ (s.slice n).fetched, assigned f.opcode = true) :
    ∃ t, exec (.completionWrite n true) s = .next t ∧ t.slice n = { s.slice n with cplWait := rest } ∧
      t.fget (Reg.SLC_CPLTAIL_COUNT.at n) = (s.fget (Reg.SLC_CPLTAIL_COUNT.at n) + 1) % 2 ^ 32 ∧
      (let tail := s.fget (Reg.SLC_CPLTAIL_COUNT.at n)
       let w := cplWords tail (1 - tail / s.cplSize n % 2) c
       .dma n (BitVec.ofNat 64 (s.fget (Reg.SLC_CPLBASE_BASE.at n) + 16 * (tail % s.cplSize n))) (wordsBytes [w.1, w.2]) ∈ t.out) := by
  obtain ⟨m, hwrite⟩ := State.writeCompletion_takes hc hlt he hroom hm
  set u := s.withMeter m with hu
  have hall : Handles n [Reg.SLC_CPLTAIL_COUNT] u ((u.completing n c rest).cplIrq n c) := (Handles.completing u n c rest).side (State.side_cplIrq ..)
  have hslice : ((u.completing n c rest).cplIrq n c).slice n = { s.slice n with cplWait := rest } :=
    (State.slice_congr (State.hif_of_side (State.side_cplIrq ..)) n).trans (u.slice_completing n c rest)
  have hen : ((u.completing n c rest).cplIrq n c).enabled n = true := (hall.enabled n (.inr (by decide))).trans he
  have hflush : ((u.completing n c rest).cplIrq n c).flush n = (u.completing n c rest).cplIrq n c := State.flush_assigned _ n (by rw [hslice]; exact ha)
  have hbody : s.writeCompletion n true = (u.completing n c rest).cplIrq n c := by
    rw [hwrite true, Bool.not_true, if_neg Bool.false_ne_true, State.checkQuiesced_enabled _ _ hen, hflush, State.unbindCheck_none _ _ (hall.unbind.trans hun)]
  have htail : ((u.completing n c rest).cplIrq n c).fget (Reg.SLC_CPLTAIL_COUNT.at n) = (s.fget (Reg.SLC_CPLTAIL_COUNT.at n) + 1) % 2 ^ 32 :=
    (State.fget_slice_of_side (State.side_cplIrq ..) (by decide) n).trans (u.fget_completing n c rest)
  obtain ⟨t, ht, hts, hfield, hout⟩ := act_slice (s := s) hall.fixed n
  exact ⟨t, (congrArg (act s) hbody).trans ht, hts.trans hslice, (hfield _ (by decide)).trans htail, hout _ (State.out_cplIrq (u.out_completing n c rest) n c)⟩

theorem completionWrite_fails {s : State} {n : Nat} {c : Cpl} {rest : List Cpl} (hc : (s.slice n).cplWait = c :: rest) (hlt : n < nSlices s.build)
    (he : s.enabled n = true) (hroom : s.cplOcc n < s.cplSize n) (hm : s.build.isHub = true ∨ s.meterTakes 16 = true) (hun : (s.slice n).unbind = none) :
    ∃ t, exec (.completionWrite n false) s = .next t ∧ t.flag (Reg.SLC_CTRL_ENABLE.at n) = false ∧ t.flag (Reg.SLC_STATUS_RING_ERR.at n) = true ∧
      t.fget (Reg.SLC_STATUS_CAUSE.at n) = 4 ∧ t.fget (Reg.SLC_CPLTAIL_COUNT.at n) = s.fget (Reg.SLC_CPLTAIL_COUNT.at n) := by
  obtain ⟨m, hwrite⟩ := State.writeCompletion_takes hc hlt he hroom hm
  set u := s.withMeter m with hu
  set v := u.ringFails n 4 with hv
  set y := (v.setSlice n { v.slice n with quiescing := false }).checkQuiesced n with hy
  have hquiet : Handles n [Reg.SLC_STATUS_QUIESCED] v y := by
    refine Handles.checkQuiesced (Handles.setSlice (Handles.refl n _ v) ?_ ?_) (by decide) <;> rfl
  have hall : Handles n ringFields u y := (Handles.ringFails u n 4).trans (hquiet.mono (by decide))
  have hbody : s.writeCompletion n false = y := by
    rw [hwrite false, Bool.not_false, if_pos rfl, State.unbindCheck_none _ _ (hall.unbind.trans hun)]
  obtain ⟨hoff, herr, hcause⟩ := u.fget_ringFails n 4
  obtain ⟨t, ht, -, hfield, -⟩ := act_slice (s := s) hall.fixed n
  have hkeeps (f : RF) (hf : SliceField f) (hb : ∀ g ∈ [Reg.SLC_STATUS_QUIESCED], beside g f = true) : t.fget (f.at n) = v.fget (f.at n) :=
    (hfield f hf).trans (hquiet.field f n hf (.inr hb))
  refine ⟨t, (congrArg (act s) hbody).trans ht, ?_, State.flag_eq ((hkeeps _ (by decide) (by decide)).trans herr), (hkeeps _ (by decide) (by decide)).trans hcause,
    (hfield _ (by decide)).trans (hall.field _ n (by decide) (.inr (by decide)))⟩
  rw [State.flag, hkeeps _ (by decide) (by decide)]
  exact hoff

/-! ### Verdict records (R191, R193, R616) -/

/-- A verdict record in its ring entry, the tail after it, and the mirror. -/
def State.recording (s : State) (n : Nat) (r : Rec) (rest : List Rec) : State :=
  let tail := s.fget (Reg.SLC_VRDTAIL_COUNT.at n)
  let at_ := BitVec.ofNat 64 (s.fget (Reg.SLC_VRDBASE_BASE.at n) + 32 * (tail % s.vrdSize n))
  ((((s.emit (.dma n at_ (wordsBytes (recWords r)))).setSlice n { s.slice n with vq := rest }).fadd (Reg.SLC_VRDTAIL_COUNT.at n) 1).led 0xD n .out 1).led 5 n .out 1

/-- The mirror of the verdict tail. -/
def State.mirroring (s : State) (n : Nat) : State :=
  s.emit (.dma n (BitVec.ofNat 64 (s.fget (Reg.SLC_VRDMIR_ADDR.at n))) (toBytes 8 (s.fget (Reg.SLC_VRDTAIL_COUNT.at n))))

theorem State.slice_recording (s : State) (n : Nat) (r : Rec) (rest : List Rec) : (s.recording n r rest).slice n = { s.slice n with vq := rest } :=
  (State.slice_congr (s := s.setSlice n { s.slice n with vq := rest }) (by simp [State.recording, State.fadd]) n).trans (State.slice_setSlice ..)

theorem State.fixed_recording (s : State) (n : Nat) (r : Rec) (rest : List Rec) : (s.recording n r rest).fixed = s.fixed := by simp [State.recording]

theorem State.fget_VRDTAIL_recording (s : State) (n : Nat) (r : Rec) (rest : List Rec) :
    (s.recording n r rest).fget (Reg.SLC_VRDTAIL_COUNT.at n) = (s.fget (Reg.SLC_VRDTAIL_COUNT.at n) + 1) % 2 ^ 32 := by
  rw [State.recording, State.fget_led_slice _ _ _ _ _ _ (by decide), State.fget_led_slice _ _ _ _ _ _ (by decide), State.fadd, State.fget_fset_at _ _ _ _ (by decide)]
  rfl

/-- Writing a record to the ring leaves every quiet word but the verdict tail. -/
theorem State.regGet_recording_ne (s : State) (n : Nat) (r : Rec) (rest : List Rec) {w : Nat} (hq : quietWord w = true) (hw : w ≠ (Reg.SLC_VRDTAIL_COUNT.at n).addr) :
    (s.recording n r rest).regGet w = s.regGet w := by
  rw [State.recording, State.regGet_led_quiet _ _ _ _ _ hq, State.regGet_led_quiet _ _ _ _ _ hq, State.fadd, State.regGet_fset_at _ _ _ (by decide) hw,
    State.regGet_setSlice, State.regGet_emit]

/-- Both halves of the mirror's address are quiet words beside the verdict tail. -/
theorem VRDMIR_words (n : Nat) {j : Nat} (hj : j = 0 ∨ j = 4) :
    quietWord ((Reg.SLC_VRDMIR_ADDR.at n).addr + j) = true ∧ (Reg.SLC_VRDMIR_ADDR.at n).addr + j ≠ (Reg.SLC_VRDTAIL_COUNT.at n).addr := by
  have ha : (Reg.SLC_VRDMIR_ADDR.at n).addr + j = 0x5038 + j + n * 0x100000 := by
    simp only [RF.at, Reg.SLC_VRDMIR_ADDR]
    omega
  have ht : (Reg.SLC_VRDTAIL_COUNT.at n).addr = 0x5058 + n * 0x100000 := rfl
  rw [ha, ht, quietWord_bank]
  rcases hj with rfl | rfl
  · exact ⟨by decide, by omega⟩
  · exact ⟨by decide, by omega⟩

theorem State.fget_VRDMIR_recording (s : State) (n : Nat) (r : Rec) (rest : List Rec) :
    (s.recording n r rest).fget (Reg.SLC_VRDMIR_ADDR.at n) = s.fget (Reg.SLC_VRDMIR_ADDR.at n) := by
  obtain ⟨hq, hne⟩ := VRDMIR_words n (j := 0) (.inl rfl)
  obtain ⟨hq4, hne4⟩ := VRDMIR_words n (j := 4) (.inr rfl)
  rw [Nat.add_zero] at hq hne
  have hlow := s.regGet_recording_ne n r rest hq hne
  have hhigh := s.regGet_recording_ne n r rest hq4 hne4
  exact State.fget_congr _ hlow (.inr hhigh)

theorem State.out_recording (s : State) (n : Nat) (r : Rec) (rest : List Rec) :
    .dma n (BitVec.ofNat 64 (s.fget (Reg.SLC_VRDBASE_BASE.at n) + 32 * (s.fget (Reg.SLC_VRDTAIL_COUNT.at n) % s.vrdSize n))) (wordsBytes (recWords r)) ∈
      (s.recording n r rest).out := by
  rw [State.recording]
  refine State.out_led _ _ _ _ (State.out_led _ _ _ _ ?_)
  rw [State.fadd, State.fset_out]
  exact List.mem_cons_self ..

theorem State.fixed_mirroring (s : State) (n : Nat) : (s.mirroring n).fixed = s.fixed := State.fixed_emit ..
theorem State.slice_mirroring (s : State) (n m : Nat) : (s.mirroring n).slice m = s.slice m := State.slice_congr (State.emit_hif ..) m
theorem State.fget_mirroring (s : State) (n : Nat) (f : RF) : (s.mirroring n).fget f = s.fget f := (rfl)
theorem State.out_mirroring {s : State} {e : Emission} (h : e ∈ s.out) (n : Nat) : e ∈ (s.mirroring n).out := List.mem_cons_of_mem _ h
theorem State.mirror_mem (s : State) (n : Nat) :
    .dma n (BitVec.ofNat 64 (s.fget (Reg.SLC_VRDMIR_ADDR.at n))) (toBytes 8 (s.fget (Reg.SLC_VRDTAIL_COUNT.at n))) ∈ (s.mirroring n).out := List.mem_cons_self ..

/-- The ring is the destination of a slice's records, the slice is enabled, and the ring has room. -/
def State.records (s : State) (n : Nat) : Prop :=
  n < nSlices s.build ∧ s.flag (Reg.SLC_CTRL_VDEST.at n) = false ∧ s.enabled n = true ∧ s.vrdOcc n < s.vrdSize n

theorem State.records_go {s : State} {n : Nat} (h : s.records n) :
    ¬ (nSlices s.build ≤ n ∨ s.flag (Reg.SLC_CTRL_VDEST.at n) = true ∨ (!s.enabled n) = true ∨ s.vrdSize n ≤ s.vrdOcc n) := by
  obtain ⟨hlt, hd, he, hroom⟩ := h
  rw [he, hd]
  simp
  omega

/-- The oldest record goes to the ring when the meter lets it through. -/
theorem State.writeVerdict_takes {s : State} {n : Nat} {r : Rec} {rest : List Rec} (hr : (s.slice n).vq = r :: rest) (h : s.records n)
    (hm : s.build.isHub = true ∨ s.meterTakes 40 = true) :
    ∃ m, ∀ ok mirrorOk, s.writeVerdict n ok mirrorOk false =
      if !ok then (s.withMeter m).ringFails n 5
      else if mirrorOk then ((s.withMeter m).recording n r rest).mirroring n else ((s.withMeter m).recording n r rest).ringFails n 5 := by
  obtain ⟨m, hbody⟩ := State.metered_takes hm
  refine ⟨m, fun ok mirrorOk => ?_⟩
  simp only [State.writeVerdict, hr]
  rw [if_neg (State.records_go h), if_neg Bool.false_ne_true, hbody]
  simp only [State.verdictFail, State.ringFails, State.mirroring, State.recording, State.slice_withMeter]

/-- A record that fails its parity check is dropped, whatever the port would do. -/
theorem State.writeVerdict_bad {s : State} {n : Nat} {r : Rec} {rest : List Rec} (hr : (s.slice n).vq = r :: rest) (h : s.records n) (ok mirrorOk : Bool) :
    s.writeVerdict n ok mirrorOk true = ((s.setSlice n { s.slice n with vq := rest }).ledDrop 5 n rsnPOISON 1).badCell n := by
  simp only [State.writeVerdict, hr]
  rw [if_neg (State.records_go h), if_pos trivial]

theorem verdictRecordWrite_ok {s : State} {n : Nat} {r : Rec} {rest : List Rec} (hr : (s.slice n).vq = r :: rest) (h : s.records n)
    (hm : s.build.isHub = true ∨ s.meterTakes 40 = true) :
    ∃ t, exec (.verdictRecordWrite n true true false) s = .next t ∧ t.slice n = { s.slice n with vq := rest } ∧
      t.fget (Reg.SLC_VRDTAIL_COUNT.at n) = (s.fget (Reg.SLC_VRDTAIL_COUNT.at n) + 1) % 2 ^ 32 ∧
      .dma n (BitVec.ofNat 64 (s.fget (Reg.SLC_VRDBASE_BASE.at n) + 32 * (s.fget (Reg.SLC_VRDTAIL_COUNT.at n) % s.vrdSize n))) (wordsBytes (recWords r)) ∈ t.out ∧
      .dma n (BitVec.ofNat 64 (s.fget (Reg.SLC_VRDMIR_ADDR.at n))) (toBytes 8 ((s.fget (Reg.SLC_VRDTAIL_COUNT.at n) + 1) % 2 ^ 32)) ∈ t.out := by
  obtain ⟨m, hbody⟩ := State.writeVerdict_takes hr h hm
  set u := s.withMeter m with hu
  have hwrite : s.writeVerdict n true true false = (u.recording n r rest).mirroring n := by
    rw [hbody, Bool.not_true, if_neg Bool.false_ne_true, if_pos rfl]
  obtain ⟨t, ht, hts, hfield, hout⟩ := act_slice (s := s) ((u.recording n r rest).fixed_mirroring n |>.trans (u.fixed_recording n r rest)) n
  have hrecord := hout _ (State.out_mirroring (u.out_recording n r rest) n)
  have hmirror := hout _ ((u.recording n r rest).mirror_mem n)
  rw [State.fget_VRDMIR_recording, State.fget_VRDTAIL_recording] at hmirror
  refine ⟨t, (congrArg (act s) hwrite).trans ht, ?_, ?_, hrecord, hmirror⟩
  · rw [hts, State.slice_mirroring, State.slice_recording, hu, State.slice_withMeter]
  · rw [hfield _ (by decide), State.fget_mirroring, State.fget_VRDTAIL_recording, hu, State.fget_withMeter]

theorem verdictRecordWrite_fails {s : State} {n : Nat} {r : Rec} {rest : List Rec} (hr : (s.slice n).vq = r :: rest) (h : s.records n)
    (hm : s.build.isHub = true ∨ s.meterTakes 40 = true) (mirrorOk : Bool) :
    ∃ t, exec (.verdictRecordWrite n false mirrorOk false) s = .next t ∧ t.flag (Reg.SLC_CTRL_ENABLE.at n) = false ∧ (t.slice n).vq = (s.slice n).vq ∧
      t.flag (Reg.SLC_STATUS_RING_ERR.at n) = true ∧ t.fget (Reg.SLC_STATUS_CAUSE.at n) = 5 := by
  obtain ⟨m, hbody⟩ := State.writeVerdict_takes hr h hm
  set u := s.withMeter m with hu
  have hwrite : s.writeVerdict n false mirrorOk false = u.ringFails n 5 := by
    rw [hbody, Bool.not_false, if_pos rfl]
  obtain ⟨hoff, herr, hcause⟩ := u.fget_ringFails n 5
  obtain ⟨t, ht, hts, hfield, -⟩ := act_slice (s := s) (Handles.ringFails u n 5).fixed n
  refine ⟨t, (congrArg (act s) hwrite).trans ht, ?_, by rw [hts]; exact (Handles.ringFails u n 5).vq, State.flag_eq ((hfield _ (by decide)).trans herr),
    (hfield _ (by decide)).trans hcause⟩
  rw [State.flag, hfield _ (by decide)]
  exact hoff

theorem State.side_badCell (s : State) (q : Nat) : (s.badCell q).side = s.side := by
  simp only [State.badCell, State.side_raise, State.bump, State.fadd, State.side_fset_BOB_ERR_PARITY]
  rfl

/-- A record that fails its parity check is dropped: the ring is left as it is. -/
theorem verdictRecordWrite_bad {s : State} {n : Nat} {r : Rec} {rest : List Rec} (hr : (s.slice n).vq = r :: rest) (h : s.records n) (ok mirrorOk : Bool) :
    ∃ t, exec (.verdictRecordWrite n ok mirrorOk true) s = .next t ∧ t.slice n = { s.slice n with vq := rest } ∧
      t.fget (Reg.SLC_VRDTAIL_COUNT.at n) = s.fget (Reg.SLC_VRDTAIL_COUNT.at n) := by
  set y := s.setSlice n { s.slice n with vq := rest } with hy
  have hside : ((y.ledDrop 5 n rsnPOISON 1).badCell n).side = y.side := by rw [State.side_badCell, State.side_ledDrop]
  obtain ⟨t, ht, hts, hfield, -⟩ := act_slice (s := s) ((State.fixed_of_side hside).trans (State.fixed_setSlice ..)) n
  exact ⟨t, (congrArg (act s) (State.writeVerdict_bad hr h ok mirrorOk)).trans ht, hts.trans ((State.slice_congr (State.hif_of_side hside) n).trans (State.slice_setSlice ..)),
    (hfield _ (by decide)).trans (State.fget_slice_of_side hside (by decide) n)⟩

end Sys2Proof.Machine
end

section
/-! SUPPORT. The scrub of a queue (R617), and the rings' statement (R190 to R194, R616, R617). -/

namespace Sys2Proof.Machine

open Sys2Proof

/-! ### The scrub -/

theorem State.side_retryStalled (fuel : Nat) (s : State) (p : Nat) : (State.retryStalled fuel s p).side = s.side := by
  induction fuel generalizing s with
  | zero => rfl
  | succ k ih =>
    simp only [State.retryStalled]
    repeat' split
    · rfl
    · rw [ih, State.side_enqueue, State.side_modPort]
    · rfl

theorem State.side_lostCells (s : State) (q n : Nat) : (s.lostCells q n).side = s.side := by
  unfold State.lostCells
  split
  · rfl
  · exact State.side_ledDrop ..

/-- The state that a scrub finds its broken queues in: the error and the scrub counted, and STORE raised. -/
def State.scrubbing (s : State) : State := ((s.bump Reg.BOB_ERR_PARITY).bump Reg.BOB_ERR_SCRUBS).raise fSTORE 1 (s.unit 0xE) 0

theorem State.side_fset_BOB_ERR_SCRUBS (s : State) (v : Nat) : (s.fset Reg.BOB_ERR_SCRUBS v).side = s.side :=
  State.fset_side _ _ _ (by decide) (by decide)

/-- Neither the counters of a scrub nor what it raises is of the parts that no owed effect touches. -/
theorem State.side_scrubbing (s : State) : s.scrubbing.side = s.side := by
  rw [State.scrubbing, State.side_raise, State.bump, State.fadd, State.side_fset_BOB_ERR_SCRUBS, State.bump, State.fadd, State.side_fset_BOB_ERR_PARITY]

/-- What a scrub of one broken queue leaves in every part that no owed effect touches. -/
theorem scrubDone_side (s : State) (q k : Nat) (h : (s.scrubbing.cutQueue q k).fixed = s.fixed) :
    ∃ t, exec (.scrubDone [(q, k)]) s = .next t ∧ t.side = (s.scrubbing.cutQueue q k).side := by
  set u := s.scrubbing.cutQueue q k with hu
  have hside : (ports.foldl (fun s p => s.retryStalled (s.port p).stalled.length p) u).side = u.side :=
    foldl_invariant State.side ports (fun s p => s.retryStalled (s.port p).stalled.length p) u fun _ _ _ => State.side_retryStalled ..
  obtain ⟨hb, hp⟩ := State.fixed_iff.1 ((State.fixed_of_side hside).trans h)
  obtain ⟨t, ht, hts⟩ := act_side s _ hb hp
  exact ⟨t, ht, hts.trans hside⟩

/-- A slice's verdict queue keeps what stands before the broken link, and its ring is left as it is. -/
theorem scrubDone_slice {s : State} {n : Nat} (k : Nat) (hlt : n < nSlices s.build) (hd : s.flag (Reg.SLC_CTRL_VDEST.at n) = false) :
    ∃ t, exec (.scrubDone [(n, k)]) s = .next t ∧ t.slice n = { s.slice n with vq := (s.slice n).vq.take k } := by
  have hn : n < 64 := by
    have hmax : nSlices s.build ≤ 64 := by cases s.build <;> decide
    omega
  have hx : s.scrubbing.slice n = s.slice n := State.slice_congr (State.hif_of_side s.side_scrubbing) n
  have hdest : s.scrubbing.flag (Reg.SLC_CTRL_VDEST.at n) = false := by
    rw [State.flag, State.fget_slice_of_side s.side_scrubbing (by decide)]
    exact hd
  have hcut : (s.scrubbing.cutQueue n k).side = (s.scrubbing.setSlice n { s.slice n with vq := (s.slice n).vq.take k }).side := by
    simp only [State.cutQueue]
    rw [if_pos hn, hdest, if_neg Bool.false_ne_true, State.side_lostCells, hx]
  obtain ⟨t, ht, hts⟩ := scrubDone_side s n k (by rw [State.fixed_of_side hcut, State.fixed_setSlice, State.fixed_of_side s.side_scrubbing])
  exact ⟨t, ht, (State.slice_congr (State.hif_of_side (hts.trans hcut)) n).trans (State.slice_setSlice ..)⟩

/-- The state with other results that wait in the queue of the self-tests, and with other tag records. -/
def State.withResults (s : State) (l : List Rec) : State := { s with stp := { s.stp with results := l } }
def State.withTags (s : State) (l : List Rec) : State := { s with reel := { s.reel with tags := l } }
theorem State.fixed_withResults (s : State) (l : List Rec) : (s.withResults l).fixed = s.fixed := (rfl)
theorem State.fixed_withTags (s : State) (l : List Rec) : (s.withTags l).fixed = s.fixed := (rfl)

theorem scrubDone_results (s : State) (k : Nat) :
    ∃ t, exec (.scrubDone [(65, k)]) s = .next t ∧ t.stp = { s.stp with results := s.stp.results.take k } := by
  have hstp : s.scrubbing.stp = s.stp := State.stp_of_side s.side_scrubbing
  have hcut : (s.scrubbing.cutQueue 65 k).side = (s.scrubbing.withResults (s.scrubbing.stp.results.take k)).side := by
    simp only [State.cutQueue]
    rw [if_neg (by decide), if_neg (by decide), if_pos trivial, State.side_lostCells]
    rfl
  obtain ⟨t, ht, hts⟩ := scrubDone_side s 65 k ((State.fixed_of_side hcut).trans ((State.fixed_withResults ..).trans (State.fixed_of_side s.side_scrubbing)))
  refine ⟨t, ht, (State.stp_of_side (hts.trans hcut)).trans ?_⟩
  rw [State.withResults, hstp]

theorem scrubDone_tags (s : State) (k : Nat) : ∃ t, exec (.scrubDone [(66, k)]) s = .next t ∧ t.reel = { s.reel with tags := s.reel.tags.take k } := by
  have hreel : s.scrubbing.reel = s.reel := State.reel_of_side s.side_scrubbing
  have hcut : (s.scrubbing.cutQueue 66 k).side = (s.scrubbing.withTags (s.scrubbing.reel.tags.take k)).side := by
    simp only [State.cutQueue]
    rw [if_neg (by decide), if_neg (by decide), if_neg (by decide), if_pos trivial, State.side_lostCells]
    rfl
  obtain ⟨t, ht, hts⟩ := scrubDone_side s 66 k ((State.fixed_of_side hcut).trans ((State.fixed_withTags ..).trans (State.fixed_of_side s.side_scrubbing)))
  refine ⟨t, ht, (State.reel_of_side (hts.trans hcut)).trans ?_⟩
  rw [State.withTags, hreel]

/-- Settles O51: what is fetched, what is written, and what a scrub cuts, each by its own lemma. -/
theorem ringsAreServed : Obligations.RingsAreServed := by
  intro s n x
  refine ⟨fun h => ?_, ?_, ?_, fun k => ⟨scrubDone_slice k, scrubDone_results s k, scrubDone_tags s k⟩⟩
  · exact ⟨fun opc d b ha hall => fetch_assigned h opc d b ha hall, fun opc d b ha hf hr => fetch_unassigned h opc d b ha hf hr, fetch_failed h⟩
  · intro c rest hc hlt he hroom hm hun tail size
    exact ⟨completionWrite_ok hc hlt he hroom hm hun, completionWrite_fails hc hlt he hroom hm hun⟩
  · intro r rest hr hlt hd he hroom tail
    have hgo : s.records n := ⟨hlt, hd, he, hroom⟩
    exact ⟨fun hm => ⟨verdictRecordWrite_ok hr hgo hm, verdictRecordWrite_fails hr hgo hm⟩, verdictRecordWrite_bad hr hgo⟩

end Sys2Proof.Machine
end

section
/-! SUPPORT. What the commands of the Reel change (R226, R228, R249, R250): a command's body follows its effect, from the state in which the body begins. -/

namespace Sys2Proof.Machine

open Sys2Proof

/-! ### A body that follows an effect -/

/-- `x` is to the state in which a command of slice `n` begins what `w` is to `s`: the body changed what the effect changes, and the handling of descriptors stayed. -/
structure Follows (s : State) (n opc : Nat) (d : Desc) (b : Bus) (w x : State) : Prop where
  hifOf : w.hif = s.hif
  hif : x.hif = (s.begun (.slice n) opc d b).hif
  fixedOf : w.fixed = s.fixed
  enabledOf : w.enabled n = s.enabled n
  core : x.core = w.core
  plain : PlainEq x w
  out : ∀ e ∈ w.out, e ∈ x.out
  ctOf : x.ct = s.ct

theorem Follows.begun (s : State) (n opc : Nat) (d : Desc) (b : Bus) : Follows s n opc d b s (s.begun (.slice n) opc d b) where
  hifOf := rfl
  hif := rfl
  fixedOf := rfl
  enabledOf := rfl
  core := State.core_begun ..
  plain := PlainEq.begun s _ opc d b
  out _ := State.begun_out _ _ _ _ _ _
  ctOf := State.ct_begun ..

/-- The state with another Reel. -/
def State.withReel (s : State) (r : Reel) : State := { s with reel := r }

section Follows
variable {s w x : State} {n opc : Nat} {d : Desc} {b : Bus} (h : Follows s n opc d b w x)
include h

theorem Follows.withReel (r : Reel) : Follows s n opc d b (w.withReel r) (x.withReel r) :=
  ⟨h.hifOf, h.hif, h.fixedOf, h.enabledOf, congrArg (fun c => State.withReel c r) h.core, h.plain, h.out, h.ctOf⟩

theorem Follows.emit (e : Emission) : Follows s n opc d b (w.emit e) (x.emit e) :=
  ⟨h.hifOf, h.hif, h.fixedOf, h.enabledOf, (State.core_emit ..).trans (h.core.trans (State.core_emit ..).symm), h.plain,
    fun _ he => (List.mem_cons.1 he).elim (fun heq => heq ▸ List.mem_cons_self ..) fun hmem => List.mem_cons_of_mem _ (h.out _ hmem), h.ctOf⟩

/-- A field of a word below the slices' enables, or in another page. -/
theorem Follows.fset {f : RF} (hf : f.lo + f.w ≤ 32) (hne : ∀ m, (Reg.SLC_CTRL_ENABLE.at m).addr ≠ f.addr) (v : Nat) :
    Follows s n opc d b (w.fset f v) (x.fset f v) where
  hifOf := (State.fset_hif ..).trans h.hifOf
  hif := (State.fset_hif ..).trans h.hif
  fixedOf := (State.fixed_fset ..).trans h.fixedOf
  enabledOf := (State.enabled_fset w f v n hf (hne n)).trans h.enabledOf
  core := by rw [State.core_fset, State.core_fset, h.core]
  plain := h.plain.fset f v hf
  out e he := by rw [State.fset_out] at he ⊢; exact h.out e he
  ctOf := (State.ct_fset ..).trans h.ctOf

theorem Follows.led (k i : Nat) (c : LedCol) (m : Nat) : Follows s n opc d b w (x.led k i c m) where
  hifOf := h.hifOf
  hif := (State.led_hif ..).trans h.hif
  fixedOf := h.fixedOf
  enabledOf := h.enabledOf
  core := (State.core_led ..).trans h.core
  plain j hj := (State.regGet_led _ _ _ _ _ _ hj).trans (h.plain j hj)
  out e he := State.out_led _ _ _ _ (h.out e he)
  ctOf := by rw [State.ct, State.ft, State.led_whl]; exact h.ctOf

theorem Follows.enabled : x.enabled n = s.enabled n :=
  (State.enabled_congr (h.plain _ ((plainWord_bank 0x5010 n).trans (by decide)))).trans h.enabledOf

/-- A command whose body follows its effect and completes there. -/
theorem Follows.ended {i : Instr} {perm : Perm} {ns : Bool} {body : State → Running → State} {st v se : Nat} (ht : Takes s (.slice n)) (hp : permits perm (.slice n) = true)
    (hb : body (s.begun (.slice n) opc d b) (cmdRun s (.slice n) opc d b) = x.complete (cmdRun s (.slice n) opc d b) st v se) :
    ∃ t, act s (s.command i (.slice n) d b opc perm ns body) = .next t ∧ Ended s t (.slice n) opc d st v se w := by
  obtain ⟨hbuild, hpend⟩ := State.fixed_iff.1 h.fixedOf
  have hen : x.enabled n = (s.begun (.slice n) opc d b).enabled n := h.enabled.trans (Follows.begun s n opc d b).enabled.symm
  exact command_ended s i _ opc d b perm ns body w x st v se ht hp hb (HifRuns_of_same ht ⟨h.hif, fun m hm => by cases hm; exact hen⟩ h.hifOf)
    h.core h.plain h.out hbuild hpend h.ctOf

/-- A command whose body follows its effect and writes its result there. -/
theorem Follows.finished {i : Instr} {perm : Perm} {ns : Bool} {body : State → Running → State} {v : Nat} {bs : List Byte} (ht : Takes s (.slice n))
    (hp : permits perm (.slice n) = true) (hw : b.wfail = none) (hne : bs ≠ [])
    (hb : body (s.begun (.slice n) opc d b) (cmdRun s (.slice n) opc d b) = x.finish (cmdRun s (.slice n) opc d b) bs v) :
    ∃ t, act s (s.command i (.slice n) d b opc perm ns body) = .next t ∧ Ended s t (.slice n) opc d stOK v d.session.toNat (written w (.slice n) d bs) := by
  refine (h.emit (.dma n d.addr bs)).ended ht hp (hb.trans ?_)
  rw [State.finish, if_neg (by simpa using hne)]
  simp only [State.putResult, cmdRun, hw]
  rfl

end Follows

/-- A slice's operand that stands in host memory passes the shared checks. -/
theorem State.checked_read {s : State} {n : Nat} {d : Desc} {b : Bus} (hc : Clean s (.slice n) d) (hrd : b.rd = .good) (opc : Nat) (k : Need) (body : State → State)
    (ha : k.args = true) (hs : k.sess = none) (hz : k.zero = false) (ht : k.tooLong = false) :
    (s.begun (.slice n) opc d b).checked (cmdRun s (.slice n) opc d b) k body = body (s.begun (.slice n) opc d b) := by
  rw [State.checked, State.check_none s _ _ opc d b k hc (by simp) ha (by simp [hs]) hz ht (fun _ => .inl hrd)]

theorem State.operand_begun_slice (s : State) (n opc : Nat) (d : Desc) (b : Bus) :
    (s.begun (.slice n) opc d b).operand (cmdRun s (.slice n) opc d b) = operandOf s (.slice n) d b := rfl

theorem isHub_of_leaf {s : State} (h : s.build = .leaf) : s.build.isHub = false := by rw [h]; rfl

/-! ### Registers of the Reel (R258) -/

theorem RF.at_narrow {f : RF} (n : Nat) (hf : f.lo + f.w ≤ 32) : (f.at n).lo + (f.at n).w ≤ 32 := hf

/-- The words of a set are plain. -/
theorem plainWord_reelSet : ∀ n < 16, plainWord (Reg.REEL_SET_GEN.at n).addr = true ∧ plainWord (Reg.REEL_SETSTAT_BOUND.at n).addr = true := by decide

/-- No word of the Reel's page holds a slice's enable. -/
theorem enable_ne_reel {k : Nat} (hk : 0x6000 ≤ k ∧ k < 0x7000) (m : Nat) : (Reg.SLC_CTRL_ENABLE.at m).addr ≠ k := by
  simp only [RF.at, Reg.SLC_CTRL_ENABLE]
  omega

/-! ### CTR_SELECT (R226, R228) -/

/-- The Reel with a set's new list, of which nothing has been sampled (R228, R232). -/
def Reel.relist (r : Reel) (n : Nat) (sels : List Nat) : Reel :=
  { r with
    reads := r.reads.map fun (x : Readout) => { x with sets := x.sets.map fun (q : RdSet) => if q.set_ = n then { q with stale := true } else q }
    sets := Tab.set r.sets n { Tab.getD r.sets n {} with sels, prev := [], last := [], raw := [], prevFt := none, latest := none } }

theorem State.newList_eq (s : State) (n : Nat) (sels : List Nat) :
    s.newList n sels = (s.withReel (s.reel.relist n sels)).fset (Reg.REEL_SETSTAT_COUNT.at n) sels.length := (rfl)

theorem State.rset_begun (s : State) (src : Src) (opc : Nat) (d : Desc) (b : Bus) (n : Nat) : (s.begun src opc d b).rset n = s.rset n := by
  rw [State.rset, State.begun_reel, State.rset]

theorem State.selPresent_begun (s : State) (src : Src) (opc : Nat) (d : Desc) (b : Bus) (sel : Nat) : (s.begun src opc d b).selPresent sel = s.selPresent sel := by
  simp only [State.selPresent, s.fget_begun src opc d b Reg.REEL_SIZES_COUNTERS (by decide) (by decide),
    s.fget_begun src opc d b Reg.REEL_SIZES_SLOTSRC (by decide) (by decide), s.fget_begun src opc d b Reg.REEL_SIZES_PORTS (by decide) (by decide)]

section Command
variable {s : State} {n : Nat} {d : Desc} {b : Bus} (ht : Takes s (.slice n)) (hc : Clean s (.slice n) d) (hleaf : s.build = .leaf)
include ht hc hleaf

theorem ctrSelect_ended (hrd : b.rd = .good) (hset : d.arg0.toNat < 16) (harg : d.arg1 = 0) (hcount : 1 ≤ d.count.toNat) (hmax : d.count.toNat ≤ 8192)
    (hlen : 2 * d.count.toNat ≤ d.len.toNat) (hsels : ∀ x ∈ selList (operandOf s (.slice n) d b) d.count.toNat, s.selPresent x = true)
    (hbound : s.flag (Reg.REEL_SETSTAT_BOUND.at d.arg0.toNat) = false) (hroom : s.tableUsed d.arg0.toNat + d.count.toNat ≤ 8192) :
    ∃ t, exec (.ctrSelect (.slice n) d b) s = .next t ∧ Ended s t (.slice n) 0x50 d stOK 0 d.session.toNat
      (s.newList d.arg0.toNat (selList (operandOf s (.slice n) d b) d.count.toNat)) := by
  set k := d.arg0.toNat with hk
  set sels := selList (operandOf s (.slice n) d b) d.count.toNat with hselsdef
  set u := s.begun (.slice n) 0x50 d b with hu
  have hlow : bits d.arg0 3 0 = k := by simp only [bits]; omega
  have hhigh : bits d.arg0 31 4 = 0 := by simp only [bits]; omega
  have hhub : u.build.isHub = false := by rw [hu, State.begun_build, isHub_of_leaf hleaf]
  have hfind : (sels.findIdx? fun x => !u.selPresent x) = none := by
    simpa [hu, State.selPresent_begun] using hsels
  have hfree : u.flag (Reg.REEL_SETSTAT_BOUND.at k) = false := by
    rw [State.flag, s.fget_begun _ _ d b _ (plainWord_reelSet k hset).2 (RF.at_narrow k (by decide))]
    exact hbound
  have hused : u.tableUsed k = s.tableUsed k := by rw [State.tableUsed, hu, State.begun_reel, State.tableUsed]
  have hfollows : Follows s n 0x50 d b (s.newList k sels) (u.newList k sels) := by
    rw [State.newList_eq, State.newList_eq, hu, State.begun_reel]
    exact ((Follows.begun s n 0x50 d b).withReel _).fset (RF.at_narrow k (by decide)) (enable_ne_reel (by simp only [RF.at, Reg.REEL_SETSTAT_COUNT]; omega)) _
  refine hfollows.ended ht rfl ?_
  rw [State.ctrSelect]
  refine (State.checked_read hc hrd 0x50 _ _ (by simp [cmdRun, hhigh, harg]) rfl ?_ ?_).trans ?_
  · have hz : d.count.toNat ≠ 0 := by omega
    have hl : d.len.toNat ≠ 0 := by omega
    simp [cmdRun, hz, hl]
  · exact Bool.or_eq_false_iff.2 ⟨decide_eq_false (p := 8192 < d.count.toNat) (by omega), decide_eq_false (p := d.len.toNat < 2 * d.count.toNat) (by omega)⟩
  · have hlist : selList (u.operand (cmdRun s (.slice n) 0x50 d b)) d.count.toNat = sels := rfl
    have hset0 : bits (cmdRun s (.slice n) 0x50 d b).d.arg0 3 0 = k := hlow
    have hcnt : (cmdRun s (.slice n) 0x50 d b).d.count = d.count := rfl
    simp only [← hu, hcnt, hlist, hset0, hhub, hfind, Bool.false_eq_true, if_false]
    rw [State.guarded_pass]
    · rfl
    · simp [firstFail, hfree, hused, hroom]

/-! ### CTR_DUMP (R249) -/

omit ht hc hleaf in
theorem State.dumpBytes_begun (src : Src) (opc : Nat) {k : Nat} (hk : k < 16) (sels : List Nat) (sm : Sample) (seq skipped : Nat) :
    (s.begun src opc d b).dumpBytes k sels sm seq skipped = s.dumpBytes k sels sm seq skipped := by
  have hself : (s.begun src opc d b).unit 0 = s.unit 0 := by
    rw [State.unit, State.self, State.unit, State.self, State.fget_congr _ (State.regGet_begun s src opc d b _ (by decide)) (.inr (State.regGet_begun s src opc d b _ (by decide)))]
  simp only [State.dumpBytes, hself, s.fget_begun src opc d b _ (plainWord_reelSet k hk).1 (RF.at_narrow (f := Reg.REEL_SET_GEN) k (by decide))]

omit ht hc hleaf in
theorem State.dumpBytes_ne_nil (k : Nat) (sels : List Nat) (sm : Sample) (seq skipped : Nat) : s.dumpBytes k sels sm seq skipped ≠ [] := by
  simp [State.dumpBytes, padTo, wordsBytes, toBytes]

theorem ctrDump_ended (hw : b.wfail = none) (hset : d.arg0.toNat < 16) {sm : Sample} (hsm : (s.rset d.arg0.toNat).latest = some sm)
    (hlen : ceilDiv (32 + 8 * (s.rset d.arg0.toNat).sels.length) 64 * 64 ≤ d.len.toNat) :
    ∃ t, exec (.ctrDump (.slice n) d b) s = .next t ∧ Ended s t (.slice n) 0x51 d stOK (s.dumpBytes d.arg0.toNat (s.rset d.arg0.toNat).sels sm 0 0).length d.session.toNat
      (written (s.bump Reg.REEL_DUMPSTAT_DUMPS) (.slice n) d (s.dumpBytes d.arg0.toNat (s.rset d.arg0.toNat).sels sm 0 0)) := by
  set k := d.arg0.toNat with hk
  set u := s.begun (.slice n) 0x51 d b with hu
  have hhub : u.build.isHub = false := by rw [hu, State.begun_build, isHub_of_leaf hleaf]
  have hsize : 64 ≤ ceilDiv (32 + 8 * (s.rset k).sels.length) 64 * 64 := by
    simp only [ceilDiv]
    omega
  have hdumps : u.fget Reg.REEL_DUMPSTAT_DUMPS = s.fget Reg.REEL_DUMPSTAT_DUMPS := s.fget_begun _ _ d b _ (by decide) (by decide)
  have hfollows : Follows s n 0x51 d b (s.bump Reg.REEL_DUMPSTAT_DUMPS) (u.bump Reg.REEL_DUMPSTAT_DUMPS) := by
    rw [State.bump, State.fadd, State.bump, State.fadd, hdumps]
    exact (Follows.begun s n 0x51 d b).fset (by decide) (enable_ne_reel (by decide)) _
  refine hfollows.finished ht rfl hw (s.dumpBytes_ne_nil _ _ _ _ _) ?_
  have hmod : k % 16 = k := Nat.mod_eq_of_lt hset
  have hne : k ≠ 16 := by omega
  rw [State.ctrDump]
  simp only [cmdRun, ← hk, hmod]
  refine (State.checked_pass hc 0x51 b _ _ (decide_eq_true (by omega)) rfl (decide_eq_false (p := d.len.toNat = 0) (by omega)) ?_ rfl).trans ?_
  · simp only [hne, if_false, State.rset_begun]
    exact decide_eq_false (by omega)
  · simp only [← hu, hhub, hne, Bool.false_eq_true, if_false]
    simp only [hu, State.rset_begun, hsm, State.dumpBytes_begun (.slice n) 0x51 hset]

omit ht hc hleaf in
theorem length_recBytes (r : Rec) : (recBytes r).length = 32 := by simp [recBytes, recWords, wordsBytes, toBytes]

theorem ctrDumpTags_ended (hw : b.wfail = none) (hlen : 32 ≤ d.len.toNat) (htags : s.reel.tags ≠ []) :
    ∃ t, exec (.ctrDumpTags (.slice n) d b) s = .next t ∧
      Ended s t (.slice n) 0x51 d stOK (32 * min s.reel.tags.length (d.len.toNat / 32)) d.session.toNat
        (written (s.withReel { s.reel with tags := s.reel.tags.drop (min s.reel.tags.length (d.len.toNat / 32)) }) (.slice n) d
          ((s.reel.tags.take (min s.reel.tags.length (d.len.toNat / 32))).flatMap recBytes)) := by
  set m := min s.reel.tags.length (d.len.toNat / 32) with hm
  set e : Desc := { d with arg0 := 0x10 } with he
  set u := s.begun (.slice n) 0x51 e b with hu
  have hlength := List.length_pos_iff.2 htags
  have hm0 : m ≠ 0 := by omega
  have hhub : u.build.isHub = false := by rw [hu, State.begun_build, isHub_of_leaf hleaf]
  have hne : (s.reel.tags.take m).flatMap recBytes ≠ [] := by
    refine List.ne_nil_of_length_pos ?_
    simp only [List.length_flatMap, length_recBytes]
    simp
    omega
  have hfollows : Follows s n 0x51 e b (s.withReel { s.reel with tags := s.reel.tags.drop m }) ((u.withReel { s.reel with tags := s.reel.tags.drop m }).led 5 66 .out m) :=
    ((Follows.begun s n 0x51 e b).withReel _).led ..
  refine hfollows.finished ht rfl hw hne ?_
  rw [State.ctrDump]
  refine (State.checked_pass (d := e) hc 0x51 b _ _ rfl rfl (decide_eq_false (p := d.len.toNat = 0) (by omega)) (decide_eq_false (p := d.len.toNat < 32) (by omega)) rfl).trans ?_
  have harg : (cmdRun s (.slice n) 0x51 e b).d.arg0.toNat = 16 := rfl
  simp only [← hu, hhub, harg, Bool.false_eq_true, if_false, if_true]
  simp only [State.dumpTags, hu, State.begun_reel]
  rw [if_neg (show ¬ min s.reel.tags.length ((cmdRun s (.slice n) 0x51 e b).d.len.toNat / 32) = 0 from hm0)]
  rfl

/-! ### CTR_PERIODIC (R250) -/

/-- The schedule that an operand spells; none where its divider is 0. -/
def schedOf (n : Nat) (w : Nat → W64) : Option Sched :=
  if bits (w 1) 31 16 = 0 then none else some
    { slice := n, base := w 0, log2 := bits (w 1) 4 0, div := bits (w 1) 31 16, dest := bits (w 1) 33 32,
      mirror := bit (w 1) 34 && bits (w 1) 33 32 == 0, mir := w 2, seq := 0, nth := 0, skipped := 0, bytes := 0 }

/-- The reserved bits of a schedule's operand are 0, its destination exists, and a buffer in host memory is aligned and of a size that a ring can have. -/
def schedGood (w : Nat → W64) : Prop :=
  bits (w 1) 7 5 = 0 ∧ bits (w 1) 15 12 = 0 ∧ bits (w 1) 63 35 = 0 ∧ w 3 = 0 ∧ bits (w 1) 33 32 ≤ 1 ∧
    (bits (w 1) 33 32 = 0 → bits (w 0) 11 0 = 0 ∧ 12 ≤ bits (w 1) 4 0 ∧ bits (w 1) 4 0 ≤ 30 ∧ bits (w 2) 2 0 = 0)

omit ht hc hleaf in
/-- The checks of CTR_PERIODIC pass. -/
theorem schedGood.checks {w : Nat → W64} (h : schedGood w) :
    (bits (w 1) 7 5 == 0 && bits (w 1) 15 12 == 0 && bits (w 1) 63 35 == 0 && w 3 == 0 && decide (bits (w 1) 33 32 ≤ 1) &&
      (bits (w 1) 33 32 != 0 || (bits (w 0) 11 0 == 0 && decide (12 ≤ bits (w 1) 4 0) && decide (bits (w 1) 4 0 ≤ 30) && bits (w 2) 2 0 == 0))) = true := by
  obtain ⟨hlow, hmid, hhigh, hlast, hdest, hbuf⟩ := h
  obtain hhost | htree := Nat.eq_zero_or_pos (bits (w 1) 33 32)
  · obtain ⟨halign, hmin, hmax, hmirror⟩ := hbuf hhost
    simp [hlow, hmid, hhigh, hlast, hhost, halign, hmin, hmax, hmirror]
  · simp [hlow, hmid, hhigh, hlast, hdest, Nat.ne_of_gt htree]

theorem ctrPeriodic_ended (hrd : b.rd = .good) (hlen : 32 ≤ d.len.toNat) (hgood : schedGood (wordAt (operandOf s (.slice n) d b))) :
    let w := wordAt (operandOf s (.slice n) d b)
    ∃ t, exec (.ctrPeriodic (.slice n) d b) s = .next t ∧ Ended s t (.slice n) 0x52 d stOK 0 d.session.toNat
      (s.setRset (bits (w 1) 11 8) { s.rset (bits (w 1) 11 8) with newSched := some (schedOf n w) }) := by
  intro w
  set k := bits (w 1) 11 8 with hk
  set u := s.begun (.slice n) 0x52 d b with hu
  have hhub : u.build.isHub = false := by rw [hu, State.begun_build, isHub_of_leaf hleaf]
  have hfollows : Follows s n 0x52 d b (s.setRset k { s.rset k with newSched := some (schedOf n w) }) (u.setRset k { s.rset k with newSched := some (schedOf n w) }) := by
    have hreel : u.reel = s.reel := State.begun_reel ..
    have hfollows := (Follows.begun s n 0x52 d b).withReel { s.reel with sets := Tab.set s.reel.sets k { s.rset k with newSched := some (schedOf n w) } }
    rw [State.setRset, State.setRset, hreel]
    exact hfollows
  refine hfollows.ended ht rfl ?_
  rw [State.ctrPeriodic]
  refine (State.checked_read hc hrd 0x52 _ _ rfl rfl (decide_eq_false (p := d.len.toNat = 0) (by omega)) (decide_eq_false (p := d.len.toNat < 32) (by omega))).trans ?_
  simp only [State.operand_begun_slice]
  rw [State.guarded_pass]
  · show (u.setRset k { u.rset k with newSched := _ }).completeOk _ 0 = _
    rw [State.rset_begun]
    rfl
  · have hpass : ∀ ok hub, ok = true → hub = false → firstFail [(!ok, stBAD_FIELD), (hub, stNO_RESOURCE)] = none := by
      rintro _ _ rfl rfl
      rfl
    exact hpass _ _ hgood.checks hhub

end Command

/-- Settles O12, command by command. -/
theorem countersAreCommanded : Obligations.CountersAreCommanded := by
  intro s n d b ht hc hleaf
  refine ⟨?_, ?_, ?_, ?_⟩
  · intro hrd hset harg hcount hmax hlen k sels hsels hbound hroom
    exact ctrSelect_ended ht hc hleaf hrd hset harg hcount hmax hlen hsels hbound hroom
  · intro hw hset sm hsm x bs hlen
    exact ctrDump_ended ht hc hleaf hw hset hsm hlen
  · intro hw hlen htags m
    exact ctrDumpTags_ended ht hc hleaf hw hlen htags
  · intro hrd hlen w k h5 h12 h35 h3 hdest hbuf
    exact ctrPeriodic_ended ht hc hleaf hrd hlen ⟨h5, h12, h35, h3, hdest, hbuf⟩

end Sys2Proof.Machine
end

section
/-! SUPPORT. Samples (R227, R230 to R234): what the end of a read-out leaves in the Reel. A sample that passes to Carder and to its dump schedule leaves the Reel's samples as they are. -/

namespace Sys2Proof.Machine

open Sys2Proof

/-! ### What Carder leaves of the Reel -/

theorem State.reel_passUp (s : State) (typ tc : Nat) (dest : Hank) (words : List W64) : (s.passUp typ tc dest words).reel = s.reel := by
  have hsend : (s.sendUp typ tc dest false words []).reel = s.reel := State.reel_of_side (State.side_sendUp ..)
  simp only [State.passUp]
  split
  · rw [State.led_reel, hsend]
  · exact hsend

theorem State.reel_sendSess (s : State) (n typ tc : Nat) (dest : Hank) (words : List W64) : (s.sendSess n typ tc dest words).reel = s.reel := by
  simp only [State.sendSess]
  repeat' split
  · exact State.reel_passUp ..
  · rfl
  all_goals exact State.reel_passUp ..

theorem State.reel_commitRank (s : State) (n kind : Nat) (r : Rec) : (s.commitRank n kind r).reel = s.reel := by
  unfold State.commitRank
  split
  · simp only [State.commitVerdict]
    split
    · rw [State.reel_sendSess, State.reel_of_rest (State.rest_pushVerdict ..)]
    · exact State.reel_of_rest (State.rest_pushVerdict ..)
  · rfl

theorem State.reel_rankKey (s : State) (n ft : Nat) (key : Option Key) (locked : Bool) : (s.rankKey n ft key locked).reel = s.reel := by
  unfold State.rankKey
  split
  · rfl
  extract_lets x own full held y s1 s2
  have h2 : s2.reel = s.reel := by
    simp only [s2]
    split
    · exact State.bump_reel ..
    · rfl
  split
  · rw [State.reel_commitRank, h2]
  · exact h2

theorem State.reel_contribute (s : State) (n : Nat) (x : Sess) (v : Vec) (sm : Sample) : (s.contribute n x v sm).reel = s.reel := by
  unfold State.contribute
  split
  · rfl
  split
  · rfl
  extract_lets ws s1
  have h1 : s1.reel = s.reel := by simp only [s1, State.reel_sendSess, State.led_reel]
  split
  · rw [State.reel_rankKey, h1]
  · exact h1

theorem State.reel_buildReel (s : State) (n : Nat) (sm : Sample) (bad : Bool) : (s.buildReel n sm bad).reel = s.reel := by
  unfold State.buildReel
  split
  · rfl
  extract_lets r v y x1 s1 s2 s3
  have h2 : s2.reel = s.reel := by
    simp only [s2]
    split <;> rfl
  have h3 : s3.reel = s.reel := by
    simp only [s3]
    split
    · rw [State.reel_sendSess, h2]
    · exact h2
  rw [((Keeps.refl _).gotWork n).reel, State.reel_contribute, h3]

/-- What Carder makes of a sample leaves the Reel alone. -/
theorem State.reel_carderSample (s : State) (set_ : Nat) (sm : Sample) (bad : Nat → Bool) : (s.carderSample set_ sm bad).reel = s.reel := by
  unfold State.carderSample
  extract_lets s1 all room skipped s2 s3
  have h1 : s1.reel = s.reel := State.led_reel ..
  have h2 : s2.reel = s.reel := (foldl_invariant State.reel _ _ s1 fun u n _ => by unfold State.modSess; split <;> rfl).trans h1
  have h3 : s3.reel = s.reel := by
    simp only [s3]
    repeat' split
    · rw [State.led_reel, h2]
    · exact h2
    · rw [State.led_reel, h2]
  split
  · rw [State.ledDrop_reel, h1]
  · refine (foldl_invariant State.reel _ _ _ fun u n _ => ((Keeps.refl u).stopCheck n).reel).trans ?_
    exact (foldl_invariant State.reel _ _ s3 fun u n _ => State.reel_buildReel ..).trans h3

/-! ### What a dump schedule leaves of the samples -/

theorem State.rset_congr {s t : State} (h : t.reel = s.reel) (n : Nat) : t.rset n = s.rset n := by rw [State.rset, State.rset, h]
theorem State.rset_setRset (s : State) (n : Nat) (x : RSet) : (s.setRset n x).rset n = x := by simp [State.rset, State.setRset, Tab.getD]

/-- The read-outs that wait, and a set's latest sample with the values that its next deltas are taken from. -/
def State.sampled (s : State) (n : Nat) : List Readout × Option Sample × List (Option Nat) := (s.reel.reads, (s.rset n).latest, (s.rset n).prev)

theorem State.sampled_congr {s t : State} (h : t.reel = s.reel) (n : Nat) : t.sampled n = s.sampled n := by
  rw [State.sampled, State.sampled, State.rset_congr h, h]

theorem State.sampled_setRset (s : State) (n : Nat) (x : RSet) : (s.setRset n x).sampled n = (s.reel.reads, x.latest, x.prev) := by
  rw [State.sampled, State.rset_setRset]
  rfl

/-- A schedule writes its dump of a sample, and leaves the samples alone. -/
theorem State.sampled_periodic (s : State) (n : Nat) (sels : List Nat) (sm : Sample) : (s.periodic n sels sm).sampled n = s.sampled n := by
  unfold State.periodic
  extract_lets x0 x u
  have hx : x.latest = x0.latest ∧ x.prev = x0.prev := by
    simp only [x]
    split <;> exact ⟨rfl, rfl⟩
  have hset (y : RSet) (hl : y.latest = x.latest) (hp : y.prev = x.prev) : (u.setRset n y).sampled n = s.sampled n := by
    rw [State.sampled_setRset, hl, hp, hx.1, hx.2]
    rfl
  split
  · rw [State.sampled_setRset, hx.1, hx.2]
    rfl
  extract_lets nth bs c1 xs
  split
  · exact hset _ rfl rfl
  split
  · exact (State.sampled_congr (State.bump_reel ..) n).trans (hset _ rfl rfl)
  split
  · exact (State.sampled_congr (s := u.setRset n { x with sched := some { c1 with bytes := _ } }) rfl n).trans (hset _ rfl rfl)
  · refine (State.sampled_congr (State.reel_of_side (State.side_sendUp ..)) n).trans ?_
    exact (State.sampled_congr (State.bump_reel ..) n).trans (hset _ rfl rfl)

/-! ### Entries of a sample (R231 to R233) -/

theorem ringGet_lt {vals : List (Nat × Nat × W64)} {id v : Nat} (h : ringGet vals id = some v) : v < 2 ^ 48 := by
  unfold ringGet at h
  split at h
  · cases h
  · cases h
    exact Nat.mod_lt _ (by decide)
  · cases h

/-- A ring counter's selector needs that counter alone. -/
theorem rawOf_counter {sel : Nat} (h : selSpace sel = 0) : rawOf sel = [sel] := by simp [rawOf, h]

section Entry
variable (x : RSet) (r : Readout) {vals : List (Nat × Nat × W64)} (pos : Nat) {sel : Nat} (free : Nat) (hspace : selSpace sel = 0)
include hspace

theorem RSet.entry_on {v : Nat} (hv : ringGet vals sel = some v) :
    x.entry r vals pos sel free = match x.prev.getD pos none with
      | some p => { value := v, delta := (v + two48 - p) % two48, first := false, off := false }
      | none => { value := v, delta := 0, first := true, off := false } := by
  have hvalue (first : Bool) : x.selValue r vals sel first % two48 = v := by
    simp only [RSet.selValue, hspace, rawOf_counter hspace, List.head?_cons, Option.bind_some, hv, Option.getD_some]
    exact Nat.mod_eq_of_lt (ringGet_lt hv)
  simp only [RSet.entry, rawOf_counter hspace, List.any_cons, List.any_nil, hv, Option.isNone_some, Bool.or_false, hvalue]
  rfl

theorem RSet.entry_off (hv : ringGet vals sel = none) :
    x.entry r vals pos sel free = { value := (x.last.getD pos none).getD free, delta := 0, first := false, off := true } := by
  simp [RSet.entry, rawOf_counter hspace, hv]

end Entry

/-- The entry of a ring counter in a sample: what the ring answered, and its increase; FIRST with no previous value; OFF where the counter was off. -/
theorem State.sampleOf_counter (s : State) (r : Readout) {q : RdSet} (vals : List (Nat × Nat × W64)) (hstale : q.stale = false) {i sel : Nat}
    (hsel : q.sels[i]? = some sel) (hspace : selSpace sel = 0) :
    let x := s.rset q.set_
    let e := (s.sampleOf r q vals).entries[i]?
    (∀ v, ringGet vals sel = some v →
      (∀ p, x.prev.getD i none = some p → e = some { value := v, delta := (v + 2 ^ 48 - p) % 2 ^ 48, first := false, off := false }) ∧
      (x.prev.getD i none = none → e = some { value := v, delta := 0, first := true, off := false })) ∧
    (ringGet vals sel = none → ∃ v, e = some { value := v, delta := 0, first := false, off := true } ∧ ∀ o, x.last.getD i none = some o → v = o) := by
  intro x e
  obtain ⟨free, hentry⟩ : ∃ free, e = some (x.entry r vals i sel free) := by
    simp [e, x, State.sampleOf, hstale, List.getElem?_zipIdx, hsel]
  rw [hentry]
  refine ⟨fun v hv => ⟨fun p hp => ?_, fun hp => ?_⟩, fun hoff => ⟨_, congrArg some (x.entry_off r i free hspace hoff), fun o ho => ?_⟩⟩
  · rw [x.entry_on r i free hspace hv, hp]
    rfl
  · rw [x.entry_on r i free hspace hv, hp]
  · rw [ho]
    rfl

theorem State.length_sampleOf (s : State) (r : Readout) (q : RdSet) (vals : List (Nat × Nat × W64)) : (s.sampleOf r q vals).entries.length = q.sels.length := by
  simp [State.sampleOf]

/-! ### The end of a read-out (R230, R234) -/

/-- A set that is neither stale nor opening keeps its sample, and the values that the next deltas are taken from. -/
theorem State.sampled_passSample (s : State) {r : Readout} {q : RdSet} (vals : List (Nat × Nat × W64)) (bad : Nat → Bool) (hcut : r.cut = none)
    (hopen : q.opening = false) (hstale : q.stale = false) :
    (s.passSample r q vals bad).sampled q.set_ =
      (s.reel.reads, some (s.sampleOf r q vals), (s.sampleOf r q vals).entries.map fun e => if e.off then none else some e.value) := by
  unfold State.passSample
  extract_lets sm u x s0 c s1
  have hkept : s1 = u.setRset q.set_ (x.after r q.sels vals sm) := if_neg (by simp [hstale])
  simp only [hopen, hcut, hstale, Bool.false_eq_true, if_false]
  rw [State.sampled_congr (State.reel_carderSample ..), State.sampled_periodic, State.sampled_congr (State.bump_reel ..), State.sampled_congr (State.led_reel ..),
    hkept, State.sampled_setRset]
  rfl

section Readout
variable {s : State} (vals : List (Nat × Nat × W64)) {r : Readout} {rest : List Readout} (hreads : s.reel.reads = r :: rest) (hstop : s.stopped = false)
include hreads hstop

/-- A read that failed twice drops the samples of its strobe. -/
theorem readoutDone_failed {id : Nat} (hfail : failedRead r vals = some id) :
    ∃ t, exec (.reelReadoutDone vals) s = .next t ∧ t.reel = { s.reel with reads := rest } := by
  obtain ⟨t, ht, -, hreel, -⟩ := act_parts s (s.readoutDone vals)
  refine ⟨t, ht, hreel.trans ?_⟩
  simp only [State.readoutDone, hreads, hstop, hfail, Bool.false_eq_true, if_false]
  split
  · rfl
  · exact State.ledDrop_reel ..

theorem readoutDone_samples {q : RdSet} (hgood : failedRead r vals = none) (hcut : r.cut = none) (hsets : r.sets = [q]) (hopen : q.opening = false)
    (hstale : q.stale = false) :
    ∃ t, exec (.reelReadoutDone vals) s = .next t ∧ t.sampled q.set_ =
      (rest, some (s.sampleOf r q vals), (s.sampleOf r q vals).entries.map fun e => if e.off then none else some e.value) := by
  obtain ⟨t, ht, -, hreel, -⟩ := act_parts s (s.readoutDone vals)
  refine ⟨t, ht, (State.sampled_congr hreel _).trans ?_⟩
  simp only [State.readoutDone, hreads, hstop, hgood, hsets, Bool.false_eq_true, if_false, List.foldl_cons, List.foldl_nil]
  rw [State.sampled_passSample _ vals _ hcut hopen hstale]
  rfl

end Readout

end Sys2Proof.Machine
end

section
/-! SUPPORT. Instruction tags (R242 to R247): the record that a tag leaves as it ends, and the tag that follows. -/

namespace Sys2Proof.Machine

open Sys2Proof

/-! ### What a tag's end changes -/

/-- From `s` to `t` nothing changed but the Reel, the ledger, the counts of tag records, and what is owed or free. -/
structure TagsOnly (s t : State) : Prop where
  fixed : t.fixed = s.fixed
  snag : t.snag = s.snag
  words : ∀ k, k ≠ Reg.REEL_TAGSTAT_LOST.addr → k ≠ Reg.LEA_STATUS_SAT.addr → t.regGet k = s.regGet k

theorem TagsOnly.refl (s : State) : TagsOnly s s := ⟨rfl, rfl, fun _ _ _ => rfl⟩

section TagsOnly
variable {s t : State} (h : TagsOnly s t)
include h

theorem TagsOnly.trans {u : State} (h' : TagsOnly t u) : TagsOnly s u :=
  ⟨h'.fixed.trans h.fixed, h'.snag.trans h.snag, fun k hk hsat => (h'.words k hk hsat).trans (h.words k hk hsat)⟩

theorem TagsOnly.withReel (r : Reel) : TagsOnly s (t.withReel r) := ⟨h.fixed, h.snag, h.words⟩

theorem TagsOnly.led (k i : Nat) (c : LedCol) (n : Nat) : TagsOnly s (t.led k i c n) :=
  ⟨(State.fixed_led ..).trans h.fixed, (State.led_snag ..).trans h.snag, fun j hj hsat => (State.regGet_led_apart t k i c n hsat).trans (h.words j hj hsat)⟩

theorem TagsOnly.ledDrop (k i r n : Nat) : TagsOnly s (t.ledDrop k i r n) := by
  unfold State.ledDrop
  split
  · exact h.led ..
  · exact h

/-- A count of tag records. -/
theorem TagsOnly.bump {f : RF} (hf : f.addr = Reg.REEL_TAGSTAT_LOST.addr ∧ f.lo + f.w ≤ 32) : TagsOnly s (t.bump f) :=
  ⟨(State.fixed_bump ..).trans h.fixed, (State.bump_snag ..).trans h.snag,
    fun j hj hsat => (State.regGet_fset_other t f _ j hf.2 (hf.1 ▸ hj)).trans (h.words j hj hsat)⟩

theorem TagsOnly.fget (f : RF) (hf : f.addr ≠ Reg.REEL_TAGSTAT_LOST.addr ∧ f.addr ≠ Reg.LEA_STATUS_SAT.addr)
    (h4 : f.lo + f.w ≤ 32 ∨ f.addr + 4 ≠ Reg.REEL_TAGSTAT_LOST.addr ∧ f.addr + 4 ≠ Reg.LEA_STATUS_SAT.addr) : t.fget f = s.fget f :=
  State.fget_congr f (h.words _ hf.1 hf.2) (h4.imp_right fun hne => h.words _ hne.1 hne.2)

theorem TagsOnly.tagged (i : Nat) : t.tagged i = s.tagged i := by
  have hbuild : t.build = s.build := (State.fixed_iff.1 h.fixed).1
  have hoff : t.reelOff = s.reelOff := by
    simp only [State.reelOff, State.isFenced, State.stopped, State.flag, hbuild, h.snag, h.fget Reg.SNG_STATUS_STOPPED (by decide) (by decide)]
  simp only [State.tagged, State.flag, hoff, h.fget Reg.REEL_CTRL_TAG_EN (by decide) (by decide), h.fget Reg.REEL_TAGSEL_SEL (by decide) (by decide),
    h.fget Reg.REEL_TAGSRC_SRC (by decide) (by decide)]

theorem TagsOnly.tagPeriod : t.tagPeriod = s.tagPeriod := by
  simp only [State.tagPeriod, h.fget Reg.REEL_TAG_PERIOD (by decide) (by decide)]

end TagsOnly

theorem State.tagSrc_congr {s t : State} (h : t.reel.srcs = s.reel.srcs) (i : Nat) : t.tagSrc i = s.tagSrc i := by rw [State.tagSrc, State.tagSrc, h]
theorem State.tagSrc_setTagSrc (s : State) (i : Nat) (x : TagSrc) : (s.setTagSrc i x).tagSrc i = x := by simp [State.tagSrc, State.setTagSrc, Tab.getD]

/-! ### The record of a tag (R243 to R246) -/

/-- The record of a tag that ends. -/
def State.tagRec (s : State) (i outcome : Nat) (addr : W64) (d1 d2 d3 events : Nat) : Rec :=
  let cap := fun (n : Nat) => min n 0xFFFF
  { w0 := BitVec.ofNat 64 s.ft,
    w1 := BitVec.ofNat 64 ((Config.tagUnit i).toNat + fld 6 11 i + fld 3 17 outcome + b2 s.locked 20 + b2 (s.tagSrc i).loss 21 + fld 32 32 ((s.tagSrc i).countdown.getD 0)),
    w2 := addr, w3 := BitVec.ofNat 64 (cap d1 + cap d2 * 2 ^ 16 + cap d3 * 2 ^ 32 + fld 8 48 events) }

theorem b2n_le (c : Bool) : b2n c ≤ 1 := by cases c <;> decide

/-- A word packed as the second word of a tag record is. -/
theorem tagWord_fields {unit i outcome cd : Nat} (locked loss : Bool) (hunit : unit < 2 ^ 11) :
    let w : W64 := BitVec.ofNat 64 (unit + fld 6 11 i + fld 3 17 outcome + b2 locked 20 + b2 loss 21 + fld 32 32 cd)
    bits w 19 17 = outcome % 8 ∧ bits w 16 11 = i % 64 ∧ bits w 63 32 = cd % 2 ^ 32 ∧ bit w 21 = loss := by
  intro w
  have hlocked := b2n_le locked
  have hloss := b2n_le loss
  have hw : w.toNat = unit + fld 6 11 i + fld 3 17 outcome + b2 locked 20 + b2 loss 21 + fld 32 32 cd := by
    refine (BitVec.toNat_ofNat ..).trans (Nat.mod_eq_of_lt ?_)
    simp only [fld, b2]
    omega
  refine ⟨?_, ?_, ?_, ?_⟩
  · simp only [bits, hw, fld, b2]
    omega
  · simp only [bits, hw, fld, b2]
    omega
  · simp only [bits, hw, fld, b2]
    omega
  · have hbit : w.toNat / 2 ^ 21 % 2 = b2n loss := by
      simp only [hw, fld, b2]
      omega
    rw [bit, BitVec.getLsbD, Nat.testBit_eq_decide_div_mod_eq, hbit]
    cases loss <;> rfl

/-- What the end of a tag leaves: its record, while the queue has room, or one more lost and the loss noted at the source. -/
def RecordsTag (s t : State) (i outcome : Nat) (addr : Option W64) : Prop :=
  (s.qFits 66 1 = true → ∃ x, t.reel.tags = s.reel.tags ++ [x] ∧ x.w0 = BitVec.ofNat 64 s.ft ∧ bits x.w1 19 17 = outcome ∧ bits x.w1 16 11 = i % 64 ∧
    bits x.w1 63 32 = (s.tagSrc i).countdown.getD 0 % 2 ^ 32 ∧ bit x.w1 21 = (s.tagSrc i).loss ∧ (∀ a, addr = some a → x.w2 = a)) ∧
  (s.qFits 66 1 = false → t.reel.tags = s.reel.tags ∧ (t.tagSrc i).loss = true ∧
    t.fget Reg.REEL_TAGSTAT_LOST = (s.fget Reg.REEL_TAGSTAT_LOST + 1) % 65536)

/-- The tag that follows at a source that is tagged and awake, at a distance drawn from P/2 to 3P/2 (R243). -/
def SendsTag (s t : State) (i : Nat) : Prop :=
  ∃ n, (t.tagSrc i).countdown = some n ∧ s.tagPeriod / 2 ≤ n ∧ n < s.tagPeriod / 2 + s.tagPeriod ∧ .tag i (BitVec.ofNat 32 n) ∈ t.out

theorem State.fget_withReel (s : State) (r : Reel) (f : RF) : (s.withReel r).fget f = s.fget f := (rfl)

theorem State.fget_bump (s : State) {f : RF} (hf : f.lo + f.w ≤ 32) : (s.bump f).fget f = (s.fget f + 1) % 2 ^ f.w := State.fget_fset_self s f _ hf

section TagRecord
variable (s : State) (i outcome : Nat) (addr : W64) (d1 d2 d3 events : Nat)

/-- A tag's end while its queue has room. -/
theorem State.tagRecord_fits (hfits : s.qFits 66 1 = true) : ∃ r1 r2 r3,
    s.tagRecord i outcome addr d1 d2 d3 events = ((((s.withReel r1).led 5 66 .inn 1).withReel r2).bump Reg.REEL_TAGSTAT_RECORDS).withReel r3 ∧
      r3.tags = s.reel.tags ++ [s.tagRec i outcome addr d1 d2 d3 events] ∧ Tab.getD r3.srcs i {} = { s.tagSrc i with countdown := none, loss := false } := by
  simp only [State.tagRecord, if_pos hfits]
  refine ⟨_, _, _, rfl, ?_, ?_⟩
  · simp
    rfl
  · simp [Tab.getD]

/-- A tag's end while its queue is full. -/
theorem State.tagRecord_full (hfull : s.qFits 66 1 = false) : ∃ r1 r2,
    s.tagRecord i outcome addr d1 d2 d3 events = ((((s.withReel r1).led 5 66 .inn 1).ledDrop 5 66 0xF 1).bump Reg.REEL_TAGSTAT_LOST).withReel r2 ∧
      r2.tags = s.reel.tags ∧ Tab.getD r2.srcs i {} = { s.tagSrc i with countdown := none, loss := true } := by
  have heq (u : State) (r : Reel) (x : TagSrc) : State.setTagSrc { u with reel := r } i x = u.withReel { r with srcs := Tab.set r.srcs i x } := rfl
  simp only [State.tagRecord, hfull, Bool.false_eq_true, if_false, heq]
  refine ⟨{ s.reel with stats := _ }, _, rfl, ?_, ?_⟩
  · simp
  · simp [Tab.getD]

/-- The state that a tag's end leaves its source in. -/
theorem State.tagSrc_tagRecord :
    (s.tagRecord i outcome addr d1 d2 d3 events).tagSrc i = { s.tagSrc i with countdown := none, loss := !s.qFits 66 1 } := by
  cases hq : s.qFits 66 1
  · obtain ⟨r1, r2, heq, -, hsrc⟩ := s.tagRecord_full i outcome addr d1 d2 d3 events hq
    rw [heq]
    exact hsrc
  · obtain ⟨r1, r2, r3, heq, -, hsrc⟩ := s.tagRecord_fits i outcome addr d1 d2 d3 events hq
    rw [heq]
    exact hsrc

theorem TagsOnly.tagRecord : TagsOnly s (s.tagRecord i outcome addr d1 d2 d3 events) := by
  cases hq : s.qFits 66 1
  · obtain ⟨r1, r2, heq, -⟩ := s.tagRecord_full i outcome addr d1 d2 d3 events hq
    rw [heq]
    exact ((((TagsOnly.refl s).withReel r1).led ..).ledDrop .. |>.bump (by decide)).withReel r2
  · obtain ⟨r1, r2, r3, heq, -⟩ := s.tagRecord_fits i outcome addr d1 d2 d3 events hq
    rw [heq]
    exact ((((TagsOnly.refl s).withReel r1).led ..).withReel r2 |>.bump (by decide)).withReel r3

/-- The end of a tag leaves its record, or counts it lost. -/
theorem State.recordsTag_tagRecord (ho : outcome < 8) : RecordsTag s (s.tagRecord i outcome addr d1 d2 d3 events) i outcome (some addr) := by
  refine ⟨fun hfits => ?_, fun hfull => ?_⟩
  · obtain ⟨r1, r2, r3, heq, htags, -⟩ := s.tagRecord_fits i outcome addr d1 d2 d3 events hfits
    obtain ⟨hout, hsrc, hcd, hloss⟩ := tagWord_fields (i := i) (outcome := outcome) (cd := (s.tagSrc i).countdown.getD 0) s.locked (s.tagSrc i).loss (Config.tagUnit i).isLt
    refine ⟨s.tagRec i outcome addr d1 d2 d3 events, ?_, rfl, hout.trans (Nat.mod_eq_of_lt ho), hsrc, hcd, hloss, fun a ha => Option.some.inj ha⟩
    rw [heq]
    exact htags
  · obtain ⟨r1, r2, heq, htags, hsrc⟩ := s.tagRecord_full i outcome addr d1 d2 d3 events hfull
    have hside {u v : State} (h : v.side = u.side) : v.fget Reg.REEL_TAGSTAT_LOST = u.fget Reg.REEL_TAGSTAT_LOST := State.fget_of_side h _ (by decide) (by decide)
    have hlost : ((((s.withReel r1).led 5 66 .inn 1).ledDrop 5 66 0xF 1).bump Reg.REEL_TAGSTAT_LOST).fget Reg.REEL_TAGSTAT_LOST =
        (s.fget Reg.REEL_TAGSTAT_LOST + 1) % 65536 := by
      rw [State.fget_bump _ (by decide), hside (State.side_ledDrop ..), hside (State.side_led ..)]
      rfl
    rw [heq]
    exact ⟨htags, congrArg TagSrc.loss hsrc, (State.fget_withReel ..).trans hlost⟩

end TagRecord

/-! ### The tag that follows (R243) -/

theorem TagsOnly.tagSend (s : State) (i : Nat) : TagsOnly s (s.tagSend i) := by
  simp only [State.tagSend]
  split
  · exact .refl s
  · exact ⟨rfl, rfl, fun _ _ _ => rfl⟩

/-- The next tag leaves the records, and what is noted of losses and of the core. -/
theorem State.tagSend_keeps (s : State) (i : Nat) :
    (s.tagSend i).reel.tags = s.reel.tags ∧ ((s.tagSend i).tagSrc i).loss = (s.tagSrc i).loss ∧ ((s.tagSend i).tagSrc i).asleep = (s.tagSrc i).asleep ∧
      (s.tagSend i).fget Reg.REEL_TAGSTAT_LOST = s.fget Reg.REEL_TAGSTAT_LOST := by
  have hset (u : State) (x : TagSrc) (e : Emission) : ((u.setTagSrc i x).emit e).tagSrc i = x := State.tagSrc_setTagSrc ..
  simp only [State.tagSend]
  split
  · exact ⟨rfl, rfl, rfl, rfl⟩
  · refine ⟨rfl, ?_, ?_, rfl⟩ <;> rw [hset]

/-- A tagged source that is awake, with no tag in flight, gets its next one. -/
theorem State.tagSend_sends {s : State} {i : Nat} (htag : s.tagged i = true) (hcd : (s.tagSrc i).countdown = none) (hawake : (s.tagSrc i).asleep = false) :
    SendsTag s (s.tagSend i) i := by
  have hpos : 0 < s.tagPeriod := Nat.two_pow_pos _
  simp only [State.tagSend, htag, hcd, hawake]
  refine ⟨_, congrArg TagSrc.countdown (State.tagSrc_setTagSrc ..), Nat.le_add_right _ _, Nat.add_lt_add_left (Nat.mod_lt _ hpos) _, List.mem_cons_self ..⟩

/-! ### The outcome of a step -/

/-- What a claim about a tag rests on: the records, what is noted of the source, the count of losses, and what left the block. -/
structure SameTags (i : Nat) (s t : State) : Prop where
  tags : t.reel.tags = s.reel.tags
  src : t.tagSrc i = s.tagSrc i
  lost : t.fget Reg.REEL_TAGSTAT_LOST = s.fget Reg.REEL_TAGSTAT_LOST
  out : ∀ e ∈ s.out, e ∈ t.out

/-- The effects that a step owes leave the tags alone. -/
theorem TagsOnly.act {s y : State} (h : TagsOnly s y) (i : Nat) : ∃ t, act s y = .next t ∧ SameTags i y t := by
  obtain ⟨hbuild, hpend⟩ := State.fixed_iff.1 h.fixed
  obtain ⟨t, ht, hside, hout⟩ := act_out s y hbuild hpend
  have hreel := State.reel_of_side hside
  exact ⟨t, ht, congrArg Reel.tags hreel, State.tagSrc_congr (congrArg Reel.srcs hreel) i, State.fget_of_side hside _ (by decide) (by decide), hout⟩

theorem RecordsTag.transfer {s y t : State} {i outcome : Nat} {addr addr' : Option W64} (h : RecordsTag s y i outcome addr)
    (htags : t.reel.tags = y.reel.tags) (hloss : (t.tagSrc i).loss = (y.tagSrc i).loss)
    (hlost : t.fget Reg.REEL_TAGSTAT_LOST = y.fget Reg.REEL_TAGSTAT_LOST) (haddr : ∀ a, addr' = some a → addr = some a) : RecordsTag s t i outcome addr' := by
  obtain ⟨hfits, hfull⟩ := h
  refine ⟨fun hq => ?_, fun hq => ?_⟩
  · obtain ⟨x, hx, hft, hout, hsrc, hcd, hbit, hx2⟩ := hfits hq
    exact ⟨x, htags.trans hx, hft, hout, hsrc, hcd, hbit, fun a ha => hx2 a (haddr a ha)⟩
  · obtain ⟨hx, hl, hn⟩ := hfull hq
    exact ⟨htags.trans hx, hloss.trans hl, hlost.trans hn⟩

theorem SendsTag.transfer {s s' y t : State} {i : Nat} (h : SendsTag s y i) (hp : s.tagPeriod = s'.tagPeriod) (hst : SameTags i y t) : SendsTag s' t i := by
  obtain ⟨n, hcd, hlow, hhigh, hout⟩ := h
  exact ⟨n, (congrArg TagSrc.countdown hst.src).trans hcd, hp ▸ hlow, hp ▸ hhigh, hst.out _ hout⟩

theorem RecordsTag.tagSend {s y : State} {i outcome : Nat} {addr : Option W64} (h : RecordsTag s y i outcome addr) : RecordsTag s (y.tagSend i) i outcome addr := by
  obtain ⟨htags, hloss, -, hlost⟩ := y.tagSend_keeps i
  exact h.transfer htags hloss hlost fun _ ha => ha

/-- A tag that ends leaves its record, and the next one follows at an awake source. -/
theorem tagEnds {s y : State} {i outcome : Nat} {addr : Option W64} (honly : TagsOnly s y) (hrec : RecordsTag s y i outcome addr)
    (hsrc : y.tagSrc i = { s.tagSrc i with countdown := none, loss := !s.qFits 66 1 }) :
    ∃ t, act s (y.tagSend i) = .next t ∧ RecordsTag s t i outcome addr ∧ (s.tagged i = true → (s.tagSrc i).asleep = false → SendsTag s t i) := by
  obtain ⟨t, ht, hst⟩ := (honly.trans (.tagSend y i)).act i
  refine ⟨t, ht, hrec.tagSend.transfer hst.tags (congrArg TagSrc.loss hst.src) hst.lost fun _ ha => ha, fun htag hawake => ?_⟩
  refine (State.tagSend_sends ((honly.tagged i).trans htag) ?_ ?_).transfer honly.tagPeriod hst
  · rw [hsrc]
  · rw [hsrc]
    exact hawake

/-! ### Tags that do not return (R244) -/

theorem TagsOnly.tagLost (s : State) (i outcome : Nat) : TagsOnly s (s.tagLost i outcome) :=
  let h := TagsOnly.tagRecord { s with fresh := s.fresh + 2 } i outcome _ _ _ _ _
  ⟨h.fixed, h.snag, h.words⟩

theorem State.tagSrc_tagLost (s : State) (i outcome : Nat) :
    (s.tagLost i outcome).tagSrc i = { s.tagSrc i with countdown := none, loss := !s.qFits 66 1 } :=
  State.tagSrc_tagRecord { s with fresh := s.fresh + 2 } i outcome _ _ _ _ _

/-- The record of a tag that does not return carries address 0 after a timeout, and a free one otherwise. -/
theorem State.recordsTag_tagLost (s : State) (i : Nat) {outcome : Nat} (ho : outcome < 8) :
    RecordsTag s (s.tagLost i outcome) i outcome (some (if outcome = 3 then 0 else Config.freeWord (s.fresh + 1))) :=
  State.recordsTag_tagRecord { s with fresh := s.fresh + 2 } i outcome _ _ _ _ _ ho

/-! ### Tags that return, time out, or lose their core (R243, R244) -/

section TagEvents
variable {s : State} {i : Nat} (hon : s.reelOff = false)
include hon

theorem tagReturn_records (lat : Nat) (addr : W64) (info : Nat) (hcd : (s.tagSrc i).countdown.isSome = true) :
    ∃ t, exec (.tagReturn i lat addr info) s = .next t ∧ RecordsTag s t i (info % 2) (some addr) ∧
      (s.tagged i = true → (s.tagSrc i).asleep = false → SendsTag s t i) := by
  have hflight : ¬ ((s.tagSrc i).countdown.isNone || s.reelOff) = true := by
    rw [hon, Option.isNone_eq_false_iff.2 hcd]
    decide
  obtain ⟨t, ht, hends⟩ := tagEnds (.tagRecord s i (info % 2) addr (lat % 2 ^ 32) (lat / 2 ^ 32 % 2 ^ 32) (lat / 2 ^ 64) (info / 2 % 256))
    (s.recordsTag_tagRecord i (info % 2) addr _ _ _ _ (by omega)) (s.tagSrc_tagRecord ..)
  exact ⟨t, (congrArg (act s) (if_neg hflight)).trans ht, hends⟩

theorem tagTimeout_records (hcd : (s.tagSrc i).countdown.isSome = true) (hlim : s.fget Reg.REEL_TAG_TIMEOUT ≠ 0)
    (hdue : (s.tagSrc i).sentFt + s.fget Reg.REEL_TAG_TIMEOUT * us ≤ s.now) :
    ∃ t, exec (.tagTimeout i) s = .next t ∧ RecordsTag s t i 3 (some 0) ∧ (s.tagged i = true → (s.tagSrc i).asleep = false → SendsTag s t i) := by
  have hflight : ¬ ((s.tagSrc i).countdown.isNone || s.fget Reg.REEL_TAG_TIMEOUT == 0 ||
      decide (s.now < (s.tagSrc i).sentFt + s.fget Reg.REEL_TAG_TIMEOUT * us) || s.reelOff) = true := by
    rw [hon, Option.isNone_eq_false_iff.2 hcd, beq_false_of_ne hlim, decide_eq_false (Nat.not_lt.2 hdue)]
    decide
  obtain ⟨t, ht, hends⟩ := tagEnds (.tagLost s i 3) (s.recordsTag_tagLost i (by decide)) (s.tagSrc_tagLost i 3)
  exact ⟨t, (congrArg (act s) (if_neg hflight)).trans ht, hends⟩

theorem isHub_of_reelOn : s.build.isHub = false := by
  simp only [State.reelOff, Bool.or_eq_false_iff] at hon
  exact hon.1.1

theorem tagCorePowerDown_records :
    ∃ t, exec (.tagCorePowerDown i) s = .next t ∧ (t.tagSrc i).asleep = true ∧
      ((s.tagSrc i).countdown.isSome = true → RecordsTag s t i 2 none ∧ (t.tagSrc i).countdown = none) ∧
      ((s.tagSrc i).countdown = none → t.reel.tags = s.reel.tags) := by
  set y := if (s.tagSrc i).countdown.isSome && !s.reelOff then s.tagLost i 2 else s with hy
  have hexec : exec (.tagCorePowerDown i) s = act s (y.setTagSrc i { y.tagSrc i with asleep := true }) :=
    congrArg (act s) (if_neg (by rw [isHub_of_reelOn hon]; decide))
  have honly : TagsOnly s y := by
    rw [hy]
    split
    · exact .tagLost s i 2
    · exact .refl s
  obtain ⟨t, ht, hst⟩ := (honly.withReel { y.reel with srcs := Tab.set y.reel.srcs i { y.tagSrc i with asleep := true } }).act i
  have hsrc : t.tagSrc i = { y.tagSrc i with asleep := true } := hst.src.trans (State.tagSrc_setTagSrc y i _)
  refine ⟨t, hexec.trans ht, by rw [hsrc], fun hcd => ?_, fun hcd => ?_⟩
  · have hlost : y = s.tagLost i 2 := if_pos (by rw [hcd, hon]; decide)
    have hend : y.tagSrc i = { s.tagSrc i with countdown := none, loss := !s.qFits 66 1 } := by
      rw [hlost]
      exact State.tagSrc_tagLost ..
    refine ⟨?_, by rw [hsrc, hend]⟩
    have hrec : RecordsTag s y i 2 (some (Config.freeWord (s.fresh + 1))) := by
      rw [hlost]
      exact s.recordsTag_tagLost i (outcome := 2) (by decide)
    exact hrec.transfer hst.tags (by rw [hsrc]) hst.lost nofun
  · have hsame : y = s := if_neg (by rw [hcd]; simp)
    have htags : y.reel.tags = s.reel.tags := by rw [hsame]
    exact hst.tags.trans htags

theorem tagCoreWake_sends :
    ∃ t, exec (.tagCoreWake i) s = .next t ∧ (t.tagSrc i).asleep = false ∧ t.reel.tags = s.reel.tags ∧
      ((s.tagSrc i).countdown = none → s.tagged i = true → SendsTag s t i) := by
  set y := s.setTagSrc i { s.tagSrc i with asleep := false } with hy
  have hexec : exec (.tagCoreWake i) s = act s (y.tagSend i) :=
    congrArg (act s) (if_neg (by rw [isHub_of_reelOn hon]; decide))
  have hsrc : y.tagSrc i = { s.tagSrc i with asleep := false } := State.tagSrc_setTagSrc ..
  have honly : TagsOnly s y := (TagsOnly.refl s).withReel _
  obtain ⟨htags, -, hasleep, -⟩ := y.tagSend_keeps i
  obtain ⟨t, ht, hst⟩ := (honly.trans (.tagSend y i)).act i
  refine ⟨t, hexec.trans ht, ?_, hst.tags.trans htags, fun hcd htag => ?_⟩
  · rw [hst.src, hasleep, hsrc]
  · refine (State.tagSend_sends ((honly.tagged i).trans htag) ?_ ?_).transfer honly.tagPeriod hst
    · rw [hsrc]
      exact hcd
    · rw [hsrc]

end TagEvents

/-- Settles O44: the samples of a read-out, and the tags event by event. -/
theorem samplesAndTagsAreTaken : Obligations.SamplesAndTagsAreTaken := by
  refine ⟨fun s vals r rest hreads hstop => ⟨fun id hfail => readoutDone_failed vals hreads hstop hfail, fun q hgood hcut hsets hopen hstale => ?_⟩,
    fun s i _ hon => ?_⟩
  · intro x
    obtain ⟨t, ht, hsampled⟩ := readoutDone_samples vals hreads hstop hgood hcut hsets hopen hstale
    obtain ⟨hrest, hpair⟩ := Prod.ext_iff.1 hsampled
    obtain ⟨hlatest, hprev⟩ := Prod.ext_iff.1 hpair
    exact ⟨t, s.sampleOf r q vals, ht, hrest, hlatest, rfl, rfl, rfl, s.length_sampleOf r q vals, hprev, fun i sel hsel hspace =>
      s.sampleOf_counter r vals hstale hsel hspace⟩
  · intro sends records
    exact ⟨fun lat addr info hcd => tagReturn_records hon lat addr info hcd, tagTimeout_records hon, tagCorePowerDown_records hon, tagCoreWake_sends hon⟩

end Sys2Proof.Machine
end

section
/-! SUPPORT. The initiator port of a Leaf (R253 to R256): what a transfer that issues, waits or ends leaves of the meter. -/

namespace Sys2Proof.Machine

open Sys2Proof

/-! ### A transfer that issues, or waits for tokens (R253, R254) -/

/-- What a meaning leaves of the meter and of the Reel's counters, and what it gave at the boundary, the outcome shows. -/
theorem act_meter {s y : State} (h : y.fixed = s.fixed) :
    ∃ t, act s y = .next t ∧ t.meter = y.meter ∧ (∀ f : RF, quietWord f.addr = true → f.lo + f.w ≤ 32 → t.fget f = y.fget f) ∧ ∀ e ∈ y.out, e ∈ t.out := by
  obtain ⟨hbuild, hpend⟩ := State.fixed_iff.1 h
  obtain ⟨t, ht, hside, hout⟩ := act_out s y hbuild hpend
  exact ⟨t, ht, State.meter_of_side hside, fun f hq hw => State.fget_of_side hside f hq (.inl hw), hout⟩

section Issue
variable {s : State} {i : Nat} {x : Xfer} (hleaf : s.build = .leaf) (hbusy : s.meter.busy = none) (hstop : s.stopped = false)
  (hnext : nextXfer s.meter.queue = some (i, x))
include hleaf hbusy hstop hnext

theorem meterTransfer_issues (htokens : min 64 x.left * 800 ≤ s.meterRefill.meter.tokens) :
    ∃ t, exec .meterTransfer s = .next t ∧ t.meter.busy = some (min 64 x.left) ∧ t.meter.tokens = s.meterRefill.meter.tokens - min 64 x.left * 800 ∧
      t.meter.queue = s.meter.queue.set i { x with waited := false, flying := true } ∧ (x.data ≠ [] → .dma x.slice x.addr (x.data.take (min 64 x.left)) ∈ t.out) := by
  set n := min 64 x.left with hn
  set u := if x.data.isEmpty then s.meterRefill else s.meterRefill.emit (.dma x.slice x.addr (x.data.take n)) with hu
  have hmeter : u.meter = s.meterRefill.meter := by
    rw [hu]
    split <;> rfl
  have hfixed : u.fixed = s.fixed := by
    rw [hu]
    split <;> rfl
  have hissue : s.meterIssue = u.withMeter { u.meter with
      tokens := u.meter.tokens - n * 800, busy := some n, queue := u.meter.queue.set i { x with waited := false, flying := true } } := by
    simp only [State.meterIssue, isHub_of_leaf hleaf, hbusy, hstop, hnext]
    simp only [Option.isSome_none, Bool.or_self, Bool.false_and, Bool.false_eq_true, if_false]
    rw [if_pos htokens]
    rfl
  obtain ⟨t, ht, htm, -, hout⟩ := act_meter (s := s) (y := s.meterIssue) (by rw [hissue]; exact hfixed)
  rw [hissue] at htm hout
  refine ⟨t, ht, by rw [htm]; rfl, ?_, ?_, fun hdata => hout _ ?_⟩
  · rw [htm, hmeter]
    rfl
  · rw [htm, hmeter]
    rfl
  · show _ ∈ u.out
    rw [hu, if_neg (by simpa using hdata)]
    exact State.out_emit_self ..

theorem meterTransfer_waits (htokens : s.meterRefill.meter.tokens < min 64 x.left * 800) (hwaited : x.waited = false) :
    ∃ t, exec .meterTransfer s = .next t ∧ t.meter.busy = none ∧ t.meter.queue = s.meter.queue.set i { x with waited := true } ∧
      t.fget Reg.REEL_METER_WAITS = (s.fget Reg.REEL_METER_WAITS + 1) % 65536 := by
  set u := s.meterRefill.bump Reg.REEL_METER_WAITS with hu
  have hmeter : u.meter = s.meterRefill.meter := State.bump_meter ..
  have hwait : s.meterIssue = u.withMeter { u.meter with queue := u.meter.queue.set i { x with waited := true } } := by
    simp only [State.meterIssue, isHub_of_leaf hleaf, hbusy, hstop, hnext, hwaited]
    simp only [Option.isSome_none, Bool.or_self, Bool.false_and, Bool.false_eq_true, if_false]
    rw [if_neg (Nat.not_le.2 htokens)]
    rfl
  obtain ⟨t, ht, htm, hfield, -⟩ := act_meter (s := s) (y := s.meterIssue) (by rw [hwait]; exact (State.fixed_bump ..).trans rfl)
  refine ⟨t, ht, ?_, ?_, ?_⟩
  · rw [htm, hwait, hmeter]
    exact hbusy
  · rw [htm, hwait, hmeter]
    rfl
  · rw [hfield _ (by decide) (by decide), hwait, State.fget_withMeter, hu, State.fget_bump _ (by decide)]
    rfl

end Issue

/-! ### A transfer that ends (R256) -/

section Done
variable {s : State} {n i : Nat} {x : Xfer} (hbusy : s.meter.busy = some n) (hfly : s.meter.queue.findIdx? (·.flying) = some i) (hx : s.meter.queue[i]? = some x)
include hbusy hfly hx

/-- The burst that ends is not the last of its transfer. -/
theorem hostTransferDone_goesOn (v : W32) (hlt : n < x.left) :
    ∃ t, exec (.hostTransferDone true v) s = .next t ∧ t.meter.busy = none ∧
      t.meter.queue = s.meter.queue.set i { x with addr := x.addr + BitVec.ofNat 64 n, data := x.data.drop n, left := x.left - n, flying := false } := by
  have hleft : (x.left - n == 0) = false := beq_false_of_ne (by omega)
  have hdone : s.transferDone true v = s.withMeter { s.meter with
      busy := none, queue := s.meter.queue.set i { x with addr := x.addr + BitVec.ofNat 64 n, data := x.data.drop n, left := x.left - n, flying := false } } := by
    simp only [State.transferDone, hbusy, hfly, hx, hleft]
    rfl
  obtain ⟨t, ht, htm, -⟩ := act_meter (s := s) (y := s.transferDone true v) (by rw [hdone]; rfl)
  exact ⟨t, ht, by rw [htm, hdone]; rfl, by rw [htm, hdone]; rfl⟩

/-- The last burst of a dump ends. -/
theorem hostTransferDone_dump (ok : Bool) (v : W32) {k : Nat} (hle : x.left ≤ n) (huse : x.use_ = .dump k) :
    ∃ t, exec (.hostTransferDone ok v) s = .next t ∧ t.meter.busy = none ∧ t.meter.queue = s.meter.queue.eraseIdx i ∧
      ((s.meter.queue.eraseIdx i).any (fun y => y.use_ == .dump k) = false →
        t.fget Reg.REEL_DUMPSTAT_DUMPS = (s.fget Reg.REEL_DUMPSTAT_DUMPS + 1) % 65536) := by
  set u := s.withMeter { s.meter with busy := none, queue := s.meter.queue.eraseIdx i } with hu
  have hleft : (x.left - n == 0) = true := beq_iff_eq.2 (by omega)
  have hdone : s.transferDone ok v = if u.dumpWriting k then u else u.bump Reg.REEL_DUMPSTAT_DUMPS := by
    simp only [State.transferDone, hbusy, hfly, hx, hleft, Bool.true_or, if_true, State.xferEnd, huse]
    rfl
  have hkept : (s.transferDone ok v).meter = u.meter ∧ (s.transferDone ok v).fixed = s.fixed := by
    rw [hdone]
    split
    · exact ⟨rfl, rfl⟩
    · exact ⟨State.bump_meter .., State.fixed_bump ..⟩
  obtain ⟨t, ht, htm, hfield, -⟩ := act_meter hkept.2
  have hmeter := htm.trans hkept.1
  refine ⟨t, ht, congrArg Meter.busy hmeter, congrArg Meter.queue hmeter, fun hlast => ?_⟩
  have hwriting : u.dumpWriting k = false := hlast
  rw [hfield _ (by decide) (by decide), hdone, hwriting, if_neg Bool.false_ne_true, State.fget_bump _ (by decide), State.fget_withMeter]
  rfl

end Done

end Sys2Proof.Machine
end

section
/-! SUPPORT. The end of the log's freeze at its limit (R662), and the capture of a dump (R666 to R670). -/

namespace Sys2Proof.Machine

open Sys2Proof

/-! ### The freeze reaches its limit (R662) -/

/-- A read that is cut to `total` bytes, with other transfers waiting at the meter. -/
def State.cutRead (s : State) (total : Nat) (q : List Xfer) : State :=
  { s with skn := { s.skn with readLen := total }, meter := { s.meter with queue := q } }

theorem State.skn_waiting_of_side {s t : State} (h : t.side = s.side) : t.skn.waiting = s.skn.waiting :=
  (congrArg (fun x => x.skn.waiting) h : t.side.skn.waiting = s.side.skn.waiting)

theorem State.side_logThaw (s : State) : s.logThaw.side = ({ s with skn := { s.skn with read := none } } : State).side :=
  foldl_invariant State.side _ _ { s with skn := { s.skn with staged := [], read := none } } fun _ _ _ => State.side_logEnter ..

/-- The read that runs ends well, and nothing waits behind it. -/
theorem State.logReadEnd_ok {s : State} {r : Running} (hr : s.skn.read = some r) (hwait : s.skn.waiting = []) :
    s.logReadEnd none = s.logThaw.completeOk r (s.skn.readLen / 64) := by
  have hthaw : s.logThaw.skn.waiting = s.skn.waiting := (State.skn_waiting_of_side s.side_logThaw).trans rfl
  simp only [State.logReadEnd, hr, State.completeOk_skn, hthaw, hwait]
  rfl

/-- A command that runs completes: its completion waits last. -/
theorem State.complete_waits {s : State} {r : Running} {n : Nat} (hs : r.src = .slice n) (hr : r ∈ (s.slice n).running) (st v se : Nat) :
    ∃ c, ((s.complete r st v se).slice n).cplWait = (s.slice n).cplWait ++ [c] ∧ c.status = st ∧ c.value = v ∧ c.dseq = r.dseq := by
  have hany : ((s.slice n).running.any fun y => y.dseq == r.dseq && y.opcode == r.opcode) = true := List.any_eq_true.2 ⟨r, hr, by simp⟩
  simp only [State.complete, hs, hany]
  simp only [Bool.not_true, Bool.false_eq_true, if_false]
  refine ⟨{ opcode := r.opcode, status := st, session := se, value := v, dseq := r.dseq, ct := s.ct, irq := r.d.irq }, ?_, rfl, rfl, rfl⟩
  rw [State.checkQuiesced_cplWait]
  repeat' split
  all_goals simp

section Limit
variable {s : State} {r : Running} {x : Xfer} (hr : s.skn.read = some r) (hlim : s.skn.readFt + max 1 (s.fget Reg.SKN_FRZ_LIM) * us ≤ s.now)
  (hx : s.meter.queue.find? (fun y => y.use_ == XferUse.log) = some x)
include hr hlim hx

/-- The bytes of the records begun when the freeze reaches its limit. -/
def State.begunBytes (s : State) (x : Xfer) : Nat :=
  min s.skn.readLen (ceilDiv (s.skn.readLen - x.left + (if x.flying then s.meter.busy.getD 0 else 0)) 64 * 64)

theorem State.logLimit_eq :
    let total := s.begunBytes x
    let left := x.left - (s.skn.readLen - total)
    s.logLimit = if left = 0 ∧ !x.flying then (s.cutRead total (s.meter.queue.filter fun y => y.use_ != XferUse.log)).logReadEnd none
      else s.cutRead total (s.meter.queue.map fun y => if y.use_ == XferUse.log then { x with left, data := x.data.take left } else y) := by
  intro total left
  unfold State.logLimit
  split
  · rename_i hnone
    cases hnone.symm.trans hr
  rw [if_neg (Nat.not_lt.2 hlim)]
  split
  · rename_i hnone
    cases hnone.symm.trans hx
  · rename_i y hy
    cases hy.symm.trans hx
    rfl

/-- A record is in progress: the read keeps it, and drops what comes after it. -/
theorem logFreezeLimit_cuts :
    let total := s.begunBytes x
    let left := x.left - (s.skn.readLen - total)
    (left ≠ 0 ∨ x.flying = true) → ∃ t, exec .logFreezeLimit s = .next t ∧ t.skn.readLen = total ∧ t.skn.read = some r ∧
      t.meter.queue = s.meter.queue.map fun y => if y.use_ == XferUse.log then { x with left, data := x.data.take left } else y := by
  intro total left hleft
  have hcut : s.logLimit = s.cutRead total (s.meter.queue.map fun y => if y.use_ == XferUse.log then { x with left, data := x.data.take left } else y) := by
    rw [State.logLimit_eq hr hlim hx, if_neg]
    rintro ⟨hzero, hfly⟩
    exact hleft.elim (· hzero) fun h => by simp [h] at hfly
  obtain ⟨t, ht, hside⟩ := act_side s s.logLimit (by rw [hcut]; rfl) (by rw [hcut]; rfl)
  rw [hcut] at hside
  exact ⟨t, ht, congrArg (fun u : State => u.skn.readLen) hside, (State.skn_read_of_side hside).trans hr, congrArg Meter.queue (State.meter_of_side hside)⟩

/-- No record is in progress: the read ends with the records begun. -/
theorem logFreezeLimit_ends {n : Nat} :
    let total := s.begunBytes x
    x.left - (s.skn.readLen - total) = 0 → x.flying = false → s.skn.waiting = [] → r.src = .slice n → r ∈ (s.slice n).running →
      ∃ t c, exec .logFreezeLimit s = .next t ∧ t.skn.read = none ∧ t.meter.queue = s.meter.queue.filter (fun y => y.use_ != XferUse.log) ∧
        (t.slice n).cplWait = (s.slice n).cplWait ++ [c] ∧ c.status = stOK ∧ c.value = total / 64 ∧ c.dseq = r.dseq := by
  intro total hleft hfly hwait hsrc hrun
  set u := s.cutRead total (s.meter.queue.filter fun y => y.use_ != XferUse.log) with hu
  have hend : s.logLimit = u.logThaw.completeOk r (total / 64) := by
    rw [State.logLimit_eq hr hlim hx, if_pos ⟨hleft, by rw [hfly]; rfl⟩]
    exact State.logReadEnd_ok (s := u) hr hwait
  have hthaw := u.side_logThaw
  have hslice : u.logThaw.slice n = s.slice n := State.slice_congr (State.hif_of_side hthaw) n
  have hfixed : s.logLimit.fixed = s.fixed := by rw [hend, State.fixed_completeOk, State.fixed_of_side hthaw]; rfl
  obtain ⟨hbuild, hpend⟩ := State.fixed_iff.1 hfixed
  obtain ⟨t, ht, hside⟩ := act_side s s.logLimit hbuild hpend
  obtain ⟨c, hcpl, hc⟩ := State.complete_waits (s := u.logThaw) hsrc (by rw [hslice]; exact hrun) stOK (total / 64) r.d.session.toNat
  refine ⟨t, c, ht, ?_, ?_, ?_, hc⟩
  · rw [State.skn_read_of_side hside, hend, State.completeOk_skn, State.skn_read_of_side hthaw]
  · rw [State.meter_of_side hside, hend, State.completeOk_meter, State.meter_of_side hthaw]
    rfl
  · rw [State.slice_congr (State.hif_of_side hside), hend, ← hslice]
    exact hcpl

end Limit

/-! ### The capture of a dump (R666, R667, R670) -/

/-- A capture that ends holds its dump, and shows it (R676). -/
def State.dumpShown (s : State) (c : Capture) (ns : Nat) : State :=
  ((((s.bump Reg.SKN_DUMPSTAT_NUM).fset Reg.SKN_DUMPSTAT_PORT c.port).fsetB Reg.SKN_DUMPSTAT_AUTO c.auto).fset Reg.SKN_DUMPSTAT_MASK c.mask).fset Reg.SKN_SMEAR_NS ns

theorem State.skn_dumpShown (s : State) (c : Capture) (ns : Nat) : (s.dumpShown c ns).skn = s.skn := by simp [State.dumpShown]
theorem State.fixed_dumpShown (s : State) (c : Capture) (ns : Nat) : (s.dumpShown c ns).fixed = s.fixed := by simp [State.dumpShown, State.fsetB]

/-- A write leaves every field that it shares no bit with. -/
theorem State.fget_fset_of_beside (s : State) {f g : RF} (v : Nat) (hf : f.lo + f.w ≤ 32) (hg : g.lo + g.w ≤ 32) (h : beside f g = true) :
    (s.fset f v).fget g = s.fget g := by
  by_cases ha : g.addr = f.addr
  · exact State.fget_fset_beside s f g v ha hf hg (by simpa [beside, ha] using h)
  · exact State.fget_fset_apart s v hf hg ha

/-- The word that shows the dump: each of its fields as it was written. -/
theorem State.fget_dumpShown (s : State) (c : Capture) (ns : Nat) :
    (s.dumpShown c ns).fget Reg.SKN_DUMPSTAT_NUM = (s.fget Reg.SKN_DUMPSTAT_NUM + 1) % 256 ∧ (s.dumpShown c ns).fget Reg.SKN_DUMPSTAT_PORT = c.port % 2 ∧
      (s.dumpShown c ns).flag Reg.SKN_DUMPSTAT_AUTO = c.auto ∧ (s.dumpShown c ns).fget Reg.SKN_DUMPSTAT_MASK = c.mask % 65536 := by
  simp (disch := decide) only [State.flag, State.dumpShown, State.bump, State.fadd, State.fsetB, State.fget_fset_of_beside, State.fget_fset_self]
  refine ⟨rfl, rfl, ?_, rfl⟩
  cases c.auto <;> rfl

/-- The state that holds the dump of a capture. -/
def State.captured (s : State) (c : Capture) (bs : List Byte) (fresh : Nat) : State :=
  { s with
    fresh
    skn := { s.skn with
      dump := some { port := c.port, auto := c.auto, mask := c.mask, startFt := c.start, endFt := s.ft, bytes := bs, pos := 0 }
      capture := none, dbgPos := 0 } }

theorem State.freeDiv_state (s : State) (a : Int) (b : Nat) : ∃ fresh, (s.freeDiv a b).2 = { s with fresh } := by
  unfold State.freeDiv
  split <;> exact ⟨_, rfl⟩

section Capture
variable {s : State} {c : Capture} (hc : s.skn.capture = some c)
include hc

theorem dumpUnitTimeout_notes (unit : Nat) (hw : s.work = []) :
    exec (.dumpUnitTimeout unit) s = .next { s with skn := { s.skn with noResp := Tab.set s.skn.noResp unit () } } :=
  (congrArg (act s) (if_pos (by rw [hc]; rfl))).trans (act_of_calm s { s with skn := { s.skn with noResp := Tab.set s.skn.noResp unit () } } hw rfl rfl)

/-- The dump is held and shown and its record is written, and then the command that asked completes. -/
theorem State.captureDone_eq (hready : s.build = .leaf ∨ s.boot.hbmReady = true) :
    ∃ bs fresh ns w, w.side = ((s.captured c bs fresh).dumpShown c ns).side ∧
      s.captureDone = match c.cmd with | some r => w.completeOk r bs.length | none => w := by
  have hgo : ¬ (s.build.isHub && !s.boot.hbmReady) = true := by
    rcases hready with hleaf | hhbm
    · simp [isHub_of_leaf hleaf]
    · simp [hhbm]
  unfold State.captureDone
  split
  · rename_i hnone
    cases hnone.symm.trans hc
  rename_i c' hc'
  cases hc'.symm.trans hc
  rw [if_neg hgo]
  obtain ⟨fresh, hfresh⟩ := s.freeDiv_state ((s.ft : Int) - c.start) 4
  simp only [hfresh]
  refine ⟨_, fresh, _, _, State.side_logAdd .., rfl⟩

/-- What is held of the capture, and what the word of the dump shows, in the state that the end of the capture leaves. -/
theorem State.captureDone_shows (hready : s.build = .leaf ∨ s.boot.hbmReady = true) :
    ∃ bs fresh ns, s.captureDone.fixed = s.fixed ∧ s.captureDone.skn.dump = (s.captured c bs fresh).skn.dump ∧
      ∀ f : RF, plainWord f.addr = true → quietWord f.addr = true → f.lo + f.w ≤ 32 → s.captureDone.fget f = ((s.captured c bs fresh).dumpShown c ns).fget f := by
  obtain ⟨bs, fresh, ns, w, hside, hdone⟩ := State.captureDone_eq hc hready
  have hfixed : w.fixed = s.fixed := (State.fixed_of_side hside).trans (State.fixed_dumpShown ..)
  have hdump : w.skn.dump = (s.captured c bs fresh).skn.dump := by rw [State.skn_dump_of_side hside, State.skn_dumpShown]
  have hfield := fun (f : RF) (hq : quietWord f.addr = true) (hw : f.lo + f.w ≤ 32) => State.fget_of_side hside f hq (.inl hw)
  refine ⟨bs, fresh, ns, ?_⟩
  rw [hdone]
  cases c.cmd with
  | none => exact ⟨hfixed, hdump, fun f _ => hfield f⟩
  | some r =>
    refine ⟨(State.fixed_completeOk ..).trans hfixed, ?_, fun f hp hq hw => ?_⟩
    · rw [State.completeOk_skn, hdump]
    · exact (State.fget_congr f (State.regGet_complete _ _ _ _ _ _ hp) (.inl hw)).trans (hfield f hq hw)

/-- A capture that ends is held under its number (R670). -/
theorem dumpCaptureDone_holds (hready : s.build = .leaf ∨ s.boot.hbmReady = true) :
    ∃ t d, exec .dumpCaptureDone s = .next t ∧ t.skn.dump = some d ∧ d.port = c.port ∧ d.auto = c.auto ∧ d.mask = c.mask ∧ d.startFt = c.start ∧
      d.endFt = s.ft ∧ d.pos = 0 ∧ t.fget Reg.SKN_DUMPSTAT_NUM = (s.fget Reg.SKN_DUMPSTAT_NUM + 1) % 256 ∧ t.fget Reg.SKN_DUMPSTAT_PORT = c.port % 2 ∧
      t.flag Reg.SKN_DUMPSTAT_AUTO = c.auto ∧ t.fget Reg.SKN_DUMPSTAT_MASK = c.mask % 65536 := by
  obtain ⟨bs, fresh, ns, hfixed, hdump, hfield⟩ := State.captureDone_shows hc hready
  obtain ⟨hbuild, hpend⟩ := State.fixed_iff.1 hfixed
  obtain ⟨t, ht, hside⟩ := act_side s s.captureDone hbuild hpend
  have hshown (f : RF) (hp : plainWord f.addr = true) (hq : quietWord f.addr = true) (hw : f.lo + f.w ≤ 32) :
      t.fget f = ((s.captured c bs fresh).dumpShown c ns).fget f :=
    (State.fget_of_side hside f hq (.inl hw)).trans (hfield f hp hq hw)
  obtain ⟨hnum, hport, hauto, hmask⟩ := State.fget_dumpShown (s.captured c bs fresh) c ns
  refine ⟨t, _, ht, (State.skn_dump_of_side hside).trans hdump, rfl, rfl, rfl, rfl, rfl, rfl, ?_, ?_, ?_, ?_⟩
  · exact (hshown _ (by decide) (by decide) (by decide)).trans hnum
  · exact (hshown _ (by decide) (by decide) (by decide)).trans hport
  · exact (congrArg (· != 0) (hshown _ (by decide) (by decide) (by decide))).trans hauto
  · exact (hshown _ (by decide) (by decide) (by decide)).trans hmask

end Capture

/-- Settles O52, by the port's rules (one that issues, one that waits, one that ends), by the two ways a freeze meets its limit, and by what a capture leaves
at its end. -/
theorem transfersLogAndDumpsEnd : Obligations.TransfersLogAndDumpsEnd := by
  unfold Obligations.TransfersLogAndDumpsEnd
  refine ⟨fun s hleaf => ⟨fun i x hbusy hstop hnext => ?_, fun n i x v hbusy hfly hx => ?_⟩, fun s r x hr hlim hx => ?_, fun s c hc => ?_⟩
  · intro n have_
    exact ⟨meterTransfer_issues hleaf hbusy hstop hnext, meterTransfer_waits hleaf hbusy hstop hnext⟩
  · exact ⟨hostTransferDone_goesOn hbusy hfly hx v, fun k ok => hostTransferDone_dump hbusy hfly hx ok v⟩
  · intro sent total left
    exact ⟨logFreezeLimit_cuts hr hlim hx, fun n => logFreezeLimit_ends hr hlim hx⟩
  · exact ⟨dumpUnitTimeout_notes hc, dumpCaptureDone_holds hc⟩

end Sys2Proof.Machine
end

section
/-! SUPPORT. Broadcasts, cuts and the trigger of an armed Trace unit (R275, R276, R423 to R429, R589 to R591): what they leave alone. -/

namespace Sys2Proof.Machine

/-! ### Broadcasts (R589 to R591) -/

@[simp] theorem State.side_bcastSend (s : State) (typ tc depth place : Nat) (w : List W64) : (s.bcastSend typ tc depth place w).side = s.side :=
  foldl_side _ _ _ fun _ _ _ => State.side_send ..

@[simp] theorem State.side_broadcast (s : State) (typ tc depth : Nat) (pfx : Hank) (w : List W64) : (s.broadcast typ tc depth pfx w).side = s.side :=
  State.side_bcastSend ..

theorem State.side_dedupe (s : State) (orig : Hank) (epoch bseq : Nat) : (s.dedupe orig epoch bseq).2.side = s.side := by
  simp only [State.dedupe]
  repeat' split
  · rfl
  · rfl
  · rfl
  · rfl
  · rfl
  · rfl
  · rw [State.side_raise, State.bump, State.fadd, State.side_fset_STR_BCSTAT_EVICT]; rfl

@[simp] theorem State.side_rxPass (s : State) (p n : Nat) : (s.rxPass p n).side = s.side := State.side_led ..

theorem State.side_takeBcast (s : State) (m : Msg) : (s.takeBcast m).1.side = s.side := by
  simp only [State.takeBcast]
  have h := s.side_dedupe (BitVec.ofNat 48 (m.words.getD 0 0).toNat) ((m.words.getD 1 0).toNat / 2 ^ 48) ((m.words.getD 1 0).toNat % 2 ^ 32)
  split <;> rename_i s1 he <;> rw [he] at h
  · rw [State.fadd, State.side_fset_STR_BCSTAT_DUP, State.side_led, h]
  · rw [State.side_bcastSend, State.side_rxPass, h]

/-! ### Cuts (R157, R423) -/

@[simp] theorem State.side_auditPoints (s : State) : s.auditPoints.side = s.side := by
  have hstatus (t : State) (f : RF) (v : Nat) (h : f.addr = Reg.LEA_STATUS_SAT.addr) (hw : f.lo + f.w ≤ 32) : (t.fset f v).side = t.side :=
    State.fset_side t f v (by rw [h]; decide) (.inl hw)
  unfold State.auditPoints
  split
  · rfl
  · rw [State.bump, State.fadd, hstatus _ Reg.LEA_STATUS_AUDITS _ rfl (by decide), foldl_side]
    intro t e _
    extract_lets kind inst held ok
    split
    · rfl
    · rw [State.side_raise, hstatus _ Reg.LEA_STATUS_MISMATCH _ rfl (by decide)]

theorem State.tws_cuts_of_offReel {s t : State} (h : t.offReel = s.offReel) : t.tws.cuts = s.tws.cuts :=
  (congrArg (fun x => x.tws.cuts) h : t.offReel.tws.cuts = s.offReel.tws.cuts)
theorem State.lea_cut_of_offReel {s t : State} (h : t.offReel = s.offReel) : t.lea.cut = s.lea.cut :=
  (congrArg (fun x => x.lea.cut) h : t.offReel.lea.cut = s.offReel.lea.cut)
theorem State.fixed_of_offReel {s t : State} (h : t.offReel = s.offReel) : t.fixed = s.fixed := (congrArg State.fixed h : t.offReel.fixed = s.offReel.fixed)

theorem State.fget_CUTFT_of_offReel {s t : State} (h : t.offReel = s.offReel) : t.fget Reg.LEA_CUTFT_FT = s.fget Reg.LEA_CUTFT_FT := by
  have hlow := State.regGet_of_offReel h (k := Reg.LEA_CUTFT_FT.addr) (by decide) (by decide)
  have hhigh := State.regGet_of_offReel h (k := Reg.LEA_CUTFT_FT.addr + 4) (by decide) (by decide)
  unfold State.fget
  rw [hlow, hhigh]

/-- A block that has latched its ledger points and the FT of a cut (R157, R423). -/
def State.latched (s : State) : State := ({ s with lea := { s.lea with cut := s.lea.pts } } : State).fset Reg.LEA_CUTFT_FT s.ft

/-- Of what a cut does, an owed effect or the Reel could undo all but the latches. -/
theorem State.offReel_takeCut (s : State) (q : CutReq) (late : Bool) : (s.takeCut q late).offReel = s.latched.offReel := by
  unfold State.takeCut
  extract_lets up cp s0 t u c twister s2 sets
  have hside : s2.side = s.latched.side := (State.side_auditPoints _ : u.side = _)
  rw [State.offReel_of_side (State.side_sendUp ..), State.offReel_strobe, State.offReel_of_side hside]

/-! ### Registers of the Trace unit -/

theorem State.fget_putPacket (s : State) (ws : List W64) : (s.putPacket ws).fget Reg.TRC_WRCNT_COUNT = (s.fget Reg.TRC_WRCNT_COUNT + pktBytes ws) % 2 ^ 64 :=
  State.fget_fset _ Reg.TRC_WRCNT_COUNT _ (by decide)

theorem State.fget_putPacket_clear (s : State) (ws : List W64) {g : RF} (h : g.clear Reg.TRC_WRCNT_COUNT = true) :
    (s.putPacket ws).fget g = s.fget g := State.fget_fset_clear _ _ h

/-! ### The trigger of an armed unit (R275, R276) -/

section Trigger
variable (s : State) (cause arg ft : Nat)

/-- The write count of a unit at its trigger is its trigger count and the trigger's packet. -/
theorem State.atTrigger_WRCNT : (s.atTrigger cause arg ft).fget Reg.TRC_WRCNT_COUNT = (s.fget Reg.TRC_WRCNT_COUNT + 16) % 2 ^ 64 := by
  unfold State.atTrigger
  rw [State.fget_putPacket]
  simp (disch := decide) only [State.fget_fset_clear]
  rfl

theorem State.atTrigger_TRIGCNT : (s.atTrigger cause arg ft).fget Reg.TRC_TRIGCNT_COUNT = s.fget Reg.TRC_WRCNT_COUNT := by
  unfold State.atTrigger
  simp (disch := decide) only [State.fget_putPacket_clear, State.fget_fset_clear, State.fget_fset]
  exact Nat.mod_eq_of_lt (s.fget_lt Reg.TRC_WRCNT_COUNT)

theorem State.atTrigger_CAUSE : (s.atTrigger cause arg ft).fget Reg.TRC_STATUS_CAUSE = cause % 8 := by
  unfold State.atTrigger
  simp (disch := decide) only [State.fget_putPacket_clear, State.fget_fset_clear, State.fget_fset]
  rfl

theorem State.atTrigger_trcState : (s.atTrigger cause arg ft).trcState = tPOST := by
  unfold State.atTrigger State.trcState
  simp (disch := decide) only [State.fget_putPacket_clear, State.fget_fset]
  rfl

@[simp] theorem State.side_atTrigger : (s.atTrigger cause arg ft).side = s.side := by simp [State.atTrigger]

theorem State.atTrigger_work : (s.atTrigger cause arg ft).work = s.work := by simp [State.atTrigger, State.putPacket]

variable {s cause}

/-- A unit that is to keep something after its trigger does not freeze at once. -/
theorem State.checkTarget_atTrigger {c : TrcCfg} (hc : s.trc.cfg = some c) (hpre : c.pre < 16) :
    (s.atTrigger cause arg ft).checkTarget = s.atTrigger cause arg ft := by
  have hcfg : (s.atTrigger cause arg ft).trc.cfg = some c := (State.trc_cfg_of_side (s.side_atTrigger cause arg ft)).trans hc
  have hlt := s.fget_lt Reg.TRC_WRCNT_COUNT
  have htarget : 131072 ≤ c.target := by unfold TrcCfg.target; omega
  unfold State.checkTarget
  rw [hcfg]
  refine if_neg fun h => ?_
  have hreach := h.2
  rw [State.atTrigger_WRCNT, State.atTrigger_TRIGCNT] at hreach
  omega

theorem State.traceTrigger_posts {c : TrcCfg} (hleaf : s.build = .leaf) (hon : s.trigEnabled cause arg = true) (harmed : s.trcState = tARMED)
    (hc : s.trc.cfg = some c) (hpre : c.pre < 16) : s.traceTrigger cause arg ft = s.atTrigger cause arg ft := by
  rw [State.traceTrigger_armed (by rw [hleaf]; rfl) hon harmed, State.checkTarget_atTrigger _ _ hc hpre]

end Trigger

end Sys2Proof.Machine
end

section
/-! SUPPORT. Pending cuts and starts when their time comes (R275, R423, R426, R429, R601 to R603). -/

namespace Sys2Proof.Machine

/-! ### Starts at a Leaf (R600, R602) -/

/-- The build, the commands that wait, and the starts that a Leaf holds. -/
def State.armed (s : State) : (Build × List Instr) × List LeafStart := (s.fixed, s.str.leafStarts)

theorem State.armed_of_side {s t : State} (h : t.side = s.side) : t.armed = s.armed :=
  Prod.ext (State.fixed_of_side h) (State.str_leafStarts_of_side h)
theorem State.armed_of_rest {s t : State} (h : t.rest = s.rest) : t.armed = s.armed :=
  Prod.ext (State.fixed_of_rest h) (congrArg Strand.leafStarts (State.str_of_rest h))

/-- A state with a start forgotten. -/
def forgetting (x : LeafStart) (v : (Build × List Instr) × List LeafStart) : (Build × List Instr) × List LeafStart := (v.1, v.2.filter (· != x))

theorem State.armed_dropStart (s : State) (x : LeafStart) : (s.dropStart x).armed = forgetting x s.armed := rfl

theorem State.armed_missStart (s : State) (x : LeafStart) : (s.missStart x).armed = forgetting x s.armed := by
  unfold State.missStart
  rw [foldl_invariant State.armed _ _ _ fun t n _ => ?_, State.armed_dropStart]
  exact (State.armed_of_rest (State.rest_pushTo ..)).trans (State.armed_of_rest (by simp))

/-- A fold that forgets some of the starts it visits. -/
theorem foldl_armed (f : State → LeafStart → State) (gone : LeafStart → Bool)
    (hf : ∀ s x, (f s x).armed = if gone x then forgetting x s.armed else s.armed) (l : List LeafStart) (s : State) :
    (l.foldl f s).armed = (s.fixed, s.str.leafStarts.filter fun y => !(l.contains y && gone y)) := by
  induction l generalizing s with
  | nil => simp [State.armed]
  | cons x l ih =>
    have hx := hf s x
    rw [List.foldl_cons, ih]
    have hfix : (f s x).fixed = s.fixed := (congrArg Prod.fst hx).trans (by split <;> rfl)
    have hl : (f s x).str.leafStarts = if gone x then s.str.leafStarts.filter (· != x) else s.str.leafStarts :=
      (congrArg Prod.snd hx).trans (by split <;> rfl)
    rw [hfix, hl]
    refine Prod.ext rfl ?_
    by_cases hg : gone x = true
    · simp only [hg, if_true, List.filter_filter, List.contains_cons]
      refine List.filter_congr fun y _ => ?_
      by_cases hy : y = x
      · subst hy; simp [hg]
      · simp [bne, beq_eq_false_iff_ne.2 hy]
    · simp only [hg, Bool.false_eq_true, if_false, List.contains_cons]
      refine List.filter_congr fun y _ => ?_
      by_cases hy : y = x
      · subst hy; simp [hg]
      · simp [beq_eq_false_iff_ne.2 hy]

/-- The same, over the starts that meet a condition. -/
theorem foldl_armed_filter (f : State → LeafStart → State) (due gone : LeafStart → Bool)
    (hf : ∀ s x, (f s x).armed = if gone x then forgetting x s.armed else s.armed) (s : State) :
    ((s.str.leafStarts.filter due).foldl f s).armed = (s.fixed, s.str.leafStarts.filter fun y => !(due y && gone y)) := by
  rw [foldl_armed f gone hf]
  refine Prod.ext rfl (List.filter_congr fun y hy => ?_)
  have hmem : (s.str.leafStarts.filter due).contains y = due y := by
    rw [Bool.eq_iff_iff, List.contains_iff_mem, List.mem_filter]
    exact ⟨fun h => h.2, fun h => ⟨hy, h⟩⟩
  rw [hmem]

/-- What a step leaves of a Leaf's starts. -/
theorem act_armed {s t : State} {l : List LeafStart} (h : t.armed = (s.fixed, l)) : ∃ u, act s t = .next u ∧ u.str.leafStarts = l := by
  obtain ⟨hb, hp⟩ := State.fixed_iff.1 (congrArg Prod.fst h : t.fixed = s.fixed)
  obtain ⟨u, hu, hside⟩ := act_side s t hb hp
  exact ⟨u, hu, (State.str_leafStarts_of_side hside).trans (congrArg Prod.snd h)⟩

theorem startPrepTimer_forgets (s : State) : ∃ t, exec .startPrepTimer s = .next t ∧
    t.str.leafStarts = s.str.leafStarts.filter fun x => !((s.timerDue (.startPrep (startId x.vote x.job))).isSome && !x.commit) := by
  refine act_armed (foldl_armed_filter _ _ (fun x => !x.commit) (fun t x => ?_) s)
  cases hc : x.commit
  · exact t.armed_missStart x
  · rfl

/-! ### Starts at their vote point (R601) -/

/-- The starts after some of them have ended. -/
theorem foldl_endStart_starts (v : Nat) (l : List Start) (s : State) :
    (l.foldl (fun s x => s.endStart x v) s).str.starts = s.str.starts.filter fun y => !(l.any fun x => x.job == y.job) := by
  induction l generalizing s with
  | nil => simp
  | cons x l ih =>
    have hx : (s.endStart x v).str.starts = s.str.starts.filter (·.job != x.job) := by
      rw [State.endStart, State.completeOk_str]; rfl
    rw [List.foldl_cons, ih, hx, List.filter_filter]
    refine List.filter_congr fun y _ => ?_
    rw [List.any_cons, Bool.not_or, Bool.and_comm]
    congr 1
    rw [bne, Bool.beq_comm]

theorem State.armed_endStart (s : State) (x : Start) (v : Nat) : (s.endStart x v).armed = s.armed :=
  State.armed_of_rest (s := s.setStarts (s.str.starts.filter (·.job != x.job))) (State.rest_completeOk ..)

theorem State.out_endStart {e : Emission} {s : State} (x : Start) (v : Nat) (h : e ∈ s.out) : e ∈ (s.endStart x v).out :=
  State.complete_out _ _ _ _ _ e h

/-- A start that a Leaf makes now: it is forgotten, its output pulses and its time is shown (R602). -/
def State.pulseStart (s : State) (x : LeafStart) : State := ((s.dropStart x).emit (.pulse .start)).fset Reg.STR_LASTSTART_FT x.t

theorem startTimer_starts (s : State) :
    let due := fun (x : LeafStart) => x.commit && (s.timerDue (.start (startId x.vote x.job))).isSome
    ∃ t, exec .startTimer s = .next t ∧ t.str.leafStarts = (s.str.leafStarts.filter fun x => !due x) ∧
      ((∃ x ∈ s.str.leafStarts, due x = true) → .pulse .start ∈ t.out) ∧ ∀ x ∈ t.str.starts, x.committed = true → s.ft < x.t := by
  intro due
  let s1 := (s.str.leafStarts.filter due).foldl State.pulseStart s
  let ended := s1.str.starts.filter fun x => x.committed && decide (x.t ≤ s.ft)
  let y := ended.foldl (fun s x => s.endStart x 0) s1
  have hs1 : s1.armed = (s.fixed, s.str.leafStarts.filter fun x => !due x) := by
    have h := foldl_armed_filter State.pulseStart due (fun _ => true) (fun t x => ?_) s
    · simpa using h
    · exact State.armed_of_rest (by simp : (State.fset _ _ _).rest = ((t.dropStart x).emit (.pulse .start)).rest)
  have hy : y.armed = s1.armed := foldl_invariant State.armed _ _ _ fun t x _ => t.armed_endStart x 0
  have hpulse : (∃ x ∈ s.str.leafStarts, due x = true) → .pulse .start ∈ y.out := by
    rintro ⟨x, hx, hd⟩
    refine foldl_out _ _ ?_ fun t z => State.out_endStart z 0
    exact foldl_emits State.pulseStart (fun _ => .pulse .start) (fun t z => by simp [State.pulseStart])
      (fun t z a ha => by simpa [State.pulseStart] using .inr ha) _ s x (List.mem_filter.2 ⟨hx, hd⟩)
  obtain ⟨hb, hp⟩ := State.fixed_iff.1 (congrArg Prod.fst (hy.trans hs1) : y.fixed = s.fixed)
  obtain ⟨t, ht, hside, hout⟩ := act_out s y hb hp
  refine ⟨t, ht, (State.str_leafStarts_of_side hside).trans (congrArg Prod.snd (hy.trans hs1)), fun h => hout _ (hpulse h), fun x hx hcommit => ?_⟩
  rw [State.str_starts_of_side hside, foldl_endStart_starts, List.mem_filter] at hx
  obtain ⟨hmem, hleft⟩ := hx
  by_contra hlate
  have hended : x ∈ ended := List.mem_filter.2 ⟨hmem, by simpa [hcommit] using hlate⟩
  have hany : (ended.any fun z => z.job == x.job) = true := List.any_eq_true.2 ⟨x, hended, by simp⟩
  simp [hany] at hleft

theorem startDeadline_aborts {s : State} {job : Nat} {x : Start} (hx : (s.str.starts.find? fun x => x.job == job && !x.committed) = some x)
    (hdue : x.t ≤ s.ft + s.leadIvl) : ∃ t, exec (.startDeadline job) s = .next t ∧ t.str.starts = s.str.starts.filter fun y => y.job != job := by
  have hjob : x.job = job := by
    have h := List.find?_some hx
    simp only [Bool.and_eq_true, beq_iff_eq] at h
    exact h.1
  let u := (s.broadcast 0x22 7 s.ownDepth s.self (startWords x.t x.job x.snum x.mask)).bump Reg.STR_STARTSTAT_ABORTS
  have hu : u.side = s.side := by
    show (State.fset _ Reg.STR_STARTSTAT_ABORTS _).side = _
    rw [State.fset_side _ _ _ (by decide) (by decide), State.side_broadcast]
  have hexec : exec (.startDeadline job) s = act s (u.endStart x 1) := by
    show execStartDeadline job s = _
    simp only [execStartDeadline, hx, if_neg (Nat.not_lt.2 hdue)]
    rfl
  have hfixed : (u.endStart x 1).fixed = s.fixed := (congrArg Prod.fst (u.armed_endStart x 1)).trans (State.fixed_of_side hu)
  have hstarts : (u.endStart x 1).str.starts = s.str.starts.filter fun y => y.job != job := by
    rw [State.endStart, State.completeOk_str, ← hjob, ← State.str_starts_of_side hu]; rfl
  obtain ⟨hb, hp⟩ := State.fixed_iff.1 hfixed
  obtain ⟨t, ht, hside⟩ := act_side s _ hb hp
  exact ⟨t, hexec.trans ht, (State.str_starts_of_side hside).trans hstarts⟩

/-! ### Cuts and triggers (R275, R423, R426, R429) -/

theorem State.cutTimer_eq {s : State} {q : CutReq} (hq : earliestCut s.tws.cuts = some q) (hdue : q.t ≤ s.ft) (hrun : s.stopped = false)
    (hon : s.isFenced 0xB = false) : s.cutTimer = (s.setCuts (s.tws.cuts.filter fun x => decide (q.t + 16 ≤ x.t))).takeCut q false := by
  simp only [State.cutTimer, hrun, hon, hq, if_neg (Nat.not_lt.2 hdue)]
  rfl

theorem State.latched_CUTFT (s : State) : s.latched.fget Reg.LEA_CUTFT_FT = s.ft % 2 ^ 64 := State.fget_fset _ Reg.LEA_CUTFT_FT _ (by decide)

/-- A step that cuts leaves the latches, the cuts that still pend and whatever else neither the Reel nor an owed effect touches. -/
theorem act_takeCut {s u : State} (q : CutReq) (late : Bool) (hu : u.fixed = s.fixed) :
    ∃ t, act s (u.takeCut q late) = .next t ∧ t.offReel = u.latched.offReel := by
  have hcut := u.offReel_takeCut q late
  obtain ⟨hb, hp⟩ := State.fixed_iff.1 ((State.fixed_of_offReel hcut).trans ((State.fixed_fset ..).trans hu))
  obtain ⟨t, ht, hside⟩ := act_side s _ hb hp
  exact ⟨t, ht, (State.offReel_of_side hside).trans hcut⟩

theorem cutTimer_cuts {s : State} {q : CutReq} (hq : earliestCut s.tws.cuts = some q) (hdue : q.t ≤ s.ft) (hrun : s.stopped = false)
    (hon : s.isFenced 0xB = false) :
    ∃ t, exec .cutTimer s = .next t ∧ t.tws.cuts = (s.tws.cuts.filter fun x => decide (q.t + 16 ≤ x.t)) ∧ t.fget Reg.LEA_CUTFT_FT = s.ft % 2 ^ 64 ∧
      t.lea.cut = s.lea.pts := by
  let u := s.setCuts (s.tws.cuts.filter fun x => decide (q.t + 16 ≤ x.t))
  obtain ⟨t, ht, hoff⟩ := act_takeCut (s := s) (u := u) q false rfl
  refine ⟨t, ?_, (State.tws_cuts_of_offReel hoff).trans ?_, ?_, (State.lea_cut_of_offReel hoff).trans ?_⟩
  · show act s s.cutTimer = _
    rw [State.cutTimer_eq hq hdue hrun hon, ht]
  · simp [State.latched, u, State.setCuts]
  · rw [State.fget_CUTFT_of_offReel hoff, State.latched_CUTFT]; rfl
  · simp [State.latched, u, State.setCuts]

theorem cutReportTimeout_closes {s : State} {c : CutRes} (hw : s.work = []) (hc : s.tws.cut = some c) (hdue : c.req.t + ms ≤ s.ft)
    (hwait : c.children ≠ []) (hopen : c.timeout = false) :
    exec .cutReportTimeout s = .next { s with tws := { s.tws with cut := some { c with timeout := true } } } := by
  show execCutReportTimeout s = _
  rw [execCutReportTimeout, hc]
  simp only [Nat.not_lt.2 hdue, decide_false, hopen, Bool.or_false, List.isEmpty_eq_false_iff.2 hwait, Bool.false_eq_true, if_false]
  exact act_of_calm _ _ hw rfl rfl

theorem trcTrigft_posts {s : State} {c : TrcCfg} {t0 : Nat} (hw : s.work = []) (ht0 : s.timerDue .trcTrig = some t0) (hleaf : s.build = .leaf)
    (hon : s.traceOff = false) (harmed : s.trcState = tARMED) (hc : s.trc.cfg = some c) (hpre : c.pre < 16) (htrig : s.trigEnabled 5 0 = true) :
    ∃ t, exec .trcTrigftReached s = .next t ∧ t.trcState = tPOST ∧ t.fget Reg.TRC_STATUS_CAUSE = 5 ∧
      t.fget Reg.TRC_TRIGCNT_COUNT = s.fget Reg.TRC_WRCNT_COUNT := by
  let u := s.disarm .trcTrig
  have hu : s.trigFt = u.atTrigger 5 0 t0 := by
    have hposts := State.traceTrigger_posts (s := u) (cause := 5) 0 t0 hleaf htrig harmed hc hpre
    simp only [State.trigFt, ht0]
    exact (if_neg (Bool.eq_false_iff.1 (hon : u.traceOff = false))).trans hposts
  have hfixed : (u.atTrigger 5 0 t0).fixed = s.fixed := State.fixed_of_side (s := u) (u.side_atTrigger 5 0 t0)
  obtain ⟨hb, hp⟩ := State.fixed_iff.1 hfixed
  refine ⟨_, ?_, u.atTrigger_trcState 5 0 t0, u.atTrigger_CAUSE 5 0 t0, u.atTrigger_TRIGCNT 5 0 t0⟩
  show act s s.trigFt = _
  rw [hu]
  exact act_of_calm _ _ ((u.atTrigger_work 5 0 t0).trans hw) hb hp

/-- Settles O38, timer by timer. -/
theorem timersCutAndStart : Obligations.TimersCutAndStart := by
  unfold Obligations.TimersCutAndStart
  exact fun s hw => ⟨fun _ hq hdue hrun hon => cutTimer_cuts hq hdue hrun hon,
    fun _ hc hdue hwait hopen => cutReportTimeout_closes hw hc hdue hwait hopen,
    fun _ _ ht0 hleaf hon harmed hc hpre htrig => trcTrigft_posts hw ht0 hleaf hon harmed hc hpre htrig,
    startPrepTimer_forgets s, startTimer_starts s, fun _ _ hx hdue => startDeadline_aborts hx hdue⟩

end Sys2Proof.Machine
end

section
/-! SUPPORT. The sources of the Trace unit and the freeze (R264, R277): what a source's packets and drops leave alone, and what a freeze leaves. -/

namespace Sys2Proof.Machine

/-! ### Sources -/

@[simp] theorem State.trSrc_setTrSrc (s : State) (i : Nat) (x : TrSrc) : (s.setTrSrc i x).trSrc i = x := by
  simp [State.trSrc, State.setTrSrc, Tab.getD]

theorem State.trSrc_setTrSrc_ne (s : State) {i j : Nat} (x : TrSrc) (h : j ≠ i) : (s.setTrSrc i x).trSrc j = s.trSrc j := by
  simp only [State.trSrc, State.setTrSrc, Tab.getD, Tab.get_set_ne _ _ h]

theorem State.trSrc_congr {s t : State} (h : t.trc = s.trc) (i : Nat) : t.trSrc i = s.trSrc i := by unfold State.trSrc; rw [h]

@[simp] theorem State.dropFrozen_trc (s : State) (i n : Nat) : (s.dropFrozen i n).trc = s.trc := by
  unfold State.dropFrozen; split <;> simp

/-! ### Fields beside those that a count writes -/

theorem State.fget_led_clear (s : State) (k i : Nat) (c : LedCol) (n : Nat) {g : RF} (h : g.clear Reg.LEA_STATUS_SAT = true) :
    (s.led k i c n).fget g = s.fget g := by
  simp only [State.led]
  split
  · exact State.fget_fset_clear _ _ h
  · rfl

theorem State.fget_ledDrop_clear (s : State) (k i r n : Nat) {g : RF} (h : g.clear Reg.LEA_STATUS_SAT = true) :
    (s.ledDrop k i r n).fget g = s.fget g := by
  unfold State.ledDrop
  split
  · exact State.fget_led_clear _ _ _ _ _ h
  · rfl

/-- Neither the ledger's status nor the status of a source lies in the field's words. -/
def RF.offDrops (g : RF) : Bool := g.clear Reg.LEA_STATUS_SAT && (List.range 32).all fun i => g.clear (Reg.TRC_SRCSTAT_DROPPED.at i)

theorem State.fget_dropFrozen (s : State) {i : Nat} (n : Nat) {g : RF} (hi : i < 32) (h : g.offDrops = true) : (s.dropFrozen i n).fget g = s.fget g := by
  obtain ⟨hlea, hsrc⟩ := (Bool.and_eq_true _ _).mp h
  have hclear := List.all_eq_true.1 hsrc i (List.mem_range.2 hi)
  unfold State.dropFrozen
  split
  · rfl
  · exact (State.fget_fset_clear _ _ hclear).trans (State.fget_ledDrop_clear _ _ _ _ _ hlea)

theorem State.Roomy.dropFrozen {s : State} {m : Nat} (h : s.Roomy m) (i n : Nat) (hn : m + n < ftMax) : (s.dropFrozen i n).Roomy (m + n) := by
  unfold State.dropFrozen
  split
  · exact h.mono (Nat.le_add_right ..)
  · exact (h.ledDrop _ _ _ _ hn).fset _ _

/-! ### The freeze of one source -/

theorem State.trSrc_freezeSource (s : State) (i j : Nat) : ((s.freezeSource i).trSrc j).buf = if j = i then [] else (s.trSrc j).buf := by
  unfold State.freezeSource
  extract_lets x s1
  have hs1 (k : Nat) : s1.trSrc k = s.trSrc k := State.trSrc_congr (by simp only [s1]; split <;> rfl) k
  by_cases hj : j = i
  · subst hj
    rw [if_pos rfl]
    split
    · rename_i he
      rw [hs1]; exact List.isEmpty_iff.1 he
    · simp
  · rw [if_neg hj, ← hs1 j]
    split
    · rfl
    · rw [State.trSrc_setTrSrc_ne _ _ hj, State.trSrc_congr (State.dropFrozen_trc ..)]

theorem State.fget_freezeSource (s : State) {i : Nat} {g : RF} (hi : i < 32) (h : g.offDrops = true) : (s.freezeSource i).fget g = s.fget g := by
  unfold State.freezeSource
  extract_lets x s1
  have hs1 : s1.fget g = s.fget g := by simp only [s1]; split <;> rfl
  split
  · exact hs1
  · exact (s1.fget_dropFrozen x.buf.length hi h).trans hs1

theorem State.Roomy.freezeSource {s : State} {m : Nat} (h : s.Roomy m) (i : Nat) (hn : m + (s.trSrc i).buf.length < ftMax) :
    (s.freezeSource i).Roomy (m + (s.trSrc i).buf.length) := by
  unfold State.freezeSource
  extract_lets x s1
  have hs1 : s1.Roomy m := by
    simp only [s1]
    split
    · exact h.of_eq rfl rfl
    · exact h
  split
  · exact hs1.mono (Nat.le_add_right ..)
  · exact (hs1.dropFrozen i _ hn).of_eq rfl rfl

/-! ### The freeze of all -/

theorem foldl_freezeSource_buf (l : List Nat) (s : State) (j : Nat) :
    ((l.foldl State.freezeSource s).trSrc j).buf = if j ∈ l then [] else (s.trSrc j).buf := by
  induction l generalizing s with
  | nil => simp
  | cons i l ih =>
    rw [List.foldl_cons, ih, State.trSrc_freezeSource]
    by_cases hj : j ∈ l <;> by_cases hi : j = i <;> simp [hj, hi]

theorem State.Roomy.foldl_freezeSource {n : Nat} (l : List Nat) {s : State} {m : Nat} (h : s.Roomy m) (hbuf : ∀ i ∈ l, (s.trSrc i).buf.length ≤ n)
    (hroom : m + l.length * n < ftMax) : (l.foldl State.freezeSource s).Roomy (m + l.length * n) := by
  induction l generalizing s m with
  | nil => simpa using h
  | cons i l ih =>
    have hi := hbuf i (List.mem_cons_self ..)
    rw [List.length_cons, Nat.succ_mul] at hroom ⊢
    have h1 : (s.freezeSource i).Roomy (m + n) := (h.freezeSource i (by omega)).mono (by omega)
    have hrest : ∀ j ∈ l, ((s.freezeSource i).trSrc j).buf.length ≤ n := by
      intro j hj
      rw [State.trSrc_freezeSource]
      split
      · exact Nat.zero_le _
      · exact hbuf j (List.mem_cons_of_mem _ hj)
    exact (ih h1 hrest (by omega)).mono (by omega)

/-- What a freeze leaves: the retained data is valid, the local buffers are empty, and the write count stands. -/
structure Freezes (s t : State) : Prop where
  state : t.trcState = tFROZEN
  valid : t.flag Reg.TRC_STATUS_VALID = true
  wrcnt : t.fget Reg.TRC_WRCNT_COUNT = s.fget Reg.TRC_WRCNT_COUNT
  bufs : ∀ i < 32, (t.trSrc i).buf = []

theorem Freezes.of_eq {s t u : State} (h : Freezes s t) (hr : u.regGet = t.regGet) (hsrc : u.trc.srcs = t.trc.srcs) : Freezes s u := by
  have hf (f : RF) : u.fget f = t.fget f := by unfold State.fget; rw [hr]
  refine ⟨(hf _).trans h.state, ?_, (hf _).trans h.wrcnt, fun i hi => ?_⟩
  · unfold State.flag; rw [hf]; exact h.valid
  · have he := h.bufs i hi
    unfold State.trSrc at *
    rw [hsrc]; exact he

theorem State.traceFreeze_freezes {s : State} {m n : Nat} (h : s.Roomy m) (hbuf : ∀ i < 32, (s.trSrc i).buf.length ≤ n) (hroom : m + 32 * n < ftMax) :
    Freezes s s.traceFreeze ∧ s.traceFreeze.Roomy (m + 32 * n) := by
  unfold State.traceFreeze
  extract_lets wr s1 old s2
  have hs1 : s1 = (List.range 32).foldl State.freezeSource s := rfl
  have hroomy : s1.Roomy (m + 32 * n) := by
    have hfold := h.foldl_freezeSource (List.range 32) (fun i hi => hbuf i (List.mem_range.1 hi)) (by simpa using hroom)
    simpa [hs1] using hfold
  have hwr : s1.fget Reg.TRC_WRCNT_COUNT = s.fget Reg.TRC_WRCNT_COUNT :=
    foldl_invariant (fun u => u.fget Reg.TRC_WRCNT_COUNT) (List.range 32) State.freezeSource s
      fun u i hi => u.fget_freezeSource (List.mem_range.1 hi) (by decide)
  have hempty : ∀ i < 32, (s1.trSrc i).buf = [] := by
    intro i hi
    rw [hs1, foldl_freezeSource_buf, if_pos (List.mem_range.2 hi)]
  clear_value s1
  have hs2 : Freezes s s2 := by
    refine ⟨?_, ?_, ?_, fun i hi => (congrArg TrSrc.buf (State.trSrc_congr (by simp [s2]) i)).trans (hempty i hi)⟩ <;>
      simp (disch := decide) only [s2, State.trcState, State.flag, State.fget_fset_clear, State.fget_fset, hwr] <;> decide
  have hr2 : s2.Roomy (m + 32 * n) := ((hroomy.fset _ _).fset _ _).fset _ _
  clear_value s2
  have hdrain : Freezes s (s2.fset Reg.TRC_DRAINCNT_COUNT 0) := by
    refine ⟨?_, ?_, ?_, fun i hi => (congrArg TrSrc.buf (State.trSrc_congr (by simp) i)).trans (hs2.bufs i hi)⟩ <;>
      simp (disch := decide) only [State.trcState, State.flag, State.fget_fset_clear]
    · exact hs2.state
    · exact hs2.valid
    · exact hs2.wrcnt
  split
  · split
    · exact ⟨hdrain.of_eq rfl (congrArg Trace.srcs (State.fset_trc s2 Reg.TRC_DRAINCNT_COUNT 0)).symm, (hr2.fset Reg.TRC_DRAINCNT_COUNT 0).of_eq rfl rfl⟩
    · exact ⟨hs2, hr2⟩
  · exact ⟨hs2, hr2⟩

end Sys2Proof.Machine
end

section
/-! SUPPORT. What the driver writes to the Trace unit, to a rank rule and to a Hub's publication (R275 to R279, R443, R445). -/

namespace Sys2Proof.Machine

section Driver
variable {s : State} {a : Acc}

theorem State.answer_trc (s : State) (a : Acc) : (s.answer a).trc = s.trc := by unfold State.answer; split <;> rfl

/-! ### Freeze and trigger (R275, R279) -/

theorem trcFreeze_freezes (ha : Reaches s a) (hcalm : Calm s) (hon : s.traceOff = false) (hst : s.trcState ∈ [tARMED, tPOST, tSTREAM])
    (hbuf : ∀ i < 32, (s.trSrc i).buf.length < 2 ^ 32) :
    ∃ t, exec (.trcFreeze a) s = .next t ∧ t.trcState = tFROZEN ∧ t.flag Reg.TRC_STATUS_VALID = true ∧ ∀ i < 32, (t.trSrc i).buf = [] := by
  have hroomy : s.Roomy (2 ^ 62) := hcalm
  obtain ⟨hfrozen, hr⟩ := State.traceFreeze_freezes hroomy (n := 2 ^ 32) (fun i hi => (hbuf i hi).le) (by decide)
  have hnow : s.freezeNow = s.traceFreeze := by simp [State.freezeNow, hon, hst]
  have hside : s.freezeNow.side = s.side := by rw [hnow, State.side_traceFreeze]
  refine ⟨_, regAccess_next ha _ 7 _ (by rw [hnow]; exact hr.1) (State.build_of_side hside) (State.pending_of_side hside), ?_⟩
  rw [hnow]
  obtain ⟨hstate, hvalid, -, hempty⟩ := hfrozen.of_eq (u := s.traceFreeze.answer a) (by funext k; simp) (congrArg Trace.srcs (State.answer_trc ..))
  exact ⟨hstate, hvalid, hempty⟩

theorem trcTrig_posts {c : TrcCfg} (ha : Reaches s a) (hw : s.work = []) (hon : s.traceOff = false) (harmed : s.trcState = tARMED)
    (hc : s.trc.cfg = some c) (hpre : c.pre < 16) (htrig : s.trigEnabled 1 0 = true) :
    ∃ t, exec (.trcTrig a) s = .next t ∧ t.trcState = tPOST ∧ t.fget Reg.TRC_STATUS_CAUSE = 1 ∧
      t.fget Reg.TRC_TRIGCNT_COUNT = s.fget Reg.TRC_WRCNT_COUNT := by
  have hleaf : s.build = .leaf := by
    simp only [State.traceOff, Bool.or_eq_false_iff] at hon
    obtain ⟨⟨⟨hhub, -⟩, -⟩, -⟩ := hon
    cases hb : s.build with
    | leaf => rfl
    | hub => rw [hb] at hhub; cases hhub
  have hnow : s.trigNow = s.atTrigger 1 0 s.ft :=
    (if_neg (Bool.eq_false_iff.1 hon)).trans (State.traceTrigger_posts 0 s.ft hleaf htrig harmed hc hpre)
  have hside : s.trigNow.side = s.side := by rw [hnow, State.side_atTrigger]
  refine ⟨_, regAccess_next ha _ 7 _ (by rw [hnow, State.atTrigger_work, hw]) (State.build_of_side hside) (State.pending_of_side hside), ?_⟩
  rw [hnow, State.trcState, State.answer_fget, State.answer_fget, State.answer_fget]
  exact ⟨s.atTrigger_trcState 1 0 s.ft, s.atTrigger_CAUSE 1 0 s.ft, s.atTrigger_TRIGCNT 1 0 s.ft⟩

/-! ### Rank rules (R445) -/

theorem twsRkctrlEn_enables {k : Nat} {w v : W32} (ha : Reaches s a) (hw0 : s.work = []) (hk : s.selGet a.port Reg.TWS_RKSEL_RULE = k)
    (hw : s.mwWrite (Reg.TWS_RKCTRL_EN.at k).addr 0x1F a v = w) (hlt : k < nRules s.build) (hoff : s.rankOn k = false) (hen : bit w 0 = true) :
    (s.rankAllowed k w = true →
      exec (.twsRkctrlEn a v) s = .next (((s.setRank k {}).regSet (Reg.TWS_RKCTRL_EN.at k).addr (w &&& 0x1F#32)).answer a)) ∧
    (s.rankAllowed k w = false →
      exec (.twsRkctrlEn a v) s = .next ((s.regSet (Reg.TWS_RKCTRL_EN.at k).addr ((w &&& 0x1E#32) ||| 0x20#32)).answer a)) := by
  have hwrite : s.writeRank a v = if s.rankAllowed k w then (s.setRank k {}).regSet (Reg.TWS_RKCTRL_EN.at k).addr (w &&& 0x1F#32)
      else s.regSet (Reg.TWS_RKCTRL_EN.at k).addr ((w &&& 0x1E#32) ||| 0x20#32) := by
    unfold State.writeRank
    rw [hk]
    simp only [hw, hoff, hen, if_neg (Nat.not_le.2 hlt)]
    rfl
  have hnext := regAccess_next ha (.twsRkctrlEn a v) 0xB (fun s => s.writeRank a v) (by rw [hwrite]; split <;> exact hw0)
    (by rw [hwrite]; split <;> rfl) (by rw [hwrite]; split <;> rfl)
  rw [hwrite] at hnext
  exact ⟨fun hallowed => by rw [if_pos hallowed] at hnext; exact hnext,
    fun hallowed => by rw [if_neg (Bool.eq_false_iff.1 hallowed)] at hnext; exact hnext⟩

/-! ### Publications (R443) -/

theorem twsPubctrlSend_unbound (ha : Reaches s a) (hw : s.work = []) (hhub : s.build = .hub)
    (hnone : ∀ y ∈ s.tws.sinks, y.rid ≠ bits (s.pubWords.getD 1 0) 15 0) :
    exec (.twsPubctrlSend a) s = .next ((s.fset Reg.TWS_PUBCTRL_ERR 1).answer a) := by
  have hfind : (s.tws.sinks.find? fun k => k.rid == bits (s.pubWords.getD 1 0) 15 0) = none :=
    List.find?_eq_none.2 fun y hy => by simpa using hnone y hy
  have hsend : s.pubSend = s.fset Reg.TWS_PUBCTRL_ERR 1 := by
    simp only [State.pubSend, hhub, hfind]
    rfl
  have h := regAccess_next ha (.twsPubctrlSend a) 0xB State.pubSend (by rw [hsend]; simpa using hw) (by rw [hsend]; simp) (by rw [hsend]; simp)
  rw [hsend] at h
  exact h

theorem State.side_sendPublication (s : State) (tc : Nat) (ws : List W64) :
    ∃ u : State, u.side = s.side ∧ s.sendPublication tc ws = u.bump Reg.TWS_PUBSTAT_SENT :=
  ⟨_, State.side_broadcast .., rfl⟩

theorem twsPubctrlSend_sends (ha : Reaches s a) (hhub : s.build = .hub) (hbound : ∃ y ∈ s.tws.sinks, y.rid = bits (s.pubWords.getD 1 0) 15 0)
    (hpad1 : bits (s.pubWords.getD 1 0) 23 22 = 0) (hpad2 : bits (s.pubWords.getD 1 0) 63 40 = 0) (hpad3 : bits (s.pubWords.getD 3 0) 63 48 = 0)
    (hrising : ∀ i < 55, pubKey s.pubWords i ≤ pubKey s.pubWords (i + 1)) :
    ∃ t, exec (.twsPubctrlSend a) s = .next t ∧ t.flag Reg.TWS_PUBCTRL_ERR = false ∧
      t.fget Reg.TWS_PUBSTAT_SENT = (s.fget Reg.TWS_PUBSTAT_SENT + 1) % 65536 := by
  obtain ⟨y, hy⟩ : ∃ y, (s.tws.sinks.find? fun k => k.rid == bits (s.pubWords.getD 1 0) 15 0) = some y := by
    rw [← Option.isSome_iff_exists, List.find?_isSome]
    obtain ⟨y, hmem, hrid⟩ := hbound
    exact ⟨y, hmem, by simp [hrid]⟩
  have hall : ((List.range 55).all fun i => decide (pubKey s.pubWords i ≤ pubKey s.pubWords (i + 1))) = true :=
    List.all_eq_true.2 fun i hi => decide_eq_true (hrising i (List.mem_range.1 hi))
  obtain ⟨u, hu, hpub⟩ := s.side_sendPublication y.tc (s.pubWords.set 3 (BitVec.ofNat 64 (s.unit 0).toNat))
  have hsend : s.pubSend = (u.bump Reg.TWS_PUBSTAT_SENT).fset Reg.TWS_PUBCTRL_ERR 0 := by
    simp only [State.pubSend, hhub, hy, hall, hpad1, hpad2, hpad3, ← hpub, Bool.or_true, Bool.and_true, beq_self_eq_true]
    rfl
  have hfixed : s.pubSend.fixed = s.fixed := by rw [hsend, State.fixed_fset, State.fixed_bump, State.fixed_of_side hu]
  obtain ⟨hb, hp⟩ := State.fixed_iff.1 hfixed
  obtain ⟨t, ht, hside⟩ := regAccess_side ha (.twsPubctrlSend a) 0xB State.pubSend hb hp
  rw [hsend] at hside
  refine ⟨t, ht, ?_, ?_⟩
  · unfold State.flag
    rw [State.fget_of_side hside _ (by decide) (by decide), State.fget_fset _ _ _ (by decide)]
    rfl
  · rw [State.fget_of_side hside _ (by decide) (by decide), State.fget_fset_clear _ _ (by decide), State.bump, State.fadd, State.fget_fset _ _ _ (by decide),
      State.fget_of_side hu _ (by decide) (by decide)]
    rfl

end Driver

/-- Settles O26, write by write. -/
theorem traceAndRanksAreWritten : Obligations.TraceAndRanksAreWritten := by
  unfold Obligations.TraceAndRanksAreWritten
  refine fun s a v ha hcalm => ⟨fun hon hst hbuf => trcFreeze_freezes ha hcalm hon hst hbuf,
    fun c hon harmed hc hpre htrig => trcTrig_posts ha hcalm.1 hon harmed hc hpre htrig,
    fun hlt hoff hen => twsRkctrlEn_enables ha hcalm.1 rfl rfl hlt hoff hen,
    fun hhub => ⟨twsPubctrlSend_unbound ha hcalm.1 hhub, twsPubctrlSend_sends ha hhub⟩⟩

end Sys2Proof.Machine
end

section
/-! SUPPORT. Records and evidence that come up the tree (R291, R292, R506, R527, R530, R537, R574). -/

namespace Sys2Proof.Machine

/-! ### Room for what a record costs (R150) -/

theorem State.Roomy.setFq {s : State} {m : Nat} (h : s.Roomy m) (l : List Rec) : ({ s with snag := { s.snag with fq := l } } : State).Roomy m := h.of_eq rfl rfl

theorem State.Roomy.setSkn {s : State} {m : Nat} (h : s.Roomy m) (k : Skein) : ({ s with skn := k } : State).Roomy m := h.of_eq rfl rfl

theorem State.Roomy.faultIrq {s : State} {m : Nat} (h : s.Roomy m) : s.faultIrq.Roomy m := by
  unfold State.faultIrq State.irq
  split
  · exact h.of_eq rfl rfl
  · exact h

theorem State.Roomy.fqPush {s : State} {m : Nat} (h : s.Roomy m) (r : Rec) (always : Bool) (hn : m + 2 < ftMax) : (s.fqPush r always).Roomy (m + 2) := by
  have hled := h.led 5 64 .inn 1 (by omega)
  have hkept := (hled.setFq (s.snag.fq ++ [r])).mono (Nat.le_succ _)
  rw [State.led_snag] at hkept
  have hlost := (hled.ledDrop 5 64 0xF 1 hn).fset Reg.SNG_FQSTAT_LOST (((s.led 5 64 .inn 1).ledDrop 5 64 0xF 1).fget Reg.SNG_FQSTAT_LOST + 1)
  simp only [State.fqPush, State.led_snag]
  repeat' split
  · exact hkept.faultIrq
  · exact hkept
  · exact hlost.faultIrq
  · exact hlost

theorem State.Roomy.logLost {s : State} {m : Nat} (h : s.Roomy m) (hn : m + 1 < ftMax) : s.logLost.Roomy (m + 1) := (h.ledDrop _ _ _ _ hn).fset _ _

theorem State.Roomy.logEnter {s : State} {m : Nat} (h : s.Roomy m) (r : Rec × Rec) (hn : m + 1 < ftMax) : (s.logEnter r).Roomy (m + 1) := by
  have hkept := h.mono (Nat.le_succ m)
  simp only [State.logEnter]
  repeat' split
  · exact hkept.of_eq rfl rfl
  · exact hkept.of_eq rfl rfl
  · exact h.logLost hn
  · exact State.Roomy.logLost (h.of_eq rfl rfl) hn
  · exact State.Roomy.logLost (h.of_eq rfl rfl) hn

theorem State.Roomy.logAdd {s : State} {m : Nat} (h : s.Roomy m) (typ ft : Nat) (r : Rec) (hn : m + 2 < ftMax) : (s.logAdd typ ft r).Roomy (m + 2) := by
  have hled := h.led 0x10 0 .inn 1 (by omega)
  simp only [State.logAdd]
  repeat' split
  · exact (hled.mono (Nat.le_succ _)).setSkn _
  · exact hled.logLost hn
  · exact hled.logLost hn
  · exact State.Roomy.logEnter (hled.setSkn _) _ hn

theorem State.Roomy.advise {s : State} {m : Nat} (h : s.Roomy m) (code : Nat) (subj : Hank) (info : Nat) (hard : Bool) (hn : m + 4 < ftMax) :
    (s.advise code subj info hard).Roomy (m + 4) := by
  have hpush := fun r => (h.fqPush r hard (by omega)).of_eq (t := (s.fqPush r hard).nextFaultSeq) rfl rfl
  simp only [State.advise]
  split
  · exact State.Roomy.logAdd (hpush _) _ _ _ (by omega)
  · exact (hpush _).mono (by omega)

theorem State.steady_advise (s : State) (code : Nat) (subj : Hank) (info : Nat) (hard : Bool) : (s.advise code subj info hard).steady = s.steady := by
  simp only [State.advise]; split <;> simp

/-! ### Messages that carry custody up (R570, R573) -/

theorem mkFrames_inputs (typ tc msg : Nat) (d : Hank) (r : Bool) (w : List W64) (c : List (Nat × Nat)) :
    sumN ((mkFramesN typ tc msg d r w c 0).map (·.inputs)) = 0 := by
  rw [sumN_eq_sum]
  refine List.sum_eq_zero fun x hx => ?_
  obtain ⟨f, hf, rfl⟩ := List.mem_map.1 hx
  obtain ⟨e, -, rfl⟩ := List.mem_map.1 hf
  exact ite_self 0

section Custody
variable {s : State} {m : Nat} {fs : List TxFrame} (h : s.Roomy m) (h0 : sumN (fs.map (·.inputs)) = 0)
include h h0

theorem State.Roomy.endFrames (hn : m < ftMax) : (s.endFrames fs).Roomy m := (Counted.endFrames s h0.le).roomy m h hn

theorem State.Roomy.dropAtDraft (p c r : Nat) (hn : m + 2 * fs.length < ftMax) : (s.dropAtDraft p c r fs).Roomy (m + 2 * fs.length) := by
  have hdrop := (h.led 6 (draftPt p c) .inn fs.length (by omega)).ledDrop 6 (draftPt p c) r fs.length (by omega)
  exact State.Roomy.mono (hdrop.endFrames h0 (by omega)) (by omega)

theorem State.Roomy.sendFrames (p : Nat) {c : Nat} (hc : 4 ≤ c) (h4 : ∀ f ∈ fs, f.cells ≤ 4) (hn : m + 5 * fs.length < ftMax) :
    (s.sendFrames p c fs).Roomy (m + 5 * fs.length) := by
  have hcells := cellsSum_le h4
  simp only [State.sendFrames, ge_iff_le, hc, if_true]
  split
  · exact State.Roomy.mono (h.dropAtDraft h0 p c _ (by omega)) (by omega)
  · split
    · have hport : (s.modPort p fun x => { x with egress := listSet x.egress c (x.egress.getD c [] ++ fs) }).Roomy m := h.of_eq rfl rfl
      exact ((hport.led _ _ _ _ (by omega)).led _ _ _ _ (by omega)).mono (by omega)
    · have hport : (s.modPort p fun x => { x with stalled := x.stalled ++ [fs] }).Roomy m := h.of_eq rfl rfl
      exact (hport.fset _ _).mono (by omega)

end Custody

/-- A message of a reserved class goes up, custody and all, without anything owed. -/
theorem State.Roomy.sendUpCustody {s : State} {m : Nat} (h : s.Roomy m) (typ : Nat) {tc : Nat} (d : Hank) (r : Bool) (w : List W64) (c : List (Nat × Nat))
    (hc : 4 ≤ tc) (hn : m + 5 * (w.length + 1) < ftMax) : (s.sendUp typ tc d r w c).Roomy (m + 5 * (w.length + 1)) := by
  have hlen (k : Nat) := mkFrames_length typ tc k d r w c 0
  have hin (k : Nat) := mkFrames_inputs typ tc k d r w c
  have hsend (p : Nat) : (s.sendN p typ tc d r w c 0).Roomy (m + 5 * (w.length + 1)) := by
    have hl := hlen s.str.msgs
    have hmsgs : ({ s with str := { s.str with msgs := s.str.msgs + 1 } } : State).Roomy m := h.of_eq rfl rfl
    exact State.Roomy.mono (hmsgs.sendFrames (hin s.str.msgs) p hc (mkFrames_cells _ _ _ _ _ _ _ _) (by omega)) (by omega)
  have hl := hlen 0
  unfold State.sendUp State.sendUpN
  simp only
  repeat' split
  · exact hsend _
  · exact (h.endFrames (hin 0) (by omega)).mono (by omega)
  · exact hsend _
  · exact (h.dropAtDraft (hin 0) _ _ _ (by omega)).mono (by omega)

/-! ### Verdicts (R574) -/

theorem State.slice_readOuts (l : List (PortId × Nat)) (v : State → W32) (s : State) (n : Nat) :
    ((l.foldl (fun s e => s.readOut e.1 (v s)) s).slice n) = s.slice n := by
  refine foldl_invariant (fun t => State.slice t n) l _ s fun t e _ => ?_
  unfold State.readOut
  split <;> rfl

/-- A record for which there is room enters the verdict queue. -/
theorem State.pushVerdict_vq {s : State} {n : Nat} (kind : Nat) (r : Rec) (hfits : s.qFits n 1 = true) :
    ((s.pushVerdict n kind r).slice n).vq = (s.slice n).vq ++ [r] := by
  have hstall (t : State) : ((t.endStall n).slice n).vq = (t.slice n).vq := by
    unfold State.endStall
    rw [State.slice_readOuts _ fun t => vwWord (t.fget (Reg.SLC_VRDHEAD_COUNT.at n)) true false false]
    simp
  have hirq (c : Prop) [Decidable c] (t : State) : (if c then t.verdictIrq n else t).slice n = t.slice n := by
    unfold State.verdictIrq State.irq
    repeat' split
    all_goals rfl
  have hcount (c : Bool) (t : State) (f : RF) : (if c = true then t.fadd f 1 else t).slice n = t.slice n := by split <;> simp
  simp only [State.pushVerdict, hfits, if_true]
  rw [hstall, hirq, hcount]
  simp

section Message
variable {s s1 : State} {p : Nat} {f : Frame} {m : Msg}

theorem verdict_enters (h : Gets s p 0x13 f s1 m) {n : Nat} (hn : s1.fget Reg.STR_CTRL_VSLICE = n) (hlt : n < nSlices s1.build)
    (hfits : s1.qFits n 1 = true) : ∃ t, exec (.verdict p f) s = .next t ∧ (t.slice n).vq = (s1.slice n).vq ++ [recOfWords m.words] := by
  obtain ⟨l, hpass, -⟩ := gets_pass h
  let r := recOfWords m.words
  have hexec : exec (.verdict p f) s = act s ((s1.withLea l).pushVerdict n (recKind r) r) := by
    show execVerdict p f s = _
    rw [execVerdict, h.1]
    simp only [hpass, hn, State.pushTo, State.withLea_build, if_pos hlt]
    rfl
  have hfixed : ((s1.withLea l).pushVerdict n (recKind r) r).fixed = s.fixed :=
    (State.fixed_of_rest (State.rest_pushVerdict ..)).trans (State.fixed_of_side (s := s) (t := s1) (State.rx_some h.1).1)
  obtain ⟨hb, hp⟩ := State.fixed_iff.1 hfixed
  obtain ⟨t, ht, hside⟩ := act_side s _ hb hp
  refine ⟨t, hexec.trans ht, ?_⟩
  rw [State.slice_congr (State.hif_of_side hside), State.pushVerdict_vq (s := s1.withLea l) _ _ hfits]
  rfl

/-! ### Faults (R506) -/

theorem State.fqPush_fq {s : State} (r : Rec) (always : Bool) (h : s.snag.fq.length < 256) : (s.fqPush r always).snag.fq = s.snag.fq ++ [r] := by
  have hirq (t : State) : t.faultIrq.snag = t.snag := by unfold State.faultIrq State.irq; split <;> rfl
  simp only [State.fqPush, if_pos h, State.led_snag]
  split
  · rw [hirq]
  · rfl

theorem fault_enters (h : Gets s p 0x18 f s1 m) (hlt : s1.snag.fq.length < 256) :
    let r := recOfWords m.words
    ∃ t, exec (.fault p f) s = .next t ∧ t.snag.fq = s1.snag.fq ++ [{ r with w1 := r.w1 ||| (1#64 <<< 15) }] := by
  intro r
  obtain ⟨l, hpass, hroomy⟩ := gets_pass h
  let t := (s1.withLea l).fqPush { r with w1 := r.w1 ||| (1#64 <<< 15) } (decide (bits r.w1 12 11 ≥ 1))
  have hexec : exec (.fault p f) s = act s t := by
    show execFault p f s = _
    rw [execFault, h.1]
    simp only [hpass]
    rfl
  have hside : t.side = (s1.withLea l).side := State.side_fqPush ..
  exact ⟨t, hexec.trans (gets_act h (hroomy.fqPush _ _ (by decide)) (State.build_of_side (s := s1.withLea l) hside) (State.pending_of_side (s := s1.withLea l) hside)),
    State.fqPush_fq (s := s1.withLea l) _ _ hlt⟩

/-! ### The archive (R291, R292) -/

/-- The kind of record that an ARCHIVE message carries: a trace segment in class 1, else a counter record. -/
def archKind (m : Msg) : Nat := if m.tc = 1 then 0 else 1

/-- The bytes of an ARCHIVE message that its record keeps. -/
def archData (m : Msg) : List Byte :=
  let bs := wordsBytes m.words
  bs.take (if archKind m = 0 then 32 + ceilDiv (bits (wordAt bs 3) 31 0) 8 * 8 else bs.length)

theorem archData_eq (m : Msg) :
    archData m = (wordsBytes m.words).take (if m.tc = 1 then 32 + ceilDiv (bits (wordAt (wordsBytes m.words) 3) 31 0) 8 * 8 else (wordsBytes m.words).length) := by
  unfold archData archKind
  split <;> rfl

theorem wordsBytes_length (ws : List W64) : (wordsBytes ws).length = 8 * ws.length := by
  induction ws with
  | nil => rfl
  | cons w ws ih =>
    have hcons : wordsBytes (w :: ws) = toBytes 8 w.toNat ++ wordsBytes ws := rfl
    rw [hcons, List.length_append, ih, List.length_cons]
    simp [toBytes]
    omega

theorem archData_length (m : Msg) : (archData m).length ≤ 8 * m.words.length := by
  rw [← wordsBytes_length]
  exact List.length_take_le' ..

/-- The record that an ARCHIVE message of a child makes. -/
def State.archRecord (s : State) (m : Msg) : ArchRec :=
  let w := wordAt (wordsBytes m.words)
  { ft := s.ft, origin := s.childAddr m.port, kind := archKind m, seq := BitVec.ofNat 32 (s.fget Reg.TRC_ARCHSEQ_NEWEST + 1),
    oseq := bits (w 1) 31 0, set := if archKind m = 0 then 0 else bits (w 1) 35 32, hdrFt := (w 0).toNat, data := archData m }

/-- The archive after a record that it has room for; `u` is the block once the record's bytes are counted in. -/
def State.archived (u : State) (a : ArchRec) : State :=
  ((({ u with trc := { u.trc with archive := u.trc.archive ++ [a] } } : State).fset Reg.TRC_ARCHSEQ_NEWEST a.seq.toNat).led 0xF 0 .out a.data.length).archShow

theorem State.takeArchive_keeps {s : State} {m : Msg} (hnew : ∀ a ∈ s.trc.archive, a.origin ≠ s.childAddr m.port ∨ a.hdrFt ≠ (wordAt (wordsBytes m.words) 0).toNat)
    (hwrap : s.flag Reg.TRC_ARCHCTRL_WRAP = false) (hfits : archUsed s.trc.archive + (s.archRecord m).size ≤ s.fget Reg.TRC_ARCHSIZE_SIZE) :
    s.takeArchive m = ((s.rxPass m.port m.seqs.length).led 0xF 0 .inn (archData m).length).archived (s.archRecord m) := by
  have hdup : (s.trc.archive.any fun a => a.origin == s.childAddr m.port && a.kind == archKind m &&
      a.set == (if archKind m = 0 then 0 else bits (wordAt (wordsBytes m.words) 1) 35 32) &&
      a.oseq == bits (wordAt (wordsBytes m.words) 1) 31 0 && a.hdrFt == (wordAt (wordsBytes m.words) 0).toNat) = false := by
    refine List.any_eq_false.2 fun a ha hsame => ?_
    simp only [Bool.and_eq_true, beq_iff_eq] at hsame
    obtain ⟨⟨⟨⟨horigin, -⟩, -⟩, -⟩, hhdr⟩ := hsame
    exact (hnew a ha).elim (· horigin) (· hhdr)
  have htrc : ((s.rxPass m.port m.seqs.length).led 0xF 0 .inn (archData m).length).trc.archive = s.trc.archive := by simp [State.rxPass]
  unfold State.takeArchive State.archived
  rw [htrc]
  refine (if_neg (Bool.eq_false_iff.1 hdup)).trans ?_
  simp only [hwrap, Bool.false_eq_true, if_false]
  exact if_pos hfits

theorem State.Roomy.archived {u : State} {n : Nat} (h : u.Roomy n) (a : ArchRec) (hn : n + a.data.length < ftMax) : (u.archived a).Roomy (n + a.data.length) := by
  have hput : ({ u with trc := { u.trc with archive := u.trc.archive ++ [a] } } : State).Roomy n := h.of_eq rfl rfl
  unfold State.archived State.archShow
  split <;> exact ((hput.fset _ _).led _ _ _ _ hn).fset _ _

theorem State.archived_trc (u : State) (a : ArchRec) : (u.archived a).trc = { u.trc with archive := u.trc.archive ++ [a] } := by
  unfold State.archived State.archShow
  split <;> simp

theorem State.fixed_archived (u : State) (a : ArchRec) : (u.archived a).fixed = u.fixed := by
  unfold State.archived State.archShow
  split <;> (simp; rfl)

theorem archive_keeps (h : Gets s p 0x23 f s1 m) (hon : s1.isFenced 7 = false) (hrun : s1.stopped = false) (hwrap : s1.flag Reg.TRC_ARCHCTRL_WRAP = false)
    (hnew : ∀ a ∈ s1.trc.archive, a.origin ≠ s1.childAddr p ∨ a.hdrFt ≠ (wordAt (wordsBytes m.words) 0).toNat)
    (hfits : archUsed s1.trc.archive + 32 + ceilDiv (archData m).length 64 * 64 ≤ s1.fget Reg.TRC_ARCHSIZE_SIZE) :
    ∃ t a, exec (.archive p f) s = .next t ∧ t.trc.archive = s1.trc.archive ++ [a] ∧ a.data = archData m ∧ a.ft = s1.ft ∧ a.origin = s1.childAddr p ∧
      a.seq.toNat = (s1.fget Reg.TRC_ARCHSEQ_NEWEST + 1) % 2 ^ 32 := by
  obtain ⟨l, hpass, hroomy⟩ := gets_pass h
  obtain ⟨hport, -⟩ := gets_port h
  obtain ⟨-, -, -, -, hwords⟩ := id h
  have hlen := archData_length m
  obtain ⟨l2, hled, hroomy2⟩ := hroomy.led_withLea 0xF 0 .inn (archData m).length (by unfold ftMax; omega)
  have hkeeps : s1.takeArchive m = ((s1.withLea l).withLea l2).archived (s1.archRecord m) := by
    rw [State.takeArchive_keeps (by rw [hport]; exact hnew) hwrap (by rw [ArchRec.size, ← Nat.add_assoc]; exact hfits), hport, hpass, hled]
  have hexec : exec (.archive p f) s = act s (s1.takeArchive m) := by
    show execArchive p f s = _
    rw [execArchive, h.1]
    simp only [hon, hrun, Bool.or_self, Bool.false_eq_true, if_false]
  have hdone := hroomy2.archived (s1.archRecord m) (show _ + (archData m).length < _ by unfold ftMax; omega)
  obtain ⟨hb, hp⟩ := State.fixed_iff.1 (State.fixed_archived ((s1.withLea l).withLea l2) (s1.archRecord m))
  rw [hkeeps] at hexec
  exact ⟨_, s1.archRecord m, hexec.trans (gets_act h hdone hb hp), congrArg Trace.archive (State.archived_trc ..), rfl, rfl,
    congrArg s1.childAddr hport, BitVec.toNat_ofNat ..⟩

/-! ### Die states (R537) -/

theorem State.fixed_hardTable (s : State) (r : Rec) : (s.hardTable r).fixed = s.fixed := by
  obtain ⟨hb, hp⟩ := Prod.ext_iff.1 (State.roll_hardTable s r)
  exact State.fixed_iff.2 ⟨hb, congrArg Prod.fst hp⟩

theorem State.Roomy.hardTable {s : State} {n : Nat} (h : s.Roomy n) (r : Rec) (hlt : s.snag.hard.length < 1024) : (s.hardTable r).Roomy n := by
  simp only [State.hardTable, if_pos hlt]
  repeat' split
  all_goals exact h

/-- A record of a hard failure is in a Hub's table after it. -/
theorem State.hardTable_holds {s : State} {r : Rec} (hhub : s.build = .hub) (hkind : recKind r = 5) (hclear : bits r.w2 47 32 / 64 % 2 = 0)
    (hlt : s.snag.hard.length < 1024) :
    let leaf : Hank := BitVec.ofNat 48 (bits r.w1 47 0)
    (leaf, if bits r.w2 47 32 / 2048 % 2 = 1 ∨ (s.snag.hard.find? fun e => sameBlock e.1 leaf).map (·.2) = some 5 then 5 else 4) ∈ (s.hardTable r).snag.hard := by
  intro leaf
  have hcl : (bits r.w2 47 32 / 64 % 2 == 1) = false := by rw [hclear]; rfl
  simp only [State.hardTable, hhub, hkind, hcl, if_pos hlt]
  rw [if_neg (by decide), if_pos (by simp)]
  cases hmine : s.snag.hard.find? fun e => sameBlock e.1 leaf with
  | none =>
    refine List.mem_append_right _ (List.mem_singleton.2 ?_)
    simp [beq_iff_eq, leaf]
  | some e =>
    refine List.mem_append_right _ (List.mem_singleton.2 ?_)
    simp [beq_iff_eq, leaf]

theorem diestate_passes (h : Gets s p 0x1B f s1 m) (hlt : s1.snag.hard.length < 1024) :
    let r := recOfWords m.words
    let t := (((s1.rxPass p m.seqs.length).hardTable r).holdCustody m).sendUp 0x1B 6 0 m.replay m.words m.covers
    exec (.diestate p f) s = .next t ∧
      (s1.build = .hub → recKind r = 5 → bits r.w2 47 32 / 64 % 2 = 0 →
        (BitVec.ofNat 48 (bits r.w1 47 0),
          if bits r.w2 47 32 / 2048 % 2 = 1 ∨ (s1.snag.hard.find? fun e => sameBlock e.1 (BitVec.ofNat 48 (bits r.w1 47 0))).map (·.2) = some 5 then 5 else 4) ∈ t.snag.hard) := by
  intro r t
  obtain ⟨l, hpass, hroomy⟩ := gets_pass h
  obtain ⟨hport, -⟩ := gets_port h
  obtain ⟨-, -, -, -, hwords⟩ := id h
  have hside : t.side = ((s1.rxPass p m.seqs.length).hardTable r).side := (State.side_sendUp ..).trans (State.side_modPort ..)
  have hexec : exec (.diestate p f) s = act s t := by
    show execDiestate p f s = _
    rw [execDiestate, h.1]
    simp only [State.takeDiestate, hport, t, r]
  have hfixed : t.fixed = s1.fixed := by
    rw [State.fixed_of_side hside, State.fixed_hardTable, State.fixed_of_side (State.side_rxPass ..)]
  obtain ⟨hb, hp⟩ := State.fixed_iff.1 hfixed
  constructor
  · have htable : (((s1.rxPass p m.seqs.length).hardTable r).holdCustody m).Roomy (2 ^ 63 + 2 ^ 32) := by
      rw [hpass]
      exact (hroomy.hardTable r hlt).of_eq rfl rfl
    exact hexec.trans (gets_act h (htable.sendUpCustody 0x1B 0 m.replay m.words m.covers (by decide) (by unfold ftMax; omega)) hb hp)
  · intro hhub hkind hclear
    rw [State.snag_hard_of_side hside, hpass]
    exact State.hardTable_holds (s := s1.withLea l) hhub hkind hclear hlt

/-! ### Evidence (R523, R527, R530) -/

/-- What the entry of a die says of its peers. -/
def State.peers (p : Nat) (s : State) : Nat × Bool := ((s.die p).tPeer, (s.die p).peersReported)

theorem State.peers_of_roll {s t : State} (h : t.roll = s.roll) (p : Nat) : t.peers p = s.peers p := by
  unfold State.peers; rw [State.die_of_roll h]

theorem State.peers_setDie (s : State) (p : Nat) (e : Die) : (s.setDie p e).peers p = (e.tPeer, e.peersReported) := by
  unfold State.peers; rw [State.die_setDie_self]

theorem State.peers_upheld (s : State) (p : Nat) : (s.upheld p).peers p = s.peers p := by
  unfold State.peers; rw [(s.upheld_die p).mine]

theorem State.peers_dieChange (s : State) (p : Nat) (e : Die) (st : Nat) : (s.dieChange p e st).peers p = (e.tPeer, e.peersReported) := by
  have hrec (t : State) (st : Nat) (clear suspect : Bool) : (t.dieRecord p st clear suspect).peers p = t.peers p := State.peers_of_roll (State.roll_dieRecord ..) p
  unfold State.dieChange
  extract_lets s1 s2 r e2 tried e3
  have h2 : s2.peers p = (e.tPeer, e.peersReported) := by
    have h1 : s1.peers p = (e.tPeer, e.peersReported) := s.peers_setDie p _
    simp only [s2]
    split
    · exact (hrec ..).trans h1
    · exact h1
  have hr : r.1.peers p = s2.peers p := by
    simp only [r]
    split
    · exact State.peers_of_roll (State.roll_propose ..) p
    · rfl
  have he3 : (e3.tPeer, e3.peersReported) = r.1.peers p := by
    simp only [e3]
    split <;> rfl
  split
  · rw [State.peers_upheld, hrec, State.peers_setDie, he3, hr, h2]
  · split
    · exact (hrec ..).trans h2
    · exact h2

/-- An update of an entry keeps what the peers report. -/
theorem State.peers_updateDie (s : State) (p : Nat) : (s.updateDie p).peers p = s.peers p := by
  unfold State.updateDie
  extract_lets e r e1
  repeat' split
  · rfl
  · exact State.peers_dieChange ..
  · exact (State.peers_of_roll (State.roll_advise ..) p).trans (State.peers_setDie ..)
  · exact State.peers_setDie ..

theorem exec_evidence {typ q : Nat} {take : State → Nat → List W64 → State} (h : s.rx p typ f = (s1, some m)) (hq : s1.evalPort m.dest = some q) :
    s.evidenceMsg p typ f take = take (s1.rxPass p m.seqs.length) q m.words := by
  simp only [State.evidenceMsg, h, hq]

theorem peerSeen_noted (h : Gets s p 0x19 f s1 m) {q : Nat} (hq : s1.evalPort m.dest = some q) :
    ∃ t, exec (.peerSeen p f) s = .next t ∧ (t.die q).peersReported = true ∧ (t.die q).tPeer = max (s1.die q).tPeer (m.words.getD 0 0).toNat := by
  let u := s1.rxPass p m.seqs.length
  let noted : Die := { u.die q with tPeer := max (u.die q).tPeer (m.words.getD 0 0).toNat, peersReported := true }
  have hexec : exec (.peerSeen p f) s = act s ((u.setDie q noted).updateDie q) := congrArg (act s) (exec_evidence h.1 hq)
  have hroll : u.roll = s1.roll := State.roll_led ..
  obtain ⟨e, hone, -⟩ := (u.setDie q noted).updateDie_die q
  have hfixed : s1.fixed = s.fixed := State.fixed_of_side (State.rx_some h.1).1
  obtain ⟨hb, hp⟩ := State.fixed_iff.1 ((State.fixed_of_side (State.side_rxPass ..) : u.fixed = s1.fixed).trans hfixed)
  obtain ⟨t, ht, hdie⟩ := act_die s _ q (hone.build.trans hb) (hone.pending.trans hp)
  have hpeers : t.peers q = (noted.tPeer, noted.peersReported) := by
    unfold State.peers
    rw [hdie]
    exact (State.peers_updateDie ..).trans (State.peers_setDie ..)
  refine ⟨t, hexec.trans ht, congrArg Prod.snd hpeers, (congrArg Prod.fst hpeers).trans ?_⟩
  simp only [noted]
  rw [State.die_of_roll hroll]

/-- A claim once it is kept and counted. -/
def State.claimed (s : State) (q : Nat) (by_ : Hank) : State :=
  (s.setDie q { s.die q with claims := (s.die q).claims ++ [(by_, s.ft)] }).bump Reg.SNG_DSTAT_CLAIMS

theorem State.takeClaim_claimed (s : State) (q : Nat) (ws : List W64) {n : Nat} (hr : s.Roomy n) (hn : n + 4 < ftMax) :
    (s.takeClaim q ws).Roomy (n + 4) ∧ (s.takeClaim q ws).roll = (s.claimed q (BitVec.ofNat 48 (ws.getD 1 0).toNat)).roll ∧
      (s.takeClaim q ws).fget Reg.SNG_DSTAT_CLAIMS = (s.claimed q (BitVec.ofNat 48 (ws.getD 1 0).toNat)).fget Reg.SNG_DSTAT_CLAIMS := by
  have hclaimed : (s.claimed q (BitVec.ofNat 48 (ws.getD 1 0).toNat)).Roomy n := by
    have hset := hr.of_eq (t := s.setDie q { s.die q with claims := (s.die q).claims ++ [(BitVec.ofNat 48 (ws.getD 1 0).toNat, s.ft)] }) rfl rfl
    exact hset.fset Reg.SNG_DSTAT_CLAIMS _
  unfold State.takeClaim
  extract_lets e by_ s1
  have hs1 : s1 = s.claimed q (BitVec.ofNat 48 (ws.getD 1 0).toNat) := rfl
  rw [← hs1] at hclaimed ⊢
  split
  · refine ⟨State.Roomy.advise (hclaimed.fset _ _) _ _ _ _ hn, (State.roll_advise ..).trans (State.roll_bump ..), ?_⟩
    rw [State.fget_of_steady (State.steady_advise ..) _ (by decide) (by decide)]
    exact State.fget_fset_clear _ _ (by decide)
  · exact ⟨hclaimed.mono (by omega), rfl, rfl⟩

theorem claim_kept (h : Gets s p 0x1A f s1 m) {q : Nat} (hq : s1.evalPort m.dest = some q) :
    ∃ t, exec (.claim p f) s = .next t ∧
      t.die q = { s1.die q with claims := (s1.die q).claims ++ [(BitVec.ofNat 48 (m.words.getD 1 0).toNat, s1.ft)] } ∧
      t.fget Reg.SNG_DSTAT_CLAIMS = (s1.fget Reg.SNG_DSTAT_CLAIMS + 1) % 65536 := by
  obtain ⟨l, hpass, hroomy⟩ := gets_pass h
  let by_ : Hank := BitVec.ofNat 48 (m.words.getD 1 0).toNat
  obtain ⟨hdone, hroll, hcount⟩ := (s1.withLea l).takeClaim_claimed q m.words hroomy (by decide)
  have hexec : exec (.claim p f) s = act s ((s1.withLea l).takeClaim q m.words) := by
    rw [← hpass]
    exact congrArg (act s) (exec_evidence h.1 hq)
  have hclaimed : ((s1.withLea l).claimed q by_).roll = ((s1.withLea l).setDie q { s1.die q with claims := (s1.die q).claims ++ [(by_, s1.ft)] }).roll :=
    State.roll_bump ..
  have hall := hroll.trans hclaimed
  refine ⟨_, hexec.trans (gets_act h hdone (congrArg Prod.fst hall) (congrArg (fun r => r.2.1) hall)), ?_, hcount.trans ?_⟩
  · rw [State.die_of_roll hall, State.die_setDie_self]
  · exact State.fget_fset _ Reg.SNG_DSTAT_CLAIMS _ (by decide)

end Message

/-- Settles O33, message by message. -/
theorem recordsPassUp : Obligations.RecordsPassUp := by
  unfold Obligations.RecordsPassUp
  exact fun s p f s1 m => ⟨fun h n hn hlt hfits => verdict_enters h hn hlt hfits, fun h hlt => fault_enters h hlt,
    fun h hon hrun hwrap => by have hkeeps := archive_keeps h hon hrun hwrap; rw [archData_eq] at hkeeps; exact hkeeps, fun h hlt => diestate_passes h hlt, fun h q hq => peerSeen_noted h hq, fun h q hq => claim_kept h hq⟩

end Sys2Proof.Machine
end

section
/-! SUPPORT. Broadcasts, cuts, triggers and starts as they arrive (R275, R423, R426 to R429, R589 to R591, R599 to R603). -/

namespace Sys2Proof.Machine

/-! ### A broadcast is taken once (R589 to R591) -/

theorem seqLt_self (n : Nat) : seqLt n n = false := by simp [seqLt]

theorem State.takeBcast_new {s : State} {m : Msg} (hnew : ∀ o ∈ s.str.dups, o.addr ≠ BitVec.ofNat 48 (m.words.getD 0 0).toNat)
    (hroom : s.str.dups.length < 64) :
    let h1 := (m.words.getD 1 0).toNat
    let o : Origin := { addr := BitVec.ofNat 48 (m.words.getD 0 0).toNat, epoch := h1 / 2 ^ 48, high := h1 % 2 ^ 32, window := 0, used := s.now }
    s.takeBcast m = ((({ s with str := { s.str with dups := o :: s.str.dups } } : State).rxPass m.port m.seqs.length).bcastSend m.typ m.tc
      (h1 / 2 ^ 32 % 8) ((m.words.getD 2 0).toNat % 2 ^ 48 / 2 ^ 14) m.words, some (BitVec.ofNat 48 (m.words.getD 0 0).toNat, m.words.drop 3)) := by
  have hfind : s.str.dups.find? (·.addr == BitVec.ofNat 48 (m.words.getD 0 0).toNat) = none :=
    List.find?_eq_none.2 fun o ho => by simpa using hnew o ho
  simp only [State.takeBcast, State.dedupe, hfind, if_pos hroom]

theorem State.takeBcast_again {s : State} {m : Msg} {o : Origin} (ho : s.str.dups.find? (·.addr == BitVec.ofNat 48 (m.words.getD 0 0).toNat) = some o)
    (hepoch : o.epoch = (m.words.getD 1 0).toNat / 2 ^ 48) (hhigh : o.high = (m.words.getD 1 0).toNat % 2 ^ 32) : (s.takeBcast m).2 = none := by
  have hage : ((m.words.getD 1 0).toNat % 2 ^ 32 + 2 ^ 32 - (m.words.getD 1 0).toNat % 2 ^ 32) % 2 ^ 32 = 0 := by omega
  simp only [State.takeBcast, State.dedupe, ho, hepoch, hhigh, ne_eq, not_true_eq_false, if_false, seqLt_self, Bool.false_eq_true, hage]
  rw [if_neg (by simp)]

/-! ### Cuts (R423, R426 to R429) -/

theorem State.tws_lnum_of_side {s t : State} (h : t.side = s.side) : t.tws.lnum = s.tws.lnum :=
  (congrArg (fun x => x.tws.lnum) h : t.side.tws.lnum = s.side.tws.lnum)

/-- The CUT message `m` as a request that takes its local number from `s`. -/
def State.cutOf (s : State) (m : Msg) : CutReq :=
  let w := fun i => m.words.getD i 0
  { t := (w 3).toNat, origin := BitVec.ofNat 48 (bits (w 0) 47 0), onum := bits (w 4) 23 0, lnum := s.tws.lnum, subtree := true, reel := bit (w 4) 24, slice := none }

/-- A CUT that is new and in scope cancels, or finds the list full, or is taken at once, or pends. -/
theorem State.takeCutMsg_new {s : State} {m : Msg}
    (hnew : (s.dedupe (BitVec.ofNat 48 (bits (m.words.getD 0 0) 47 0)) (bits (m.words.getD 1 0) 63 48) (bits (m.words.getD 1 0) 31 0)).1 = true)
    (hscope : placeMatch (bits (m.words.getD 1 0) 34 32) (hPlace s.self) ((m.words.getD 2 0).toNat % 2 ^ 48 / 2 ^ 14) = true) :
    ∃ (u : State) (relay : State → State), u.side = s.side ∧ (∀ t, (relay t).side = t.side) ∧
      (bit (m.words.getD 4 0) 25 = true → s.takeCutMsg m =
        relay (u.setCuts (u.tws.cuts.filter fun x => !(x.origin == BitVec.ofNat 48 (bits (m.words.getD 0 0) 47 0) && x.onum == bits (m.words.getD 4 0) 23 0)))) ∧
      (bit (m.words.getD 4 0) 25 = false → u.tws.cuts.length < 8 → s.takeCutMsg m =
        if u.ft ≥ (m.words.getD 3 0).toNat then (relay u.nextCut.2).takeCut (u.cutOf m) true else relay (u.nextCut.2.addCut (u.cutOf m))) := by
  have hside := s.side_dedupe (BitVec.ofNat 48 (bits (m.words.getD 0 0) 47 0)) (bits (m.words.getD 1 0) 63 48) (bits (m.words.getD 1 0) 31 0)
  cases hd : s.dedupe (BitVec.ofNat 48 (bits (m.words.getD 0 0) 47 0)) (bits (m.words.getD 1 0) 63 48) (bits (m.words.getD 1 0) 31 0) with
  | mk b v =>
    rw [hd] at hnew hside
    simp only at hnew hside
    subst hnew
    refine ⟨v.rxPass m.port m.seqs.length,
      fun t => t.bcastSend m.typ m.tc (bits (m.words.getD 1 0) 34 32) ((m.words.getD 2 0).toNat % 2 ^ 48 / 2 ^ 14) m.words,
      (State.side_rxPass ..).trans hside, fun t => State.side_bcastSend .., fun hcancel => ?_, fun hpend hroom => ?_⟩
    · simp only [State.takeCutMsg, hd, hscope, hcancel]
      rfl
    · simp only [State.takeCutMsg, hd, hscope, hpend]
      exact if_neg (Nat.not_le.2 hroom)

section Message
variable {s s1 : State} {p : Nat} {f : Frame} {m : Msg}

theorem gets_fixed {typ : Nat} (h : Gets s p typ f s1 m) : s1.fixed = s.fixed := State.fixed_of_side (State.rx_some h.1).1

/-- What a step leaves when its meaning keeps the build and the queue. -/
theorem act_side_fixed {s t : State} (h : t.fixed = s.fixed) : ∃ u, act s t = .next u ∧ u.side = t.side :=
  act_side s t (State.fixed_iff.1 h).1 (State.fixed_iff.1 h).2

theorem exec_cut (h : Gets s p 0x1C f s1 m) (hon : s1.isFenced 0xB = false) (hrun : s1.stopped = false) :
    exec (.cut p f) s = act s (s1.takeCutMsg m) := by
  show execCut p f s = _
  rw [execCut, h.1]
  simp only [hon, hrun, Bool.or_self, Bool.false_eq_true, if_false]

theorem cut_taken (h : Gets s p 0x1C f s1 m) (hon : s1.isFenced 0xB = false) (hrun : s1.stopped = false)
    (hnew : (s1.dedupe (BitVec.ofNat 48 (bits (m.words.getD 0 0) 47 0)) (bits (m.words.getD 1 0) 63 48) (bits (m.words.getD 1 0) 31 0)).1 = true)
    (hscope : placeMatch (bits (m.words.getD 1 0) 34 32) (hPlace s1.self) ((m.words.getD 2 0).toNat % 2 ^ 48 / 2 ^ 14) = true) :
    (bit (m.words.getD 4 0) 25 = true → ∃ t, exec (.cut p f) s = .next t ∧
      t.tws.cuts = s1.tws.cuts.filter fun x => !(x.origin == BitVec.ofNat 48 (bits (m.words.getD 0 0) 47 0) && x.onum == bits (m.words.getD 4 0) 23 0)) ∧
    (bit (m.words.getD 4 0) 25 = false → s1.tws.cuts.length < 8 → s1.ft < (m.words.getD 3 0).toNat →
      ∃ t, exec (.cut p f) s = .next t ∧ t.tws.cuts = s1.tws.cuts ++ [s1.cutOf m] ∧ t.tws.lnum = (s1.tws.lnum + 1) % 2 ^ 24) ∧
    (bit (m.words.getD 4 0) 25 = false → s1.tws.cuts.length < 8 → (m.words.getD 3 0).toNat ≤ s1.ft →
      ∃ t, exec (.cut p f) s = .next t ∧ t.tws.cuts = s1.tws.cuts ∧ t.fget Reg.LEA_CUTFT_FT = s1.ft % 2 ^ 64) := by
  obtain ⟨u, relay, hu, hrelay, hcancel, hpend⟩ := State.takeCutMsg_new hnew hscope
  have hcuts : u.tws.cuts = s1.tws.cuts := State.tws_cuts_of_side hu
  have hlnum : u.tws.lnum = s1.tws.lnum := State.tws_lnum_of_side hu
  have hft : u.ft = s1.ft := State.ft_of_side hu
  have hfixed : u.fixed = s.fixed := (State.fixed_of_side hu).trans (gets_fixed h)
  have hq : u.cutOf m = s1.cutOf m := by unfold State.cutOf; rw [hlnum]
  rw [exec_cut h hon hrun]
  refine ⟨fun hc => ?_, fun hc hroom hsoon => ?_, fun hc hroom hlate => ?_⟩
  · rw [hcancel hc, hcuts]
    obtain ⟨t, ht, hside⟩ := act_side_fixed (s := s) ((State.fixed_of_side (hrelay (u.setCuts (s1.tws.cuts.filter fun x =>
      !(x.origin == BitVec.ofNat 48 (bits (m.words.getD 0 0) 47 0) && x.onum == bits (m.words.getD 4 0) 23 0))))).trans hfixed)
    exact ⟨t, ht, State.tws_cuts_of_side (hside.trans (hrelay _))⟩
  · rw [hpend hc (by rw [hcuts]; exact hroom), if_neg (by rw [hft]; exact Nat.not_le.2 hsoon)]
    obtain ⟨t, ht, hside⟩ := act_side_fixed (s := s) ((State.fixed_of_side (hrelay (u.nextCut.2.addCut (u.cutOf m)))).trans hfixed)
    have hall := hside.trans (hrelay _)
    refine ⟨t, ht, (State.tws_cuts_of_side hall).trans ?_, (State.tws_lnum_of_side hall).trans ?_⟩
    · rw [← hcuts, ← hq]; rfl
    · rw [← hlnum]; rfl
  · rw [hpend hc (by rw [hcuts]; exact hroom), if_pos (by rw [hft]; exact hlate)]
    obtain ⟨t, ht, hoff⟩ := act_takeCut (s := s) (u.cutOf m) true ((State.fixed_of_side (hrelay u.nextCut.2)).trans hfixed)
    refine ⟨t, ht, (State.tws_cuts_of_offReel hoff).trans ?_, ?_⟩
    · rw [State.latched, State.fset_tws, ← hcuts]
      exact State.tws_cuts_of_side (s := u.nextCut.2) (t := relay u.nextCut.2) (hrelay u.nextCut.2)
    · rw [State.fget_CUTFT_of_offReel hoff, State.latched_CUTFT, State.ft_of_side (hrelay u.nextCut.2), ← hft]
      rfl

/-! ### Reports of a cut (R428) -/

/-- A link whose port's cut is still open is not audited. -/
theorem State.auditLink_open {s : State} {p : Nat} {c : CutRes} (hc : s.tws.cut = some c)
    (hopen : ∀ x ∈ c.ports, x.p = p → x.closed = false ∧ x.incomplete = false) : s.auditLink p = s := by
  unfold State.auditLink
  rw [hc]
  simp only
  split
  · rfl
  · rename_i x hx
    obtain ⟨hclosed, hwhole⟩ := hopen x (List.mem_of_find?_eq_some hx) (by simpa using List.find?_some hx)
    split
    · rfl
    · rw [hclosed, hwhole]; rfl

theorem cutrep_kept (h : Gets s p 0x1D f s1 m) (hon : s1.isFenced 0xB = false) (hrun : s1.stopped = false) {c : CutRes} (hc : s1.tws.cut = some c)
    (horigin : c.req.origin.toNat = bits (m.words.getD 0 0) 47 0) (honum : c.req.onum = bits (m.words.getD 1 0) 23 0)
    (hopen : ∀ x ∈ c.ports, x.p = p → x.closed = false ∧ x.incomplete = false) :
    ∃ t, exec (.cutrep p f) s = .next t ∧ t.tws.cut = some { c with
      children := c.children.filter (· != p)
      ports := c.ports.map fun x => if x.p = p then { x with reported := true, report := reportEntry (m.words.drop 3) (s1.port p).peerIdx } else x } := by
  obtain ⟨l, hpass, hroomy⟩ := gets_pass h
  let c' : CutRes := { c with
    children := c.children.filter (· != p)
    ports := c.ports.map fun x => if x.p = p then { x with reported := true, report := reportEntry (m.words.drop 3) (s1.port p).peerIdx } else x }
  let t : State := { s1.withLea l with tws := { s1.tws with cut := some c' } }
  have hreport : (s1.withLea l).takeCutRep p m.words = t := by
    have haudit : t.auditLink p = t := by
      refine State.auditLink_open (c := c') rfl fun x hx hp => ?_
      obtain ⟨y, hy, rfl⟩ := List.mem_map.1 hx
      split at hp
      · rename_i hyp
        rw [if_pos hyp]; exact hopen y hy hyp
      · rename_i hyp
        exact absurd hp hyp
    refine Eq.trans ?_ haudit
    unfold State.takeCutRep
    rw [show (s1.withLea l).tws.cut = some c from hc]
    exact if_pos ⟨horigin, honum⟩
  have hexec : exec (.cutrep p f) s = act s t := by
    show execCutrep p f s = _
    rw [execCutrep, h.1]
    simp only [hon, hrun, Bool.or_self, Bool.false_eq_true, if_false, hpass, hreport]
  exact ⟨t, hexec.trans (gets_act h (t := t) (hroomy.of_eq rfl rfl) rfl rfl), rfl⟩

/-! ### Triggers and starts that a broadcast brings (R275, R600 to R602) -/

section Broadcast
variable {s2 : State} {orig : Hank} {ws : List W64} (hb : s1.takeBcast m = (s2, some (orig, ws)))
include hb

theorem bcast_fixed {typ : Nat} (h : Gets s p typ f s1 m) : s2.fixed = s.fixed := by
  have hside := s1.side_takeBcast m
  rw [hb] at hside
  exact (State.fixed_of_side hside).trans (gets_fixed h)

theorem State.startMsg_takes {typ : Nat} (h : Gets s p typ f s1 m) (take : State → Hank → List W64 → State) :
    s.startMsg p typ f take = take s2 orig ws := by
  simp only [State.startMsg, h.1, hb]

theorem exec_trigger (h : Gets s p 0x1E f s1 m) :
    exec (.trigger p f) s = act s (if s2.traceOff then s2 else s2.traceTrigger 4 0 (ws.getD 0 0).toNat) := by
  show execTrigger p f s = _
  rw [execTrigger, h.1]
  simp only [State.takeTrigger, hb]

theorem trigger_posts (h : Gets s p 0x1E f s1 m) (hw : s2.work = []) (hleaf : s2.build = .leaf) (hon : s2.traceOff = false) (harmed : s2.trcState = tARMED)
    {c : TrcCfg} (hc : s2.trc.cfg = some c) (hpre : c.pre < 16) (htrig : s2.trigEnabled 4 0 = true) :
    ∃ t, exec (.trigger p f) s = .next t ∧ t.trcState = tPOST ∧ t.fget Reg.TRC_STATUS_CAUSE = 4 := by
  have hposts := State.traceTrigger_posts 0 (ws.getD 0 0).toNat hleaf htrig harmed hc hpre
  obtain ⟨hbuild, hpend⟩ := State.fixed_iff.1 ((State.fixed_of_side (s2.side_atTrigger 4 0 (ws.getD 0 0).toNat)).trans (bcast_fixed hb h))
  refine ⟨_, ?_, s2.atTrigger_trcState 4 0 (ws.getD 0 0).toNat, s2.atTrigger_CAUSE 4 0 (ws.getD 0 0).toNat⟩
  rw [exec_trigger hb h, hon, if_neg Bool.false_ne_true, hposts]
  exact act_of_calm _ _ ((s2.atTrigger_work 4 0 _).trans hw) hbuild hpend

/-- A Hub relays what a Leaf would take, and does no more. -/
theorem bcast_hub (hw : s2.work = []) (hhub : s2.build = .hub) :
    (Gets s p 0x1E f s1 m → exec (.trigger p f) s = .next s2) ∧ (Gets s p 0x1F f s1 m → exec (.startPrep p f) s = .next s2) ∧
      (Gets s p 0x21 f s1 m → exec (.startCommit p f) s = .next s2) := by
  have hrelayed {typ : Nat} (h : Gets s p typ f s1 m) : act s s2 = .next s2 :=
    act_of_calm s s2 hw (State.fixed_iff.1 (bcast_fixed hb h)).1 (State.fixed_iff.1 (bcast_fixed hb h)).2
  have hisHub : s2.build.isHub = true := by rw [hhub]; rfl
  refine ⟨fun h => ?_, fun h => ?_, fun h => ?_⟩
  · rw [exec_trigger hb h, State.traceOff, hisHub]
    exact hrelayed h
  · show act s (s.startMsg p 0x1F f State.takePrep) = _
    rw [State.startMsg_takes hb h, State.takePrep, hisHub]
    exact hrelayed h
  · show act s (s.startMsg p 0x21 f State.takeCommit) = _
    rw [State.startMsg_takes hb h, State.takeCommit, hisHub]
    exact hrelayed h

end Broadcast

/-- The start that a START message of the vote point `orig` asks this Leaf for. -/
def State.startOf (s : State) (orig : Hank) (ws : List W64) (commit : Bool) : LeafStart :=
  let h := s.heldIndices orig (bits (ws.getD 1 0) 7 0) (BitVec.ofNat 32 (ws.getD 2 0).toNat)
  { job := bits (ws.getD 1 0) 7 0, snum := bits (ws.getD 1 0) 31 8, vote := orig, t := (ws.getD 0 0).toNat, mask := h.1, slices := h.2, commit }

/-- A timer that is free is armed for a time to come. -/
theorem State.armTimer_arms {s : State} {t : Nat} (u : TimerUse) (hfree : ∃ i ∈ timerIndices, Tab.get s.whl.timers i = none) (ht : s.ft < t) :
    ∃ w : Whorl, s.armTimer t u = ({ s with whl := w }, true) := by
  obtain ⟨i, hi⟩ : ∃ i, (timerIndices.find? fun i => (Tab.get s.whl.timers i).isNone) = some i := by
    rw [← Option.isSome_iff_exists, List.find?_isSome]
    obtain ⟨i, hmem, hnone⟩ := hfree
    exact ⟨i, hmem, by rw [hnone]; rfl⟩
  simp only [State.armTimer, hi, if_neg (Nat.not_le.2 ht)]
  exact ⟨_, rfl⟩

theorem State.armed_sendRouted (s : State) (typ tc : Nat) (d : Hank) (w : List W64) : ((s.sendRouted typ tc d w).getD s).armed = s.armed := by
  cases h : s.sendRouted typ tc d w with
  | none => rfl
  | some t => exact State.armed_of_side (State.side_sendRouted h)

section Starts
variable {orig : Hank} {ws : List W64} (hleaf : s.build = .leaf)
    (hheld : (s.heldIndices orig (bits (ws.getD 1 0) 7 0) (BitVec.ofNat 32 (ws.getD 2 0).toNat)).1 ≠ 0)
    (hfree : ∃ i ∈ timerIndices, Tab.get s.whl.timers i = none) (hsoon : s.ft + 20 * us < (ws.getD 0 0).toNat)
include hleaf hheld hfree hsoon

theorem State.takePrep_holds (hnone : ∀ y ∈ s.str.leafStarts, (y.vote == orig && y.job == bits (ws.getD 1 0) 7 0) = false) :
    (s.takePrep orig ws).armed = (s.fixed, s.str.leafStarts ++ [s.startOf orig ws false]) := by
  have hmine : (s.str.leafStarts.filter fun y => y.vote == orig && y.job == bits (ws.getD 1 0) 7 0) = [] :=
    List.filter_eq_nil_iff.2 fun y hy => by rw [hnone y hy]; exact Bool.false_ne_true
  obtain ⟨w, harm⟩ := State.armTimer_arms (.startPrep (startId orig (bits (ws.getD 1 0) 7 0))) hfree (t := (ws.getD 0 0).toNat - 20 * us) (by omega)
  have htakes : (s.build.isHub || (s.heldIndices orig (bits (ws.getD 1 0) 7 0) (BitVec.ofNat 32 (ws.getD 2 0).toNat)).1 == 0) = false := by
    rw [hleaf, beq_eq_false_iff_ne.2 hheld]; rfl
  simp only [State.takePrep, htakes, hmine, List.foldl_nil, harm, Bool.false_eq_true, if_false, if_true]
  exact State.armed_sendRouted ..

theorem State.takeCommit_arms : (s.takeCommit orig ws).armed =
    (s.fixed, (s.str.leafStarts.filter fun y => !(y.vote == orig && y.job == bits (ws.getD 1 0) 7 0)) ++ [s.startOf orig ws true]) := by
  obtain ⟨w, harm⟩ := State.armTimer_arms (.start (startId orig (bits (ws.getD 1 0) 7 0))) hfree (t := (ws.getD 0 0).toNat) (by omega)
  have htakes : (s.build.isHub || (s.heldIndices orig (bits (ws.getD 1 0) 7 0) (BitVec.ofNat 32 (ws.getD 2 0).toNat)).1 == 0) = false := by
    rw [hleaf, beq_eq_false_iff_ne.2 hheld]; rfl
  simp only [State.takeCommit, htakes, State.commitStart, harm, Bool.false_eq_true, if_false, if_true, if_neg (Nat.not_le.2 hsoon)]
  rfl

end Starts

theorem State.takeAbort_forgets (s : State) (orig : Hank) (ws : List W64) : (s.takeAbort orig ws).armed =
    (s.fixed, s.str.leafStarts.filter fun y => !(y.vote == orig && y.job == bits (ws.getD 1 0) 7 0 && y.snum == bits (ws.getD 1 0) 31 8)) := by
  have h := foldl_armed_filter State.dropStart (fun y => y.vote == orig && y.job == bits (ws.getD 1 0) 7 0 && y.snum == bits (ws.getD 1 0) 31 8)
    (fun _ => true) (fun t x => t.armed_dropStart x) s
  simp only [Bool.and_true] at h
  exact h

theorem startAck_adds (h : Gets s p 0x20 f s1 m) (hhere : s1.forward m = none) {x : Start}
    (hx : (s1.str.starts.find? fun x => x.job == bits (m.words.getD 0 0) 7 0 && x.snum == bits (m.words.getD 0 0) 31 8 && !x.committed) = some x) :
    let y := { x with acks := x.acks ||| (BitVec.ofNat 32 (m.words.getD 1 0).toNat &&& x.mask) }
    y.acks ≠ x.mask →
    ∃ t, exec (.startAck p f) s = .next t ∧ t.str.starts = s1.str.starts.map fun z => if z.job = bits (m.words.getD 0 0) 7 0 then y else z := by
  intro y hmore
  let u := s1.rxPass p m.seqs.length
  have hu : u.side = s1.side := State.side_rxPass ..
  have hstarts : u.str.starts = s1.str.starts := State.str_starts_of_side hu
  let added := u.setStarts (s1.str.starts.map fun z => if z.job = bits (m.words.getD 0 0) 7 0 then y else z)
  have hexec : exec (.startAck p f) s = act s added := by
    show execStartAck p f s = _
    rw [execStartAck, h.1]
    simp only [hhere, State.takeAck]
    rw [show (s1.rxPass p m.seqs.length).str.starts = s1.str.starts from hstarts, hx]
    exact congrArg (act s) (if_neg hmore)
  obtain ⟨t, ht, hside⟩ := act_side_fixed (s := s) (t := added) ((State.fixed_of_side hu).trans (gets_fixed h))
  exact ⟨t, hexec.trans ht, State.str_starts_of_side hside⟩

end Message

/-- Settles O37, message by message. -/
theorem broadcastsAreTakenOnce : Obligations.BroadcastsAreTakenOnce := by
  unfold Obligations.BroadcastsAreTakenOnce
  refine ⟨fun s m => ⟨State.takeBcast_new, fun o => State.takeBcast_again⟩, fun s p f s1 m => ⟨fun h hon hrun hnew hscope => cut_taken h hon hrun hnew hscope,
    fun h hon hrun c hc horigin honum hopen => cutrep_kept h hon hrun hc horigin honum hopen, fun s2 ws hb hw => ?_,
    fun h hhere x hx => startAck_adds h hhere hx⟩⟩
  refine ⟨fun h hleaf hon harmed c hc hpre htrig => trigger_posts hb h hw hleaf hon harmed hc hpre htrig, bcast_hub hb hw,
    fun hleaf hheld hfree => ⟨fun h hnone hsoon => ?_, fun h hsoon => ?_⟩, fun h => ?_⟩
  · have harmed := State.takePrep_holds hleaf hheld hfree hsoon hnone
    rw [bcast_fixed hb h] at harmed
    obtain ⟨t, ht, hstarts⟩ := act_armed harmed
    refine ⟨t, ?_, hstarts⟩
    show act s (s.startMsg p 0x1F f State.takePrep) = _
    rw [State.startMsg_takes hb h, ht]
  · have harmed := State.takeCommit_arms hleaf hheld hfree hsoon
    rw [bcast_fixed hb h] at harmed
    obtain ⟨t, ht, hstarts⟩ := act_armed harmed
    refine ⟨t, ?_, hstarts⟩
    show act s (s.startMsg p 0x21 f State.takeCommit) = _
    rw [State.startMsg_takes hb h, ht]
  · have harmed := s2.takeAbort_forgets (BitVec.ofNat 48 (bits (m.words.getD 0 0) 47 0)) ws
    rw [bcast_fixed hb h] at harmed
    obtain ⟨t, ht, hstarts⟩ := act_armed harmed
    refine ⟨t, ?_, hstarts⟩
    show act s (s.startMsg p 0x22 f State.takeAbort) = _
    rw [State.startMsg_takes hb h, ht]

end Sys2Proof.Machine
end

section
/-! SUPPORT. The counts of a trace source's malformed items, its gate and its power (R266, R270, R282): no owed effect writes them. -/

namespace Sys2Proof.Machine

/-! ### The status words of the sources -/

/-- The status words of the trace sources. -/
def srcKey (k : Nat) : Bool := decide (0x7180 ≤ k ∧ k < 0x7200)

/-- What a block shows of its trace sources: the build, the image and the status words. -/
def State.srcRegs (s : State) : Build × Tab (W32 × W32) × Tab W32 := (s.build, s.imgRegs, s.regs.filter fun e => srcKey e.1)

theorem steadyWord_of_srcKey {k : Nat} (h : srcKey k = true) : steadyWord k = true := by
  simp only [srcKey, decide_eq_true_eq] at h
  have hword : wordOf k = k := Nat.mod_eq_of_lt (by omega)
  have hpage : k / 4096 = 7 := by omega
  simp [steadyWord, hword, hpage]
  omega

theorem State.srcRegs_of_steady {s t : State} (h : t.steady = s.steady) : t.srcRegs = s.srcRegs := by
  have hfilter (u : State) : (u.regs.filter fun e => srcKey e.1) = (u.regs.filter fun e => steadyWord e.1).filter fun e => srcKey e.1 := by
    rw [List.filter_filter]
    refine List.filter_congr fun e _ => ?_
    cases hk : srcKey e.1
    · rfl
    · rw [steadyWord_of_srcKey hk]; rfl
  have hregs : t.regs.filter (fun e => steadyWord e.1) = s.regs.filter fun e => steadyWord e.1 := congrArg (fun x => x.1) h
  rw [State.srcRegs, State.srcRegs, State.build_of_steady h, State.imgRegs_of_steady h, hfilter t, hfilter s, hregs]

/-- The field lies outside the status words of the trace sources. -/
def RF.offSrc (f : RF) : Bool := decide (f.addr + 4 < 0x7180 ∨ 0x7200 ≤ f.addr)

theorem RF.offSrc_at {f : RF} (h : 0x7200 ≤ f.addr) (p : Nat) : (f.at p).offSrc = true :=
  decide_eq_true (.inr (Nat.le_trans h (Nat.le_add_right ..)))

theorem State.srcRegs_regSet (s : State) {k : Nat} (v : W32) (h : srcKey k = false) : (s.regSet k v).srcRegs = s.srcRegs := by
  have hregs : ((s.regSet k v).regs.filter fun e => srcKey e.1) = s.regs.filter fun e => srcKey e.1 := Tab.filter_set _ _ _ _ fun _ => h
  rw [State.srcRegs, hregs]; rfl

theorem State.srcRegs_fset (s : State) {f : RF} (v : Nat) (h : f.offSrc = true) : (s.fset f v).srcRegs = s.srcRegs := by
  simp only [RF.offSrc, decide_eq_true_eq] at h
  have hlow : srcKey f.addr = false := decide_eq_false (by omega)
  have hhigh : srcKey (f.addr + 4) = false := decide_eq_false (by omega)
  unfold State.fset
  split
  · exact (State.srcRegs_regSet _ _ hhigh).trans (State.srcRegs_regSet _ _ hlow)
  · exact State.srcRegs_regSet _ _ hlow

@[simp] theorem State.srcRegs_emit (s : State) (e : Emission) : (s.emit e).srcRegs = s.srcRegs := rfl
@[simp] theorem State.srcRegs_raise (s : State) (c l : Nat) (h : Hank) (i : Nat) : (s.raise c l h i).srcRegs = s.srcRegs := rfl
@[simp] theorem State.srcRegs_modPort (s : State) (p : Nat) (f : Port → Port) : (s.modPort p f).srcRegs = s.srcRegs := rfl
@[simp] theorem State.srcRegs_ledDrop (s : State) (k i r n : Nat) : (s.ledDrop k i r n).srcRegs = s.srcRegs := State.srcRegs_of_steady (by simp)
@[simp] theorem State.srcRegs_endFrames (s : State) (fs : List TxFrame) : (s.endFrames fs).srcRegs = s.srcRegs := State.srcRegs_of_steady (by simp)
@[simp] theorem State.srcRegs_send (s : State) (p typ tc : Nat) (d : Hank) (r : Bool) (w : List W64) (c : List (Nat × Nat)) :
    (s.send p typ tc d r w c).srcRegs = s.srcRegs := State.srcRegs_of_steady (by simp)

/-! ### Links that go down -/

theorem State.srcRegs_auditLink (s : State) (p : Nat) : (s.auditLink p).srcRegs = s.srcRegs := by
  have hmod (f : CutPort → CutPort) : (s.modCutPort p f).srcRegs = s.srcRegs := by unfold State.modCutPort; split <;> rfl
  simp only [State.auditLink]
  repeat' split
  · rfl
  · rfl
  · rfl
  · rfl
  · exact hmod _
  · exact hmod _

theorem State.srcRegs_cutLost (s : State) (p : Nat) : (s.cutLost p).srcRegs = s.srcRegs := by
  rw [State.cutLost, State.srcRegs_auditLink]
  unfold State.modCutPort
  split <;> rfl

theorem State.srcRegs_leaveUp (s : State) (p st : Nat) : (s.leaveUp p st).srcRegs = s.srcRegs := by
  have hshow (t : State) : (t.showUp p false).srcRegs = t.srcRegs := by
    unfold State.showUp
    split
    · exact State.srcRegs_fset _ _ (by decide)
    · exact State.srcRegs_fset _ _ (by decide)
  have hcredits (t : State) : (t.dropCredits p).srcRegs = t.srcRegs := by
    have hzero : ((t.fset (Reg.STR_PCRED_RES.at p) 0).fset (Reg.STR_PCRED_BE.at p) 0).srcRegs = t.srcRegs :=
      (State.srcRegs_fset _ _ (RF.offSrc_at (by decide) p)).trans (State.srcRegs_fset _ _ (RF.offSrc_at (by decide) p))
    simp only [State.dropCredits]
    split
    · exact hzero
    · rw [State.srcRegs_ledDrop, hzero]
  simp only [State.leaveUp]
  rw [State.srcRegs_fset _ _ (RF.offSrc_at (by decide) p), State.srcRegs_fset _ _ (RF.offSrc_at (by decide) p), hshow,
    State.srcRegs_fset _ _ (RF.offSrc_at (by decide) p), State.srcRegs_modPort, hcredits]
  split
  · rfl
  · exact State.srcRegs_ledDrop ..

theorem State.srcRegs_sendAttach (s : State) (p : Nat) : (s.sendAttach p).srcRegs = s.srcRegs := State.srcRegs_send ..

theorem State.srcRegs_noParent (s : State) : s.noParent.srcRegs = s.srcRegs := State.srcRegs_fset s (f := Reg.STR_HOMING_CUR_PARENT) 2 (by decide)

theorem State.srcRegs_loseParent (s : State) (p : Nat) : (s.loseParent p).srcRegs = s.srcRegs := by
  have hlost : ((s.bump Reg.STR_UPSTAT_LOSSES).fset (Reg.STR_PSTAT_HOMED.at p) 0).srcRegs = s.srcRegs :=
    (State.srcRegs_fset _ _ (RF.offSrc_at (by decide) p)).trans (State.srcRegs_fset _ _ (by decide))
  simp only [State.loseParent]
  repeat' split
  · exact (State.srcRegs_noParent _).trans hlost
  · exact (State.srcRegs_sendAttach ..).trans hlost
  · exact (State.srcRegs_noParent _).trans hlost
  · exact (State.srcRegs_noParent _).trans hlost

theorem State.srcRegs_attachLost (s : State) (p : Nat) : (s.attachLost p).srcRegs = s.srcRegs := by
  simp only [State.attachLost]
  repeat' split
  · exact (State.srcRegs_sendAttach ..).trans s.srcRegs_noParent
  · exact s.srcRegs_noParent
  · exact s.srcRegs_noParent

theorem State.srcRegs_takeover (s : State) : s.takeover.srcRegs = s.srcRegs := by
  simp only [State.takeover]
  split
  · have hroot : ((s.fset Reg.STR_TIER_ROOT_ACTIVE 1).fadd Reg.STR_TIER_ROLE_EPOCH 1).srcRegs = s.srcRegs := by
      rw [State.fadd, State.srcRegs_fset _ _ (by decide), State.srcRegs_fset _ _ (by decide)]
    exact hroot
  · rfl

theorem State.srcRegs_linkDown (s : State) (p st : Nat) : (s.linkDown p st).srcRegs = s.srcRegs := by
  have hdown : ((s.leaveUp p st).cutLost p).srcRegs = s.srcRegs := (State.srcRegs_cutLost ..).trans (State.srcRegs_leaveUp ..)
  have hchild (t : State) : (t.loseChild p).srcRegs = t.srcRegs := by unfold State.loseChild; split <;> rfl
  simp only [State.linkDown]
  repeat' split
  · exact hdown
  · exact (State.srcRegs_takeover _).trans hdown
  · exact (State.srcRegs_loseParent ..).trans hdown
  · exact (State.srcRegs_attachLost ..).trans hdown
  · exact hdown
  · exact hdown
  · exact (hchild _).trans hdown

/-! ### Fences and the stop -/

theorem State.srcRegs_assertOutputs (s : State) (u : Nat) (v : Bool) : (s.assertOutputs u v).srcRegs = s.srcRegs := by
  refine foldl_invariant State.srcRegs _ _ _ fun t n _ => ?_
  split
  · rfl
  · exact State.srcRegs_fset t (f := Reg.SNG_FOUT_FENCED) _ (by decide)

theorem State.srcRegs_fenceUnit (s : State) (u : Nat) : (s.fenceUnit u).srcRegs = s.srcRegs := by
  simp only [State.fenceUnit]
  repeat' split
  · exact State.srcRegs_fset _ _ (by decide)
  · rfl
  · exact State.srcRegs_assertOutputs ..
  · exact (State.srcRegs_fset _ (f := Reg.SNG_FOUT_FENCED) _ (by decide)).trans (State.srcRegs_linkDown ..)
  · exact State.srcRegs_linkDown ..
  · exact State.srcRegs_fset _ _ (RF.offSrc_at (by decide) _)
  · rfl

theorem State.srcRegs_purgeEgress (s : State) (p : Nat) : (s.purgeEgress p).srcRegs = s.srcRegs := by
  refine foldl_invariant State.srcRegs _ _ _ fun t c _ => ?_
  simp only
  split
  · rfl
  · simp

theorem State.srcRegs_fencePart (s : State) (n : Nat) : (s.fencePart n).srcRegs = s.srcRegs := by
  simp only [State.fencePart]
  repeat' split
  · exact State.srcRegs_fset _ _ (by decide)
  · rw [State.srcRegs_fset _ (f := Reg.SNG_FSTAT_PARTS) _ (by decide)]
    refine (foldl_invariant State.srcRegs _ _ _ fun t p _ => State.srcRegs_fset t 0 (RF.offSrc_at (f := Reg.STR_PSTAT_HOMED) (by decide) p)).trans ?_
    refine (foldl_invariant State.srcRegs _ _ _ fun t p _ => ?_).trans (foldl_invariant State.srcRegs _ _ _ fun t p _ => ?_)
    · exact (State.srcRegs_fset _ 0 (RF.offSrc_at (f := Reg.STR_ROUTE_ACTIVE) (by decide) p)).trans (State.srcRegs_purgeEgress ..)
    · split
      · exact State.srcRegs_send ..
      · rfl
  · rfl
  · refine (foldl_invariant State.srcRegs _ _ _ fun t u _ => State.srcRegs_assertOutputs ..).trans ?_
    exact State.srcRegs_fset _ (f := Reg.SNG_FSTAT_PARTS) _ (by decide)

theorem State.srcRegs_stopBlock (s : State) : s.stopBlock.srcRegs = s.srcRegs := by
  simp only [State.stopBlock]
  split
  · rfl
  · have hstop : ((s.fset Reg.SNG_STATUS_STOPPED 1).fset Reg.SNG_STATUS_ALIVE_RUN 0).srcRegs = s.srcRegs := by
      rw [State.srcRegs_fset _ _ (by decide), State.srcRegs_fset _ _ (by decide)]
    exact hstop

theorem State.srcRegs_applyLevel (s : State) (l : Nat) (h : Hank) : (s.applyLevel l h).srcRegs = s.srcRegs := by
  unfold State.applyLevel
  split
  · exact State.srcRegs_fenceUnit ..
  · exact State.srcRegs_fencePart ..
  · exact State.srcRegs_stopBlock _
  · rfl

/-! ### Triggers, which may freeze -/

/-- The field lies beside what a drop, a trigger and a freeze write. -/
def RF.offTrigger (g : RF) : Bool :=
  g.offDrops && [Reg.TRC_OLDCNT_COUNT, Reg.TRC_STATUS_VALID, Reg.TRC_STATUS_STATE, Reg.TRC_DRAINCNT_COUNT, Reg.TRC_TRIGCNT_COUNT, Reg.TRC_STATUS_CAUSE,
    Reg.TRC_STATUS_EXTRA_TRIG, Reg.TRC_WRCNT_COUNT].all fun f => g.clear f

section Owed
variable {g : RF} (hg : g.offTrigger = true)
include hg

theorem State.fget_traceFreeze (s : State) : s.traceFreeze.fget g = s.fget g := by
  simp only [RF.offTrigger, List.all_cons, Bool.and_eq_true] at hg
  obtain ⟨hdrops, hold, hvalid, hstate, hdrain, -⟩ := hg
  unfold State.traceFreeze
  extract_lets wr s1 old s2
  have hs2 : s2.fget g = s.fget g := by
    have hs1 : s1.fget g = s.fget g := foldl_invariant (fun u => u.fget g) (List.range 32) State.freezeSource s
      fun u i hi => u.fget_freezeSource (List.mem_range.1 hi) hdrops
    simp only [s2]
    rw [State.fget_fset_clear _ _ hstate, State.fget_fset_clear _ _ hvalid, State.fget_fset_clear _ _ hold, hs1]
  clear_value s2
  have hs3 : (s2.fset Reg.TRC_DRAINCNT_COUNT 0).fget g = s.fget g := (State.fget_fset_clear _ _ hdrain).trans hs2
  split
  · split
    · exact hs3
    · exact hs2
  · exact hs2

theorem State.fget_traceTrigger (s : State) (cause arg ft : Nat) : (s.traceTrigger cause arg ft).fget g = s.fget g := by
  have hcheck (t : State) : t.checkTarget.fget g = t.fget g := by
    unfold State.checkTarget
    split
    · split
      · exact State.fget_traceFreeze hg t
      · rfl
    · rfl
  simp only [RF.offTrigger, List.all_cons, Bool.and_eq_true] at hg
  obtain ⟨-, -, -, hstate, -, htrig, hcause, hextra, hwr, -⟩ := hg
  have hbump : (s.bump Reg.TRC_STATUS_EXTRA_TRIG).fget g = s.fget g := by rw [State.bump, State.fadd, State.fget_fset_clear _ _ hextra]
  unfold State.traceTrigger
  split
  · rfl
  · extract_lets pkt
    clear_value pkt
    split
    · rw [hcheck, State.fget_putPacket_clear _ _ hwr, State.fget_fset_clear _ _ hstate, State.fget_fset_clear _ _ hcause, State.fget_fset_clear _ _ htrig]
    · exact hbump
    · exact hbump
    · rw [State.fget_putPacket_clear _ _ hwr, State.fget_fset_clear _ _ hcause]
    · rfl

variable (hkey : srcKey g.addr = true) (hw : g.lo + g.w ≤ 32)
include hkey hw

omit hg in
theorem State.fget_of_srcRegs {s t : State} (h : t.srcRegs = s.srcRegs) : t.fget g = s.fget g := by
  have hget (u : State) : Tab.get (u.regs.filter fun e => srcKey e.1) g.addr = Tab.get u.regs g.addr := Tab.get_filter u.regs g.addr srcKey hkey
  have hregs : Tab.get t.regs g.addr = Tab.get s.regs g.addr := by
    rw [← hget t, ← hget s]
    exact congrArg (fun x : Build × Tab (W32 × W32) × Tab W32 => Tab.get x.2.2 g.addr) h
  have hword : t.regGet g.addr = s.regGet g.addr := State.regGet_congr _ hregs (congrArg (fun x => x.1) h) (congrArg (fun x => x.2.1) h)
  exact State.fget_congr g hword (.inl hw)

theorem State.fget_takeFault (s : State) (ft c st : Nat) (h : Hank) (x : W64) (n : Bool) : (s.takeFault ft c st h x n).fget g = s.fget g := by
  unfold State.takeFault
  extract_lets a ub unack last e how r s1 src s2 s3 s4 s5 s6 s7
  have ha : a.srcRegs = s.srcRegs := State.srcRegs_of_steady (State.steady_fnSwitch ..)
  have h1 : s1.srcRegs = s.srcRegs := by
    simp only [s1]
    rw [State.bump, State.fadd, State.srcRegs_fset _ _ (by decide), State.srcRegs_fset _ _ (by decide), ha]
  have h2 : s2.srcRegs = s.srcRegs := h1
  have h3 : s3.srcRegs = s.srcRegs :=
    (State.srcRegs_of_steady (State.steady_fqPush ..) : s3.srcRegs = _).trans ((State.srcRegs_fset _ (f := Reg.SNG_STATUS_LEVEL) _ (by decide)).trans h2)
  have h4 : s4.srcRegs = s.srcRegs := by
    simp only [s4]
    split
    · exact (State.srcRegs_of_steady (State.steady_logAdd ..)).trans h3
    · exact h3
  have h5 : s5.srcRegs = s.srcRegs := by
    simp only [s5]
    split
    · exact (State.srcRegs_of_steady (State.steady_sendUp ..)).trans h4
    · exact h4
  have h6 : s6.srcRegs = s.srcRegs := by
    simp only [s6]
    split
    · exact (State.srcRegs_applyLevel ..).trans h5
    · exact h5
  have h7 : s7.srcRegs = s.srcRegs := by
    simp only [s7]
    split
    · exact h6
    · exact h6
  exact (State.fget_traceTrigger hg s7 3 e a.ft).trans (State.fget_of_srcRegs hkey hw h7)

theorem State.fget_doWork (s : State) (w : Work) : (s.doWork w).fget g = s.fget g := by
  have hfault := State.fget_takeFault hg hkey hw
  have hshown {t : State} (h : t.srcRegs = s.srcRegs) : t.fget g = s.fget g := State.fget_of_srcRegs hkey hw h
  cases w with
  | fault c l h x => exact hfault ..
  | faultAt c l h x ft => exact hfault ..
  | trig c a t => exact State.fget_traceTrigger hg ..
  | fence src sc t =>
    simp only [State.doWork, State.takeFence]
    repeat' split
    · exact hshown (State.srcRegs_fenceUnit ..)
    · exact hfault ..
    · exact hshown (State.srcRegs_fencePart ..)
    · exact hshown (State.srcRegs_stopBlock _)
    · rfl

/-- No owed effect writes such a field. -/
theorem State.fget_settle (s : State) : s.settle.fget g = s.fget g := by
  have hfuel (n : Nat) : ∀ t : State, (settleF n t).fget g = t.fget g := by
    induction n with
    | zero => exact fun _ => rfl
    | succ n ih =>
      intro t
      unfold settleF
      split
      · rfl
      · exact (ih _).trans (State.fget_doWork hg hkey hw ..)
  exact hfuel _ s

end Owed

/-- The count of malformed items of a source is such a field. -/
theorem malformed_offTrigger {i : Nat} (hi : i < 32) : (Reg.TRC_SRCSTAT_MALFORMED.at i).offTrigger = true := by
  have hall : ((List.range 32).all fun i => (Reg.TRC_SRCSTAT_MALFORMED.at i).offTrigger) = true := by decide
  exact List.all_eq_true.1 hall i (List.mem_range.2 hi)

theorem act_malformed {s t : State} {i : Nat} (hi : i < 32) (hfixed : t.fixed = s.fixed) :
    ∃ u, act s t = .next u ∧ u.fget (Reg.TRC_SRCSTAT_MALFORMED.at i) = t.fget (Reg.TRC_SRCSTAT_MALFORMED.at i) := by
  have hkey : srcKey (Reg.TRC_SRCSTAT_MALFORMED.at i).addr = true := by
    refine decide_eq_true ?_
    show 0x7180 ≤ 0x7180 + i * 4 ∧ 0x7180 + i * 4 < 0x7200
    omega
  have hsettle := State.fget_settle (malformed_offTrigger hi) hkey (show (18 : Nat) + 6 ≤ 32 by decide) t
  obtain ⟨hb, -⟩ := State.fixed_iff.1 hfixed
  have hbuild : t.settle.build = s.build := (State.build_of_side t.side_settle).trans hb
  refine ⟨_, rfl, Eq.trans ?_ hsettle⟩
  exact State.fget_congr _ (State.regGet_congr _ rfl hbuild.symm rfl) (.inl (show (18 : Nat) + 6 ≤ 32 by decide))

end Sys2Proof.Machine
end

section
/-! SUPPORT. Trace items (R261 to R267, R280 to R283): the header of a packet, and an item on its way to the local buffer of its source. -/

namespace Sys2Proof.Machine

/-! ### Packet headers (R265) -/

theorem pktHeader_toNat (typ src lenw : Nat) (locked : Bool) (info ct : Nat) :
    (pktHeader typ src lenw locked info ct).toNat =
      typ % 16 + src % 32 * 16 + lenw % 8 * 512 + b2n locked * 4096 + info % 256 * 65536 + ct % 2 ^ 40 * 16777216 := by
  have hlocked : b2n locked ≤ 1 := by cases locked <;> decide
  rw [pktHeader, BitVec.toNat_ofNat]
  refine (Nat.mod_eq_of_lt ?_).trans ?_
  · simp only [fld, b2]; omega
  · simp only [fld, b2]; omega

theorem bits_pktHeader_type (typ src lenw : Nat) (locked : Bool) (info ct : Nat) : bits (pktHeader typ src lenw locked info ct) 3 0 = typ % 16 := by
  rw [bits, pktHeader_toNat]; omega

theorem bits_pktHeader_info (typ src lenw : Nat) (locked : Bool) (info ct : Nat) : bits (pktHeader typ src lenw locked info ct) 18 16 = info % 8 := by
  have hlocked : b2n locked ≤ 1 := by cases locked <;> decide
  rw [bits, pktHeader_toNat]; omega

theorem pktType_pktHeader (typ src lenw : Nat) (locked : Bool) (info ct : Nat) (l : List W64) :
    pktType (pktHeader typ src lenw locked info ct :: l) = typ % 16 := bits_pktHeader_type ..

/-! ### The packet of an item -/

theorem State.pktType_itemPacket (s : State) (i : Nat) (ws : List W64) : pktType (s.itemPacket i ws) = bits (ws.headD 0) 3 0 := by
  have hlt : bits (ws.headD 0) 3 0 < 16 := Nat.mod_lt _ (by decide)
  simp only [State.itemPacket]
  split
  · rename_i h1
    rw [pktType_pktHeader, h1]
  · rw [pktType_pktHeader]; omega

/-- An item's packet is as long as the item. -/
theorem State.length_itemPacket (s : State) (i : Nat) {ws : List W64} (h : itemOk ws = true) : (s.itemPacket i ws).length = ws.length := by
  cases ws with
  | nil => cases h
  | cons w l =>
    by_cases h1 : bits w 3 0 = 1
    · have hl : bits w 11 9 = 3 ∧ l.length = 3 := by simpa [itemOk, itemLen, h1] using h
      simp [State.itemPacket, h1, hl]
    · simp [State.itemPacket, h1]

theorem State.itemPacket_congr {s t : State} (hl : t.locked = s.locked) (hf : t.ft = s.ft) (i : Nat) (ws : List W64) :
    t.itemPacket i ws = s.itemPacket i ws := by
  simp only [State.itemPacket, State.ct, hl, hf]

/-! ### The status word of a source, and the words beside it -/

section Words
variable (s : State) {f : RF} {i : Nat} (v : Nat) (ha : f.addr = 0x7180) (hs : f.stride = 4) (hf : f.lo + f.w ≤ 32) (hi : i < 32)
include ha hs hf hi

theorem State.regGet_fset_source {k : Nat} (hk : k < 0x7180 ∨ 0x7200 ≤ k) : (s.fset (f.at i) v).regGet k = s.regGet k :=
  State.regGet_fset_at s i v hf (by simp only [RF.at, ha, hs]; omega)

theorem State.fget_fset_source {g : RF} (hg : g.lo + g.w ≤ 32) (hk : g.addr < 0x7180 ∨ 0x7200 ≤ g.addr) : (s.fset (f.at i) v).fget g = s.fget g :=
  State.fget_congr g (State.regGet_fset_source s v ha hs hf hi hk) (.inl hg)

theorem State.locked_fset_source : (s.fset (f.at i) v).locked = s.locked := by
  rw [State.locked, State.locked, State.fget_fset_source s v ha hs hf hi (g := Reg.WHL_STATUS_STATE) (by decide) (by decide)]

theorem State.itemPacket_fset_source (j : Nat) (ws : List W64) : (s.fset (f.at i) v).itemPacket j ws = s.itemPacket j ws :=
  State.itemPacket_congr (State.locked_fset_source s v ha hs hf hi) (by simp [State.ft]) j ws

theorem State.srcEnabled_fset_source (j : Nat) : (s.fset (f.at i) v).srcEnabled j = s.srcEnabled j := by
  have hstate : (s.fset (f.at i) v).trcState = s.trcState := State.fget_fset_source s v ha hs hf hi (g := Reg.TRC_STATUS_STATE) (by decide) (by decide)
  simp only [State.srcEnabled, hstate, State.fset_trc]

end Words

/-! ### Sources that no comparator names (R269) -/

/-- No comparator names the source. -/
def State.Unnamed (s : State) (i : Nat) : Prop := ∀ c < 16, s.cmpNames c i = false

theorem State.Unnamed.of_words {s t : State} {i : Nat} (h : s.Unnamed i) (hw : ∀ k, 0x7200 ≤ k → t.regGet k = s.regGet k) : t.Unnamed i := by
  intro c hc
  have haddr : 0x7200 ≤ (Reg.TRC_CMP_SRC_SRC.at c).addr := by simp only [RF.at, Reg.TRC_CMP_SRC_SRC]; omega
  rw [State.cmpNames, hw _ haddr]
  exact h c hc

theorem State.Unnamed.cmpsOf {s : State} {i : Nat} (h : s.Unnamed i) (a : Nat) (ws : List W64) : s.cmpsOf a i ws = [] := by
  refine List.filter_eq_nil_iff.2 fun c hc => ?_
  rw [State.cmpMatch, h c (List.mem_range.1 hc)]
  simp

theorem State.Unnamed.gateStart {s : State} {i : Nat} (h : s.Unnamed i) (ws : List W64) : s.gateStart i ws = s := by
  rw [State.gateStart, h.cmpsOf]

theorem State.Unnamed.gateStop {s : State} {i : Nat} (h : s.Unnamed i) (ws : List W64) : s.gateStop i ws = s := by
  rw [State.gateStop, h.cmpsOf]

/-! ### Into the local buffer (R264, R280, R281) -/

/-- The source counts no drops, and awaits no SYNC. -/
def State.InStep (s : State) (i : Nat) : Prop := (s.trSrc i).awaitSync = false ∧ (s.trSrc i).dropN = 0

theorem State.InStep.of_trc {s t : State} {i : Nat} (h : s.InStep i) (ht : t.trc = s.trc) : t.InStep i := by
  unfold State.InStep; rw [State.trSrc_congr ht]; exact h

theorem State.placeDrop_of_none {s : State} {i : Nat} (h : (s.trSrc i).dropN = 0) : s.placeDrop i = s := by
  simp [State.placeDrop, h]

theorem State.InStep.offerPacket {s : State} {i : Nat} (h : s.InStep i) (ws : List W64) : s.offerPacket i ws = s.bufPut i ws := by
  obtain ⟨hawait, hdrop⟩ := h
  have htakes (b : Bool) : s.trcTakes i b = true := by simp [State.trcTakes, hawait, hdrop]
  have hsync : s.syncAnswer i = s := by simp [State.syncAnswer, hawait]
  simp only [State.offerPacket, State.placeDrop_of_none hdrop, htakes, hsync, if_true, ite_self]

/-- The packet stands last in the local buffer of its source, and no register has changed. -/
structure Buffered (s u : State) (i : Nat) (p : List W64) : Prop where
  room : u.Roomy (2 ^ 63)
  fixed : u.fixed = s.fixed
  words : u.regGet = s.regGet
  src : u.trSrc i = { s.trSrc i with buf := (s.trSrc i).buf ++ [p] }

/-- The source has dropped its first packet, and its status word has counted it. -/
structure Dropped (s u : State) (i : Nat) : Prop where
  room : u.Roomy (2 ^ 63)
  fixed : u.fixed = s.fixed
  words : ∀ k, 0x7200 ≤ k → u.regGet k = s.regGet k
  src : u.trSrc i = { s.trSrc i with dropN := 1, dropCt := s.ct }
  count : u.fget (Reg.TRC_SRCSTAT_DROPPED.at i) = (s.fget (Reg.TRC_SRCSTAT_DROPPED.at i) + 1) % 65536

section Offer
variable {s : State} {i : Nat} {p : List W64} (h : s.Roomy (2 ^ 62)) (hstep : s.InStep i)
include h hstep

theorem State.InStep.buffered (hfit : bufBytes (s.trSrc i) + pktBytes p ≤ 4096) : Buffered s (s.offerPacket i p) i p := by
  obtain ⟨l, hled, hroom⟩ := h.led_withLea 2 i .inn 1 (by decide)
  have hput : s.offerPacket i p = (s.withLea l).setTrSrc i { s.trSrc i with buf := (s.trSrc i).buf ++ [p] } := by
    rw [hstep.offerPacket]
    simp only [State.bufPut, if_pos hfit, hled]
  rw [hput]
  exact ⟨(hroom.mono (by decide)).of_eq rfl rfl, rfl, rfl, State.trSrc_setTrSrc ..⟩

theorem State.InStep.dropped (hi : i < 32) (hfull : 4096 < bufBytes (s.trSrc i) + pktBytes p) : Dropped s (s.offerPacket i p) i := by
  obtain ⟨l, hled, hroom⟩ := h.led_withLea 2 i .inn 1 (by decide)
  obtain ⟨l', hdrop, hroom'⟩ := hroom.ledDrop_withLea 2 i 0xC 1 (by decide)
  have hput : s.offerPacket i p = ((s.withLea l').bump (Reg.TRC_SRCSTAT_DROPPED.at i)).setTrSrc i { s.trSrc i with dropN := 1, dropCt := s.ct } := by
    rw [hstep.offerPacket]
    simp only [State.bufPut, if_neg (Nat.not_le_of_lt hfull), State.dropPrio, hled, hdrop, hstep.2, if_pos]
    rfl
  rw [hput]
  refine ⟨((hroom'.mono (by decide)).fset _ _).of_eq rfl rfl, State.fixed_bump .., fun k hk => ?_, State.trSrc_setTrSrc .., ?_⟩
  · exact State.regGet_fset_source (s.withLea l') (f := Reg.TRC_SRCSTAT_DROPPED) _ rfl rfl (by decide) hi (.inr hk)
  · exact State.fget_fset_at (s.withLea l') Reg.TRC_SRCSTAT_DROPPED i _ (by decide)

end Offer

/-! ### An item that no comparator matches (R261, R270) -/

theorem State.gateOpen_powered (s : State) (i v : Nat) : (s.fset (Reg.TRC_SRCSTAT_POWERED.at i) v).gateOpen i = s.gateOpen i :=
  State.flag_congr (State.fget_fset_field s (f := Reg.TRC_SRCSTAT_POWERED) (g := Reg.TRC_SRCSTAT_GATE) i v (by decide) (by decide) rfl rfl (by decide))

section Item
variable {s : State} {i : Nat} {ws : List W64} (hi : i < 32) (hq : s.Unnamed i)
include hi hq

theorem State.Unnamed.powered : (s.fset (Reg.TRC_SRCSTAT_POWERED.at i) 1).Unnamed i :=
  hq.of_words fun _ hk => State.regGet_fset_source s 1 rfl rfl (by decide) hi (.inr hk)

/-- An item that is no POWER_DOWN passes its source's gate, and nothing else comes of it. -/
theorem State.takeItem_unnamed (htyp : bits (ws.headD 0) 3 0 ≠ 7) {u : State}
    (hu : (if s.gateOpen i then (s.fset (Reg.TRC_SRCSTAT_POWERED.at i) 1).offerPacket i (s.itemPacket i ws)
      else (s.fset (Reg.TRC_SRCSTAT_POWERED.at i) 1).bump (Reg.TRC_SRCSTAT_FILTERED.at i)) = u) (hqu : u.Unnamed i) :
    s.takeItem i ws = u := by
  have hpkt : pktType (s.itemPacket i ws) ≠ 7 := by rwa [State.pktType_itemPacket]
  simp only [State.takeItem, if_neg hpkt, (hq.powered hi).gateStart, State.gateOpen_powered, hu, hqu.gateStop, hq.cmpsOf, List.foldl_nil]

end Item

end Sys2Proof.Machine
end

section
/-! SUPPORT. What becomes of a trace item, of a source's POWER_DOWN and of its wake (R261 to R267, R280 to R283). -/

namespace Sys2Proof.Machine

theorem State.lt_of_nTrace {s : State} {i : Nat} (h : i < s.nTrace) : i < 32 := Nat.lt_of_lt_of_le h (Nat.min_le_left ..)

/-- An enabled source belongs to a unit that captures. -/
theorem State.srcEnabled_capturing {s : State} {i : Nat} (h : s.srcEnabled i = true) : s.trcState ≠ tFROZEN := by
  rintro h3
  simp [State.srcEnabled, h3] at h

theorem State.pktBytes_itemPacket (s : State) (i : Nat) {ws : List W64} (h : itemOk ws = true) : pktBytes (s.itemPacket i ws) = pktBytes ws :=
  congrArg (8 * ·) (State.length_itemPacket s i h)

theorem State.fget_of_words {s t : State} (h : t.regGet = s.regGet) (f : RF) : t.fget f = s.fget f := by unfold State.fget; rw [h]

/-- A block that owes nothing after an event ends its step there. -/
theorem act_of_room {s t : State} {n : Nat} (h : t.Roomy n) (hf : t.fixed = s.fixed) : act s t = .next t := by
  obtain ⟨hb, hp⟩ := State.fixed_iff.1 hf
  exact h.act hb hp

/-! ### The source's power bit -/

theorem powered_trSrc (s : State) (i v : Nat) : (s.fset (Reg.TRC_SRCSTAT_POWERED.at i) v).trSrc i = s.trSrc i := State.trSrc_congr (State.fset_trc ..) i

theorem powered_inStep {s : State} {i : Nat} (h : s.InStep i) (v : Nat) : (s.fset (Reg.TRC_SRCSTAT_POWERED.at i) v).InStep i := h.of_trc (State.fset_trc ..)

theorem powered_roomy {s : State} (h : Calm s) (i v : Nat) : (s.fset (Reg.TRC_SRCSTAT_POWERED.at i) v).Roomy (2 ^ 62) := State.Roomy.fset h _ _

theorem powered_flag (s : State) (i v : Nat) : (s.fset (Reg.TRC_SRCSTAT_POWERED.at i) v).flag (Reg.TRC_SRCSTAT_POWERED.at i) = (v % 2 != 0) := by
  rw [State.flag, State.fget_fset_at _ _ _ _ (by decide)]; rfl

section Sources
variable {s : State} {i : Nat} (hc : Calm s) (hoff : s.traceOff = false) (hi : i < s.nTrace) (hen : s.srcEnabled i = true)
include hoff hi

/-- The item of an enabled source is counted malformed, or taken. -/
theorem State.traceItem_enabled (hen : s.srcEnabled i = true) (ws : List W64) :
    s.traceItem i ws = if itemOk ws then s.takeItem i ws else (s.bump (Reg.TRC_SRCSTAT_MALFORMED.at i)).hostProto 7 i := by
  have hlate : (s.trcState == tFROZEN) = false := beq_eq_false_iff_ne.2 (State.srcEnabled_capturing hen)
  cases hok : itemOk ws <;> simp [State.traceItem, hlate, hoff, hi, hen, hok]

/-! ### Malformed items (R266) -/

theorem traceItem_malformed (hen : s.srcEnabled i = true) {ws : List W64} (hok : itemOk ws = false) : ∃ t, exec (.traceItem i ws) s = .next t ∧
    t.fget (Reg.TRC_SRCSTAT_MALFORMED.at i) = (s.fget (Reg.TRC_SRCSTAT_MALFORMED.at i) + 1) % 64 := by
  have hitem : s.traceItem i ws = (s.bump (Reg.TRC_SRCSTAT_MALFORMED.at i)).hostProto 7 i := by
    rw [State.traceItem_enabled hoff hi hen, hok]; rfl
  have hfixed : ((s.bump (Reg.TRC_SRCSTAT_MALFORMED.at i)).hostProto 7 i).fixed = s.fixed := State.fixed_bump ..
  obtain ⟨u, hact, hu⟩ := act_malformed (State.lt_of_nTrace hi) hfixed
  refine ⟨u, ?_, hu.trans ?_⟩
  · show act s (s.traceItem i ws) = _
    rw [hitem, hact]
  · exact State.fget_fset_at s Reg.TRC_SRCSTAT_MALFORMED i _ (by decide)

/-! ### Items that no comparator matches (R264, R270, R280) -/

section Plain
variable {ws : List W64} (hok : itemOk ws = true) (htyp : bits (ws.headD 0) 3 0 ≠ 7) (hq : s.Unnamed i)
include hc hok htyp hq hen

theorem traceItem_filtered (hgate : s.gateOpen i = false) : ∃ t, exec (.traceItem i ws) s = .next t ∧ t.trc.srcs = s.trc.srcs ∧
    t.fget (Reg.TRC_SRCSTAT_FILTERED.at i) = (s.fget (Reg.TRC_SRCSTAT_FILTERED.at i) + 1) % 256 := by
  have h32 := State.lt_of_nTrace hi
  have hqu : ((s.fset (Reg.TRC_SRCSTAT_POWERED.at i) 1).bump (Reg.TRC_SRCSTAT_FILTERED.at i)).Unnamed i :=
    (hq.powered h32).of_words fun _ hk => State.regGet_fset_source _ _ rfl rfl (by decide) h32 (.inr hk)
  have hitem := State.takeItem_unnamed h32 hq htyp (if_neg (by simp [hgate])) hqu
  refine ⟨(s.fset (Reg.TRC_SRCSTAT_POWERED.at i) 1).bump (Reg.TRC_SRCSTAT_FILTERED.at i), ?_, ?_, ?_⟩
  · show act s (s.traceItem i ws) = _
    rw [State.traceItem_enabled hoff hi hen, if_pos hok, hitem]
    exact act_of_room ((powered_roomy hc i 1).fset _ _) (by simp)
  · simp
  · rw [State.bump, State.fadd, State.fget_fset_at _ Reg.TRC_SRCSTAT_FILTERED _ _ (by decide),
      State.fget_fset_field s (f := Reg.TRC_SRCSTAT_POWERED) (g := Reg.TRC_SRCSTAT_FILTERED) i 1 (by decide) (by decide) rfl rfl (by decide)]
    rfl

variable (hgate : s.gateOpen i = true)
include hgate

omit hc in
/-- An open gate lets the packet go to the local buffer. -/
theorem State.traceItem_gateOpen {u : State} (hu : (s.fset (Reg.TRC_SRCSTAT_POWERED.at i) 1).offerPacket i (s.itemPacket i ws) = u) (hqu : u.Unnamed i) :
    exec (.traceItem i ws) s = act s u := by
  show act s (s.traceItem i ws) = _
  rw [State.traceItem_enabled hoff hi hen, if_pos hok, State.takeItem_unnamed (State.lt_of_nTrace hi) hq htyp ((if_pos hgate).trans hu) hqu]

variable (hstep : s.InStep i)
include hstep

theorem traceItem_buffered (hfit : bufBytes (s.trSrc i) + pktBytes ws ≤ 4096) : ∃ t, exec (.traceItem i ws) s = .next t ∧
    t.trSrc i = { s.trSrc i with buf := (s.trSrc i).buf ++ [s.itemPacket i ws] } ∧ t.flag (Reg.TRC_SRCSTAT_POWERED.at i) = true := by
  have hb := State.InStep.buffered (p := s.itemPacket i ws) (powered_roomy hc i 1) (powered_inStep hstep 1)
    (by rw [powered_trSrc, State.pktBytes_itemPacket s i hok]; exact hfit)
  refine ⟨_, ?_, hb.src.trans (by rw [powered_trSrc]), ?_⟩
  · rw [State.traceItem_gateOpen hoff hi hen hok htyp hq hgate rfl ((hq.powered (State.lt_of_nTrace hi)).of_words fun k _ => congrFun hb.words k)]
    exact act_of_room hb.room (hb.fixed.trans (State.fixed_fset ..))
  · exact (State.flag_congr (State.fget_of_words hb.words _)).trans (powered_flag s i 1)

theorem traceItem_dropped (hfull : 4096 < bufBytes (s.trSrc i) + pktBytes ws) : ∃ t, exec (.traceItem i ws) s = .next t ∧
    t.trSrc i = { s.trSrc i with dropN := 1, dropCt := s.ct } ∧
    t.fget (Reg.TRC_SRCSTAT_DROPPED.at i) = (s.fget (Reg.TRC_SRCSTAT_DROPPED.at i) + 1) % 65536 := by
  have h32 := State.lt_of_nTrace hi
  have hd := State.InStep.dropped (p := s.itemPacket i ws) (powered_roomy hc i 1) (powered_inStep hstep 1) h32
    (by rw [powered_trSrc, State.pktBytes_itemPacket s i hok]; exact hfull)
  refine ⟨_, ?_, hd.src.trans (by rw [powered_trSrc, State.ct_fset]), hd.count.trans ?_⟩
  · rw [State.traceItem_gateOpen hoff hi hen hok htyp hq hgate rfl ((hq.powered h32).of_words hd.words)]
    exact act_of_room hd.room (hd.fixed.trans (State.fixed_fset ..))
  · rw [State.fget_fset_field s (f := Reg.TRC_SRCSTAT_POWERED) (g := Reg.TRC_SRCSTAT_DROPPED) i 1 (by decide) (by decide) rfl rfl (by decide)]

end Plain

/-! ### A source's power (R282, R283) -/

theorem tracePowerDown_disabled (hc : Calm s) (hdis : s.srcEnabled i = false) :
    exec (.tracePowerDown i) s = .next (s.fset (Reg.TRC_SRCSTAT_POWERED.at i) 0) := by
  show act s (s.tracePowerDown i) = _
  simp only [State.tracePowerDown, hoff, hi, hdis, decide_true, Bool.not_true, Bool.or_self, Bool.false_eq_true, if_false]
  exact act_fset hc.1 _ _

theorem traceWake_disabled (hc : Calm s) (hdis : s.srcEnabled i = false) (ws : List W64) :
    exec (.traceSourceWake i ws) s = .next (s.fset (Reg.TRC_SRCSTAT_POWERED.at i) 1) := by
  have hdis' : (s.fset (Reg.TRC_SRCSTAT_POWERED.at i) 1).srcEnabled i = false :=
    (State.srcEnabled_fset_source s 1 rfl rfl (by decide) (State.lt_of_nTrace hi) i).trans hdis
  show act s (s.traceWake i ws) = _
  simp only [State.traceWake, hoff, hi, hdis', decide_true, Bool.not_true, Bool.or_self, Bool.false_eq_true, if_false, Bool.not_false, if_true]
  exact act_fset hc.1 _ _

include hc hen
variable (hstep : s.InStep i)
include hstep

theorem tracePowerDown_buffered (hfit : bufBytes (s.trSrc i) + 8 ≤ 4096) : ∃ t, exec (.tracePowerDown i) s = .next t ∧
    t.flag (Reg.TRC_SRCSTAT_POWERED.at i) = false ∧ t.trSrc i = { s.trSrc i with buf := (s.trSrc i).buf ++ [s.itemPacket i [7]] } := by
  have hpkt : pktType (s.itemPacket i [7#64]) = 7 := State.pktType_itemPacket ..
  have hb := State.InStep.buffered (p := s.itemPacket i [7#64]) (powered_roomy hc i 0) (powered_inStep hstep 0) (by rw [powered_trSrc]; exact hfit)
  refine ⟨_, ?_, (State.flag_congr (State.fget_of_words hb.words _)).trans (powered_flag s i 0), hb.src.trans (by rw [powered_trSrc]; rfl)⟩
  show act s (s.tracePowerDown i) = _
  simp only [State.tracePowerDown, hoff, hi, hen, decide_true, Bool.not_true, Bool.or_self, Bool.false_eq_true, if_false, if_true, State.takeItem, hpkt]
  exact act_of_room hb.room (hb.fixed.trans (State.fixed_fset ..))

omit hoff hi hen in
/-- The SYNC that the unit writes at a wake goes to the local buffer. -/
theorem wakeSync_buffered (addr ctx : Option W64) (fromSrc : Bool) (hfit : bufBytes (s.trSrc i) + 32 ≤ 4096) {p : List W64} {w : State}
    (hp : (s.fset (Reg.TRC_SRCSTAT_POWERED.at i) 1).unitSync i addr ctx true fromSrc (s.fset (Reg.TRC_SRCSTAT_POWERED.at i) 1).locked
      (s.fset (Reg.TRC_SRCSTAT_POWERED.at i) 1).ft = (p, w)) :
    Buffered (s.fset (Reg.TRC_SRCSTAT_POWERED.at i) 1) (w.offerPacket i p) i p ∧ p.length = 4 ∧ pktType p = 1 ∧
      bits (p.headD 0) 18 16 = b2n addr.isSome + 2 + b2 fromSrc 2 ∧ p.getD 1 0 = BitVec.ofNat 64 s.ft ∧
      (∀ a c, addr = some a → ctx = some c → p.drop 1 = [BitVec.ofNat 64 s.ft, a, c]) := by
  cases hp
  have hft : (s.fset (Reg.TRC_SRCSTAT_POWERED.at i) 1).ft = s.ft := by simp [State.ft]
  have hb := State.InStep.buffered (s := (s.fset (Reg.TRC_SRCSTAT_POWERED.at i) 1).freeWord.2.freeWord.2)
    (p := ((s.fset (Reg.TRC_SRCSTAT_POWERED.at i) 1).unitSync i addr ctx true fromSrc (s.fset (Reg.TRC_SRCSTAT_POWERED.at i) 1).locked
      (s.fset (Reg.TRC_SRCSTAT_POWERED.at i) 1).ft).1) ((powered_roomy hc i 1).of_eq rfl rfl) ((powered_inStep hstep 1).of_trc rfl)
    (by
      show bufBytes ((s.fset (Reg.TRC_SRCSTAT_POWERED.at i) 1).trSrc i) + 32 ≤ 4096
      rw [powered_trSrc]; exact hfit)
  refine ⟨⟨hb.room, hb.fixed, hb.words, hb.src⟩, rfl, pktType_pktHeader .., (bits_pktHeader_info ..).trans ?_, congrArg (BitVec.ofNat 64) hft, ?_⟩
  · cases addr <;> cases fromSrc <;> rfl
  · rintro a c rfl rfl
    rw [← hft]; rfl

/-- A source that wakes without a SYNC of its own is asked for one. -/
theorem traceWake_asked (hfit : bufBytes (s.trSrc i) + 32 ≤ 4096) : ∃ t p, exec (.traceSourceWake i []) s = .next t ∧
    t.flag (Reg.TRC_SRCSTAT_POWERED.at i) = true ∧ t.trSrc i = { s.trSrc i with buf := (s.trSrc i).buf ++ [p] } ∧
    p.length = 4 ∧ pktType p = 1 ∧ bits (p.headD 0) 18 16 = 2 ∧ p.getD 1 0 = BitVec.ofNat 64 s.ft ∧ .syncReq i ∈ t.out := by
  have hen' := (State.srcEnabled_fset_source s (f := Reg.TRC_SRCSTAT_POWERED) 1 rfl rfl (by decide) (State.lt_of_nTrace hi) i).trans hen
  obtain ⟨⟨p, w⟩, hsync⟩ : ∃ pw, (s.fset (Reg.TRC_SRCSTAT_POWERED.at i) 1).unitSync i none none true false (s.fset (Reg.TRC_SRCSTAT_POWERED.at i) 1).locked
    (s.fset (Reg.TRC_SRCSTAT_POWERED.at i) 1).ft = pw := ⟨_, rfl⟩
  obtain ⟨hb, hlen, htype, hinfo, hft, -⟩ := wakeSync_buffered hc hstep none none false hfit hsync
  refine ⟨(w.offerPacket i p).emit (.syncReq i), p, ?_, ?_, ?_, hlen, htype, hinfo, hft, List.mem_cons_self ..⟩
  · show act s (s.traceWake i []) = _
    simp only [State.traceWake, hoff, hi, hen', decide_true, Bool.not_true, Bool.or_self, Bool.false_eq_true, if_false, itemOk, Bool.false_and,
      List.isEmpty_nil, if_true, hsync]
    exact act_of_room (hb.room.of_eq rfl rfl) (hb.fixed.trans (State.fixed_fset ..))
  · exact (State.flag_congr (State.fget_of_words hb.words _)).trans (powered_flag s i 1)
  · exact hb.src.trans (by rw [powered_trSrc])

theorem traceWake_synced (hfit : bufBytes (s.trSrc i) + 32 ≤ 4096) {ws : List W64} (hok : itemOk ws = true) (htype : pktType ws = 1) :
    ∃ t p, exec (.traceSourceWake i ws) s = .next t ∧ t.trSrc i = { s.trSrc i with buf := (s.trSrc i).buf ++ [p] } ∧ pktType p = 1 ∧
      bits (p.headD 0) 18 16 = 7 ∧ p.drop 1 = [BitVec.ofNat 64 s.ft, ws.getD 2 0, ws.getD 3 0] := by
  have hen' := (State.srcEnabled_fset_source s (f := Reg.TRC_SRCSTAT_POWERED) 1 rfl rfl (by decide) (State.lt_of_nTrace hi) i).trans hen
  obtain ⟨hb, -, htyp, hinfo, -, hwords⟩ := wakeSync_buffered hc hstep (some (ws.getD 2 0)) (some (ws.getD 3 0)) true hfit rfl
  refine ⟨_, _, ?_, hb.src.trans (by rw [powered_trSrc]), htyp, hinfo, hwords _ _ rfl rfl⟩
  show act s (s.traceWake i ws) = _
  simp only [State.traceWake, hoff, hi, hen', decide_true, Bool.not_true, Bool.or_self, Bool.false_eq_true, if_false, hok, htype, beq_self_eq_true,
    Bool.and_self, if_true]
  exact act_of_room hb.room (hb.fixed.trans (State.fixed_fset ..))

end Sources

end Sys2Proof.Machine
end

section
/-! SUPPORT. The Flyer's move (R264, R267, R268, R276): the head packet of the source it serves goes to the write count, and a unit at its target freezes. -/

namespace Sys2Proof.Machine

/-! ### The packet that moves -/

/-- The packet needs no time SYNC before it (R267). -/
def State.Timely (s : State) (i : Nat) (ws : List W64) : Prop := pktType ws = 1 ∨ ∃ l, (s.trSrc i).lastSync = some l ∧ s.pktFt ws ≤ l + s.syncIvl

theorem State.Timely.timeSync {s : State} {i : Nat} {ws : List W64} (h : s.Timely i ws) : s.timeSync i ws = s := by
  obtain h1 | ⟨l, hl, hle⟩ := h
  · simp [State.timeSync, h1]
  · simp [State.timeSync, hl, Nat.not_lt_of_le hle]

/-- A moved packet changes its source's counts alone, and may ask for a SYNC. -/
theorem State.noteMoved_eq (s : State) (i : Nat) (ws : List W64) :
    ∃ x out, s.noteMoved i ws = { s.setTrSrc i x with out } ∧ x.buf = (s.trSrc i).buf ∧ x.dropN = (s.trSrc i).dropN := by
  simp only [State.noteMoved]
  split
  · exact ⟨_, _, rfl, rfl, rfl⟩
  · split
    · exact ⟨_, _, rfl, rfl, rfl⟩
    · exact ⟨_, _, rfl, rfl, rfl⟩

/-- What a move leaves: the packet at the old write count, the rest of its source's buffer, and every field but the write count. -/
structure Moved (s t : State) (i : Nat) (ws : List W64) (rest : List (List W64)) : Prop where
  room : t.Roomy (2 ^ 62 + 1)
  fixed : t.fixed = s.fixed
  cfg : t.trc.cfg = s.trc.cfg
  buf : (t.trSrc i).buf = rest
  others : ∀ j, j ≠ i → t.trSrc j = s.trSrc j
  pkt : (s.fget Reg.TRC_WRCNT_COUNT, ws) ∈ t.trc.pkts
  wrcnt : t.fget Reg.TRC_WRCNT_COUNT = s.fget Reg.TRC_WRCNT_COUNT + pktBytes ws
  fields : ∀ g : RF, g.clear Reg.TRC_WRCNT_COUNT = true → t.fget g = s.fget g

theorem State.mem_putPacket (s : State) {ws : List W64} (h : pktBytes ws ≤ 4096) : (s.fget Reg.TRC_WRCNT_COUNT, ws) ∈ (s.putPacket ws).trc.pkts := by
  simp only [State.putPacket, State.fset_trc]
  refine List.mem_filter.2 ⟨List.mem_append_right _ (List.mem_singleton_self _), decide_eq_true ?_⟩
  simp only [trcBuffer]; omega

theorem State.trSrc_putPacket (s : State) (ws : List W64) (j : Nat) : (s.putPacket ws).trSrc j = s.trSrc j := by
  simp [State.putPacket, State.trSrc]

theorem State.cfg_putPacket (s : State) (ws : List W64) : (s.putPacket ws).trc.cfg = s.trc.cfg := by simp [State.putPacket]

theorem State.Roomy.putPacket {s : State} {n : Nat} (h : s.Roomy n) (ws : List W64) : (s.putPacket ws).Roomy n := by
  unfold State.putPacket
  extract_lets at_ wr src s1
  have h1 : s1.Roomy n := h.of_eq rfl rfl
  exact h1.fset _ _

/-! ### The target (R276) -/

theorem State.checkTarget_below {s : State}
    (hb : ∀ c, s.trc.cfg = some c → s.trcState = tPOST → s.fget Reg.TRC_WRCNT_COUNT - s.fget Reg.TRC_TRIGCNT_COUNT < c.target) : s.checkTarget = s := by
  unfold State.checkTarget
  split
  · rename_i c hc
    exact if_neg fun hfull => absurd (hb c hc hfull.1) (Nat.not_lt_of_le hfull.2)
  · rfl

theorem State.checkTarget_freezes {s : State} {c : TrcCfg} (hcfg : s.trc.cfg = some c) (hpost : s.trcState = tPOST)
    (htarget : c.target ≤ s.fget Reg.TRC_WRCNT_COUNT - s.fget Reg.TRC_TRIGCNT_COUNT) : s.checkTarget = s.traceFreeze := by
  simp only [State.checkTarget, hcfg]
  exact if_pos ⟨hpost, htarget⟩

/-- The Flyer of a unit that captures moves a packet, takes its turn, and looks at the target. -/
theorem State.flyerMove_pick {s : State} {i : Nat} (hoff : s.traceOff = false) (hst : s.trcState ∈ [tARMED, tPOST, tSTREAM]) (hpick : s.flyerPick = some i) :
    s.flyerMove = ({ s.movePacket i with trc := { (s.movePacket i).trc with turn := (i + 1) % 32 } } : State).checkTarget := by
  simp only [State.flyerMove, hoff, hst, hpick, decide_true, Bool.not_true, Bool.or_self, Bool.false_eq_true, if_false]

/-- The turn passes on after a move. -/
theorem Moved.turn {s t : State} {i : Nat} {ws : List W64} {rest : List (List W64)} (h : Moved s t i ws rest) (k : Nat) : Moved s { t with trc := { t.trc with turn := k } } i ws rest :=
  ⟨h.room.of_eq rfl rfl, h.fixed, h.cfg, h.buf, h.others, h.pkt, h.wrcnt, h.fields⟩

theorem Moved.trcState {s t : State} {i : Nat} {ws : List W64} {rest : List (List W64)} (h : Moved s t i ws rest) : t.trcState = s.trcState := h.fields Reg.TRC_STATUS_STATE (by decide)

section Move
variable {s : State} {i : Nat} {ws : List W64} {rest : List (List W64)} (h : s.Roomy (2 ^ 62)) (hbuf : (s.trSrc i).buf = ws :: rest)
  (hdrop : (s.trSrc i).dropN = 0) (hlen : pktBytes ws ≤ 4096) (hwr : s.fget Reg.TRC_WRCNT_COUNT + pktBytes ws < 2 ^ 64) (htime : s.Timely i ws)
include h hbuf hdrop hlen hwr htime

theorem State.movePacket_moved : Moved s (s.movePacket i) i ws rest := by
  have hfixed := s.fixed_movePacket i
  have htimely : (s.setTrSrc i { s.trSrc i with buf := rest }).Timely i ws := by
    unfold State.Timely
    rw [State.trSrc_setTrSrc]
    exact htime
  generalize hy : ({ s.trSrc i with buf := rest } : TrSrc) = y at htimely
  have hybuf : y.buf = rest := by rw [← hy]
  have hydrop : y.dropN = 0 := by rw [← hy]; exact hdrop
  obtain ⟨l, hled, hroom⟩ := (State.Roomy.putPacket (h.of_eq rfl rfl : (s.setTrSrc i y).Roomy (2 ^ 62)) ws).led_withLea 2 i .out 1 (by decide)
  obtain ⟨x, out, hnote, hxbuf, hxdrop⟩ := (((s.setTrSrc i y).putPacket ws).withLea l).noteMoved_eq i ws
  have hsrc (j : Nat) : (((s.setTrSrc i y).putPacket ws).withLea l).trSrc j = (s.setTrSrc i y).trSrc j := State.trSrc_putPacket ..
  rw [hsrc, State.trSrc_setTrSrc] at hxbuf hxdrop
  have hmove : s.movePacket i = { (((s.setTrSrc i y).putPacket ws).withLea l).setTrSrc i x with out } := by
    simp only [State.movePacket, hbuf, hy, htimely.timeSync, hled, hnote]
    exact State.placeDrop_of_none ((congrArg TrSrc.dropN (State.trSrc_setTrSrc ..)).trans (hxdrop.trans hydrop))
  have hpkt : (s.fget Reg.TRC_WRCNT_COUNT, ws) ∈ ((s.setTrSrc i y).putPacket ws).trc.pkts := State.mem_putPacket _ hlen
  have hcount : ((s.setTrSrc i y).putPacket ws).fget Reg.TRC_WRCNT_COUNT = s.fget Reg.TRC_WRCNT_COUNT + pktBytes ws :=
    (State.fget_putPacket ..).trans (Nat.mod_eq_of_lt hwr)
  rw [hmove] at hfixed ⊢
  refine ⟨hroom.of_eq rfl rfl, hfixed, (State.cfg_putPacket (s.setTrSrc i y) ws : _), ?_, fun j hj => ?_, hpkt, hcount, fun g hg => State.fget_putPacket_clear _ ws hg⟩
  · exact (congrArg TrSrc.buf (State.trSrc_setTrSrc ..)).trans (hxbuf.trans hybuf)
  · exact (State.trSrc_setTrSrc_ne _ x hj).trans ((hsrc j).trans (State.trSrc_setTrSrc_ne _ y hj))

/-! ### FLYER_MOVE -/

section Flyer
variable (hoff : s.traceOff = false) (hpick : s.flyerPick = some i)
include hoff hpick

/-- A move that leaves its unit below the target, or without a trigger. -/
theorem flyerMove_moved (hst : s.trcState ∈ [tARMED, tPOST, tSTREAM])
    (hbelow : ∀ c, s.trc.cfg = some c → s.trcState = tPOST → s.fget Reg.TRC_WRCNT_COUNT + pktBytes ws - s.fget Reg.TRC_TRIGCNT_COUNT < c.target) :
    ∃ t, exec .flyerMove s = .next t ∧ Moved s t i ws rest ∧ t.trc.turn = (i + 1) % 32 := by
  have hm := (State.movePacket_moved h hbuf hdrop hlen hwr htime).turn ((i + 1) % 32)
  refine ⟨_, ?_, hm, rfl⟩
  show act s s.flyerMove = _
  rw [State.flyerMove_pick hoff hst hpick]
  rw [State.checkTarget_below fun c hc hpost => ?_]
  · exact act_of_room hm.room hm.fixed
  · rw [hm.wrcnt, hm.fields Reg.TRC_TRIGCNT_COUNT (by decide)]
    exact hbelow c (hm.cfg.symm.trans hc) (hm.trcState.symm.trans hpost)

/-- A move that brings its unit to the target freezes it. -/
theorem flyerMove_freezes (hpost : s.trcState = tPOST) {c : TrcCfg} (hcfg : s.trc.cfg = some c) (hbufs : ∀ j, (s.trSrc j).buf.length < 2 ^ 16)
    (htarget : c.target ≤ s.fget Reg.TRC_WRCNT_COUNT + pktBytes ws - s.fget Reg.TRC_TRIGCNT_COUNT) :
    ∃ t, exec .flyerMove s = .next t ∧ t.trcState = tFROZEN ∧ t.flag Reg.TRC_STATUS_VALID = true ∧
      t.fget Reg.TRC_WRCNT_COUNT = s.fget Reg.TRC_WRCNT_COUNT + pktBytes ws := by
  have hm := (State.movePacket_moved h hbuf hdrop hlen hwr htime).turn ((i + 1) % 32)
  have hall : ∀ j < 32, (({ s.movePacket i with trc := { (s.movePacket i).trc with turn := (i + 1) % 32 } } : State).trSrc j).buf.length ≤ 2 ^ 16 := by
    intro j _
    have hj := hbufs j
    by_cases hji : j = i
    · subst hji
      rw [hbuf, List.length_cons] at hj
      rw [hm.buf]
      omega
    · rw [hm.others j hji]
      omega
  obtain ⟨hfrozen, hroom⟩ := State.traceFreeze_freezes hm.room hall (by decide)
  refine ⟨_, ?_, hfrozen.state, hfrozen.valid, hfrozen.wrcnt.trans hm.wrcnt⟩
  show act s s.flyerMove = _
  rw [State.flyerMove_pick hoff (by rw [hpost]; decide) hpick]
  rw [State.checkTarget_freezes (hm.cfg.trans hcfg) (hm.trcState.trans hpost) (by
    rw [hm.wrcnt, hm.fields Reg.TRC_TRIGCNT_COUNT (by decide)]
    exact htarget)]
  exact act_of_room hroom ((State.fixed_of_side (State.side_traceFreeze _)).trans hm.fixed)

end Flyer
end Move

end Sys2Proof.Machine
end

section
/-! SUPPORT. A segment that closes is drained to the host (R289): the transfers of a circular buffer carry its bytes in order. -/

namespace Sys2Proof.Machine

/-! ### Bytes on their way to a circular buffer -/

/-- The pieces are the bytes, cut at the end of the buffer. -/
theorem ringPieces_bytes (log2 : Nat) {fuel : Nat} (count : Nat) {bs : List Byte} (h : bs.length ≤ fuel) :
    ((ringPieces log2 fuel count bs).flatMap fun e => e.2) = bs := by
  induction fuel generalizing count bs with
  | zero => simp [ringPieces, List.length_eq_zero_iff.1 (Nat.le_zero.1 h)]
  | succ fuel ih =>
    simp only [ringPieces]
    split
    · rename_i he
      simp [List.isEmpty_iff.1 he]
    · have hroom : 0 < 2 ^ log2 - count % 2 ^ log2 := Nat.sub_pos_of_lt (Nat.mod_lt _ (Nat.two_pow_pos _))
      have hrest : (bs.drop (2 ^ log2 - count % 2 ^ log2)).length ≤ fuel := by
        rw [List.length_drop]; omega
      rw [List.flatMap_cons, ih _ hrest, List.take_append_drop]

theorem lastFrees_data (raw : Nat) (l : List Xfer) : ((lastFrees raw l).flatMap fun x => x.data) = l.flatMap fun x => x.data := by
  fun_induction lastFrees raw l with
  | case1 => rfl
  | case2 x => rfl
  | case3 x l hl ih => rw [List.flatMap_cons, List.flatMap_cons, ih]

/-- Without a mirror address the transfers carry the bytes and nothing more. -/
theorem ringXfers_data (cls : Nat) (use_ : XferUse) (slice : Nat) (base : W64) (log2 count : Nat) (bs : List Byte) :
    ((ringXfers cls use_ slice base log2 count bs none).flatMap fun x => x.data) = bs := by
  simp only [ringXfers, List.append_nil, List.flatMap_map]
  exact ringPieces_bytes log2 count (Nat.le_refl _)

/-! ### One run of raw bytes -/

/-- A segment is counted, and nothing else of the block changes that a drain looks at. -/
theorem State.segment_keeps (s : State) (ft seq off : Nat) (raw : List Byte) :
    (s.segment ft seq off raw).2.work = s.work ∧ (s.segment ft seq off raw).2.trc = s.trc ∧ (s.segment ft seq off raw).2.meter = s.meter ∧
      (s.segment ft seq off raw).2.whl = s.whl := by
  simp only [State.segment]
  split <;> simp

/-- What a drain to the host leaves: the run behind it, and its transfers in the queue. -/
structure Drained (s t : State) (n : Nat) (l : List Xfer) : Prop where
  work : t.work = s.work
  fixed : t.fixed = s.fixed
  segPos : t.trc.segPos = s.trc.segPos + n
  segFt : t.trc.segFt = s.now
  queue : t.meter.queue = s.meter.queue ++ l

theorem Drained.drainEnd {s t : State} {n : Nat} {l : List Xfer} (h : Drained s t n l) : Drained s t.drainEnd n l := by
  unfold State.drainEnd
  split
  · exact ⟨h.work, h.fixed, h.segPos, h.segFt, h.queue⟩
  · exact h

theorem State.drainRun_host (s : State) {c : TrcCfg} (n : Nat) (hdest : c.dest = 1) : ∃ l, Drained s (s.drainRun c n) n l ∧
    (s.assisted 7 = false → c.mirror = false → (l.flatMap fun x => x.data) = s.rawTrace s.trc.segPos (s.trc.segPos + n)) := by
  unfold State.drainRun
  extract_lets pos raw next mir slice toHost g s1
  have hseg : g.2.fixed = s.fixed := State.fixed_segment ..
  obtain ⟨hwork, htrc, hmeter, hwhl⟩ : g.2.work = s.work ∧ g.2.trc = s.trc ∧ g.2.meter = s.meter ∧ g.2.whl = s.whl := State.segment_keeps ..
  by_cases hmode : s.assisted 7 = true
  · rw [if_neg (by simp [hmode]), if_pos hdest]
    refine ⟨_, ⟨hwork, hseg, rfl, ?_, congrArg (fun m : Meter => m.queue ++ _) hmeter⟩, fun hoff => absurd (hmode.symm.trans hoff) (by decide)⟩
    exact congrArg (fun w : Whorl => 4 * w.cyc) hwhl
  · rw [if_pos ⟨hdest, by simp [hmode]⟩]
    refine ⟨_, ⟨rfl, rfl, rfl, rfl, rfl⟩, fun _ hmirror => ?_⟩
    rw [lastFrees_data]
    simp only [mir, hmirror, Bool.false_eq_true, if_false]
    exact ringXfers_data ..

/-! ### SEGMENT_CLOSE -/

theorem segmentClose_drains {s : State} {c : TrcCfg} (hw : s.work = []) (hoff : s.traceOff = false) (hcfg : s.trc.cfg = some c) (hdest : c.dest = 1)
    (hdrain : s.draining = true) (hrel : s.trc.releasing = none) (hn : min 65536 (s.sinceArm - s.trc.segPos) ≠ 0)
    (hdue : min 65536 (s.sinceArm - s.trc.segPos) = 65536 ∨ s.trc.segFt + s.syncIvl ≤ s.now) :
    ∃ t l, exec .segmentClose s = .next t ∧ Drained s t (min 65536 (s.sinceArm - s.trc.segPos)) l ∧
      (s.assisted 7 = false → c.mirror = false →
        (l.flatMap fun x => x.data) = s.rawTrace s.trc.segPos (s.trc.segPos + min 65536 (s.sinceArm - s.trc.segPos))) := by
  generalize hlen : min 65536 (s.sinceArm - s.trc.segPos) = n at hn hdue
  obtain ⟨l, hrun, hdata⟩ := s.drainRun_host n hdest
  have hend := hrun.drainEnd
  have hclose : s.segmentClose = (s.drainRun c n).drainEnd := by
    simp only [State.segmentClose, hcfg, hlen]
    rw [if_neg (by simp [hoff, hdrain, hdest, hn, hrel]), if_pos (hdue.imp id .inl)]
  refine ⟨_, l, ?_, hend, hdata⟩
  show act s s.segmentClose = _
  rw [hclose]
  obtain ⟨hb, hp⟩ := State.fixed_iff.1 hend.fixed
  exact act_of_calm _ _ (hend.work.trans hw) hb hp

end Sys2Proof.Machine
end

section
/-! O45: trace items are captured, moved and drained (R261 to R268, R276, R280 to R283, R289). -/

namespace Sys2Proof.Machine

/-- Settles O45: what each of the unit's events leaves, by the laws of the local buffers, of the Flyer's move and of a run that drains. -/
theorem traceIsCaptured : Obligations.TraceIsCaptured := by
  intro s i hc hoff x quietGates
  refine ⟨fun ws hi hen => ⟨traceItem_malformed hoff hi hen, fun hok htyp hq hawait hdrop => ?_⟩, fun hi => ?_, ?_, ?_⟩
  · exact ⟨traceItem_filtered hc hoff hi hen hok htyp hq, fun hgate => traceItem_buffered hc hoff hi hen hok htyp hq hgate ⟨hawait, hdrop⟩,
      fun hgate => traceItem_dropped hc hoff hi hen hok htyp hq hgate ⟨hawait, hdrop⟩⟩
  · refine ⟨fun hdis => ⟨tracePowerDown_disabled hoff hi hc hdis, traceWake_disabled hoff hi hc hdis⟩, fun hen hawait hdrop => ?_⟩
    exact ⟨tracePowerDown_buffered hc hoff hi hen ⟨hawait, hdrop⟩, fun hfit => ⟨traceWake_asked hc hoff hi hen ⟨hawait, hdrop⟩ hfit,
      fun ws hok htype => traceWake_synced hc hoff hi hen ⟨hawait, hdrop⟩ hfit hok htype⟩⟩
  · intro ws rest hbufs hpick hbuf hdrop hlen hwr htime wr
    refine ⟨fun hst => ?_, fun c hpost hcfg => ⟨fun hbelow => ?_, fun htarget => ?_⟩⟩
    · have hnot : s.trcState ≠ tPOST := by rcases hst with h | h <;> rw [h] <;> decide
      have hon : s.trcState ∈ [tARMED, tPOST, tSTREAM] := by rcases hst with h | h <;> rw [h] <;> decide
      obtain ⟨t, ht, hm, hturn⟩ := flyerMove_moved hc hbuf hdrop hlen hwr htime hoff hpick hon fun c _ hp => absurd hp hnot
      exact ⟨t, ht, hm.buf, hturn, hm.wrcnt, hm.pkt⟩
    · obtain ⟨t, ht, hm, -⟩ := flyerMove_moved hc hbuf hdrop hlen hwr htime hoff hpick (by rw [hpost]; decide) fun d hd _ => by
        cases hcfg.symm.trans hd; exact hbelow
      exact ⟨t, ht, hm.buf, hm.trcState.trans hpost, hm.wrcnt⟩
    · exact flyerMove_freezes hc hbuf hdrop hlen hwr htime hoff hpick hpost hcfg hbufs htarget
  · intro c hcfg hdest hdrain hrel n hn hdue
    obtain ⟨t, l, ht, hd, hdata⟩ := segmentClose_drains hc.1 hoff hcfg hdest hdrain hrel hn hdue
    exact ⟨t, l, ht, hd.segPos, hd.segFt, hd.queue, hdata⟩

end Sys2Proof.Machine
end
